-- ==== Sys2Proof/Word.lean ====
section
/-! DEFINITION. Words and bytes, the places of register fields, and the records of the register map. -/

namespace Sys2Proof

/-- A register word. The host sees registers as little-endian 32-bit words (chapter 00, Notation). -/
abbrev Word := BitVec 32

/-- One byte of a frame, an image or a packet. -/
abbrev Byte := BitVec 8

end Sys2Proof

namespace Sys2Proof.Machine

/-- A field of a register: the module offset of its word, its lowest bit and its width. -/
structure Fld where
  adr : Nat
  lo : Nat
  w : Nat
deriving DecidableEq, Repr

/-- Access codes (Table 0.5). -/
inductive Acc where
  | ro | rw | w1c | w1p | rc | rar
deriving DecidableEq, Repr

/-- Change classes (R13): static, shadowed, live. -/
inductive Cls where
  | s | h | l
deriving DecidableEq, Repr

/-- One row of a register table: a named field, its bits, access, change class and reset value.
Reserved bits have no row. -/
structure FieldDesc where
  hi : Nat
  lo : Nat
  acc : Acc
  cls : Cls
  rst : Nat
deriving DecidableEq, Repr

/-- One register of a register table. `dims` gives, for an indexed register, the count and the stride
of each index, outermost first; `byteW` says that the table marks it byte-writable (Table 2.12). -/
structure RegDesc where
  base : Nat
  dims : List (Nat × Nat)
  byteW : Bool
  fields : List FieldDesc
deriving DecidableEq, Repr

end Sys2Proof.Machine

namespace Sys2Proof

/-- Where a register access or a command comes from: the codes of SYS_ACCESS_ERR.SOURCE (Table 2.13). A RAF
carries the IP address and UDP port of its sender and the SESSION field of its header (R372, R417). -/
inductive Src where
  | hspi
  | raf (ip port session : Nat)
  | usb
  | mz
  | core
deriving DecidableEq, Repr

/-- SYS_ACCESS_ERR.SOURCE of a source. -/
def Src.code : Src → Nat
  | .hspi => 0
  | .raf _ _ _ => 1
  | .usb => 2
  | .mz => 3
  | .core => 4

end Sys2Proof
end

