-- ==== Sys2Proof/Syntax.lean ====
section
/-! DEFINITION. The commands: one constructor for each row of the spec's table, with what arrives with it. -/

namespace Sys2Proof.Machine

/-! ### What arrives with a command -/

/-- RSSI, LQI and channel of a received frame. -/
structure LinkInfo where
  rssi : Int
  lqi : Nat
  ch : Nat
deriving DecidableEq, Repr

/-- A STATUS frame's fields (Table 4.6). -/
structure StatusMsg where
  level : Nat
  cct : Nat
  flags : Nat
  temp : Int
  supply : Nat
deriving DecidableEq, Repr

/-- A radio frame as a channel received it (R290): whether its FCS holds, the destination PAN, the destination (a short
address, or an EUI-64 where `dstExt`), the source likewise, the acknowledgement request, security (level, key index,
frame counter), the bytes up to the payload and the payload with its MIC, the CSL IE (counts of 2 ns to the next sample,
period in ms), RSSI and LQI, and the counts of 2 ns from its first preamble symbol to its end. -/
structure RxFrame where
  fcsOk : Bool
  pan : Nat
  dst : Nat
  dstExt : Bool
  src : Nat
  srcExt : Bool
  ar : Bool
  secured : Bool
  level : Nat
  keyIdx : Nat
  ctr : Nat
  header : List Byte
  payload : List Byte
  csl : Option (Nat × Nat)
  rssi : Int
  lqi : Nat
  lead : Nat
deriving DecidableEq, Repr

/-- A packet as a switch port received it, with the queue or multicast group it is for: the spec leaves the choice to the
cores' forwarding rules. -/
structure PacketIn where
  bytes : List Byte
  cls : Nat
  hmq : Nat
  queue : Nat
  group : Option Nat
deriving DecidableEq, Repr

/-- A Mistazil frame as a link received it (Table 13.6): whether HDR_CHK and the CRC-32 hold, and the header fields. -/
structure MzRx where
  hdrOk : Bool
  crcOk : Bool
  adj : Bool
  dst : Nat
  src : Nat
  tag : Nat
  payload : List Byte
deriving DecidableEq, Repr

/-- The path of a firmware block packet (R425): a down queue, or UDP with the sender's address and port and the port it
was sent to. -/
inductive BlockPath where
  | hmq (q : Nat)
  | udp (ip port dport : Nat)
deriving DecidableEq, Repr

/-- A pad pair as the scan probes it (Table 8.6): its kind and first channel, and the values its check looks at. Kind 0: ISPn in mV.
Kind 1: consecutive cycles to 90 % on-time below 5 mV. Kind 2: VOn and ISNn in mV. Kind 3: VOn in mV, and VOn at the last sample
with DRV(n+1) low. -/
structure PadProbe where
  kind : Nat
  ch : Nat
  x : Nat
  y : Nat
deriving DecidableEq, Repr

/-- A value measured on a drive channel. -/
structure ChVal where
  ch : Fin 64
  x : Nat
deriving DecidableEq, Repr

/-- A voltage that has stood on a drive channel for so many µs, mV. -/
structure ChTime where
  ch : Fin 64
  mv : Nat
  us : Nat
deriving DecidableEq, Repr

/-- A drive group, and for how many µs something has held of it. -/
structure GrpTime where
  g : Fin 8
  us : Nat
deriving DecidableEq, Repr

/-- A detection record (Table 6.2); times in ns of network time. -/
structure DetRec where
  origin : Nat
  cls : Nat
  heading : Nat
  speed : Nat
  conf : Nat
  count : Nat
  age : Nat
  tEnd : Nat
  /-- It came by host injection. -/
  injected : Bool
deriving DecidableEq, Repr

end Sys2Proof.Machine

namespace Sys2Proof

/-- The commands, one constructor for each row of the table, in its order. -/
inductive Instr where
  /-- POWER_UP (R69). VSYS and VAUX both come into range, ending EMBER and starting a cold start. Operands: the bytes of the
  configuration flash as a start reads them, where they were written since the last read. -/
  | powerUp (flash : Option (List Byte))
  /-- VAUX_LOSS (R69). VAUX falls below 2.90 V with VBAT present, and the module clamps to EMBER. -/
  | vauxLoss
  /-- VSYS_LOSS (R69). VSYS falls below 4.50 V with VAUX present, and the module clamps to BANKED. -/
  | vsysLoss
  /-- EMBER_RESET (R26). VBAT is applied to an unpowered ember domain while VAUX is absent, resetting the RTC and ember state.
  -/
  | emberReset
  /-- SYS_RESTART_COLD (R25). SYS_CMD RESTART_COLD starts a cold start. Operands: the bytes of the configuration flash as a
  start reads them, where they were written since the last read. -/
  | sysRestartCold (flash : Option (List Byte))
  /-- SYS_RESTART_WARM (R23). SYS_CMD RESTART_WARM snapshots armed slots and starts a warm start. Operands: the bytes of the
  configuration flash as a start reads them, where they were written since the last read. -/
  | sysRestartWarm (flash : Option (List Byte))
  /-- WATCHDOG (R24). The supervisor watchdog expires and causes an unplanned warm start. -/
  | watchdog
  /-- LOCKSTEP_MISMATCH (R24). The supervisor lockstep pair disagrees and causes an unplanned warm start. -/
  | lockstepMismatch
  /-- CLOCK_FAIL (R20). The clock monitor finds two bad TCXO windows or a PLL unlock over 10 µs and forces a cold restart. -/
  | clockFail
  /-- PFAIL (R83). PFAIL_N falls, and counters and accumulators are written to the NVM context snapshot within 5 ms. -/
  | pfail
  /-- PERIODIC_SNAPSHOT (R83). Every 60 s in FIRING and SOAK, the NVM context snapshot is written. -/
  | periodicSnapshot
  /-- REGISTER_WRITE (R13). A write to a register without a row of its own takes effect under its access code and change class.
  Operands: source, offset, the power of two of the bytes, value. -/
  | registerWrite (src : Src) (off : BitVec 26) (sz : Fin 4) (val : BitVec 64)
  /-- RESERVED_SPACE_ACCESS (R6). An access to reserved space reads 0 or is ignored and sets the RESERVED flag. Operands:
  source, direction (1 write), offset, the power of two of the bytes, value. -/
  | reservedSpaceAccess (src : Src) (wr : Bool) (off : BitVec 26) (sz : Fin 4) (val : BitVec 64)
  /-- ACCESS_ERROR (R58). An unaligned or refused narrow access has no effect and sets ALIGN or WIDTH. Operands: source,
  direction (1 write), offset, the power of two of the bytes, value. -/
  | accessError (src : Src) (wr : Bool) (off : BitVec 26) (sz : Fin 4) (val : BitVec 64)
  /-- RAR_LOW_READ (R12). A read of an RAR low word snapshots and resets the accumulator, or returns the pending snapshot and
  sets REREAD. Operands: source and offset of the low word. -/
  | rarLowRead (src : Src) (off : BitVec 26)
  /-- RAR_HIGH_READ (R12). A read of an RAR high word returns the shadow's high half and clears PENDING. Operands: source and
  offset of the high word. -/
  | rarHighRead (src : Src) (off : BitVec 26)
  /-- RAR_PAIR_READ (R12). An atomic 64-bit read of an RAR pair performs the whole snapshot protocol at once. Operands: source
  and offset of the low word. -/
  | rarPairRead (src : Src) (off : BitVec 26)
  /-- RC_READ (R58). A read of a read-clears register returns its value and then clears it. Operands: source and offset. -/
  | rcRead (src : Src) (off : BitVec 26)
  /-- CFG_DIGEST_READ (R66). A read of CFG_DIGEST[0] latches the digest words and CFG_EPOCH. Operands: source. -/
  | cfgDigestRead (src : Src)
  /-- EMB_RTC_TIME_READ (R89). A read of EMB_RTC_TIME latches date and prescaler from the same ember cycle. Operands: source; a
  64-bit read of the pair where `wide`. -/
  | embRtcTimeRead (src : Src) (wide : Bool)
  /-- SCH_LOCAL_TIME_READ (R148). A read of SCH_LOCAL_TIME latches SCH_LOCAL_DATE and SCH_STAT.DST. Operands: source; a 64-bit
  read of the pair where `wide`. -/
  | schLocalTimeRead (src : Src) (wide : Bool)
  /-- SCH_NEXT_LIT_READ (R148). A read of SCH_NEXT_LIT_LO latches SCH_NEXT_LIT_HI. Operands: source; a 64-bit read of the pair
  where `wide`. -/
  | schNextLitRead (src : Src) (wide : Bool)
  /-- LFE_TICK_NT_READ (R182). A read of LFE_TICK_NT_LO latches LFE_TICK_NT_HI. Operands: source; a 64-bit read of the pair
  where `wide`. -/
  | lfeTickNtRead (src : Src) (wide : Bool)
  /-- TRN_TIME_READ (R215). A read of the low word of a TRN time pair latches its high word. Operands: source; a slot, or the
  command registers; a 64-bit read of the pair where `wide`. -/
  | trnTimeRead (src : Src) (slot : Option (Fin 64)) (wide : Bool)
  /-- NTU_TIME_READ (R330). A read of NTU_TIME_LO samples network time and latches seconds, fraction and FRC. Operands: source;
  a 64-bit read of the pair where `wide`. -/
  | ntuTimeRead (src : Src) (wide : Bool)
  /-- NTU_FRC_READ (R330). A read of NTU_FRC_LO latches NTU_FRC_HI. Operands: source; a 64-bit read of the pair where `wide`. -/
  | ntuFrcRead (src : Src) (wide : Bool)
  /-- MTR_RESULT_READ (R390). A read of word 0 of a set or feeder result block latches the block from one window. Operands:
  source; the block: sets 0 to 3, then feeders. -/
  | mtrResultRead (src : Src) (blk : Fin 16)
  /-- EPC_JOIN_EPA_READ (R131). A read of EPC_JOIN_EPA returns the last join and clears VALID. Operands: source. -/
  | epcJoinEpaRead (src : Src)
  /-- EVT_HOLDOFF_END (R30). An event hold-off ends and a pending rise is reported in a new event frame. Operands: bit of
  SYS_IRQ_STAT. -/
  | evtHoldoffEnd (b : Fin 32)
  /-- MODULE_HB (R3). A received MODULE_HB carrying the own SEG from a non-partner sets SEG_DUP and logs SEG_DUPLICATE.
  Operands: BB port and the message. -/
  | moduleHb (p : Fin 2) (b : List Byte)
  /-- MODULE_HB_SEND (R374). Every MS milliseconds the module sends its MODULE_HB. -/
  | moduleHbSend
  /-- STORE (R55). CFG_CMD STORE collects differences from the image baseline and writes the three store copies. -/
  | store
  /-- STORE_DONE (R55). All three store copies compare correctly and STORE reports DONE. -/
  | storeDone
  /-- CLEAR_STORE (R57). CFG_CMD CLEAR_STORE erases all three store copies. -/
  | clearStore
  /-- DIGEST_REQ (R67). CFG_CMD DIGEST_REQ asks for the digest over CFG_REQ_MASK. -/
  | digestReq
  /-- DIGEST_REQ_DONE (R67). Once the requested set digests are current, CFG_REQ_DIGEST is written and the command reports DONE.
  -/
  | digestReqDone
  /-- DIGEST_REQ_TIMEOUT (R67). DIGEST_REQ not complete within 50 ms returns TIMEOUT. -/
  | digestReqTimeout
  /-- DIGEST_UPDATE (R64). Recomputation of stale set digests and CFG_DIGEST completes after a configuration change. -/
  | digestUpdate
  /-- ENTER_SERVICE (R75). PWR_CMD ENTER_SERVICE moves the module to SERVICE under the service policy. -/
  | enterService (src : Src)
  /-- LEAVE_SERVICE (R72). PWR_CMD LEAVE_SERVICE returns to FIRING or SOAK when the image is accepted. -/
  | leaveService
  /-- ISLAND (R71). PWR_CMD ISLAND places an island order and moves FIRING to SOAK. -/
  | island
  /-- UNISLAND (R71). PWR_CMD UNISLAND clears the island order. -/
  | unisland
  /-- ENTER_BANKED (R78). PWR_CMD ENTER_BANKED checks the refusals, sets the schedule wake alarm and begins BANKED entry. -/
  | enterBanked (src : Src)
  /-- PWR_HEARTBEAT (R70). A write of 1 to PWR_HEARTBEAT.HB restarts the SOAK timer and may return SOAK to FIRING. -/
  | pwrHeartbeat (src : Src)
  /-- HOST_HB (R375). An authenticated HOST_HB acts as a heartbeat at its target positions. Operands: BB port and the message.
  -/
  | hostHb (p : Fin 2) (b : List Byte)
  /-- SOAK_TIMEOUT (R10). No heartbeat for SOAK_TIMEOUT moves FIRING to SOAK. -/
  | soakTimeout
  /-- IDLE_WARN (R77). The idle timer is 60 s from expiry and IDLE_WARN is set. -/
  | idleWarn
  /-- IDLE_TIMEOUT (R77). The idle timer reaches MIN minutes and BANKED entry starts or is refused. -/
  | idleTimeout
  /-- WAKE_WSP (R81). In BANKED, a WSP address match is acknowledged and wakes the module. Operands: the address byte's 7 bits.
  -/
  | wakeWsp (adr : BitVec 7)
  /-- WSP_READ (R81). Outside BANKED, a WSP one-byte read returns PWR_STAT[7:0]. Operands: the address byte's 7 bits. -/
  | wspRead (adr : BitVec 7)
  /-- WAKE_FIO (R80). A selected FIO0–FIO7 edge held for DEB wakes the module from BANKED. Operands: input and edge. -/
  | wakeFio (n : Fin 8) (rising : Bool)
  /-- WAKE_MZ (R80). Mistazil signal detect for 10 µs wakes the module from BANKED. -/
  | wakeMz
  /-- WAKE_HSPI (R80). HSPI chip-select low wakes the module from BANKED. -/
  | wakeHspi
  /-- VSYS_RETURN (R80). VSYS in range for 10 ms wakes a module in BANKED through supply loss. -/
  | vsysReturn
  /-- RC0_LISTEN (R82). Every INTERVAL ms in BANKED, RC0 samples its channel for 10 ms. -/
  | rc0Listen
  /-- WAKE (R115). A TEP WAKE frame with matching SEG and CODE wakes the module in BANKED and is dropped otherwise. Operands:
  SEG and CODE of the frame. -/
  | wake (seg : BitVec 16) (code : BitVec 16)
  /-- AVS_ACK (R84). The regulator acknowledges an AVSBus request and the new voltage is recorded. -/
  | avsAck
  /-- AVS_ATTEMPT_TIMEOUT (R84). An AVSBus attempt gets no good acknowledgement in 1 ms, is retried, and after three attempts
  AVS_FAIL is set. -/
  | avsAttemptTimeout
  /-- EMB_MIRROR_WRITE (R87). A write to an EMB mirror enters the four-entry ember write queue or is lost. Operands: offset and
  value; the second word of an atomic write of the RTC pair. -/
  | embMirrorWrite (off : BitVec 26) (val : Word) (pair : Option Word)
  /-- EMB_WRITE_LAND (R87). A queued mirror write lands in the ember domain or is refused as a bad value. -/
  | embWriteLand
  /-- CAPTURE (R90). EMB_CMD CAPTURE copies RTC time, date and prescaler and NT at one ember edge. -/
  | capture
  /-- RTC_SECOND (R86). The RTC advances one second, wrapping after 2199 with RTC_INVALID set. -/
  | rtcSecond
  /-- PERIODIC_WAKE (R91). The periodic wake fires every PERIOD/256 s. -/
  | periodicWake
  /-- DOOR_EVENT (R92). A debounced DOOR_N fall counts and records a door event. -/
  | doorEvent
  /-- TAMPER_EVENT (R92). A debounced TAMPER_N fall counts and records a tamper event, optionally erasing backup registers. -/
  | tamperEvent
  /-- PWR_ON_WRITE (R94). A write of EMB_PWRON_CTL.LEVEL 0 lets the carrier remove its supplies. Operands: the three SET_ON
  bits. -/
  | pwrOnWrite (on : BitVec 3)
  /-- VBAT_MEASURE (R95). VBAT is measured at each start and hourly and VBAT_LOW is updated. Operands: VBAT in mV. -/
  | vbatMeasure (mv : BitVec 16)
  /-- ACTIVATE (R100). EPC_CMD ACTIVATE moves an EMPTY context to RESERVED or ACTIVE after checking class and reach. -/
  | activate
  /-- SUSPEND (R105). EPC_CMD SUSPEND moves a context to SUSPENDED. -/
  | suspend
  /-- RESUME (R104). EPC_CMD RESUME moves a SUSPENDED context to ACTIVE or RESERVED. -/
  | resume
  /-- REPLACE (R109). EPC_CMD REPLACE installs a new EUI-64 on an EPA and clears reported state and counters. -/
  | replace
  /-- REMOVE (R110). EPC_CMD REMOVE sends LEAVE, saves the energy to EPC_REMOVED_EN and empties the context. -/
  | remove
  /-- EPC_CLEAR_FAULT (R125). EPC_CMD CLEAR_FAULT clears every active fault of a context. -/
  | epcClearFault
  /-- SNAPSHOT (R128). EPC_CMD SNAPSHOT writes the NVM context snapshot now. -/
  | snapshot
  /-- SNAPSHOT_DONE (R83). The commanded context snapshot write completes and SNAPSHOT reports DONE. -/
  | snapshotDone
  /-- JOIN_REQ (R106). A JOIN_REQ selects or creates a context, raises KEY_GEN and queues a JOIN_ACC. Operands: channel, whether
  the source is extended, EUI-64, class and nonce. -/
  | joinReq (ch : Fin 8) (ext : Bool) (eui : BitVec 64) (cls : BitVec 8) (nonce : List Byte)
  /-- JOIN_LAPSE (R107). A join not proven within 60 s lapses and the context returns to its former state and KEY_GEN. -/
  | joinLapse (epa : Fin 4096)
  /-- JOIN_OPEN_EXPIRY (R108). EPC_JOIN_CTL.OPEN clears OPEN_MIN minutes after it was set. -/
  | joinOpenExpiry
  /-- EPC_GRP_WRITE (R111). A write changing a radio endpoint's EPC_GRP queues a GROUPS frame and sets GRP_PENDING. Operands:
  endpoint, word and value. -/
  | epcGrpWrite (epa : Fin 4096) (w : Fin 8) (val : Word)
  /-- GROUPS_REPEAT (R111). An unacknowledged GROUPS frame is repeated every 30 s. -/
  | groupsRepeat (epa : Fin 4096)
  /-- CFG_ACK (R111). A CFG_ACK clears GRP_PENDING, RESYNC or the pending CONFIG it acknowledges. Operands: endpoint, ACK_TYPE,
  ACK_TSN. -/
  | cfgAck (epa : Fin 4096) (typ : BitVec 8) (tsn : BitVec 8) (l : Machine.LinkInfo)
  /-- REPORT_CFG_WRITE (R497). A write changing EPC_REPORT_CFG queues CONFIG frames to a joined endpoint. -/
  | reportCfgWrite (epa : Fin 4096) (val : Word)
  /-- CONFIG_REPEAT (R497). An unacknowledged CONFIG frame is repeated every 30 s. Operands: endpoint and PARAM. -/
  | configRepeat (epa : Fin 4096) (param : BitVec 8)
  /-- STATUS (R122). A STATUS frame updates reported level, flags and environment and checks for mismatch. -/
  | status (epa : Fin 4096) (m : Machine.StatusMsg) (l : Machine.LinkInfo)
  /-- ENERGY (R123). An ENERGY frame adds its delta to the context energy unless it is a baseline or implausible. -/
  | energy (epa : Fin 4096) (epoch : BitVec 8) (cum : BitVec 32) (power : BitVec 16) (l : Machine.LinkInfo)
  /-- FAULT (R125). A FAULT frame raises or clears an endpoint fault code. -/
  | fault (epa : Fin 4096) (code : BitVec 8) (raised : BitVec 8) (detail : BitVec 32) (l : Machine.LinkInfo)
  /-- DETECT (R121). A DETECT frame updates the context and goes to the light field engine intake. Operands: endpoint, the
  frame's fields, and the network time of its end in ns. -/
  | detect (epa : Fin 4096) (cls : BitVec 8) (heading : BitVec 8) (speed : BitVec 8) (conf : BitVec 8) (count : BitVec 8) (age : BitVec 8) (tEnd : Nat) (l : Machine.LinkInfo)
  /-- INFO (R121). An INFO frame updates firmware, model and hours of the context. -/
  | info (epa : Fin 4096) (fw : BitVec 32) (model : BitVec 64) (hours : BitVec 32) (l : Machine.LinkInfo)
  /-- SILENT_CHECK (R126). Once per second, ACTIVE radio endpoints without a recent frame are marked SILENT. -/
  | silentCheck
  /-- RESYNC_REPEAT (R119). A RESYNC frame is repeated every 30 s while RESYNC stays set. -/
  | resyncRepeat (epa : Fin 4096)
  /-- REKEY_RETRY (R414). A lapsed rekey is started again after 60 s. -/
  | rekeyRetry (epa : Fin 4096)
  /-- CONTEXT_ECC_ERROR (R129). A context word read with an ECC error is corrected or reloaded and fault 0x84 is raised.
  Operands: the word's offset, whether the error is uncorrectable, and the spares found faulty as one is taken up. -/
  | contextEccError (off : BitVec 26) (uncorr : Bool) (bad : Nat)
  /-- SCHEDULE_SECOND (R143). At each change of NT seconds, all programs are evaluated and base levels written. Operands:
  whether the evaluation overran. -/
  | scheduleSecond (late : Bool)
  /-- SOLAR_NOW (R136). SCH_CMD SOLAR_NOW makes the cores recompute all three solar slots. -/
  | solarNow
  /-- SOLAR_PUBLISH (R135). The cores publish computed solar events into SCH_SOLAR. Operands: the day slot and its seven events,
  seconds of the day. -/
  | solarPublish (d : Fin 3) (evs : List (Option Nat))
  /-- HOLD_EXPIRY (R144). SCH_CTL.HOLD set for 10 s is cleared and HOLD_EXPIRED set. -/
  | holdExpiry
  /-- LFE_TICK (R150). At each tick boundary the engine closes intake, propagates sources, arbitrates and queues commands. -/
  | lfeTick
  /-- DETECTION_RECORD (R151). A detection record reaches the intake and is admitted to a tick or dropped. -/
  | detectionRecord (r : Machine.DetRec)
  /-- SOURCE_EXPIRY (R160). A source past its LIFE or HORIZON expires and frees its slot. -/
  | sourceExpiry
  /-- LFE_HOLD_EXPIRY (R165). A boundary reaches on_until of an endpoint and its LFE demand falls to 0. -/
  | lfeHoldExpiry (epa : Fin 4096)
  /-- INJECT (R182). LFE_CMD INJECT submits the record in LFE_INJ to the intake. -/
  | inject
  /-- CLEAR_SOURCES (R182). LFE_CMD CLEAR_SOURCES discards all sources at the next boundary, or at once when ticks are stopped.
  -/
  | clearSources
  /-- LFE_CTL_WRITE (R181). A write of LFE_CTL.PROP_EN or EN closes the intake or stops ticks and the command generator.
  Operands: EN and PROP_EN as written. -/
  | lfeCtlWrite (en : Bool) (prop : Bool)
  /-- ARM (R188). TRN_CMD ARM checks and arms a transition slot. -/
  | arm
  /-- TRN_CANCEL (R200). TRN_CMD CANCEL disarms an ARMED slot and sends one CANCEL round. -/
  | trnCancel
  /-- RELEASE (R201). TRN_CMD RELEASE ends a HELD slot's claim at the next tick. -/
  | release
  /-- PAT_START (R209). TRN_CMD PAT_START starts a pattern engine at a start instant. -/
  | patStart
  /-- PAT_STOP (R210). TRN_CMD PAT_STOP stops a pattern engine at the next tick. -/
  | patStop
  /-- ARM_ROUND (R190). An ARM round falls due and ARM frames are queued to the scope. -/
  | armRound (n : Fin 64)
  /-- SLOT_COMMIT (R192). At the commit boundary, comparators are loaded, bus frames and FIRE frames queued, or the slot is
  cancelled in SERVICE. -/
  | slotCommit (n : Fin 64)
  /-- SLOT_FIRE (R197). At T the slot becomes HELD and EPC_LVL_CMD of armed endpoints takes its level. -/
  | slotFire (n : Fin 64)
  /-- SLOT_HOLD_END (R197). At T + HOLD_S the claim ends and the slot becomes DONE. -/
  | slotHoldEnd (n : Fin 64)
  /-- PATTERN_COUNT_END (R210). A pattern engine stops after COUNT cycles and releases its claim. -/
  | patternCountEnd (e : Fin 32)
  /-- FAST_CHASE_EDGE (R212). The drive sequencer makes a fast chase step edge at its instant. -/
  | fastChaseEdge (e : Fin 32)
  /-- FADE_UNIT_UPDATE (R184). Each 1 ms, every fade unit advances one step of its fade. -/
  | fadeUnitUpdate
  /-- DRIVE_COMPARATOR_FIRE (R223). A drive comparator applies a timed level at its instant within the running PWM period.
  Operands: fade unit. -/
  | driveComparatorFire (u : Fin 92)
  /-- PWM_PERIOD_END (R227). A channel's PWM period ends and pending widths, phases and shadowed fields take effect. -/
  | pwmPeriodEnd (n : Fin 64)
  /-- CURRENT_LOOP_UPDATE (R225). Every 100 µs of on-time the peak reference is corrected towards the target current. Operands:
  channel, mean sense voltage in 1/16 mV, VOn in mV. -/
  | currentLoopUpdate (n : Fin 64) (sense : BitVec 12) (vo : BitVec 24)
  /-- DRV_CH_EN_WRITE (R226). A write of DRV_CH_CTL.EN enables a checked channel or turns it OFF. -/
  | drvChEnWrite (n : Fin 64) (on : Bool)
  /-- DRV_SET_EN_WRITE (R239). A write of DRV_SET_CFG.EN enables a valid luminaire set or sets BAD_CFG. -/
  | drvSetEnWrite (k : Fin 16) (on : Bool)
  /-- SOFT_START_END (R229). A soft-start ramp reaches its target and the channel enters RUN. -/
  | softStartEnd (n : Fin 64)
  /-- INRUSH_END (R229). A channel's inrush window closes and its allowance and raised thresholds end. -/
  | inrushEnd (n : Fin 64)
  /-- FAST_TRIP (R231). The sense voltage exceeds TRIP and the gate is held low with the channel in HICCUP. Operands: channel,
  and ISPn − ISNn in 0.5 mV. -/
  | fastTrip (n : Machine.ChVal)
  /-- STRING_SHORT (R231). VOn below SHORT_MV in RUN for the set time stops the channel. Operands: channel, VOn in mV, and for
  how many µs of gating. -/
  | stringShort (n : Machine.ChTime)
  /-- STRING_OPEN (R231). VOn above OPEN_MV for OPEN_US stops the channel. Operands: channel, VOn in mV, and for how many µs. -/
  | stringOpen (n : Machine.ChTime)
  /-- START_SHORT (R231). VOn below SHORT_MV through SS_SHORT_MS of a ramp stops the channel. Operands: channel, and the highest
  VOn since the start of the ramp, mV. -/
  | startShort (n : Machine.ChVal)
  /-- GROUP_OC (R234). Group current above limit plus allowance for GOC_US stops the group's running channels. Operands: group,
  and for how many µs its current has been above the limit. -/
  | groupOc (g : Machine.GrpTime)
  /-- SUPPLY_UV (R233). VDRV_g below UV_10MV for 2 µs stops the group's running channels into SUPPLY_WAIT. Operands: group, and
  VDRV in 10 mV. -/
  | supplyUv (g : Fin 8) (vdrv : BitVec 14)
  /-- SUPPLY_RECOVERED (R233). VDRV_g above threshold plus hysteresis for 10 ms restarts waiting channels. Operands: group, and
  VDRV in 10 mV. -/
  | supplyRecovered (g : Fin 8) (vdrv : BitVec 14)
  /-- HICCUP_RETRY (R232). HICCUP_MS after a stop, the channel retries with a soft start. -/
  | hiccupRetry (n : Fin 64)
  /-- RETRIES_RESET (R232). After 60 s in RUN without a fault, RETRIES returns to 0. -/
  | retriesReset (n : Fin 64)
  /-- GROUP_HICCUP_RETRY (R234). A GROUP_OC retry restarts every channel it stopped at once. -/
  | groupHiccupRetry (g : Fin 8)
  /-- PAD_SCAN (R236). Every MS ms the pad scan visits the adjacent pad pairs. Operands: the pairs as probed at their visits. -/
  | padScan (visits : List Machine.PadProbe)
  /-- SCAN_NOW (R240). DRV_CMD SCAN_NOW runs one full scan pass at once. Operands: the pairs as probed at their visits. -/
  | scanNow (visits : List Machine.PadProbe)
  /-- DRV_CLEAR_FAULT (R240). DRV_CMD CLEAR_FAULT clears HICCUP or LATCHED on a channel or group. -/
  | drvClearFault
  /-- DRV_ENERGY_UPDATE (R237). Every 10 ms channel energy estimates are added to endpoint and group accumulators. -/
  | drvEnergyUpdate
  /-- POWER_REPORT (R237). Once per second the mean power is written to EPC_POWER. -/
  | powerReport
  /-- COMP_EVAL (R222). Every 100 ms colour compensation gains are evaluated from temperature. -/
  | compEval (k : Fin 16)
  /-- DL_FORWARD_FRAME (R242). A forward frame is sent on a DL port after its settling time. -/
  | dlForwardFrame (p : Fin 16)
  /-- DL_BACKWARD_FRAME (R249). A backward frame answer updates the gear's context. Operands: port, byte, and whether its
  framing is violated. -/
  | dlBackwardFrame (p : Fin 16) (n : BitVec 8) (bad : Bool)
  /-- DL_NO_ANSWER (R251). No start bit within 22 ms is the answer NO. -/
  | dlNoAnswer (p : Fin 16)
  /-- DL_FRAME_CORRUPTED (R251). RX differs from TX during transmission, and the frame is released and resent. -/
  | dlFrameCorrupted (p : Fin 16)
  /-- DL_BUS_DOWN (R251). RX low for 45 ms marks the port DOWN. -/
  | dlBusDown (p : Fin 16)
  /-- DL_BUS_UP (R251). RX high for 100 ms restores the port and resends every gear its level. -/
  | dlBusUp (p : Fin 16)
  /-- DL_EVENT_FRAME (R253). A 24-bit event frame is queued in LBUS_EVT. -/
  | dlEventFrame (p : Fin 16) (f : BitVec 24)
  /-- DL_QUERY_CYCLE (R248). Level, status, energy and diagnostic queries fall due for each gear. -/
  | dlQueryCycle (p : Fin 16)
  /-- DL_COMMISSION (R246). LBUS_CMD DL_COMMISSION commissions all gear on a port. -/
  | dlCommission
  /-- DL_REQUERY (R269). LBUS_CMD DL_REQUERY queries one gear now. -/
  | dlRequery
  /-- DL_RAW (R253). LBUS_CMD DL_RAW sends LBUS_RAW_TX and records the outcome. -/
  | dlRaw
  /-- FIO_CLEAR (R263). LBUS_CMD FIO_CLEAR clears a contactor fault. -/
  | fioClear
  /-- LBUS_EVT_READ (R253). A read of LBUS_EVT returns and removes the oldest event. -/
  | lbusEvtRead (src : Src)
  /-- AO_MEASURE (R258). Every 1 ms a driven AO is measured and its fault judged. -/
  | aoMeasure (a : Fin 12) (mv : BitVec 16)
  /-- FIO_INPUT_CHANGE (R259). An FIO input takes a new debounced level. -/
  | fioInputChange (n : Fin 72) (level : Bool)
  /-- LOOP_PAIR_TIMEOUT (R260). Loop B not following within 2.55 s yields a record without speed. -/
  | loopPairTimeout (n : Fin 72)
  /-- CONTACTOR_EVAL (R261). Every 100 µs contactor requests, timers and interlocks are evaluated. -/
  | contactorEval
  /-- CONTACTOR_FB_CHECK (R263). FB_10MS after switching, contactor feedback is checked. -/
  | contactorFbCheck (n : Fin 72)
  /-- SB_FRAME_RX (R264). An idle gap ends a received SB frame, which goes to an HMQ or is discarded. Operands: port, the frame,
  and whether a framing or parity error ended it. -/
  | sbFrameRx (p : Fin 8) (b : List Byte) (bad : Bool)
  /-- SB_FRAME_TX (R265). A down-queue packet is sent as an SB frame in HOST mode. Operands: port, and whether a word's parity
  fails as it leaves the buffer. -/
  | sbFrameTx (p : Fin 8) (bad : Bool)
  /-- SB_POLL (R266). Every POLL_MS a POLL entry sends its Modbus request. -/
  | sbPoll (p : Fin 8) (k : Fin 4)
  /-- SB_POLL_ANSWER (R266). A Modbus answer sets the baseline or makes a detection record. Operands: port, entry, registers 0
  to 3, and whether the answer is bad. -/
  | sbPollAnswer (p : Fin 8) (k : Fin 4) (count : BitVec 16) (kind : BitVec 16) (speed : BitVec 16) (age : BitVec 16) (bad : Bool)
  /-- SB_POLL_TIMEOUT (R266). No answer within 100 ms is counted, and three in a row fault the entry. -/
  | sbPollTimeout (p : Fin 8) (k : Fin 4)
  /-- TS_MEASURE (R267). Every 100 ms each TS input's temperature and fault are measured. Operands: input, and its resistance in
  Ω. -/
  | tsMeasure (t : Fin 16) (r : Nat)
  /-- RAD_CH_EN_WRITE (R270). A write of RAD_CH_CTL.EN enables a checked channel or sets BAD_CFG. -/
  | radChEnWrite (ch : Fin 8) (on : Bool)
  /-- PORT_DEQUEUE (R300). A ready port takes its next packet by strict priority, DWRR and enqueue sequence. -/
  | portDequeue (p : Fin 20)
  /-- CSMA_BACKOFF_END (R276). A backoff ends, CCA runs and the frame starts, backs off again or waits under the antenna rule.
  Operands: channel, the energy CCA finds in dBm, and whether a valid SFD is found. -/
  | csmaBackoffEnd (ch : Fin 8) (energy : Int) (sfd : Bool)
  /-- TX_END (R277). A transmission ends and a unicast frame opens its acknowledgement window. -/
  | txEnd (ch : Fin 8)
  /-- ENH_ACK_RX (R277). An enhanced acknowledgement in the window completes a unicast frame as ACKED. -/
  | enhAckRx (ch : Fin 8)
  /-- ACK_TIMEOUT (R277). The acknowledgement window closes empty and the frame is retried or ends NO_ACK. -/
  | ackTimeout (ch : Fin 8)
  /-- HW_ACK_SEND (R280). 1,000 µs after a qualifying frame ends, the hardware acknowledgement is sent or skipped. -/
  | hwAckSend (ch : Fin 8)
  /-- TIMED_FRAME_PREPARE (R281). 2 ms before its instant a timed frame is secured and charged, refused or discarded. -/
  | timedFramePrepare (ch : Fin 8)
  /-- TIMED_FRAME_LAUNCH (R281). A timed frame starts at its instant, or after a conflicting transmission. -/
  | timedFrameLaunch (ch : Fin 8)
  /-- TIME_FRAME (R282). For each second that is a multiple of TIME_S, a TEP TIME frame is queued on each transmitting channel.
  -/
  | timeFrame
  /-- LEDGER_SECOND (R285). A ledger second passes and the oldest bucket leaves every duty window. -/
  | ledgerSecond
  /-- RX_SFD (R289). An SFD starts a reception into the free bank, or the frame is dropped on overrun or length. Operands:
  channel, whether its PHR gives more than 511 octets, and whether both banks are held. -/
  | rxSfd (ch : Fin 8) (long : Bool) (full : Bool)
  /-- RX_FRAME (R290). A received frame is checked, filtered, decrypted and replay-checked, then handed to the switch core. -/
  | rxFrame (ch : Fin 8) (r : Machine.RxFrame)
  /-- AIRTIME (R274). RAD_CMD AIRTIME returns the airtime of LEN octets on a channel. -/
  | airtime
  /-- CH_FLUSH (R295). RAD_CMD CH_FLUSH discards the frames queued for a channel. -/
  | chFlush
  /-- PACKET_INGRESS (R304). A packet arriving at a switch port is metered and admitted to its queues or dropped. -/
  | packetIngress (p : Fin 20) (fcsOk : Bool) (joined : Bool) (k : Machine.PacketIn)
  /-- SWC_CLAIM (R310). A read of SWC_CLAIM claims one free cell for the requester. -/
  | swcClaim (src : Src)
  /-- SWC_CELL_SEL (R311). A write of SWC_CELL_SEL selects a cell for the window and may set its link. -/
  | swcCellSel (src : Src) (val : Word)
  /-- SWC_CELL_DATA (R311). An access to SWC_CELL_DATA reads or writes the selected cell if the requester owns it. Operands:
  source, byte of the window, the power of two of the bytes, and the value of a write. -/
  | swcCellData (src : Src) (off : Fin 256) (sz : Fin 4) (val : Option (BitVec 64))
  /-- SWC_FREE (R313). A write of SWC_FREE returns an owned cell to the free list or records a refused free. -/
  | swcFree (src : Src) (cell : BitVec 15)
  /-- ENQUEUE (R312). SWC_CMD ENQUEUE hands a claimed cell chain to a queue through admission. -/
  | enqueue (src : Src)
  /-- Q_FLUSH (R325). SWC_CMD Q_FLUSH discards every packet in a queue. -/
  | qFlush
  /-- QUOTA_BOUNDARY (R306). A lowered tenant quota takes effect 10 ms after the write or when the tenant drains. -/
  | quotaBoundary (t : Fin 64)
  /-- HMQ_PUSH (R320). A write of HMQ_PUSH pushes a word, or stores an abort word or discards on overflow. Operands: down queue
  and word. -/
  | hmqPush (q : Fin 16) (val : Word)
  /-- HMQ_PUSH_END (R320). A write of HMQ_PUSH_END pushes the last word of a packet. Operands: down queue and word. -/
  | hmqPushEnd (q : Fin 16) (val : Word)
  /-- HMQ_POP (R318). A read of HMQ_POP_LO pops a word from an up queue and latches its tag. Operands: source, up queue less 16,
  and whether the word's parity fails as it leaves. -/
  | hmqPop (src : Src) (q : Fin 16) (bad : Bool)
  /-- HMQ_BANK_PASS (R317). A down-queue bank passes to the buffer when full, ended or 1 µs idle. -/
  | hmqBankPass (q : Fin 32)
  /-- HMQ_DOWN_PACKET (R316). A whole down packet is taken by its consumer and sent to the switch or cores. Operands: down
  queue, and whether a word's parity fails as it leaves. -/
  | hmqDownPacket (q : Fin 16) (bad : Bool)
  /-- HMQ_UP_DELIVER (R321). A packet is released into an up queue once it has room for all its words. -/
  | hmqUpDeliver
  /-- HMQ_STALE (R323). A queue holding words unpopped for STALE_US sets its stale notice. -/
  | hmqStale (q : Fin 32)
  /-- HMQ_FLUSH (R324). HMQ_CMD FLUSH empties a queue. -/
  | hmqFlush
  /-- NTU_UPDATE (R329). Each 1 ms the NTU rebases, takes up rate and slew, applies steps and selects its source. -/
  | ntuUpdate
  /-- NTU_PHASE_WRITE (R332). A write of NTU_PHASE starts a slew or is refused as a jump. -/
  | ntuPhaseWrite (src : Src) (val : Word)
  /-- STEP (R333). NTU_CMD STEP submits a time step under the jump rule. -/
  | step
  /-- STEP_FORCE (R335). NTU_CMD STEP_FORCE applies a step of any size after disarming far comparators. -/
  | stepForce (src : Src)
  /-- SRC_SELECT (R337). NTU_CMD SRC_SELECT makes an intact source current with a step of its offset. -/
  | srcSelect
  /-- CMP_ARM (R350). NTU_CMD CMP_ARM arms a general comparator. -/
  | cmpArm
  /-- CMP_DISARM (R350). NTU_CMD CMP_DISARM disarms a general comparator. -/
  | cmpDisarm
  /-- COMPARATOR_FIRE (R348). A comparator fires when NT reaches its target, and a periodic one advances. -/
  | comparatorFire (n : Fin 16)
  /-- HOLDOVER_EXPIRY (R339). After HOLD_S in HOLDOVER the NTU enters FREERUN. -/
  | holdoverExpiry
  /-- LEAP_SECOND (R341). A flagged leap second changes NTU_UTC.OFS at UTC midnight. -/
  | leapSecond
  /-- RTC_DISCIPLINE (R351). Every INTERVAL_MIN the RTC is captured, compared with UTC and rewritten when off. -/
  | rtcDiscipline
  /-- RATE_RECORD (R340). While LOCKED, RATE is recorded in NVM once an hour. -/
  | rateRecord
  /-- PTP_RX (R336). A received PTP message is timestamped and feeds the PTP source measurement. Operands: BB port; whether the
  message is a Sync and the port a slave; the offset it measures in ns; the UTC offset, its validity and the leap flag of an
  Announce; the message. -/
  | ptpRx (p : Fin 2) (sync : Bool) (slave : Bool) (ofs : Option Int) (utc : Option (Int × Bool × Bool)) (msg : List Byte)
  /-- PTP_EGRESS (R346). A PTP event message leaving a BB port gets its one-step or two-step timestamp. Operands: BB port, the
  flags the cores set, whether the frame fails its FCS, and the message. -/
  | ptpEgress (p : Fin 2) (origin : Bool) (addCf : Bool) (tsReq : Bool) (bad : Bool) (b : List Byte)
  /-- GNSS_PPS (R336). A GNSS PPS edge is timestamped for the GNSS source. -/
  | gnssPps (rising : Bool)
  /-- GNSS_SENTENCE (R336). A GNSS time-of-day sentence labels the preceding PPS edge. Operands: whether it reports a fix, and
  its UTC second since 1970. -/
  | gnssSentence (fix : Bool) (utc : Nat)
  /-- TIME_EXCHANGE (R363). Every 1 ms the downstream module sends T_REQ on MZ_A. -/
  | timeExchange
  /-- T_REQ (R363). The upstream module answers a T_REQ with T_RSP. -/
  | tReq (l : Fin 2) (x : Machine.MzRx)
  /-- T_RSP (R363). A T_RSP yields the upstream offset and link delay. -/
  | tRsp (l : Fin 2) (x : Machine.MzRx)
  /-- HSPI_READ (R358). An HSPI read transaction completes, takes a fetch slot or matches a pending slot. Operands: command
  byte, address, and whether the last data bit is clocked before CS_N rises. -/
  | hspiRead (cmd : BitVec 8) (addr : BitVec 32) (full : Bool)
  /-- HSPI_WRITE (R357). An HSPI write is posted, run non-posted, matched to a slot or denied. Operands: command byte, address
  and the data bytes clocked. -/
  | hspiWrite (cmd : BitVec 8) (addr : BitVec 32) (data : List Byte)
  /-- POSTED_WRITE_DONE (R357). A posted write completes, and an ERROR or DENIED outcome is captured. -/
  | postedWriteDone
  /-- SLOT_HOLD_EXPIRY (R359). A completed fetch slot unclaimed for HOLD_US is freed. -/
  | slotHoldExpiry (k : Fin 8)
  /-- SLOT_FLUSH (R360). HBR_CMD SLOT_FLUSH frees every fetch slot. -/
  | slotFlush
  /-- MZL_REQ (R362). A REQ frame is forwarded or performed and answered with an RSP. -/
  | mzlReq (l : Fin 2) (x : Machine.MzRx)
  /-- MZL_RSP (R362). An RSP frame completes the matching request. -/
  | mzlRsp (l : Fin 2) (x : Machine.MzRx)
  /-- MZL_DATA (R362). A DATA frame carries a switch packet or mirror data to its destination. Operands: link and frame, and the
  switch's view of a packet it carries. -/
  | mzlData (l : Fin 2) (x : Machine.MzRx) (k : Machine.PacketIn)
  /-- CREDIT (R362). A CREDIT frame returns credits to the sender. -/
  | credit (l : Fin 2) (x : Machine.MzRx)
  /-- MZL_REQ_TIMEOUT (R362). A REQ without RSP after REQ_TO_US completes with ERROR. Operands: TAG. -/
  | mzlReqTimeout (t : BitVec 8)
  /-- MZ_LINK_CHANGE (R362). A Mistazil link comes up or goes down, resetting credits. Operands: link, whether it comes up, and
  whether the same neighbour is at its end. -/
  | mzLinkChange (l : Fin 2) (on : Bool) (same : Bool)
  /-- ENUM (R364). An ENUM frame assigns a position and is passed downstream. -/
  | enum (l : Fin 2) (x : Machine.MzRx)
  /-- ENUM_TIMEOUT (R364). No MZ_A link for 100 ms after a cold start makes the module POS 0. -/
  | enumTimeout
  /-- ENUM_DONE (R364). At POS 0, 10 ms without a further ENUM answer sets ENUM_DONE. -/
  | enumDone
  /-- REENUM (R364). MZL_CMD REENUM sends ENUM with FORCE from POS 0. -/
  | reenum
  /-- MZL_IRQ (R369). An IRQ frame updates HBR_CASC_PEND at POS 0. -/
  | mzlIrq (l : Fin 2) (x : Machine.MzRx)
  /-- IRQ_REPEAT (R369). Every 100 ms while asserted, a downstream module repeats its IRQ frame. -/
  | irqRepeat
  /-- DLA_BACKOFF (R368). REQ traffic blocked 20 µs in BACKOFF mode is withdrawn with RETRY. Operands: whether REQ traffic waits
  at the other end too. -/
  | dlaBackoff (peer : Bool)
  /-- BB_LINK_CHANGE (R370). A backbone port's link goes up or down. Operands: port, whether it has a link, and whether that is
  1000BASE-X. -/
  | bbLinkChange (p : Fin 2) (on : Bool) (gig : Bool)
  /-- BB_SPEED_ALTERNATE (R370). With SPEED 0, the port switches between 10GBASE-R and 1000BASE-X every 500 ms. -/
  | bbSpeedAlternate (p : Fin 2)
  /-- RING_CHECK (R371). Every 10 ms the ring owner sends a ring check and opens the ring after three missing. -/
  | ringCheck
  /-- RING_CHECK_RX (R371). A returning ring check blocks transit on BB1. -/
  | ringCheckRx (p : Fin 2) (seg : BitVec 16) (seq : BitVec 32)
  /-- RING_PORT_HOLD_END (R371). 50 ms after link-up, a port is admitted to transit. -/
  | ringPortHoldEnd (p : Fin 2)
  /-- RAF_REQ (R373). An authenticated RAF request is performed, replayed or dropped by its SEQ. Operands: BB port, the sender's
  IP address and UDP port, and the message. -/
  | rafReq (p : Fin 2) (ip : BitVec 32) (port : BitVec 16) (b : List Byte)
  /-- USB_BUS_RESET (R380). A USB bus reset aborts any control transfer. Operands: whether a data stage is running, and whether
  the bus then runs at high speed. -/
  | usbBusReset (inside : Bool) (hs : Bool)
  /-- USB_READ (R378). Vendor request READ returns consecutive words without destructive reads. -/
  | usbRead (pos : BitVec 6) (off : BitVec 26) (len : BitVec 16)
  /-- USB_WRITE (R379). Vendor request WRITE writes words after the data stage, under WR_USB. -/
  | usbWrite (pos : BitVec 6) (off : BitVec 26) (data : List Byte)
  /-- GET_RESULT (R378). Vendor request GET_RESULT returns the outcome of the last WRITE. -/
  | getResult (len : BitVec 16)
  /-- GET_INFO (R378). Vendor request GET_INFO returns identity and state words. -/
  | getInfo (len : BitVec 16)
  /-- USB_BULK_OUT (R377). An EP1 OUT transfer enters switch port SP17 as one packet. -/
  | usbBulkOut (k : Machine.PacketIn)
  /-- USB_BULK_IN (R377). A packet queued on SP17 is returned on EP2 IN. -/
  | usbBulkIn
  /-- ACCUMULATION_INTERVAL (R393). Every 160 samples each feeder's energy is transferred into its accumulators. Operands: the
  samples of each channel. -/
  | accumulationInterval (sig : List (List Int))
  /-- AUTO_RANGE_SWITCH (R387). A current channel switches range and four samples are interpolated. Operands: current channel
  less 12, and whether it switches to the range of 16. -/
  | autoRangeSwitch (n : Fin 36) (to16 : Bool)
  /-- ZERO_CROSSING (R388). An accepted positive zero crossing is timed on a voltage set. -/
  | zeroCrossing (k : Fin 4)
  /-- ZC_LOST (R388). No crossing for ZC_TO periods puts the set in ZC_LOST on nominal windows. -/
  | zcLost (k : Fin 4)
  /-- WINDOW_END (R389). After K periods a measurement window ends and RMS, power, harmonics and alarms are published. Operands:
  set, and the samples of each channel over its window. -/
  | windowEnd (k : Fin 4) (sig : List (List Int))
  /-- MTR_TEMP_UPDATE (R386). Every 100 ms the front-end temperature and compensation terms are updated. Operands: the
  temperature in 0.1 °C. -/
  | mtrTempUpdate (t : Int)
  /-- FREEZE_ALL (R395). MTR_CMD FREEZE_ALL arms a freeze at the next sample or an instant. -/
  | freezeAll
  /-- FREEZE_SAMPLE (R395). At the freeze sample every accumulator of every enabled feeder is snapshotted. Operands: the samples
  of each channel since the last transfer. -/
  | freezeSample (sig : List (List Int))
  /-- PULSE_DUE (R399). A pulse generator's residue reaches CONST and a pulse falls due. -/
  | pulseDue (k : Fin 16)
  /-- PULSE_END (R400). A pulse's width ends and a backlogged pulse may start. -/
  | pulseEnd (k : Fin 16)
  /-- REC_WINDOW_END (R402). A reconciliation window ends and is judged or skipped, possibly raising LOSS or EXCESS. -/
  | recWindowEnd (f : Fin 12)
  /-- MODULATOR_CHECK (R466). Every 60 s a reference is injected to test each metering modulator for drift. Operands: channel,
  whether it drifts, and the spares found faulty as one is taken up. -/
  | modulatorCheck (ch : Fin 48) (drift : Bool) (bad : Nat)
  /-- MODULATOR_SUBSTITUTION (R383). A spare modulator is trimmed for 1 s and switched in at a sample boundary. -/
  | modulatorSubstitution (ch : Fin 48)
  /-- PROVISION (R407). KEY_CMD PROVISION unwraps a blob into a persistent slot. -/
  | provision (src : Src)
  /-- LOAD (R407). KEY_CMD LOAD unwraps a blob into a volatile slot. -/
  | load (src : Src)
  /-- DESTROY (R418). KEY_CMD DESTROY erases a slot unless it is in use by configuration. -/
  | destroy (src : Src)
  /-- OPEN_SESSION (R416). KEY_CMD OPEN_SESSION places a fresh nonce for a session proof. -/
  | openSession (src : Src)
  /-- PROVE (R416). KEY_CMD PROVE checks the proof and opens a session for the source. -/
  | prove (src : Src)
  /-- CLOSE_SESSION (R417). KEY_CMD CLOSE_SESSION ends the source's own session. -/
  | closeSession (src : Src)
  /-- ATTEST (R419). KEY_CMD ATTEST fills KEY_ATT_RESP with a tagged attestation response. -/
  | attest (src : Src)
  /-- LC_ADVANCE (R409). KEY_CMD LC_ADVANCE starts a life-cycle transition forward. -/
  | lcAdvance (src : Src)
  /-- LC_RETURN (R410). KEY_CMD LC_RETURN starts the transition to RETURN under an authority signature. -/
  | lcReturn (src : Src)
  /-- LC_RESET (R410). KEY_CMD LC_RESET returns a RETURN module to BLANK under an authority signature. -/
  | lcReset (src : Src)
  /-- LC_TRANSITION_DONE (R411). A life-cycle transition completes its destruction and writes the new state. -/
  | lcTransitionDone
  /-- SESSION_LAPSE (R417). A session unused for TTL_S ends and SESS_LAPSED is set. Operands: source code. -/
  | sessionLapse (src : Fin 5)
  /-- AUTH_LOCKOUT_END (R416). The 60 s refusal of OPEN_SESSION after three failed proofs ends. Operands: source code. -/
  | authLockoutEnd (src : Fin 5)
  /-- ROOT_SLOT_CHANGE (R413). A change of ROOT_SLOT to another key rebuilds the link key table and resets EPC_GTX_CTR. -/
  | rootSlotChange
  /-- BLOCK_PACKET (R427). A firmware block packet is stored, and a complete block is written and marked. Operands: path,
  packet, and the program attempts that fail. -/
  | blockPacket (path : Machine.BlockPath) (b : List Byte) (fails : Nat)
  /-- BEGIN (R429). UPD_CMD BEGIN clears the inactive bank's bitmap and sets GREENWARE. -/
  | begin
  /-- VERIFY (R430). UPD_CMD VERIFY starts full verification of the inactive bank. -/
  | verify
  /-- VERIFY_VERDICT (R430). The verdict record lands and the bank becomes BISQUE or BAD. -/
  | verifyVerdict
  /-- UPD_ACTIVATE (R432). UPD_CMD ACTIVATE arms activation of a BISQUE bank at an instant. -/
  | updActivate (src : Src)
  /-- CANCEL_ACT (R432). UPD_CMD CANCEL_ACT disarms a pending activation. -/
  | cancelAct
  /-- ACTIVATION_CHECK (R433). At T − 100 ms the activation is deferred past slots or the boot selector is written. -/
  | activationCheck
  /-- ACTIVATION (R433). At the activation instant the module performs a warm or cold start on the new bank. -/
  | activation
  /-- CONFIRM (R437). UPD_CMD CONFIRM marks the glaze bank FIRED and verifies the other bank. -/
  | confirm (src : Src)
  /-- REVERT (R436). UPD_CMD REVERT abandons the glaze image and restarts on the fired bank. -/
  | revert (src : Src)
  /-- CONFIRM_TIMEOUT (R436). CONFIRM_S elapses on a glaze image without CONFIRM and the module reverts. -/
  | confirmTimeout
  /-- EP_START (R439). UPD_CMD EP_START starts an endpoint firmware campaign. -/
  | epStart (src : Src)
  /-- EP_STOP (R442). UPD_CMD EP_STOP ends an endpoint firmware campaign. -/
  | epStop
  /-- CAMPAIGN_ROUND (R441). A campaign round sends FW_OFFER, missing blocks and map requests. -/
  | campaignRound (c : Fin 4)
  /-- FW_MAP (R440). An FW_MAP updates the block list and a complete endpoint is sent FW_COMMIT. -/
  | fwMap (epa : Fin 4096) (id : BitVec 16) (first : BitVec 16) (map : BitVec 256) (l : Machine.LinkInfo)
  /-- FW_RESULT (R442). An FW_RESULT records installation or raises FW_BAD. -/
  | fwResult (epa : Fin 4096) (id : BitVec 16) (result : BitVec 8) (fw : BitVec 32) (l : Machine.LinkInfo)
  /-- LEASE_RENEW (R446). Every 100 ms the active sends RENEW with a new SEQ. -/
  | leaseRenew
  /-- RENEW (R446). A newer RENEW sets the standby's deadline and is answered with GRANT. -/
  | renew (l : Fin 2) (x : Machine.MzRx)
  /-- GRANT (R446). A GRANT extends the active's lease expiry. -/
  | grant (l : Fin 2) (x : Machine.MzRx)
  /-- RENEW_GRANT_TIMEOUT (R446). A RENEW unanswered for 100 ms is counted in RENEW_LOST. -/
  | renewGrantTimeout
  /-- RELEASE_FRAME (R455). A received RELEASE makes the standby claim at once. -/
  | releaseFrame (l : Fin 2) (x : Machine.MzRx)
  /-- CLAIM (R447). A received CLAIM takes part in the election. -/
  | claim (l : Fin 2) (x : Machine.MzRx)
  /-- LEASE_EXPIRY (R446). The active's lease expires and PAIR_OWN is released. -/
  | leaseExpiry
  /-- LEASE_DEADLINE (R447). The standby's deadline passes and it drives PAIR_OWN low if the peer is not owning. -/
  | leaseDeadline
  /-- CLAIM_CONFIRM (R447). After 1 ms holding PAIR_OWN with the peer high, the module becomes active. -/
  | claimConfirm
  /-- PEER_OWN_CHANGE (R452). PAIR_PEER_OWN changes and the module's outputs follow its role. -/
  | peerOwnChange (low : Bool)
  /-- MIRROR_FRAME (R450). The standby applies a complete mirror SEQ or loses SYNCED on a gap. -/
  | mirrorFrame (l : Fin 2) (x : Machine.MzRx)
  /-- HANDOVER (R456). PAIR_CMD HANDOVER passes control to a synced partner after one more delta. -/
  | handover (src : Src)
  /-- ABDICATE (R456). PAIR_CMD ABDICATE abdicates at once. -/
  | abdicate (src : Src)
  /-- PAIR_RESYNC (R456). PAIR_CMD RESYNC on the standby requests a full copy. -/
  | pairResync
  /-- ELECTION_TIMEOUT (R458). An electing module hearing nothing for L + G claims control. -/
  | electionTimeout
  /-- RELEASED_RECLAIM (R457). A released module seeing the peer not owning for L + G claims again. -/
  | releasedReclaim
  /-- TEMP_SAMPLE (R460). Every 1 ms T_J is read and warning, throttle and critical thresholds are judged. Operands: the
  sensors' readings in 0.1 °C. -/
  | tempSample (readings : List Int)
  /-- THROTTLE_STEP (R461). Every 10 s above THROTTLE, one more radio throttle step is added. -/
  | throttleStep
  /-- THROTTLE_RESTORE (R461). After 60 s below RESTORE, one throttle step is removed. -/
  | throttleRestore
  /-- THERMAL_TRIP (R462). T_J at 140 °C for 1 ms isolates NETWORK and COMPUTE in reset. Operands: the sensors' readings in 0.1
  °C. -/
  | thermalTrip (readings : List Int)
  /-- TRIP_RELEASE (R462). After 10 s below RESTORE the trip is released with a warm start. -/
  | tripRelease
  /-- SUPPLY_ALARM (R463). A rail condition held for its time raises a supply warning or critical flag. -/
  | supplyAlarm (rail : Fin 8) (mv : BitVec 16)
  /-- AVS_EVALUATION (R464). Once per second the process margin sets a new VCORE target. Operands: the slowest oscillator and
  its count. -/
  | avsEvaluation (slowest : BitVec 16) (count : BitVec 16)
  /-- BUFFER_BANK_TEST (R466). Every 10 min each buffer bank's free cells are pattern tested. Operands: bank, failing cells, and
  the spares found faulty as one is taken up. -/
  | bufferBankTest (b : Fin 64) (failing : Nat) (bad : Nat)
  /-- LANE_CHECK (R466). Once per second each LFE lane is checked and a failing lane replaced or lost. Operands: the lanes that
  mismatched, and the spares found faulty as one is taken up. -/
  | laneCheck (failing : List (Fin 16)) (bad : Nat)
  /-- RADIO_LOOPBACK (R466). A transceiver loopback test runs at each start and hourly when idle. Operands: channel, whether it
  is worn, and the spares found faulty as one is taken up. -/
  | radioLoopback (ch : Fin 8) (worn : Bool) (bad : Nat)
  /-- NVM_SECTOR_RETIRE (R468). A worn NVM sector is replaced by a spare or by a firing log sector. Operands: sector, and the
  spares found faulty as one is taken up. -/
  | nvmSectorRetire (sector : Fin 896) (bad : Nat)
  /-- LOG_NVM_WRITE (R471). Staged firing log records are written to NVM with their sequence numbers. -/
  | logNvmWrite
  /-- RATE_WINDOW_CLOSE (R472). A rate-limit window closes and a LOG_SUPPRESSED summary is written. -/
  | rateWindowClose (c : Fin 256)
  /-- LOG_CLEAR (R473). LOG_CMD CLEAR erases every record and writes LOG_CLEARED. -/
  | logClear (src : Src)
  /-- LOG_FLUSH (R475). LOG_CMD FLUSH writes the staging buffer at once. -/
  | logFlush
  /-- LOG_RD_SEQ_WRITE (R474). A write of LOG_RD_SEQ copies a record into LOG_RD_DATA and sets LOG_RD_STAT. -/
  | logRdSeqWrite (seq : BitVec 32)
  /-- OPTIME_SECOND (R470). Each second with VCORE powered, OPTIME advances. -/
  | optimeSecond
  /-- CLEAR_STORE_DONE (R57). The erase of all three settings store copies completes, and CLEAR_STORE reports its outcome. -/
  | clearStoreDone
  /-- LOG_CLEAR_DONE (R473). The log erase finishes, LOG_CLEARED is written, the intent is removed and CLEARED is set. -/
  | logClearDone
  /-- CONFIRM_DONE (R437). The verification of the other bank that CONFIRM started ends, the bank becomes BISQUE or BAD, and
  CONFIRM reports DONE. -/
  | confirmDone
  /-- CHANNEL_RESUMES (R292). A radio channel resumes after a spare substitution, and timed frames that fell due during it
  launch and are reported as shifted. -/
  | channelResumes (ch : Fin 8)
  /-- VRF_RECOVERED (R463). VRF has been at or above 3.05 V for 10 ms, so transmissions may start again and held timed frames
  launch. -/
  | vrfRecovered
  /-- USB_SET_CONFIGURATION (R377). The USB host sets or clears configuration 1, changing USB_STAT.CONFIGURED and setting
  CONFIG_CHG. -/
  | usbSetConfiguration (on : Bool)
  /-- JTAG_INSTRUCTION (R489). An IEEE 1149.1 instruction on the JTAG port is served as BYPASS or IDCODE, or is refused outside
  BLANK, PROVISIONED and RETURN. Operands: 0 BYPASS, 1 IDCODE, 2 EXTEST, 3 debug access. -/
  | jtagInstruction (op : Fin 4)
deriving DecidableEq, Repr

end Sys2Proof
end

