-- ==== Sys2Proof/Machine/Bytes.lean ====
section
/-! DEFINITION. Byte order, two's complement, and the check sums the spec fixes: CRC-32 (R38). -/

namespace Sys2Proof.Machine

/-- The low `n` bytes of `v`, least significant first. -/
def leBytes : Nat → Nat → List Byte
  | 0, _ => []
  | n + 1, v => BitVec.ofNat 8 v :: leBytes n (v / 256)

/-- The low `n` bytes of `v`, most significant first. -/
def beBytes (n v : Nat) : List Byte := (leBytes n v).reverse

/-- The value of bytes that stand least significant first. -/
def leVal : List Byte → Nat
  | [] => 0
  | b :: t => b.toNat + 256 * leVal t

/-- The value of bytes that stand most significant first. -/
def beVal (l : List Byte) : Nat := leVal l.reverse

/-- `n` bytes from offset `o`, as a little-endian value; bytes past the end count as 0. -/
def leAt (l : List Byte) (o n : Nat) : Nat := leVal ((l.drop o).take n)

/-- `n` bytes from offset `o`, as a big-endian value. -/
def beAt (l : List Byte) (o n : Nat) : Nat := beVal ((l.drop o).take n)

/-- The `w`-bit two's complement reading of `v`. -/
def toSigned (w v : Nat) : Int :=
  let u := v % 2 ^ w
  if 2 * u ≥ 2 ^ w then (u : Int) - (2 ^ w : Nat) else u

/-- The `w`-bit two's complement pattern of `i`. -/
def ofSigned (w : Nat) (i : Int) : Nat := (i % (2 ^ w : Nat)).toNat

/-- The `w`-bit pattern of `i`, saturating at the ends of the signed range. -/
def ofSignedSat (w : Nat) (i : Int) : Nat :=
  let hi : Int := (2 ^ (w - 1) : Nat)
  ofSigned w (if i ≥ hi then hi - 1 else if i < -hi then -hi else i)

/-- `v` held between `lo` and `hi`. -/
def clampN (lo hi v : Nat) : Nat := if v < lo then lo else if v > hi then hi else v

/-- `v` held between `lo` and `hi`, signed. -/
def clampI (lo hi v : Int) : Int := if v < lo then lo else if v > hi then hi else v

/-- Bit `k` of `v`. -/
def bitOf (v k : Nat) : Bool := v / 2 ^ k % 2 == 1

/-- One bit through the reflected CRC-32 register (polynomial 0x04C1_1DB7 reflected, R38). -/
def crcBit (c : Nat) : Nat := if c % 2 == 1 then (c / 2) ^^^ 0xEDB88320 else c / 2

/-- One byte through the CRC-32 register. -/
def crcByte (c : Nat) (b : Byte) : Nat :=
  crcBit (crcBit (crcBit (crcBit (crcBit (crcBit (crcBit (crcBit (c ^^^ b.toNat))))))))

/-- CRC-32 with the parameters of R38. -/
def crc32 (l : List Byte) : Nat := (l.foldl crcByte 0xFFFFFFFF) ^^^ 0xFFFFFFFF

/-- Rounded quotient, halves away from zero; a zero divisor gives 0. -/
def divRound (a b : Nat) : Nat := if b = 0 then 0 else (2 * a + b) / (2 * b)

/-- Rounded quotient of integers, halves away from zero. -/
def divRoundI (a : Int) (b : Nat) : Int :=
  if a < 0 then -(divRound a.natAbs b : Int) else (divRound a.natAbs b : Int)

/-- The quotient rounded up; a zero divisor gives 0. -/
def divUp (a b : Nat) : Nat := if b = 0 then 0 else (a + b - 1) / b

/-- All members of a list in the order of a key, smallest first (a stable insertion sort). -/
def insertBy {α : Type} (f : α → Nat) (x : α) : List α → List α
  | [] => [x]
  | y :: t => if f x ≤ f y then x :: y :: t else y :: insertBy f x t

def sortBy {α : Type} (f : α → Nat) : List α → List α
  | [] => []
  | x :: t => insertBy f x (sortBy f t)

/-- The list with place `i` changed by `f`; unchanged where there is no such place. -/
def updAt {α : Type} (l : List α) (i : Nat) (f : α → α) : List α :=
  match l, i with
  | [], _ => []
  | x :: t, 0 => f x :: t
  | x :: t, i + 1 => x :: updAt t i f

end Sys2Proof.Machine
end

