-- ==== Sys2Proof/Machine/RegMap.lean ====
section
/-! DEFINITION. The register map: every register of the spec's register tables, with its fields,
access codes, change classes and reset values (R8, R13, and the register tables of each chapter). -/

namespace Sys2Proof.Machine

/-- Registers of block SYS, part 0. -/
def mapSys0 : List RegDesc := [
  ⟨0x0, [], false,
    [⟨31, 16, .ro, .l, 0x7a1c⟩, ⟨15, 8, .ro, .l, 0x1⟩]⟩,
  ⟨0x4, [], false,
    [⟨31, 16, .ro, .l, 0x4096⟩, ⟨15, 8, .ro, .l, 0x2⟩, ⟨7, 0, .ro, .l, 0x1⟩]⟩,
  ⟨0x8, [], false,
    [⟨31, 24, .ro, .l, 0x10⟩, ⟨23, 16, .ro, .l, 0x40⟩, ⟨15, 0, .ro, .l, 0x1000⟩]⟩,
  ⟨0xc, [], false,
    [⟨31, 24, .ro, .l, 0x20⟩, ⟨23, 16, .ro, .l, 0x40⟩, ⟨15, 8, .ro, .l, 0x30⟩, ⟨7, 0, .ro, .l, 0x8⟩]⟩,
  ⟨0x10, [], false,
    [⟨21, 16, .ro, .l, 0x3f⟩, ⟨15, 0, .ro, .l, 0x100⟩]⟩,
  ⟨0x14, [], false,
    [⟨31, 0, .ro, .l, 0x0⟩]⟩,
  ⟨0x18, [], false,
    [⟨31, 0, .ro, .l, 0x0⟩]⟩,
  ⟨0x1c, [], false,
    [⟨31, 31, .ro, .l, 0x0⟩, ⟨21, 16, .ro, .l, 0x0⟩, ⟨13, 0, .ro, .l, 0x0⟩]⟩,
  ⟨0x100, [], false,
    [⟨24, 24, .ro, .l, 0x0⟩, ⟨23, 0, .ro, .l, 0x0⟩]⟩,
  ⟨0x104, [], false,
    [⟨24, 0, .rw, .l, 0x0⟩]⟩,
  ⟨0x108, [], false,
    [⟨17, 17, .rw, .l, 0x1⟩, ⟨16, 16, .rw, .l, 0x0⟩, ⟨15, 0, .rw, .l, 0xa⟩]⟩,
  ⟨0x110, [], false,
    [⟨15, 12, .ro, .l, 0x0⟩, ⟨11, 10, .ro, .l, 0x0⟩, ⟨9, 9, .ro, .l, 0x0⟩, ⟨8, 8, .w1c, .l, 0x0⟩, ⟨4, 4, .w1c, .l, 0x0⟩, ⟨3, 3, .w1c, .l, 0x0⟩, ⟨2, 2, .w1c, .l, 0x0⟩, ⟨1, 1, .w1c, .l, 0x0⟩, ⟨0, 0, .w1c, .l, 0x0⟩]⟩,
  ⟨0x114, [], false,
    [⟨25, 0, .ro, .l, 0x0⟩]⟩,
  ⟨0x120, [], false,
    [⟨9, 9, .w1c, .l, 0x0⟩, ⟨8, 8, .w1c, .l, 0x0⟩, ⟨7, 7, .w1c, .l, 0x0⟩, ⟨6, 6, .w1c, .l, 0x0⟩, ⟨5, 5, .w1c, .l, 0x0⟩, ⟨4, 4, .w1c, .l, 0x0⟩, ⟨3, 3, .w1c, .l, 0x0⟩, ⟨2, 2, .w1c, .l, 0x0⟩, ⟨1, 1, .w1c, .l, 0x0⟩, ⟨0, 0, .w1c, .l, 0x0⟩]⟩,
  ⟨0x130, [], false,
    [⟨0, 0, .w1c, .l, 0x0⟩]⟩,
  ⟨0x140, [], false,
    [⟨1, 1, .w1c, .l, 0x0⟩, ⟨0, 0, .w1c, .l, 0x0⟩]⟩,
  ⟨0x144, [], false,
    [⟨1, 0, .rw, .l, 0x0⟩]⟩,
  ⟨0x2000, [], false,
    [⟨7, 0, .rw, .l, 0x0⟩]⟩,
  ⟨0x2004, [], false,
    [⟨15, 8, .ro, .l, 0x0⟩, ⟨7, 0, .ro, .l, 0x0⟩]⟩,
  ⟨0x2008, [], false,
    [⟨11, 0, .rw, .l, 0x0⟩]⟩,
  ⟨0x200c, [], false,
    [⟨31, 0, .rw, .l, 0x0⟩]⟩,
  ⟨0x2010, [], false,
    [⟨31, 0, .rw, .l, 0x0⟩]⟩,
  ⟨0x2014, [], false,
    [⟨28, 16, .ro, .l, 0x0⟩, ⟨12, 0, .ro, .l, 0x0⟩]⟩,
  ⟨0x2018, [], false,
    [⟨16, 16, .ro, .l, 0x0⟩, ⟨15, 0, .ro, .l, 0x0⟩]⟩]

/-- Registers of block SYS, part 1. -/
def mapSys1 : List RegDesc := [
  ⟨0x201c, [], false,
    [⟨31, 31, .rw, .l, 0x0⟩, ⟨23, 16, .rw, .h, 0x0⟩, ⟨10, 0, .rw, .h, 0x1e⟩]⟩,
  ⟨0x2020, [], false,
    [⟨16, 0, .rw, .h, 0x384⟩]⟩,
  ⟨0x2024, [], false,
    [⟨31, 16, .rw, .h, 0xccd⟩, ⟨3, 0, .rw, .h, 0x2⟩]⟩,
  ⟨0x2028, [], false,
    [⟨15, 0, .rw, .h, 0x7d0⟩]⟩,
  ⟨0x202c, [], false,
    [⟨31, 0, .ro, .l, 0x0⟩]⟩,
  ⟨0x2030, [], false,
    [⟨31, 0, .rar, .l, 0x0⟩]⟩,
  ⟨0x2034, [], false,
    [⟨31, 0, .rar, .l, 0x0⟩]⟩,
  ⟨0x2038, [], false,
    [⟨1, 1, .w1c, .l, 0x0⟩, ⟨0, 0, .ro, .l, 0x0⟩]⟩,
  ⟨0x203c, [], false,
    [⟨31, 24, .rc, .l, 0x0⟩, ⟨23, 16, .rc, .l, 0x0⟩, ⟨7, 0, .rc, .l, 0x0⟩]⟩,
  ⟨0x2040, [], false,
    [⟨31, 31, .ro, .l, 0x0⟩, ⟨11, 0, .ro, .l, 0x0⟩]⟩,
  ⟨0x2080, [], false,
    [⟨6, 6, .w1c, .l, 0x0⟩, ⟨5, 5, .w1c, .l, 0x0⟩, ⟨4, 4, .w1c, .l, 0x0⟩, ⟨3, 3, .w1c, .l, 0x0⟩, ⟨2, 2, .w1c, .l, 0x0⟩, ⟨1, 1, .w1c, .l, 0x0⟩, ⟨0, 0, .w1c, .l, 0x0⟩]⟩,
  ⟨0x2084, [], false,
    [⟨6, 0, .rw, .l, 0x0⟩]⟩]

/-- The registers of block SYS, in offset order. -/
def mapSys : List RegDesc := mapSys0 ++ mapSys1

/-- The registers of block CFG, in offset order. -/
def mapCfg : List RegDesc := [
  ⟨0x10000, [], false,
    [⟨7, 0, .rw, .l, 0x0⟩]⟩,
  ⟨0x10004, [], false,
    [⟨15, 8, .ro, .l, 0x0⟩, ⟨7, 0, .ro, .l, 0x0⟩]⟩,
  ⟨0x10008, [], false,
    [⟨31, 24, .ro, .l, 0xff⟩, ⟨23, 16, .ro, .l, 0x0⟩, ⟨7, 7, .ro, .l, 0x0⟩, ⟨6, 6, .ro, .l, 0x0⟩, ⟨5, 5, .ro, .l, 0x0⟩, ⟨4, 4, .ro, .l, 0x0⟩, ⟨3, 3, .ro, .l, 0x0⟩, ⟨2, 2, .ro, .l, 0x0⟩, ⟨1, 1, .ro, .l, 0x0⟩, ⟨0, 0, .ro, .l, 0x0⟩]⟩,
  ⟨0x1000c, [], false,
    [⟨31, 0, .ro, .l, 0x0⟩]⟩,
  ⟨0x10010, [], false,
    [⟨31, 0, .ro, .l, 0x0⟩]⟩,
  ⟨0x10014, [], false,
    [⟨31, 0, .ro, .l, 0x0⟩]⟩,
  ⟨0x10018, [], false,
    [⟨31, 0, .ro, .l, 0x0⟩]⟩,
  ⟨0x10020, [(8, 0x4)], false,
    [⟨31, 0, .ro, .l, 0x0⟩]⟩,
  ⟨0x10040, [], false,
    [⟨31, 0, .rw, .l, 0xffffffff⟩]⟩,
  ⟨0x10044, [], false,
    [⟨31, 0, .rw, .l, 0xffffffff⟩]⟩,
  ⟨0x10060, [(8, 0x4)], false,
    [⟨31, 0, .ro, .l, 0x0⟩]⟩,
  ⟨0x10080, [], false,
    [⟨3, 3, .w1c, .l, 0x0⟩, ⟨2, 2, .w1c, .l, 0x0⟩, ⟨1, 1, .w1c, .l, 0x0⟩, ⟨0, 0, .w1c, .l, 0x0⟩]⟩,
  ⟨0x10084, [], false,
    [⟨3, 0, .rw, .l, 0x0⟩]⟩]

/-- The registers of block PWR, in offset order. -/
def mapPwr : List RegDesc := [
  ⟨0x20000, [], false,
    [⟨7, 0, .rw, .l, 0x0⟩]⟩,
  ⟨0x20004, [], false,
    [⟨15, 8, .ro, .l, 0x0⟩, ⟨7, 0, .ro, .l, 0x0⟩]⟩,
  ⟨0x20008, [], false,
    [⟨4, 4, .ro, .l, 0x0⟩, ⟨2, 0, .ro, .l, 0x2⟩]⟩,
  ⟨0x2000c, [], false,
    [⟨0, 0, .w1p, .l, 0x0⟩]⟩,
  ⟨0x20010, [], false,
    [⟨11, 0, .rw, .l, 0x1e⟩]⟩,
  ⟨0x20014, [], false,
    [⟨16, 16, .rw, .l, 0x1⟩, ⟨10, 0, .rw, .l, 0xf⟩]⟩,
  ⟨0x20018, [], false,
    [⟨0, 0, .rw, .l, 0x0⟩]⟩,
  ⟨0x2001c, [], false,
    [⟨9, 0, .rw, .l, 0x1cf⟩]⟩,
  ⟨0x20020, [], false,
    [⟨9, 0, .w1c, .l, 0x0⟩]⟩,
  ⟨0x20024, [], false,
    [⟨23, 16, .rw, .l, 0x4⟩, ⟨15, 8, .rw, .l, 0x0⟩, ⟨7, 0, .rw, .l, 0x0⟩]⟩,
  ⟨0x20028, [], false,
    [⟨6, 0, .rw, .l, 0x3a⟩]⟩,
  ⟨0x2002c, [], false,
    [⟨31, 16, .rw, .l, 0x3e8⟩, ⟨0, 0, .rw, .l, 0x0⟩]⟩,
  ⟨0x20030, [], false,
    [⟨15, 0, .rw, .l, 0x0⟩]⟩,
  ⟨0x20034, [], false,
    [⟨16, 16, .ro, .l, 0x0⟩, ⟨15, 0, .ro, .l, 0x320⟩]⟩,
  ⟨0x20038, [], false,
    [⟨13, 8, .rw, .l, 0x0⟩, ⟨1, 1, .rw, .l, 0x0⟩, ⟨0, 0, .rw, .l, 0x0⟩]⟩,
  ⟨0x20080, [], false,
    [⟨3, 3, .w1c, .l, 0x0⟩, ⟨2, 2, .w1c, .l, 0x0⟩, ⟨1, 1, .w1c, .l, 0x0⟩, ⟨0, 0, .w1c, .l, 0x0⟩]⟩,
  ⟨0x20084, [], false,
    [⟨3, 0, .rw, .l, 0x0⟩]⟩]

/-- The registers of block EMB, in offset order. -/
def mapEmb : List RegDesc := [
  ⟨0x30000, [], false,
    [⟨7, 0, .rw, .l, 0x0⟩]⟩,
  ⟨0x30004, [], false,
    [⟨15, 8, .ro, .l, 0x0⟩, ⟨7, 0, .ro, .l, 0x0⟩]⟩,
  ⟨0x30008, [], false,
    [⟨5, 5, .ro, .l, 0x0⟩, ⟨4, 4, .w1c, .l, 0x0⟩, ⟨3, 3, .w1c, .l, 0x0⟩, ⟨2, 2, .ro, .l, 0x0⟩, ⟨1, 1, .ro, .l, 0x1⟩]⟩,
  ⟨0x30010, [], false,
    [⟨20, 16, .rw, .l, 0x0⟩, ⟨13, 8, .rw, .l, 0x0⟩, ⟨5, 0, .rw, .l, 0x0⟩]⟩,
  ⟨0x30014, [], false,
    [⟨30, 28, .ro, .l, 0x5⟩, ⟨23, 16, .rw, .l, 0x0⟩, ⟨11, 8, .rw, .l, 0x1⟩, ⟨4, 0, .rw, .l, 0x1⟩]⟩,
  ⟨0x30018, [], false,
    [⟨14, 0, .ro, .l, 0x0⟩]⟩,
  ⟨0x30020, [(2, 0x8)], false,
    [⟨31, 31, .rw, .l, 0x0⟩, ⟨30, 30, .rw, .l, 0x0⟩, ⟨20, 16, .rw, .l, 0x0⟩, ⟨13, 8, .rw, .l, 0x0⟩, ⟨5, 0, .rw, .l, 0x0⟩]⟩,
  ⟨0x30024, [(2, 0x8)], false,
    [⟨23, 16, .rw, .l, 0x0⟩, ⟨11, 8, .rw, .l, 0x1⟩, ⟨4, 0, .rw, .l, 0x1⟩]⟩,
  ⟨0x30030, [], false,
    [⟨31, 31, .rw, .l, 0x0⟩, ⟨24, 0, .rw, .l, 0x100⟩]⟩,
  ⟨0x30040, [], false,
    [⟨20, 16, .ro, .l, 0x0⟩, ⟨13, 8, .ro, .l, 0x0⟩, ⟨5, 0, .ro, .l, 0x0⟩]⟩,
  ⟨0x30044, [], false,
    [⟨30, 28, .ro, .l, 0x0⟩, ⟨23, 16, .ro, .l, 0x0⟩, ⟨11, 8, .ro, .l, 0x0⟩, ⟨4, 0, .ro, .l, 0x0⟩]⟩,
  ⟨0x30048, [], false,
    [⟨14, 0, .ro, .l, 0x0⟩]⟩,
  ⟨0x30050, [], false,
    [⟨31, 16, .ro, .l, 0x0⟩, ⟨15, 0, .ro, .l, 0x0⟩]⟩,
  ⟨0x30054, [], false,
    [⟨31, 31, .ro, .l, 0x0⟩, ⟨20, 0, .ro, .l, 0x0⟩]⟩,
  ⟨0x30058, [], false,
    [⟨23, 0, .ro, .l, 0x0⟩]⟩,
  ⟨0x30060, [], false,
    [⟨1, 1, .rw, .l, 0x0⟩, ⟨0, 0, .rw, .l, 0x0⟩]⟩,
  ⟨0x30064, [], false,
    [⟨3, 3, .rw, .l, 0x0⟩, ⟨2, 2, .rw, .l, 0x0⟩, ⟨1, 1, .rw, .l, 0x0⟩, ⟨0, 0, .rw, .l, 0x1⟩]⟩,
  ⟨0x30080, [], false,
    [⟨5, 5, .w1c, .l, 0x0⟩, ⟨4, 4, .w1c, .l, 0x0⟩, ⟨3, 3, .w1c, .l, 0x0⟩, ⟨2, 2, .w1c, .l, 0x0⟩, ⟨1, 1, .w1c, .l, 0x0⟩, ⟨0, 0, .w1c, .l, 0x0⟩]⟩,
  ⟨0x30084, [], false,
    [⟨5, 0, .rw, .l, 0x0⟩]⟩,
  ⟨0x30100, [(32, 0x4)], false,
    [⟨31, 0, .rw, .l, 0x0⟩]⟩]

/-- The registers of block HLT, in offset order. -/
def mapHlt : List RegDesc := [
  ⟨0x40000, [], false,
    [⟨31, 31, .w1c, .l, 0x0⟩, ⟨30, 30, .ro, .l, 0x0⟩, ⟨29, 29, .ro, .l, 0x0⟩, ⟨28, 28, .ro, .l, 0x0⟩, ⟨27, 27, .ro, .l, 0x0⟩, ⟨26, 26, .ro, .l, 0x0⟩]⟩,
  ⟨0x40004, [], false,
    [⟨31, 16, .ro, .l, 0x0⟩, ⟨2, 0, .ro, .l, 0x0⟩]⟩,
  ⟨0x40008, [], false,
    [⟨31, 24, .rw, .h, 0x6e⟩, ⟨23, 16, .rw, .h, 0x78⟩, ⟨15, 8, .rw, .h, 0x7d⟩, ⟨7, 0, .rw, .h, 0x73⟩]⟩,
  ⟨0x4000c, [], false,
    [⟨31, 16, .ro, .l, 0x320⟩, ⟨15, 0, .ro, .l, 0x0⟩]⟩,
  ⟨0x40010, [], false,
    [⟨31, 16, .ro, .l, 0x0⟩, ⟨15, 0, .ro, .l, 0x0⟩]⟩,
  ⟨0x40014, [], false,
    [⟨31, 16, .ro, .l, 0x0⟩]⟩,
  ⟨0x40018, [(4, 0x4)], false,
    [⟨15, 0, .ro, .l, 0x0⟩]⟩,
  ⟨0x40028, [], false,
    [⟨31, 16, .ro, .l, 0x0⟩, ⟨3, 0, .ro, .l, 0x0⟩]⟩,
  ⟨0x4002c, [], false,
    [⟨31, 31, .rw, .h, 0x1⟩, ⟨24, 16, .rw, .h, 0x12c⟩, ⟨8, 0, .rw, .h, 0x64⟩]⟩,
  ⟨0x40030, [], false,
    [⟨31, 24, .ro, .l, 0x40⟩, ⟨23, 16, .ro, .l, 0x10⟩, ⟨15, 8, .ro, .l, 0x10⟩, ⟨7, 0, .ro, .l, 0x8⟩]⟩,
  ⟨0x40034, [], false,
    [⟨31, 24, .ro, .l, 0x30⟩, ⟨13, 0, .ro, .l, 0x2000⟩]⟩,
  ⟨0x40038, [], false,
    [⟨31, 28, .ro, .l, 0x4⟩, ⟨27, 24, .ro, .l, 0x1⟩, ⟨23, 20, .ro, .l, 0x2⟩, ⟨19, 16, .ro, .l, 0x1⟩, ⟨15, 12, .ro, .l, 0x4⟩, ⟨7, 0, .ro, .l, 0x80⟩]⟩,
  ⟨0x4003c, [], false,
    [⟨31, 28, .ro, .l, 0x0⟩, ⟨27, 16, .ro, .l, 0x0⟩, ⟨15, 15, .ro, .l, 0x0⟩, ⟨7, 0, .ro, .l, 0x0⟩]⟩,
  ⟨0x40040, [], false,
    [⟨15, 0, .rw, .s, 0x0⟩]⟩,
  ⟨0x40080, [], false,
    [⟨3, 3, .w1c, .l, 0x0⟩, ⟨2, 2, .w1c, .l, 0x0⟩, ⟨1, 1, .w1c, .l, 0x0⟩, ⟨0, 0, .w1c, .l, 0x0⟩]⟩,
  ⟨0x40084, [], false,
    [⟨3, 0, .rw, .l, 0x0⟩]⟩]

/-- The registers of block LOG, in offset order. -/
def mapLog : List RegDesc := [
  ⟨0x50000, [], false,
    [⟨7, 0, .rw, .l, 0x0⟩]⟩,
  ⟨0x50004, [], false,
    [⟨15, 8, .ro, .l, 0x0⟩, ⟨7, 0, .ro, .l, 0x0⟩]⟩,
  ⟨0x50008, [], false,
    [⟨31, 0, .ro, .l, 0x0⟩]⟩,
  ⟨0x5000c, [], false,
    [⟨31, 0, .ro, .l, 0x0⟩]⟩,
  ⟨0x50010, [], false,
    [⟨31, 0, .rw, .l, 0x0⟩]⟩,
  ⟨0x50014, [], false,
    [⟨31, 31, .ro, .l, 0x0⟩, ⟨30, 30, .ro, .l, 0x0⟩, ⟨29, 29, .ro, .l, 0x0⟩, ⟨28, 28, .ro, .l, 0x0⟩]⟩,
  ⟨0x50020, [(8, 0x4)], false,
    [⟨31, 0, .ro, .l, 0x0⟩]⟩,
  ⟨0x50040, [], false,
    [⟨31, 16, .rc, .l, 0x0⟩, ⟨15, 8, .rc, .l, 0x0⟩, ⟨7, 0, .rc, .l, 0x0⟩]⟩,
  ⟨0x50044, [], false,
    [⟨31, 0, .ro, .l, 0x0⟩]⟩,
  ⟨0x50048, [], false,
    [⟨23, 0, .ro, .l, 0x0⟩]⟩,
  ⟨0x5004c, [], false,
    [⟨2, 0, .rw, .l, 0x3⟩]⟩,
  ⟨0x50080, [], false,
    [⟨3, 3, .w1c, .l, 0x0⟩, ⟨2, 2, .w1c, .l, 0x0⟩, ⟨1, 1, .w1c, .l, 0x0⟩, ⟨0, 0, .w1c, .l, 0x0⟩]⟩,
  ⟨0x50084, [], false,
    [⟨3, 0, .rw, .l, 0x0⟩]⟩,
  ⟨0x50400, [(256, 0x4)], false,
    [⟨31, 31, .rw, .h, 0x0⟩, ⟨23, 16, .rw, .h, 0x10⟩, ⟨15, 0, .rw, .h, 0x3c⟩]⟩,
  ⟨0x50800, [(24, 0x100), (64, 0x4)], false,
    [⟨15, 8, .rw, .h, 0x0⟩, ⟨2, 0, .rw, .h, 0x0⟩]⟩]

/-- The registers of block KEY, in offset order. -/
def mapKey : List RegDesc := [
  ⟨0x60000, [], false,
    [⟨7, 0, .rw, .l, 0x0⟩]⟩,
  ⟨0x60004, [], false,
    [⟨15, 8, .ro, .l, 0x0⟩, ⟨7, 0, .ro, .l, 0x0⟩]⟩,
  ⟨0x60008, [], false,
    [⟨15, 8, .rw, .l, 0x0⟩, ⟨7, 0, .rw, .l, 0x0⟩]⟩,
  ⟨0x6000c, [], false,
    [⟨8, 8, .ro, .l, 0x0⟩, ⟨7, 4, .ro, .l, 0x0⟩, ⟨3, 3, .ro, .l, 0x0⟩, ⟨2, 0, .ro, .l, 0x0⟩]⟩,
  ⟨0x60010, [], false,
    [⟨7, 0, .rw, .h, 0xff⟩]⟩,
  ⟨0x60014, [], false,
    [⟨15, 0, .rw, .h, 0x12c⟩]⟩,
  ⟨0x60018, [], false,
    [⟨31, 0, .ro, .l, 0x0⟩]⟩,
  ⟨0x6001c, [], false,
    [⟨31, 16, .rc, .l, 0x0⟩, ⟨15, 0, .rc, .l, 0x0⟩]⟩,
  ⟨0x60020, [(8, 0x4)], false,
    [⟨31, 0, .ro, .l, 0x0⟩]⟩,
  ⟨0x60040, [(8, 0x4)], false,
    [⟨31, 0, .rw, .l, 0x0⟩]⟩,
  ⟨0x60060, [(8, 0x4)], false,
    [⟨31, 0, .ro, .l, 0x0⟩]⟩,
  ⟨0x60080, [], false,
    [⟨5, 5, .w1c, .l, 0x0⟩, ⟨4, 4, .w1c, .l, 0x0⟩, ⟨3, 3, .w1c, .l, 0x0⟩, ⟨2, 2, .w1c, .l, 0x0⟩, ⟨1, 1, .w1c, .l, 0x0⟩, ⟨0, 0, .w1c, .l, 0x0⟩]⟩,
  ⟨0x60084, [], false,
    [⟨5, 0, .rw, .l, 0x0⟩]⟩,
  ⟨0x60100, [(16, 0x4)], false,
    [⟨31, 0, .ro, .l, 0x0⟩]⟩,
  ⟨0x60140, [(16, 0x4)], false,
    [⟨31, 0, .rw, .l, 0x0⟩]⟩,
  ⟨0x60180, [(24, 0x4)], false,
    [⟨31, 0, .rw, .l, 0x0⟩]⟩,
  ⟨0x60200, [(40, 0x4)], false,
    [⟨31, 0, .rw, .l, 0x0⟩]⟩,
  ⟨0x60300, [(8, 0x4)], false,
    [⟨31, 0, .rw, .l, 0x0⟩]⟩,
  ⟨0x60400, [(60, 0x4)], false,
    [⟨31, 0, .ro, .l, 0x0⟩]⟩,
  ⟨0x61000, [(256, 0x10)], false,
    [⟨31, 30, .ro, .l, 0x0⟩, ⟨29, 29, .ro, .l, 0x0⟩, ⟨28, 28, .ro, .l, 0x0⟩, ⟨27, 24, .ro, .l, 0x0⟩, ⟨23, 19, .ro, .l, 0x0⟩, ⟨15, 0, .ro, .l, 0x0⟩]⟩,
  ⟨0x61004, [(256, 0x10)], false,
    [⟨31, 0, .ro, .l, 0x0⟩]⟩,
  ⟨0x61008, [(256, 0x10)], false,
    [⟨31, 0, .ro, .l, 0x0⟩]⟩]

/-- Registers of block UPD, part 0. -/
def mapUpd0 : List RegDesc := [
  ⟨0x70000, [], false,
    [⟨7, 0, .rw, .l, 0x0⟩]⟩,
  ⟨0x70004, [], false,
    [⟨15, 8, .ro, .l, 0x0⟩, ⟨7, 0, .ro, .l, 0x0⟩]⟩,
  ⟨0x70008, [], false,
    [⟨31, 31, .rw, .l, 0x0⟩, ⟨30, 30, .rw, .l, 0x0⟩, ⟨7, 0, .rw, .l, 0x0⟩]⟩,
  ⟨0x7000c, [], false,
    [⟨29, 0, .rw, .l, 0x0⟩]⟩,
  ⟨0x70010, [], false,
    [⟨31, 0, .rw, .l, 0x0⟩]⟩,
  ⟨0x70014, [], false,
    [⟨15, 0, .rw, .l, 0x0⟩]⟩,
  ⟨0x70018, [], false,
    [⟨31, 31, .ro, .l, 0x0⟩, ⟨30, 30, .w1c, .l, 0x0⟩, ⟨29, 29, .w1c, .l, 0x0⟩, ⟨28, 28, .ro, .l, 0x0⟩, ⟨25, 24, .ro, .l, 0x0⟩, ⟨21, 20, .ro, .l, 0x0⟩, ⟨15, 8, .ro, .l, 0x0⟩]⟩,
  ⟨0x7001c, [], false,
    [⟨31, 24, .rw, .h, 0x3⟩, ⟨15, 0, .rw, .h, 0x258⟩]⟩,
  ⟨0x70020, [], false,
    [⟨31, 31, .rw, .h, 0x0⟩, ⟨20, 16, .rw, .h, 0x0⟩, ⟨15, 0, .rw, .h, 0xbaf2⟩]⟩,
  ⟨0x70024, [], false,
    [⟨15, 0, .ro, .l, 0x0⟩]⟩,
  ⟨0x70028, [], false,
    [⟨15, 0, .ro, .l, 0x0⟩]⟩,
  ⟨0x7002c, [], false,
    [⟨18, 16, .rw, .h, 0x1⟩, ⟨15, 0, .rw, .h, 0x78⟩]⟩,
  ⟨0x70030, [], false,
    [⟨31, 16, .rc, .l, 0x0⟩, ⟨15, 0, .rc, .l, 0x0⟩]⟩,
  ⟨0x70040, [(2, 0x10)], false,
    [⟨31, 29, .ro, .l, 0x0⟩, ⟨23, 16, .ro, .l, 0x0⟩, ⟨15, 0, .ro, .l, 0x0⟩]⟩,
  ⟨0x70044, [(2, 0x10)], false,
    [⟨31, 0, .ro, .l, 0x0⟩]⟩,
  ⟨0x70048, [(2, 0x10)], false,
    [⟨31, 16, .ro, .l, 0x0⟩, ⟨15, 0, .ro, .l, 0x0⟩]⟩,
  ⟨0x7004c, [(2, 0x10)], false,
    [⟨15, 0, .ro, .l, 0x0⟩]⟩,
  ⟨0x70080, [], false,
    [⟨5, 5, .w1c, .l, 0x0⟩, ⟨4, 4, .w1c, .l, 0x0⟩, ⟨3, 3, .w1c, .l, 0x0⟩, ⟨2, 2, .w1c, .l, 0x0⟩, ⟨1, 1, .w1c, .l, 0x0⟩, ⟨0, 0, .w1c, .l, 0x0⟩]⟩,
  ⟨0x70084, [], false,
    [⟨5, 0, .rw, .l, 0x0⟩]⟩,
  ⟨0x70100, [(2, 0x40), (12, 0x4)], false,
    [⟨31, 0, .ro, .l, 0x0⟩]⟩,
  ⟨0x70200, [(4, 0x40)], false,
    [⟨31, 31, .ro, .l, 0x0⟩, ⟨23, 16, .rw, .s, 0x0⟩, ⟨15, 8, .rw, .s, 0x0⟩, ⟨7, 0, .rw, .s, 0x0⟩]⟩,
  ⟨0x70204, [(4, 0x40)], false,
    [⟨31, 0, .rw, .s, 0x0⟩]⟩,
  ⟨0x70208, [(4, 0x40)], false,
    [⟨31, 0, .rw, .s, 0x0⟩]⟩,
  ⟨0x7020c, [(4, 0x40)], false,
    [⟨31, 0, .rw, .s, 0x0⟩]⟩]

/-- Registers of block UPD, part 1. -/
def mapUpd1 : List RegDesc := [
  ⟨0x70210, [(4, 0x40)], false,
    [⟨31, 16, .ro, .l, 0x0⟩, ⟨15, 0, .rw, .s, 0x0⟩]⟩,
  ⟨0x70214, [(4, 0x40)], false,
    [⟨31, 16, .rw, .s, 0x0⟩, ⟨15, 0, .rw, .s, 0x3c⟩]⟩,
  ⟨0x70218, [(4, 0x40)], false,
    [⟨31, 16, .ro, .l, 0x0⟩, ⟨15, 0, .ro, .l, 0x0⟩]⟩,
  ⟨0x7021c, [(4, 0x40)], false,
    [⟨31, 16, .ro, .l, 0x0⟩, ⟨15, 0, .ro, .l, 0x0⟩]⟩]

/-- The registers of block UPD, in offset order. -/
def mapUpd : List RegDesc := mapUpd0 ++ mapUpd1

/-- Registers of block NTU, part 0. -/
def mapNtu0 : List RegDesc := [
  ⟨0x80000, [], false,
    [⟨7, 0, .rw, .l, 0x0⟩]⟩,
  ⟨0x80004, [], false,
    [⟨15, 8, .ro, .l, 0x0⟩, ⟨7, 0, .ro, .l, 0x0⟩]⟩,
  ⟨0x80008, [], false,
    [⟨3, 0, .rw, .l, 0x0⟩]⟩,
  ⟨0x8000c, [], false,
    [⟨31, 31, .rw, .l, 0x0⟩, ⟨30, 30, .rw, .s, 0x0⟩]⟩,
  ⟨0x80010, [], false,
    [⟨31, 31, .ro, .l, 0x0⟩, ⟨30, 30, .ro, .l, 0x0⟩, ⟨26, 24, .ro, .l, 0x0⟩, ⟨23, 20, .ro, .l, 0xf⟩, ⟨19, 19, .ro, .l, 0x0⟩, ⟨18, 18, .w1c, .l, 0x0⟩, ⟨17, 17, .w1c, .l, 0x0⟩]⟩,
  ⟨0x80014, [], false,
    [⟨31, 31, .ro, .l, 0x0⟩, ⟨29, 0, .ro, .l, 0x0⟩]⟩,
  ⟨0x80018, [], false,
    [⟨31, 0, .ro, .l, 0x0⟩]⟩,
  ⟨0x8001c, [], false,
    [⟨31, 16, .ro, .l, 0x0⟩, ⟨15, 0, .ro, .l, 0x0⟩]⟩,
  ⟨0x80020, [], false,
    [⟨31, 0, .ro, .l, 0x0⟩]⟩,
  ⟨0x80024, [], false,
    [⟨31, 0, .ro, .l, 0x0⟩]⟩,
  ⟨0x80028, [], false,
    [⟨31, 0, .ro, .l, 0x0⟩]⟩,
  ⟨0x8002c, [], false,
    [⟨31, 0, .ro, .l, 0x0⟩]⟩,
  ⟨0x80030, [], false,
    [⟨31, 0, .rw, .l, 0x0⟩]⟩,
  ⟨0x80034, [], false,
    [⟨31, 0, .rw, .l, 0x0⟩]⟩,
  ⟨0x80038, [], false,
    [⟨15, 0, .rw, .h, 0x32⟩]⟩,
  ⟨0x8003c, [], false,
    [⟨29, 0, .rw, .h, 0xf4240⟩]⟩,
  ⟨0x80040, [], false,
    [⟨31, 0, .rw, .l, 0x0⟩]⟩,
  ⟨0x80044, [], false,
    [⟨31, 0, .rw, .l, 0x0⟩]⟩,
  ⟨0x80048, [], false,
    [⟨31, 0, .ro, .l, 0x0⟩]⟩,
  ⟨0x8004c, [], false,
    [⟨31, 0, .ro, .l, 0x0⟩]⟩,
  ⟨0x80050, [], false,
    [⟨19, 0, .rw, .h, 0x3e8⟩]⟩,
  ⟨0x80054, [], false,
    [⟨19, 0, .rw, .h, 0x43210⟩]⟩,
  ⟨0x80058, [], false,
    [⟨31, 16, .ro, .l, 0x0⟩, ⟨15, 0, .rw, .h, 0xe10⟩]⟩,
  ⟨0x8005c, [], false,
    [⟨31, 31, .rw, .l, 0x0⟩, ⟨30, 30, .rw, .l, 0x0⟩, ⟨15, 0, .rw, .l, 0x25⟩]⟩]

/-- Registers of block NTU, part 1. -/
def mapNtu1 : List RegDesc := [
  ⟨0x80060, [], false,
    [⟨31, 31, .rw, .h, 0x0⟩, ⟨30, 30, .rw, .h, 0x0⟩, ⟨18, 16, .rw, .h, 0x0⟩, ⟨15, 0, .rw, .h, 0x0⟩]⟩,
  ⟨0x80064, [(4, 0x4)], false,
    [⟨31, 16, .rw, .h, 0x0⟩, ⟨15, 0, .rw, .h, 0x0⟩]⟩,
  ⟨0x80074, [], false,
    [⟨31, 31, .rw, .h, 0x1⟩, ⟨23, 16, .rw, .h, 0x3c⟩, ⟨15, 0, .rw, .h, 0x3e8⟩]⟩,
  ⟨0x80078, [], false,
    [⟨31, 16, .ro, .l, 0x0⟩, ⟨15, 0, .ro, .l, 0x0⟩]⟩,
  ⟨0x80080, [], false,
    [⟨8, 8, .w1c, .l, 0x0⟩, ⟨7, 7, .w1c, .l, 0x0⟩, ⟨6, 6, .w1c, .l, 0x0⟩, ⟨5, 5, .w1c, .l, 0x0⟩, ⟨4, 4, .w1c, .l, 0x0⟩, ⟨3, 3, .w1c, .l, 0x0⟩, ⟨2, 2, .w1c, .l, 0x0⟩, ⟨1, 1, .w1c, .l, 0x0⟩, ⟨0, 0, .w1c, .l, 0x0⟩]⟩,
  ⟨0x80084, [], false,
    [⟨8, 0, .rw, .l, 0x0⟩]⟩,
  ⟨0x80088, [], false,
    [⟨15, 0, .w1c, .l, 0x0⟩]⟩,
  ⟨0x80090, [], false,
    [⟨31, 0, .ro, .l, 0x0⟩]⟩,
  ⟨0x80094, [], false,
    [⟨31, 0, .ro, .l, 0x0⟩]⟩,
  ⟨0x80100, [(5, 0x8)], false,
    [⟨31, 30, .ro, .l, 0x0⟩, ⟨29, 29, .ro, .l, 0x0⟩, ⟨28, 28, .ro, .l, 0x0⟩]⟩,
  ⟨0x80104, [(5, 0x8)], false,
    [⟨31, 0, .ro, .l, 0x0⟩]⟩,
  ⟨0x80200, [(16, 0x10)], false,
    [⟨31, 31, .ro, .l, 0x0⟩, ⟨30, 30, .ro, .l, 0x0⟩, ⟨29, 29, .ro, .l, 0x0⟩, ⟨19, 0, .rw, .l, 0x0⟩]⟩,
  ⟨0x80204, [(16, 0x10)], false,
    [⟨29, 0, .rw, .l, 0x0⟩]⟩,
  ⟨0x80208, [(16, 0x10)], false,
    [⟨31, 0, .rw, .l, 0x0⟩]⟩,
  ⟨0x8020c, [(16, 0x10)], false,
    [⟨15, 0, .rw, .l, 0x0⟩]⟩]

/-- The registers of block NTU, in offset order. -/
def mapNtu : List RegDesc := mapNtu0 ++ mapNtu1

/-- The registers of block PAIR, in offset order. -/
def mapPair : List RegDesc := [
  ⟨0x90000, [], false,
    [⟨7, 0, .rw, .l, 0x0⟩]⟩,
  ⟨0x90004, [], false,
    [⟨15, 8, .ro, .l, 0x0⟩, ⟨7, 0, .ro, .l, 0x0⟩]⟩,
  ⟨0x90008, [], false,
    [⟨31, 31, .rw, .l, 0x0⟩, ⟨30, 30, .rw, .s, 0x1⟩, ⟨29, 29, .rw, .s, 0x0⟩, ⟨28, 28, .rw, .h, 0x1⟩]⟩,
  ⟨0x9000c, [], false,
    [⟨31, 31, .ro, .l, 0x0⟩, ⟨30, 30, .ro, .l, 0x0⟩, ⟨29, 29, .ro, .l, 0x0⟩, ⟨28, 28, .ro, .l, 0x0⟩, ⟨27, 27, .ro, .l, 0x0⟩, ⟨26, 26, .ro, .l, 0x0⟩, ⟨25, 25, .ro, .l, 0x0⟩, ⟨18, 16, .ro, .l, 0x0⟩, ⟨15, 8, .ro, .l, 0x0⟩, ⟨7, 0, .ro, .l, 0x0⟩]⟩,
  ⟨0x90010, [], false,
    [⟨31, 16, .ro, .l, 0x190⟩, ⟨15, 8, .ro, .l, 0x64⟩, ⟨7, 0, .ro, .l, 0x32⟩]⟩,
  ⟨0x90014, [], false,
    [⟨15, 0, .ro, .l, 0x0⟩]⟩,
  ⟨0x90018, [], false,
    [⟨31, 0, .ro, .l, 0x0⟩]⟩,
  ⟨0x9001c, [], false,
    [⟨15, 0, .ro, .l, 0x0⟩]⟩,
  ⟨0x90020, [], false,
    [⟨31, 0, .rw, .s, 0xfffffeff⟩]⟩,
  ⟨0x90024, [], false,
    [⟨31, 0, .rw, .s, 0x9fffffff⟩]⟩,
  ⟨0x90028, [], false,
    [⟨7, 0, .rw, .h, 0x3f⟩]⟩,
  ⟨0x9002c, [], false,
    [⟨31, 16, .rc, .l, 0x0⟩, ⟨15, 8, .rc, .l, 0x0⟩, ⟨7, 0, .rc, .l, 0x0⟩]⟩,
  ⟨0x90030, [], false,
    [⟨31, 0, .ro, .l, 0x0⟩]⟩,
  ⟨0x90034, [], false,
    [⟨31, 0, .ro, .l, 0x0⟩]⟩,
  ⟨0x90080, [], false,
    [⟨5, 5, .w1c, .l, 0x0⟩, ⟨4, 4, .w1c, .l, 0x0⟩, ⟨3, 3, .w1c, .l, 0x0⟩, ⟨2, 2, .w1c, .l, 0x0⟩, ⟨1, 1, .w1c, .l, 0x0⟩, ⟨0, 0, .w1c, .l, 0x0⟩]⟩,
  ⟨0x90084, [], false,
    [⟨5, 0, .rw, .l, 0x0⟩]⟩]

/-- Registers of block EPC, part 0. -/
def mapEpc0 : List RegDesc := [
  ⟨0x100000, [(4096, 0x200)], false,
    [⟨27, 16, .ro, .l, 0x0⟩, ⟨15, 8, .rw, .s, 0x0⟩, ⟨2, 0, .ro, .l, 0x0⟩]⟩,
  ⟨0x100004, [(4096, 0x200)], false,
    [⟨31, 0, .rw, .s, 0x0⟩]⟩,
  ⟨0x100008, [(4096, 0x200)], false,
    [⟨31, 0, .rw, .s, 0x0⟩]⟩,
  ⟨0x10000c, [(4096, 0x200)], false,
    [⟨31, 28, .rw, .s, 0x0⟩, ⟨23, 16, .rw, .s, 0x0⟩, ⟨11, 0, .rw, .s, 0xfff⟩]⟩,
  ⟨0x100010, [(4096, 0x200)], false,
    [⟨31, 16, .rw, .h, 0x0⟩, ⟨15, 0, .rw, .h, 0x0⟩]⟩,
  ⟨0x100014, [(4096, 0x200)], false,
    [⟨31, 24, .rw, .h, 0xff⟩, ⟨23, 16, .rw, .h, 0x0⟩, ⟨15, 8, .rw, .h, 0x0⟩]⟩,
  ⟨0x100018, [(4096, 0x200)], false,
    [⟨31, 16, .rw, .h, 0x0⟩, ⟨15, 0, .rw, .h, 0xffff⟩]⟩,
  ⟨0x10001c, [(4096, 0x200)], false,
    [⟨31, 16, .rw, .h, 0xffff⟩, ⟨15, 0, .rw, .h, 0x51f⟩]⟩,
  ⟨0x100020, [(4096, 0x200)], false,
    [⟨5, 0, .rw, .h, 0x0⟩]⟩,
  ⟨0x100024, [(4096, 0x200)], false,
    [⟨31, 16, .rw, .h, 0x0⟩, ⟨15, 0, .rw, .h, 0x0⟩]⟩,
  ⟨0x100040, [(4096, 0x200), (8, 0x4)], false,
    [⟨31, 0, .rw, .h, 0x0⟩]⟩,
  ⟨0x100060, [(4096, 0x200), (2, 0x4)], false,
    [⟨31, 0, .rw, .h, 0x0⟩]⟩,
  ⟨0x100080, [(4096, 0x200), (8, 0x4)], false,
    [⟨31, 0, .ro, .l, 0x0⟩]⟩,
  ⟨0x1000a0, [(4096, 0x200)], false,
    [⟨31, 16, .ro, .l, 0x0⟩, ⟨15, 0, .ro, .l, 0x0⟩]⟩,
  ⟨0x1000a4, [(4096, 0x200)], false,
    [⟨31, 31, .rw, .l, 0x0⟩, ⟨15, 0, .rw, .l, 0x0⟩]⟩,
  ⟨0x1000a8, [(4096, 0x200)], false,
    [⟨31, 16, .rw, .l, 0x0⟩, ⟨15, 0, .rw, .l, 0x0⟩]⟩,
  ⟨0x1000ac, [(4096, 0x200)], false,
    [⟨31, 16, .ro, .l, 0x0⟩, ⟨15, 0, .ro, .l, 0x0⟩]⟩,
  ⟨0x1000b0, [(4096, 0x200)], false,
    [⟨15, 8, .ro, .l, 0xff⟩, ⟨2, 0, .ro, .l, 0x0⟩]⟩,
  ⟨0x1000b4, [(4096, 0x200)], false,
    [⟨31, 16, .ro, .l, 0x0⟩, ⟨15, 0, .ro, .l, 0x0⟩]⟩,
  ⟨0x1000b8, [(4096, 0x200)], false,
    [⟨31, 0, .ro, .l, 0x0⟩]⟩,
  ⟨0x1000e0, [(4096, 0x200)], false,
    [⟨31, 31, .ro, .l, 0x0⟩, ⟨30, 30, .ro, .l, 0x0⟩, ⟨29, 29, .ro, .l, 0x0⟩, ⟨28, 28, .ro, .l, 0x0⟩, ⟨27, 27, .ro, .l, 0x0⟩, ⟨15, 0, .ro, .l, 0x0⟩]⟩,
  ⟨0x1000e4, [(4096, 0x200)], false,
    [⟨31, 24, .ro, .l, 0x0⟩, ⟨15, 0, .ro, .l, 0x0⟩]⟩,
  ⟨0x1000e8, [(4096, 0x200)], false,
    [⟨31, 24, .ro, .l, 0x0⟩, ⟨23, 16, .ro, .l, 0x0⟩, ⟨15, 8, .ro, .l, 0x0⟩]⟩,
  ⟨0x1000ec, [(4096, 0x200)], false,
    [⟨31, 0, .ro, .l, 0x0⟩]⟩]

/-- Registers of block EPC, part 1. -/
def mapEpc1 : List RegDesc := [
  ⟨0x1000f0, [(4096, 0x200)], false,
    [⟨31, 0, .ro, .l, 0x0⟩]⟩,
  ⟨0x1000f4, [(4096, 0x200)], false,
    [⟨31, 24, .ro, .l, 0x0⟩, ⟨15, 0, .ro, .l, 0x0⟩]⟩,
  ⟨0x1000f8, [(4096, 0x200)], false,
    [⟨31, 0, .ro, .l, 0x0⟩]⟩,
  ⟨0x1000fc, [(4096, 0x200)], false,
    [⟨31, 0, .ro, .l, 0x0⟩]⟩,
  ⟨0x100100, [(4096, 0x200), (2, 0x4)], false,
    [⟨31, 0, .ro, .l, 0x0⟩]⟩,
  ⟨0x100108, [(4096, 0x200)], false,
    [⟨31, 0, .ro, .l, 0x0⟩]⟩,
  ⟨0x100120, [(4096, 0x200)], false,
    [⟨31, 0, .rar, .l, 0x0⟩]⟩,
  ⟨0x100124, [(4096, 0x200)], false,
    [⟨31, 0, .rar, .l, 0x0⟩]⟩,
  ⟨0x100128, [(4096, 0x200)], false,
    [⟨31, 0, .ro, .l, 0x0⟩]⟩,
  ⟨0x10012c, [(4096, 0x200)], false,
    [⟨31, 24, .ro, .l, 0x0⟩, ⟨2, 2, .w1c, .l, 0x0⟩, ⟨1, 1, .w1c, .l, 0x0⟩, ⟨0, 0, .ro, .l, 0x0⟩]⟩,
  ⟨0x100130, [(4096, 0x200)], false,
    [⟨15, 0, .ro, .l, 0x0⟩]⟩,
  ⟨0x100140, [(4096, 0x200)], false,
    [⟨31, 0, .ro, .l, 0x0⟩]⟩,
  ⟨0x100144, [(4096, 0x200)], false,
    [⟨31, 0, .ro, .l, 0x0⟩]⟩,
  ⟨0x100148, [(4096, 0x200)], false,
    [⟨31, 0, .ro, .l, 0x0⟩]⟩,
  ⟨0x10014c, [(4096, 0x200)], false,
    [⟨31, 0, .ro, .l, 0x0⟩]⟩,
  ⟨0x100150, [(4096, 0x200)], false,
    [⟨31, 24, .ro, .l, 0x0⟩, ⟨23, 16, .ro, .l, 0x0⟩, ⟨15, 8, .ro, .l, 0x0⟩, ⟨3, 3, .ro, .l, 0x0⟩, ⟨2, 0, .rw, .h, 0x5⟩]⟩,
  ⟨0x100180, [(4096, 0x200), (32, 0x4)], true,
    [⟨31, 0, .rw, .l, 0x0⟩]⟩]

/-- The registers of block EPC, in offset order. -/
def mapEpc : List RegDesc := mapEpc0 ++ mapEpc1

/-- Registers of block SCH, part 0. -/
def mapSch0 : List RegDesc := [
  ⟨0x300000, [], false,
    [⟨7, 0, .rw, .l, 0x0⟩]⟩,
  ⟨0x300004, [], false,
    [⟨15, 8, .ro, .l, 0x0⟩, ⟨7, 0, .ro, .l, 0x0⟩]⟩,
  ⟨0x300008, [], false,
    [⟨23, 23, .ro, .l, 0x0⟩, ⟨22, 16, .ro, .l, 0x0⟩, ⟨11, 8, .ro, .l, 0x0⟩, ⟨7, 7, .ro, .l, 0x0⟩, ⟨6, 6, .w1c, .l, 0x0⟩, ⟨5, 5, .w1c, .l, 0x0⟩, ⟨4, 4, .w1c, .l, 0x0⟩, ⟨3, 3, .ro, .l, 0x0⟩, ⟨2, 2, .ro, .l, 0x0⟩, ⟨1, 1, .ro, .l, 0x0⟩, ⟨0, 0, .ro, .l, 0x0⟩]⟩,
  ⟨0x30000c, [], false,
    [⟨0, 0, .rw, .l, 0x0⟩]⟩,
  ⟨0x300010, [], false,
    [⟨15, 0, .rw, .h, 0x0⟩]⟩,
  ⟨0x300014, [], false,
    [⟨31, 31, .rw, .h, 0x0⟩, ⟨7, 0, .rw, .h, 0x3c⟩]⟩,
  ⟨0x300018, [], false,
    [⟨31, 31, .rw, .h, 0x0⟩, ⟨27, 24, .rw, .h, 0x1⟩, ⟨22, 20, .rw, .h, 0x1⟩, ⟨18, 16, .rw, .h, 0x0⟩, ⟨10, 0, .rw, .h, 0x0⟩]⟩,
  ⟨0x30001c, [], false,
    [⟨31, 31, .rw, .h, 0x0⟩, ⟨27, 24, .rw, .h, 0x1⟩, ⟨22, 20, .rw, .h, 0x1⟩, ⟨18, 16, .rw, .h, 0x0⟩, ⟨10, 0, .rw, .h, 0x0⟩]⟩,
  ⟨0x300020, [], false,
    [⟨27, 0, .rw, .h, 0x2100000⟩]⟩,
  ⟨0x300024, [], false,
    [⟨31, 0, .rw, .h, 0x0⟩]⟩,
  ⟨0x300028, [], false,
    [⟨31, 0, .rw, .h, 0x0⟩]⟩,
  ⟨0x30002c, [], false,
    [⟨0, 0, .rw, .h, 0x0⟩]⟩,
  ⟨0x300030, [], false,
    [⟨20, 16, .ro, .l, 0x0⟩, ⟨13, 8, .ro, .l, 0x0⟩, ⟨5, 0, .ro, .l, 0x0⟩]⟩,
  ⟨0x300034, [], false,
    [⟨30, 28, .ro, .l, 0x0⟩, ⟨23, 16, .ro, .l, 0x0⟩, ⟨11, 8, .ro, .l, 0x0⟩, ⟨4, 0, .ro, .l, 0x0⟩]⟩,
  ⟨0x300038, [], false,
    [⟨31, 0, .ro, .l, 0x0⟩]⟩,
  ⟨0x30003c, [], false,
    [⟨31, 31, .ro, .l, 0x0⟩, ⟨15, 0, .ro, .l, 0x0⟩]⟩,
  ⟨0x300040, [(7, 0x4)], false,
    [⟨15, 0, .rw, .h, 0x0⟩]⟩,
  ⟨0x300060, [(7, 0x4)], false,
    [⟨16, 0, .rw, .h, 0x0⟩]⟩,
  ⟨0x300080, [(3, 0x1c), (7, 0x4)], false,
    [⟨31, 31, .rw, .l, 0x0⟩, ⟨30, 30, .rw, .l, 0x0⟩, ⟨16, 0, .rw, .l, 0x0⟩]⟩,
  ⟨0x300100, [], false,
    [⟨4, 4, .w1c, .l, 0x0⟩, ⟨3, 3, .w1c, .l, 0x0⟩, ⟨2, 2, .w1c, .l, 0x0⟩, ⟨1, 1, .w1c, .l, 0x0⟩, ⟨0, 0, .w1c, .l, 0x0⟩]⟩,
  ⟨0x300104, [], false,
    [⟨4, 0, .rw, .l, 0x0⟩]⟩,
  ⟨0x301000, [(256, 0x4)], false,
    [⟨31, 16, .rw, .h, 0xffff⟩, ⟨15, 0, .rw, .h, 0x0⟩]⟩,
  ⟨0x301400, [(128, 0x8)], false,
    [⟨31, 31, .rw, .h, 0x0⟩, ⟨30, 30, .rw, .h, 0x0⟩, ⟨23, 16, .rw, .h, 0x0⟩, ⟨11, 8, .rw, .h, 0x1⟩, ⟨4, 0, .rw, .h, 0x1⟩]⟩,
  ⟨0x301404, [(128, 0x8)], false,
    [⟨20, 16, .rw, .h, 0x1⟩, ⟨3, 0, .rw, .h, 0x0⟩]⟩]

/-- Registers of block SCH, part 1. -/
def mapSch1 : List RegDesc := [
  ⟨0x301800, [(64, 0x4)], false,
    [⟨29, 16, .rw, .h, 0x0⟩, ⟨15, 0, .rw, .h, 0x0⟩]⟩,
  ⟨0x302000, [(256, 0x8)], false,
    [⟨31, 16, .ro, .l, 0x0⟩, ⟨15, 0, .ro, .l, 0x0⟩]⟩,
  ⟨0x302004, [(256, 0x8)], false,
    [⟨31, 16, .ro, .l, 0x0⟩, ⟨7, 7, .ro, .l, 0x0⟩, ⟨6, 6, .ro, .l, 0x0⟩, ⟨5, 5, .ro, .l, 0x1⟩, ⟨4, 0, .ro, .l, 0x0⟩]⟩,
  ⟨0x310000, [(64, 0x400), (256, 0x4)], false,
    [⟨31, 31, .rw, .h, 0x0⟩, ⟨29, 16, .rw, .h, 0x0⟩, ⟨15, 0, .rw, .h, 0x0⟩]⟩,
  ⟨0x320000, [(256, 0x200), (32, 0x10)], false,
    [⟨31, 28, .rw, .h, 0x0⟩, ⟨27, 27, .rw, .h, 0x0⟩, ⟨26, 17, .rw, .h, 0x0⟩, ⟨16, 0, .rw, .h, 0x0⟩]⟩,
  ⟨0x320004, [(256, 0x200), (32, 0x10)], false,
    [⟨31, 16, .rw, .h, 0x0⟩, ⟨15, 0, .rw, .h, 0x0⟩]⟩,
  ⟨0x320008, [(256, 0x200), (32, 0x10)], false,
    [⟨31, 16, .rw, .h, 0x0⟩, ⟨15, 0, .rw, .h, 0x0⟩]⟩]

/-- The registers of block SCH, in offset order. -/
def mapSch : List RegDesc := mapSch0 ++ mapSch1

/-- Registers of block LFE, part 0. -/
def mapLfe0 : List RegDesc := [
  ⟨0x340000, [], false,
    [⟨7, 0, .rw, .l, 0x0⟩]⟩,
  ⟨0x340004, [], false,
    [⟨15, 8, .ro, .l, 0x0⟩, ⟨7, 0, .ro, .l, 0x0⟩]⟩,
  ⟨0x340008, [], false,
    [⟨31, 31, .rw, .l, 0x0⟩, ⟨30, 30, .rw, .l, 0x1⟩, ⟨23, 16, .rw, .h, 0x0⟩, ⟨15, 8, .rw, .s, 0x14⟩]⟩,
  ⟨0x34000c, [], false,
    [⟨15, 0, .rw, .h, 0x64⟩]⟩,
  ⟨0x340010, [], false,
    [⟨31, 31, .ro, .l, 0x0⟩, ⟨30, 30, .ro, .l, 0x0⟩, ⟨29, 29, .w1c, .l, 0x0⟩, ⟨28, 24, .ro, .l, 0x10⟩, ⟨23, 16, .ro, .l, 0x14⟩, ⟨9, 0, .ro, .l, 0x0⟩]⟩,
  ⟨0x340014, [], false,
    [⟨31, 24, .rw, .h, 0x19⟩, ⟨23, 16, .rw, .h, 0xa⟩, ⟨7, 0, .rw, .h, 0x32⟩]⟩,
  ⟨0x340018, [], false,
    [⟨31, 0, .ro, .l, 0x0⟩]⟩,
  ⟨0x34001c, [], false,
    [⟨31, 0, .ro, .l, 0x0⟩]⟩,
  ⟨0x340020, [], false,
    [⟨31, 31, .rw, .l, 0x0⟩, ⟨30, 30, .rw, .h, 0x1⟩, ⟨29, 29, .rw, .h, 0x0⟩, ⟨22, 16, .rw, .h, 0x0⟩, ⟨0, 0, .ro, .l, 0x0⟩]⟩,
  ⟨0x340024, [], false,
    [⟨31, 16, .rw, .h, 0x64⟩, ⟨0, 0, .rw, .h, 0x1⟩]⟩,
  ⟨0x340030, [], false,
    [⟨31, 24, .rw, .l, 0xff⟩, ⟨23, 16, .rw, .l, 0x0⟩, ⟨11, 0, .rw, .l, 0x0⟩]⟩,
  ⟨0x340034, [], false,
    [⟨31, 24, .rw, .l, 0x0⟩, ⟨23, 16, .rw, .l, 0x1⟩, ⟨15, 8, .rw, .l, 0x64⟩, ⟨7, 0, .rw, .l, 0x0⟩]⟩,
  ⟨0x340040, [(8, 0x4)], false,
    [⟨31, 0, .rw, .h, 0x0⟩]⟩,
  ⟨0x340060, [(8, 0x4)], false,
    [⟨31, 0, .rw, .h, 0x0⟩]⟩,
  ⟨0x340080, [], false,
    [⟨31, 16, .rc, .l, 0x0⟩, ⟨15, 0, .rc, .l, 0x0⟩]⟩,
  ⟨0x340084, [], false,
    [⟨31, 16, .rc, .l, 0x0⟩, ⟨15, 0, .rc, .l, 0x0⟩]⟩,
  ⟨0x340088, [], false,
    [⟨31, 16, .rc, .l, 0x0⟩, ⟨15, 0, .rc, .l, 0x0⟩]⟩,
  ⟨0x34008c, [], false,
    [⟨31, 16, .rc, .l, 0x0⟩, ⟨15, 0, .rc, .l, 0x0⟩]⟩,
  ⟨0x340090, [(8, 0x4)], false,
    [⟨31, 16, .rc, .l, 0x0⟩, ⟨15, 0, .rc, .l, 0x0⟩]⟩,
  ⟨0x3400b0, [], false,
    [⟨15, 0, .rc, .l, 0x0⟩]⟩,
  ⟨0x3400b4, [], false,
    [⟨31, 16, .rc, .l, 0x0⟩, ⟨15, 0, .rc, .l, 0x0⟩]⟩,
  ⟨0x340100, [], false,
    [⟨5, 5, .w1c, .l, 0x0⟩, ⟨4, 4, .w1c, .l, 0x0⟩, ⟨3, 3, .w1c, .l, 0x0⟩, ⟨2, 2, .w1c, .l, 0x0⟩, ⟨1, 1, .w1c, .l, 0x0⟩, ⟨0, 0, .w1c, .l, 0x0⟩]⟩,
  ⟨0x340104, [], false,
    [⟨5, 0, .rw, .l, 0x0⟩]⟩,
  ⟨0x340200, [(8, 0x4)], false,
    [⟨15, 8, .rw, .h, 0x0⟩, ⟨7, 0, .rw, .h, 0x2⟩]⟩]

/-- Registers of block LFE, part 1. -/
def mapLfe1 : List RegDesc := [
  ⟨0x341000, [(32, 0x20)], false,
    [⟨31, 16, .rw, .h, 0x0⟩, ⟨15, 0, .rw, .h, 0x0⟩]⟩,
  ⟨0x341004, [(32, 0x20)], false,
    [⟨31, 16, .rw, .h, 0x0⟩, ⟨15, 0, .rw, .h, 0x0⟩]⟩,
  ⟨0x341008, [(32, 0x20)], false,
    [⟨31, 16, .rw, .h, 0x0⟩, ⟨15, 0, .rw, .h, 0x0⟩]⟩,
  ⟨0x34100c, [(32, 0x20)], false,
    [⟨31, 24, .rw, .h, 0x0⟩, ⟨23, 16, .rw, .h, 0x3c⟩, ⟨15, 0, .rw, .h, 0x1e⟩]⟩,
  ⟨0x341010, [(32, 0x20)], false,
    [⟨31, 16, .rw, .h, 0x12c⟩, ⟨15, 8, .rw, .h, 0x18⟩]⟩,
  ⟨0x341014, [(32, 0x20)], false,
    [⟨15, 0, .rw, .h, 0xffff⟩]⟩,
  ⟨0x344000, [(512, 0x10)], false,
    [⟨31, 31, .ro, .l, 0x0⟩, ⟨27, 16, .ro, .l, 0x0⟩, ⟨10, 8, .ro, .l, 0x0⟩, ⟨7, 0, .ro, .l, 0x0⟩]⟩,
  ⟨0x344004, [(512, 0x10)], false,
    [⟨31, 0, .ro, .l, 0x0⟩]⟩,
  ⟨0x344008, [(512, 0x10)], false,
    [⟨31, 0, .ro, .l, 0x0⟩]⟩,
  ⟨0x34400c, [(512, 0x10)], false,
    [⟨31, 16, .ro, .l, 0x0⟩, ⟨15, 8, .ro, .l, 0x0⟩, ⟨7, 0, .ro, .l, 0x0⟩]⟩]

/-- The registers of block LFE, in offset order. -/
def mapLfe : List RegDesc := mapLfe0 ++ mapLfe1

/-- Registers of block TRN, part 0. -/
def mapTrn0 : List RegDesc := [
  ⟨0x380000, [], false,
    [⟨7, 0, .rw, .l, 0x0⟩]⟩,
  ⟨0x380004, [], false,
    [⟨15, 8, .ro, .l, 0x0⟩, ⟨7, 0, .ro, .l, 0x0⟩]⟩,
  ⟨0x380008, [], false,
    [⟨31, 31, .rw, .l, 0x0⟩, ⟨7, 0, .rw, .l, 0x0⟩]⟩,
  ⟨0x38000c, [], false,
    [⟨22, 16, .ro, .l, 0x0⟩, ⟨8, 8, .w1c, .l, 0x0⟩, ⟨5, 0, .ro, .l, 0x0⟩]⟩,
  ⟨0x380010, [], false,
    [⟨29, 0, .rw, .l, 0x0⟩]⟩,
  ⟨0x380014, [], false,
    [⟨31, 0, .rw, .l, 0x0⟩]⟩,
  ⟨0x380018, [], false,
    [⟨15, 0, .rw, .l, 0x0⟩]⟩,
  ⟨0x38001c, [], false,
    [⟨31, 16, .rw, .h, 0x258⟩, ⟨3, 0, .rw, .h, 0x3⟩]⟩,
  ⟨0x380020, [(8, 0x4)], false,
    [⟨15, 0, .rw, .h, 0x0⟩]⟩,
  ⟨0x380040, [(16, 0x4)], false,
    [⟨15, 0, .rw, .h, 0x0⟩]⟩,
  ⟨0x380080, [], false,
    [⟨6, 6, .w1c, .l, 0x0⟩, ⟨5, 5, .w1c, .l, 0x0⟩, ⟨4, 4, .w1c, .l, 0x0⟩, ⟨3, 3, .w1c, .l, 0x0⟩, ⟨2, 2, .w1c, .l, 0x0⟩, ⟨1, 1, .w1c, .l, 0x0⟩, ⟨0, 0, .w1c, .l, 0x0⟩]⟩,
  ⟨0x380084, [], false,
    [⟨6, 0, .rw, .l, 0x0⟩]⟩,
  ⟨0x380088, [], false,
    [⟨31, 16, .rc, .l, 0x0⟩, ⟨15, 0, .rc, .l, 0x0⟩]⟩,
  ⟨0x381000, [(64, 0x40)], false,
    [⟨31, 29, .ro, .l, 0x0⟩, ⟨28, 28, .rw, .l, 0x0⟩, ⟨27, 24, .rw, .l, 0x0⟩, ⟨23, 22, .rw, .l, 0x0⟩, ⟨11, 0, .rw, .l, 0x0⟩]⟩,
  ⟨0x381004, [(64, 0x40)], false,
    [⟨29, 0, .rw, .l, 0x0⟩]⟩,
  ⟨0x381008, [(64, 0x40)], false,
    [⟨31, 0, .rw, .l, 0x0⟩]⟩,
  ⟨0x38100c, [(64, 0x40)], false,
    [⟨15, 0, .rw, .l, 0x0⟩]⟩,
  ⟨0x381010, [(64, 0x40)], false,
    [⟨31, 16, .rw, .l, 0x0⟩, ⟨15, 0, .rw, .l, 0x0⟩]⟩,
  ⟨0x381014, [(64, 0x40)], false,
    [⟨31, 16, .rw, .l, 0x0⟩, ⟨15, 0, .rw, .l, 0x0⟩]⟩,
  ⟨0x381018, [(64, 0x40)], false,
    [⟨31, 16, .rw, .l, 0x0⟩, ⟨15, 0, .rw, .l, 0x3c⟩]⟩,
  ⟨0x38101c, [(64, 0x40)], false,
    [⟨31, 16, .ro, .l, 0x0⟩, ⟨15, 8, .ro, .l, 0x0⟩, ⟨2, 2, .ro, .l, 0x0⟩, ⟨1, 1, .ro, .l, 0x0⟩, ⟨0, 0, .ro, .l, 0x0⟩]⟩,
  ⟨0x382000, [(32, 0x40)], false,
    [⟨31, 31, .ro, .l, 0x0⟩, ⟨30, 30, .rw, .h, 0x0⟩, ⟨29, 29, .rw, .h, 0x0⟩, ⟨28, 28, .rw, .h, 0x0⟩, ⟨27, 24, .rw, .h, 0x0⟩, ⟨23, 22, .rw, .h, 0x0⟩, ⟨19, 16, .rw, .h, 0x0⟩, ⟨15, 8, .rw, .h, 0x0⟩]⟩,
  ⟨0x382004, [(32, 0x40)], false,
    [⟨31, 16, .rw, .h, 0x0⟩, ⟨15, 0, .rw, .h, 0x0⟩]⟩,
  ⟨0x382008, [(32, 0x40)], false,
    [⟨31, 16, .rw, .h, 0x0⟩, ⟨15, 0, .rw, .h, 0x0⟩]⟩]

/-- Registers of block TRN, part 1. -/
def mapTrn1 : List RegDesc := [
  ⟨0x38200c, [(32, 0x40)], false,
    [⟨31, 16, .rw, .h, 0x0⟩, ⟨15, 0, .rw, .h, 0x0⟩]⟩,
  ⟨0x382010, [(32, 0x40)], false,
    [⟨31, 24, .rw, .h, 0x80⟩, ⟨23, 16, .rw, .h, 0x1⟩, ⟨15, 0, .rw, .h, 0x0⟩]⟩,
  ⟨0x382014, [(32, 0x40)], false,
    [⟨24, 16, .rw, .h, 0x0⟩, ⟨12, 8, .rw, .h, 0x0⟩]⟩,
  ⟨0x382018, [(32, 0x40)], false,
    [⟨31, 0, .ro, .l, 0x0⟩]⟩,
  ⟨0x38201c, [(32, 0x40)], false,
    [⟨31, 0, .ro, .l, 0x0⟩]⟩,
  ⟨0x384000, [(32, 0x80), (16, 0x8)], false,
    [⟨31, 16, .rw, .h, 0x0⟩, ⟨15, 0, .rw, .h, 0x0⟩]⟩,
  ⟨0x384004, [(32, 0x80), (16, 0x8)], false,
    [⟨31, 16, .rw, .h, 0x0⟩, ⟨15, 0, .rw, .h, 0x0⟩]⟩,
  ⟨0x388000, [(32, 0x200), (128, 0x4)], false,
    [⟨27, 16, .rw, .h, 0x0⟩, ⟨11, 0, .rw, .h, 0x0⟩]⟩]

/-- The registers of block TRN, in offset order. -/
def mapTrn : List RegDesc := mapTrn0 ++ mapTrn1

/-- Registers of block DRV, part 0. -/
def mapDrv0 : List RegDesc := [
  ⟨0x400000, [], false,
    [⟨7, 0, .rw, .l, 0x0⟩]⟩,
  ⟨0x400004, [], false,
    [⟨15, 8, .ro, .l, 0x0⟩, ⟨7, 0, .ro, .l, 0x0⟩]⟩,
  ⟨0x400008, [], false,
    [⟨8, 8, .rw, .l, 0x0⟩, ⟨5, 0, .rw, .l, 0x0⟩]⟩,
  ⟨0x40000c, [], false,
    [⟨22, 16, .ro, .l, 0x0⟩, ⟨15, 8, .ro, .l, 0x0⟩, ⟨7, 0, .ro, .l, 0x0⟩]⟩,
  ⟨0x400010, [], false,
    [⟨31, 0, .ro, .l, 0x0⟩]⟩,
  ⟨0x400014, [], false,
    [⟨31, 0, .ro, .l, 0x0⟩]⟩,
  ⟨0x400018, [], false,
    [⟨31, 31, .rw, .h, 0x1⟩, ⟨15, 0, .rw, .h, 0xa⟩]⟩,
  ⟨0x40001c, [], false,
    [⟨31, 31, .ro, .l, 0x0⟩, ⟨17, 16, .ro, .l, 0x0⟩, ⟨13, 8, .ro, .l, 0x0⟩, ⟨5, 0, .ro, .l, 0x0⟩]⟩,
  ⟨0x400080, [], false,
    [⟨7, 7, .w1c, .l, 0x0⟩, ⟨6, 6, .w1c, .l, 0x0⟩, ⟨5, 5, .w1c, .l, 0x0⟩, ⟨4, 4, .w1c, .l, 0x0⟩, ⟨3, 3, .w1c, .l, 0x0⟩, ⟨2, 2, .w1c, .l, 0x0⟩, ⟨1, 1, .w1c, .l, 0x0⟩, ⟨0, 0, .w1c, .l, 0x0⟩]⟩,
  ⟨0x400084, [], false,
    [⟨7, 0, .rw, .l, 0x0⟩]⟩,
  ⟨0x400200, [(8, 0x40)], false,
    [⟨31, 31, .rw, .s, 0x0⟩, ⟨23, 16, .rw, .h, 0x3⟩, ⟨15, 0, .rw, .h, 0x3e8⟩]⟩,
  ⟨0x400204, [(8, 0x40)], false,
    [⟨19, 0, .rw, .h, 0x3d090⟩]⟩,
  ⟨0x400208, [(8, 0x40)], false,
    [⟨12, 0, .rw, .s, 0x1f4⟩]⟩,
  ⟨0x40020c, [(8, 0x40)], false,
    [⟨31, 16, .rw, .h, 0x1f4⟩, ⟨15, 0, .rw, .h, 0x1900⟩]⟩,
  ⟨0x400210, [(8, 0x40)], false,
    [⟨27, 16, .rw, .h, 0x19⟩, ⟨11, 0, .rw, .h, 0x1c2⟩]⟩,
  ⟨0x400214, [(8, 0x40)], false,
    [⟨31, 16, .ro, .l, 0x0⟩, ⟨15, 0, .ro, .l, 0x0⟩]⟩,
  ⟨0x400218, [(8, 0x40)], false,
    [⟨31, 30, .ro, .l, 0x0⟩, ⟨23, 16, .ro, .l, 0x0⟩, ⟨15, 0, .ro, .l, 0x0⟩]⟩,
  ⟨0x400220, [(8, 0x40)], false,
    [⟨31, 0, .rar, .l, 0x0⟩]⟩,
  ⟨0x400224, [(8, 0x40)], false,
    [⟨31, 0, .rar, .l, 0x0⟩]⟩,
  ⟨0x400228, [(8, 0x40)], false,
    [⟨1, 1, .w1c, .l, 0x0⟩, ⟨0, 0, .ro, .l, 0x0⟩]⟩,
  ⟨0x401000, [(64, 0x40)], false,
    [⟨31, 31, .rw, .l, 0x0⟩, ⟨30, 30, .rw, .h, 0x1⟩, ⟨29, 28, .rw, .s, 0x2⟩, ⟨15, 0, .rw, .h, 0x0⟩]⟩,
  ⟨0x401004, [(64, 0x40)], false,
    [⟨31, 16, .rw, .s, 0x64⟩, ⟨15, 0, .rw, .s, 0x0⟩]⟩,
  ⟨0x401008, [(64, 0x40)], false,
    [⟨31, 16, .rw, .h, 0x199a⟩, ⟨15, 8, .rw, .s, 0x14⟩, ⟨7, 0, .rw, .s, 0x0⟩]⟩,
  ⟨0x40100c, [(64, 0x40)], false,
    [⟨25, 16, .rw, .s, 0x12c⟩, ⟨9, 0, .rw, .s, 0x1f4⟩]⟩]

/-- Registers of block DRV, part 1. -/
def mapDrv1 : List RegDesc := [
  ⟨0x401010, [(64, 0x40)], false,
    [⟨31, 24, .rw, .h, 0x14⟩, ⟨23, 16, .rw, .h, 0x5⟩, ⟨15, 0, .rw, .h, 0x0⟩]⟩,
  ⟨0x401014, [(64, 0x40)], false,
    [⟨27, 16, .rw, .h, 0x6a4⟩, ⟨11, 0, .rw, .h, 0x96⟩]⟩,
  ⟨0x401018, [(64, 0x40)], false,
    [⟨31, 24, .rw, .h, 0x2⟩, ⟨23, 16, .rw, .h, 0xa⟩, ⟨15, 8, .rw, .h, 0x14⟩]⟩,
  ⟨0x40101c, [(64, 0x40)], false,
    [⟨31, 16, .rw, .s, 0x40⟩, ⟨15, 0, .rw, .s, 0x1f4⟩]⟩,
  ⟨0x401020, [(64, 0x40)], false,
    [⟨31, 31, .rw, .l, 0x0⟩, ⟨15, 0, .rw, .l, 0x0⟩]⟩,
  ⟨0x401024, [(64, 0x40)], false,
    [⟨31, 16, .ro, .l, 0x0⟩, ⟨15, 0, .ro, .l, 0x0⟩]⟩,
  ⟨0x401028, [(64, 0x40)], false,
    [⟨27, 16, .ro, .l, 0x0⟩, ⟨15, 0, .ro, .l, 0x0⟩]⟩,
  ⟨0x40102c, [(64, 0x40)], false,
    [⟨31, 29, .ro, .l, 0x0⟩, ⟨23, 16, .ro, .l, 0x0⟩, ⟨15, 8, .ro, .l, 0x0⟩, ⟨4, 4, .ro, .l, 0x0⟩, ⟨3, 3, .ro, .l, 0x0⟩, ⟨2, 2, .ro, .l, 0x0⟩]⟩,
  ⟨0x401030, [(64, 0x40)], false,
    [⟨31, 24, .ro, .l, 0x0⟩, ⟨15, 0, .ro, .l, 0x0⟩]⟩,
  ⟨0x401034, [(64, 0x40)], false,
    [⟨19, 0, .ro, .l, 0x0⟩]⟩,
  ⟨0x401038, [(64, 0x40)], false,
    [⟨9, 0, .ro, .l, 0x0⟩]⟩,
  ⟨0x404000, [(16, 0x80), (17, 0x4)], false,
    [⟨15, 0, .rw, .h, 0x0⟩]⟩,
  ⟨0x406000, [(16, 0x40)], false,
    [⟨31, 31, .rw, .l, 0x0⟩, ⟨29, 28, .rw, .s, 0x0⟩, ⟨27, 24, .rw, .s, 0x0⟩, ⟨23, 18, .rw, .s, 0x0⟩, ⟨17, 12, .rw, .s, 0x0⟩, ⟨11, 6, .rw, .s, 0x0⟩, ⟨5, 0, .rw, .s, 0x0⟩]⟩,
  ⟨0x406004, [(16, 0x40), (4, 0x4)], false,
    [⟨31, 16, .rw, .s, 0x0⟩, ⟨15, 8, .rw, .h, 0x0⟩]⟩,
  ⟨0x406014, [(16, 0x40)], false,
    [⟨31, 16, .rw, .h, 0xfe70⟩, ⟨15, 8, .rw, .h, 0x64⟩]⟩,
  ⟨0x406018, [(16, 0x40)], false,
    [⟨15, 0, .rw, .h, 0xfa⟩]⟩,
  ⟨0x40601c, [(16, 0x40)], false,
    [⟨31, 31, .ro, .l, 0x0⟩, ⟨3, 0, .ro, .l, 0x0⟩]⟩,
  ⟨0x406020, [(16, 0x40), (4, 0x4)], false,
    [⟨15, 0, .ro, .l, 0x8000⟩]⟩,
  ⟨0x408000, [(16, 0x100), (4, 0x40), (16, 0x4)], false,
    [⟨15, 0, .rw, .h, 0x8000⟩]⟩]

/-- The registers of block DRV, in offset order. -/
def mapDrv : List RegDesc := mapDrv0 ++ mapDrv1

/-- Registers of block LBUS, part 0. -/
def mapLbus0 : List RegDesc := [
  ⟨0x440000, [], false,
    [⟨7, 0, .rw, .l, 0x0⟩]⟩,
  ⟨0x440004, [], false,
    [⟨15, 8, .ro, .l, 0x0⟩, ⟨7, 0, .ro, .l, 0x0⟩]⟩,
  ⟨0x440008, [], false,
    [⟨13, 8, .rw, .l, 0x0⟩, ⟨6, 0, .rw, .l, 0x0⟩]⟩,
  ⟨0x44000c, [], false,
    [⟨31, 31, .rw, .l, 0x0⟩, ⟨30, 30, .rw, .l, 0x0⟩, ⟨23, 0, .rw, .l, 0x0⟩]⟩,
  ⟨0x440010, [], false,
    [⟨31, 31, .ro, .l, 0x0⟩, ⟨9, 8, .ro, .l, 0x0⟩, ⟨7, 0, .ro, .l, 0x0⟩]⟩,
  ⟨0x440020, [(3, 0x4)], false,
    [⟨31, 0, .ro, .l, 0x0⟩]⟩,
  ⟨0x440030, [(3, 0x4)], false,
    [⟨31, 0, .rw, .l, 0x0⟩]⟩,
  ⟨0x440040, [], false,
    [⟨31, 31, .rc, .l, 0x0⟩, ⟨27, 24, .rc, .l, 0x0⟩, ⟨23, 0, .rc, .l, 0x0⟩]⟩,
  ⟨0x440080, [], false,
    [⟨8, 8, .w1c, .l, 0x0⟩, ⟨7, 7, .w1c, .l, 0x0⟩, ⟨6, 6, .w1c, .l, 0x0⟩, ⟨5, 5, .w1c, .l, 0x0⟩, ⟨4, 4, .w1c, .l, 0x0⟩, ⟨3, 3, .w1c, .l, 0x0⟩, ⟨2, 2, .w1c, .l, 0x0⟩, ⟨1, 1, .w1c, .l, 0x0⟩, ⟨0, 0, .w1c, .l, 0x0⟩]⟩,
  ⟨0x440084, [], false,
    [⟨8, 0, .rw, .l, 0x0⟩]⟩,
  ⟨0x441000, [(16, 0x40)], false,
    [⟨31, 31, .rw, .l, 0x0⟩, ⟨30, 30, .rw, .h, 0x1⟩]⟩,
  ⟨0x441004, [(16, 0x40)], false,
    [⟨15, 8, .rw, .h, 0xfe⟩, ⟨7, 0, .rw, .h, 0xfe⟩]⟩,
  ⟨0x441008, [(16, 0x40)], false,
    [⟨31, 16, .rw, .h, 0x384⟩, ⟨15, 0, .rw, .h, 0x3c⟩]⟩,
  ⟨0x44100c, [(16, 0x40)], false,
    [⟨31, 30, .ro, .l, 0x0⟩, ⟨29, 29, .ro, .l, 0x0⟩, ⟨15, 8, .ro, .l, 0x0⟩, ⟨7, 0, .ro, .l, 0x0⟩]⟩,
  ⟨0x441010, [(16, 0x40)], false,
    [⟨31, 16, .rc, .l, 0x0⟩, ⟨15, 8, .rc, .l, 0x0⟩, ⟨7, 0, .rc, .l, 0x0⟩]⟩,
  ⟨0x441014, [(16, 0x40), (2, 0x4)], false,
    [⟨31, 0, .ro, .l, 0x0⟩]⟩,
  ⟨0x441020, [(16, 0x40), (8, 0x4)], false,
    [⟨31, 31, .rw, .h, 0x0⟩, ⟨23, 16, .rw, .h, 0x0⟩, ⟨15, 15, .rw, .h, 0x0⟩, ⟨7, 0, .rw, .h, 0x0⟩]⟩,
  ⟨0x442000, [(12, 0x20)], false,
    [⟨31, 30, .rw, .h, 0x1⟩]⟩,
  ⟨0x442004, [(12, 0x20)], false,
    [⟨31, 31, .rw, .h, 0x0⟩, ⟨15, 0, .rw, .h, 0x0⟩]⟩,
  ⟨0x442008, [(12, 0x20)], false,
    [⟨31, 31, .ro, .l, 0x0⟩, ⟨30, 30, .ro, .l, 0x0⟩, ⟨29, 29, .ro, .l, 0x0⟩, ⟨28, 15, .ro, .l, 0x0⟩, ⟨14, 14, .ro, .l, 0x0⟩, ⟨13, 0, .ro, .l, 0x0⟩]⟩,
  ⟨0x44200c, [(12, 0x20)], false,
    [⟨15, 0, .ro, .l, 0x0⟩]⟩,
  ⟨0x443000, [(72, 0x20)], false,
    [⟨31, 31, .rw, .l, 0x0⟩, ⟨30, 28, .rw, .s, 0x0⟩, ⟨27, 27, .rw, .h, 0x0⟩, ⟨7, 0, .rw, .h, 0x32⟩]⟩,
  ⟨0x443004, [(72, 0x20)], false,
    [⟨31, 31, .rw, .h, 0x0⟩, ⟨30, 30, .rw, .h, 0x0⟩, ⟨29, 29, .rw, .h, 0x0⟩, ⟨28, 27, .rw, .h, 0x0⟩, ⟨26, 20, .rw, .h, 0x0⟩, ⟨19, 13, .rw, .h, 0x0⟩, ⟨7, 0, .rw, .h, 0x0⟩]⟩,
  ⟨0x443008, [(72, 0x20)], false,
    [⟨31, 24, .rw, .h, 0x5⟩, ⟨23, 16, .rw, .h, 0x5⟩, ⟨15, 8, .rw, .h, 0xa⟩, ⟨7, 0, .rw, .h, 0x14⟩]⟩]

/-- Registers of block LBUS, part 1. -/
def mapLbus1 : List RegDesc := [
  ⟨0x44300c, [(72, 0x20)], false,
    [⟨31, 20, .rw, .h, 0x0⟩, ⟨19, 16, .rw, .h, 0x0⟩, ⟨15, 8, .rw, .h, 0xff⟩, ⟨7, 7, .rw, .h, 0x0⟩]⟩,
  ⟨0x443010, [(72, 0x20)], false,
    [⟨15, 0, .rw, .h, 0x0⟩]⟩,
  ⟨0x443014, [(72, 0x20)], false,
    [⟨31, 31, .ro, .l, 0x0⟩, ⟨30, 30, .ro, .l, 0x0⟩, ⟨29, 28, .ro, .l, 0x0⟩, ⟨27, 27, .ro, .l, 0x0⟩, ⟨15, 0, .rc, .l, 0x0⟩]⟩,
  ⟨0x444100, [(14, 0x80), (17, 0x4)], false,
    [⟨7, 0, .rw, .h, 0x0⟩]⟩,
  ⟨0x444800, [(8, 0x80), (17, 0x4)], false,
    [⟨15, 0, .rw, .h, 0x0⟩]⟩,
  ⟨0x445000, [(8, 0x40)], false,
    [⟨31, 31, .rw, .l, 0x0⟩, ⟨30, 29, .rw, .s, 0x0⟩, ⟨28, 28, .rw, .s, 0x0⟩, ⟨27, 26, .rw, .s, 0x0⟩, ⟨25, 25, .rw, .s, 0x0⟩, ⟨19, 0, .rw, .s, 0x32dd⟩]⟩,
  ⟨0x445004, [(8, 0x40)], false,
    [⟨31, 24, .rw, .h, 0x23⟩, ⟨3, 0, .rw, .h, 0x0⟩]⟩,
  ⟨0x445008, [(8, 0x40), (4, 0x8)], false,
    [⟨31, 31, .rw, .h, 0x0⟩, ⟨23, 16, .rw, .h, 0x1⟩, ⟨11, 0, .rw, .h, 0x0⟩]⟩,
  ⟨0x44500c, [(8, 0x40), (4, 0x8)], false,
    [⟨15, 0, .rw, .h, 0x1f4⟩]⟩,
  ⟨0x445028, [(8, 0x40)], false,
    [⟨31, 28, .ro, .l, 0x0⟩, ⟨15, 8, .rc, .l, 0x0⟩, ⟨7, 0, .rc, .l, 0x0⟩]⟩,
  ⟨0x446000, [(16, 0x10)], false,
    [⟨31, 16, .rw, .l, 0xd6b⟩, ⟨15, 0, .rw, .l, 0x3e8⟩]⟩,
  ⟨0x446004, [(16, 0x10)], false,
    [⟨31, 31, .ro, .l, 0x0⟩, ⟨30, 30, .ro, .l, 0x0⟩, ⟨15, 0, .ro, .l, 0x0⟩]⟩]

/-- The registers of block LBUS, in offset order. -/
def mapLbus : List RegDesc := mapLbus0 ++ mapLbus1

/-- Registers of block MTR, part 0. -/
def mapMtr0 : List RegDesc := [
  ⟨0x480000, [], false,
    [⟨7, 0, .rw, .l, 0x0⟩]⟩,
  ⟨0x480004, [], false,
    [⟨15, 8, .ro, .l, 0x0⟩, ⟨7, 0, .ro, .l, 0x0⟩]⟩,
  ⟨0x480008, [], false,
    [⟨31, 31, .rw, .l, 0x0⟩]⟩,
  ⟨0x48000c, [], false,
    [⟨31, 31, .rw, .l, 0x0⟩, ⟨30, 30, .rw, .s, 0x0⟩]⟩,
  ⟨0x480010, [], false,
    [⟨23, 16, .ro, .l, 0x30⟩, ⟨15, 8, .ro, .l, 0x4⟩, ⟨7, 0, .ro, .l, 0x0⟩]⟩,
  ⟨0x480014, [], false,
    [⟨29, 0, .rw, .l, 0x0⟩]⟩,
  ⟨0x480018, [], false,
    [⟨31, 0, .rw, .l, 0x0⟩]⟩,
  ⟨0x48001c, [], false,
    [⟨15, 0, .rw, .l, 0x0⟩]⟩,
  ⟨0x480020, [], false,
    [⟨31, 0, .ro, .l, 0x0⟩]⟩,
  ⟨0x480024, [], false,
    [⟨31, 0, .ro, .l, 0x0⟩]⟩,
  ⟨0x480028, [], false,
    [⟨31, 16, .rw, .h, 0xfe70⟩, ⟨15, 0, .rw, .h, 0x64⟩]⟩,
  ⟨0x48002c, [], false,
    [⟨31, 31, .rw, .l, 0x0⟩, ⟨1, 0, .rw, .h, 0x0⟩]⟩,
  ⟨0x480030, [], false,
    [⟨15, 0, .ro, .l, 0x0⟩]⟩,
  ⟨0x480080, [], false,
    [⟨8, 8, .w1c, .l, 0x0⟩, ⟨7, 7, .w1c, .l, 0x0⟩, ⟨6, 6, .w1c, .l, 0x0⟩, ⟨5, 5, .w1c, .l, 0x0⟩, ⟨4, 4, .w1c, .l, 0x0⟩, ⟨3, 3, .w1c, .l, 0x0⟩, ⟨2, 2, .w1c, .l, 0x0⟩, ⟨1, 1, .w1c, .l, 0x0⟩, ⟨0, 0, .w1c, .l, 0x0⟩]⟩,
  ⟨0x480084, [], false,
    [⟨8, 0, .rw, .l, 0x0⟩]⟩,
  ⟨0x481000, [(48, 0x20)], false,
    [⟨31, 0, .rw, .h, 0x0⟩]⟩,
  ⟨0x481004, [(48, 0x20)], false,
    [⟨31, 0, .rw, .h, 0x0⟩]⟩,
  ⟨0x481008, [(48, 0x20)], false,
    [⟨31, 16, .rw, .h, 0x0⟩, ⟨15, 0, .rw, .h, 0x0⟩]⟩,
  ⟨0x48100c, [(48, 0x20)], false,
    [⟨31, 31, .rw, .s, 0x1⟩, ⟨30, 30, .rw, .s, 0x0⟩]⟩,
  ⟨0x481010, [(48, 0x20)], false,
    [⟨31, 31, .ro, .l, 0x0⟩, ⟨30, 30, .ro, .l, 0x0⟩, ⟨29, 24, .ro, .l, 0x0⟩, ⟨23, 23, .ro, .l, 0x1⟩, ⟨22, 22, .ro, .l, 0x1⟩, ⟨21, 21, .w1c, .l, 0x0⟩, ⟨15, 0, .rc, .l, 0x0⟩]⟩,
  ⟨0x481014, [(48, 0x20)], false,
    [⟨31, 16, .ro, .l, 0x0⟩, ⟨15, 0, .ro, .l, 0x0⟩]⟩,
  ⟨0x482000, [(4, 0x40)], false,
    [⟨31, 31, .rw, .l, 0x0⟩, ⟨27, 26, .rw, .s, 0x0⟩, ⟨23, 0, .rw, .h, 0x38270⟩]⟩,
  ⟨0x482004, [(4, 0x40)], false,
    [⟨31, 24, .rw, .h, 0x6e⟩, ⟨23, 16, .rw, .h, 0x55⟩, ⟨15, 8, .rw, .h, 0x19⟩, ⟨7, 0, .rw, .h, 0x5⟩]⟩,
  ⟨0x482008, [(4, 0x40)], false,
    [⟨31, 16, .ro, .l, 0x0⟩, ⟨15, 15, .ro, .l, 0x0⟩, ⟨3, 3, .ro, .l, 0x0⟩, ⟨2, 2, .ro, .l, 0x0⟩, ⟨1, 1, .ro, .l, 0x0⟩, ⟨0, 0, .ro, .l, 0x0⟩]⟩]

/-- Registers of block MTR, part 1. -/
def mapMtr1 : List RegDesc := [
  ⟨0x48200c, [(4, 0x40)], false,
    [⟨31, 0, .ro, .l, 0x0⟩]⟩,
  ⟨0x482010, [(4, 0x40), (3, 0x4)], false,
    [⟨31, 0, .ro, .l, 0x0⟩]⟩,
  ⟨0x48201c, [(4, 0x40)], false,
    [⟨31, 0, .ro, .l, 0x0⟩]⟩,
  ⟨0x483000, [(12, 0x100)], false,
    [⟨31, 31, .rw, .l, 0x0⟩, ⟨25, 24, .rw, .s, 0x0⟩, ⟨15, 0, .rw, .h, 0x14⟩]⟩,
  ⟨0x483004, [(12, 0x100)], false,
    [⟨15, 0, .rw, .h, 0x0⟩]⟩,
  ⟨0x483010, [(12, 0x100)], false,
    [⟨31, 16, .ro, .l, 0x0⟩, ⟨3, 3, .ro, .l, 0x0⟩, ⟨2, 2, .ro, .l, 0x0⟩, ⟨1, 1, .ro, .l, 0x0⟩, ⟨0, 0, .ro, .l, 0x0⟩]⟩,
  ⟨0x483014, [(12, 0x100), (3, 0x4)], false,
    [⟨31, 0, .ro, .l, 0x0⟩]⟩,
  ⟨0x483020, [(12, 0x100), (3, 0x4)], false,
    [⟨31, 0, .ro, .l, 0x0⟩]⟩,
  ⟨0x48302c, [(12, 0x100), (3, 0x4)], false,
    [⟨31, 0, .ro, .l, 0x0⟩]⟩,
  ⟨0x483038, [(12, 0x100), (3, 0x4)], false,
    [⟨31, 0, .ro, .l, 0x0⟩]⟩,
  ⟨0x483044, [(12, 0x100)], false,
    [⟨31, 0, .ro, .l, 0x0⟩]⟩,
  ⟨0x483048, [(12, 0x100)], false,
    [⟨31, 0, .ro, .l, 0x0⟩]⟩,
  ⟨0x48304c, [(12, 0x100)], false,
    [⟨31, 0, .ro, .l, 0x0⟩]⟩,
  ⟨0x483050, [(12, 0x100)], false,
    [⟨15, 0, .ro, .l, 0x0⟩]⟩,
  ⟨0x483060, [(12, 0x100), (7, 0x8)], false,
    [⟨31, 0, .rar, .l, 0x0⟩]⟩,
  ⟨0x483064, [(12, 0x100), (7, 0x8)], false,
    [⟨31, 0, .rar, .l, 0x0⟩]⟩,
  ⟨0x483098, [(12, 0x100)], false,
    [⟨22, 16, .w1c, .l, 0x0⟩, ⟨6, 0, .ro, .l, 0x0⟩]⟩,
  ⟨0x4830a0, [(12, 0x100)], false,
    [⟨31, 31, .rw, .h, 0x0⟩, ⟨27, 24, .rw, .h, 0x2⟩, ⟨23, 16, .rw, .h, 0x0⟩, ⟨15, 8, .rw, .h, 0x3c⟩, ⟨7, 0, .rw, .h, 0x8⟩]⟩,
  ⟨0x4830a4, [(12, 0x100)], false,
    [⟨31, 24, .rw, .h, 0x5⟩, ⟨15, 0, .rw, .h, 0x0⟩]⟩,
  ⟨0x4830a8, [(12, 0x100)], false,
    [⟨31, 16, .rw, .h, 0x0⟩, ⟨15, 0, .rw, .h, 0x3e8⟩]⟩,
  ⟨0x4830ac, [(12, 0x100)], false,
    [⟨31, 0, .ro, .l, 0x0⟩]⟩,
  ⟨0x4830b0, [(12, 0x100)], false,
    [⟨31, 0, .ro, .l, 0x0⟩]⟩,
  ⟨0x4830b4, [(12, 0x100)], false,
    [⟨31, 0, .ro, .l, 0x0⟩]⟩,
  ⟨0x4830b8, [(12, 0x100)], false,
    [⟨31, 31, .ro, .l, 0x0⟩, ⟨30, 30, .ro, .l, 0x0⟩, ⟨29, 29, .ro, .l, 0x0⟩, ⟨23, 16, .ro, .l, 0x0⟩, ⟨15, 0, .ro, .l, 0x0⟩]⟩]

/-- Registers of block MTR, part 2. -/
def mapMtr2 : List RegDesc := [
  ⟨0x4830bc, [(12, 0x100)], false,
    [⟨31, 16, .rc, .l, 0x0⟩, ⟨15, 0, .rc, .l, 0x0⟩]⟩,
  ⟨0x484000, [(48, 0x40), (16, 0x4)], false,
    [⟨31, 16, .rw, .h, 0x0⟩, ⟨15, 0, .rw, .h, 0x0⟩]⟩,
  ⟨0x486000, [(16, 0x10)], false,
    [⟨31, 31, .rw, .h, 0x0⟩, ⟨27, 24, .rw, .h, 0x0⟩, ⟨18, 16, .rw, .h, 0x0⟩, ⟨15, 0, .rw, .h, 0x50⟩]⟩,
  ⟨0x486004, [(16, 0x10)], false,
    [⟨31, 0, .rw, .h, 0x3e8⟩]⟩,
  ⟨0x486008, [(16, 0x10)], false,
    [⟨31, 31, .w1c, .l, 0x0⟩, ⟨15, 0, .ro, .l, 0x0⟩]⟩,
  ⟨0x48600c, [(16, 0x10)], false,
    [⟨31, 0, .rc, .l, 0x0⟩]⟩,
  ⟨0x4c0000, [(48, 0x100)], false,
    [⟨31, 16, .ro, .l, 0x0⟩, ⟨15, 0, .ro, .l, 0x0⟩]⟩,
  ⟨0x4c0004, [(48, 0x100), (63, 0x4)], false,
    [⟨31, 0, .ro, .l, 0x0⟩]⟩]

/-- The registers of block MTR, in offset order. -/
def mapMtr : List RegDesc := mapMtr0 ++ mapMtr1 ++ mapMtr2

/-- Registers of block RAD, part 0. -/
def mapRad0 : List RegDesc := [
  ⟨0x500000, [], false,
    [⟨7, 0, .rw, .l, 0x0⟩]⟩,
  ⟨0x500004, [], false,
    [⟨15, 8, .ro, .l, 0x0⟩, ⟨7, 0, .ro, .l, 0x0⟩]⟩,
  ⟨0x500008, [], false,
    [⟨24, 16, .rw, .l, 0x0⟩, ⟨2, 0, .rw, .l, 0x0⟩]⟩,
  ⟨0x50000c, [], false,
    [⟨31, 0, .ro, .l, 0x0⟩]⟩,
  ⟨0x500010, [], false,
    [⟨31, 0, .rw, .s, 0x0⟩]⟩,
  ⟨0x500014, [], false,
    [⟨31, 0, .rw, .s, 0x0⟩]⟩,
  ⟨0x500018, [], false,
    [⟨31, 31, .rw, .l, 0x0⟩, ⟨23, 16, .rw, .h, 0x3c⟩, ⟨0, 0, .rw, .s, 0x0⟩]⟩,
  ⟨0x50001c, [], false,
    [⟨31, 31, .ro, .l, 0x0⟩, ⟨26, 24, .ro, .l, 0x0⟩, ⟨23, 16, .ro, .l, 0x0⟩, ⟨15, 8, .ro, .l, 0x0⟩]⟩,
  ⟨0x500080, [], false,
    [⟨8, 8, .w1c, .l, 0x0⟩, ⟨7, 7, .w1c, .l, 0x0⟩, ⟨6, 6, .w1c, .l, 0x0⟩, ⟨5, 5, .w1c, .l, 0x0⟩, ⟨4, 4, .w1c, .l, 0x0⟩, ⟨3, 3, .w1c, .l, 0x0⟩, ⟨2, 2, .w1c, .l, 0x0⟩, ⟨1, 1, .w1c, .l, 0x0⟩, ⟨0, 0, .w1c, .l, 0x0⟩]⟩,
  ⟨0x500084, [], false,
    [⟨8, 0, .rw, .l, 0x0⟩]⟩,
  ⟨0x500200, [(8, 0x20)], false,
    [⟨31, 31, .rw, .s, 0x0⟩, ⟨30, 30, .rw, .s, 0x0⟩, ⟨19, 0, .rw, .s, 0x0⟩]⟩,
  ⟨0x500204, [(8, 0x20)], false,
    [⟨31, 24, .rw, .s, 0x28⟩, ⟨19, 0, .rw, .s, 0x0⟩]⟩,
  ⟨0x500208, [(8, 0x20)], false,
    [⟨21, 0, .rw, .s, 0x8ca0⟩]⟩,
  ⟨0x50020c, [(8, 0x20)], false,
    [⟨15, 0, .rw, .s, 0x4e20⟩]⟩,
  ⟨0x500210, [(8, 0x20)], false,
    [⟨31, 0, .ro, .l, 0x0⟩]⟩,
  ⟨0x500214, [(8, 0x20)], false,
    [⟨31, 0, .ro, .l, 0x0⟩]⟩,
  ⟨0x500218, [(8, 0x20)], false,
    [⟨31, 16, .rc, .l, 0x0⟩, ⟨15, 0, .rc, .l, 0x0⟩]⟩,
  ⟨0x501000, [(8, 0x80)], false,
    [⟨31, 31, .rw, .l, 0x0⟩, ⟨30, 30, .rw, .h, 0x1⟩, ⟨29, 29, .rw, .s, 0x1⟩, ⟨26, 24, .rw, .s, 0x0⟩]⟩,
  ⟨0x501004, [(8, 0x80)], false,
    [⟨19, 0, .rw, .s, 0x0⟩]⟩,
  ⟨0x501008, [(8, 0x80)], false,
    [⟨31, 31, .rw, .s, 0x0⟩, ⟨27, 24, .rw, .s, 0x0⟩, ⟨23, 20, .rw, .s, 0x4⟩, ⟨19, 16, .rw, .s, 0x2⟩, ⟨15, 15, .rw, .s, 0x0⟩, ⟨14, 14, .rw, .s, 0x1⟩, ⟨9, 0, .rw, .s, 0x8⟩]⟩,
  ⟨0x50100c, [(8, 0x80)], false,
    [⟨23, 16, .ro, .l, 0x0⟩, ⟨7, 0, .rw, .h, 0x28⟩]⟩,
  ⟨0x501010, [(8, 0x80)], false,
    [⟨31, 28, .rw, .h, 0x0⟩, ⟨27, 24, .rw, .h, 0x5⟩, ⟨23, 20, .rw, .h, 0x4⟩, ⟨19, 16, .rw, .h, 0x3⟩, ⟨15, 8, .rw, .h, 0xab⟩]⟩,
  ⟨0x501014, [(8, 0x80)], false,
    [⟨21, 0, .rw, .s, 0x0⟩]⟩,
  ⟨0x501018, [(8, 0x80)], false,
    [⟨31, 29, .ro, .l, 0x0⟩, ⟨28, 28, .ro, .l, 0x0⟩]⟩]

/-- Registers of block RAD, part 1. -/
def mapRad1 : List RegDesc := [
  ⟨0x50101c, [(8, 0x80)], false,
    [⟨31, 0, .ro, .l, 0x0⟩]⟩,
  ⟨0x501020, [(8, 0x80)], false,
    [⟨31, 16, .rc, .l, 0x0⟩, ⟨15, 0, .rc, .l, 0x0⟩]⟩,
  ⟨0x501024, [(8, 0x80)], false,
    [⟨31, 16, .rc, .l, 0x0⟩, ⟨15, 0, .rc, .l, 0x0⟩]⟩,
  ⟨0x501028, [(8, 0x80)], false,
    [⟨31, 16, .rc, .l, 0x0⟩, ⟨15, 0, .rc, .l, 0x0⟩]⟩,
  ⟨0x50102c, [(8, 0x80)], false,
    [⟨31, 24, .rc, .l, 0x0⟩, ⟨23, 16, .rc, .l, 0x0⟩, ⟨15, 8, .rc, .l, 0x0⟩, ⟨7, 0, .rc, .l, 0x0⟩]⟩,
  ⟨0x501030, [(8, 0x80)], false,
    [⟨31, 24, .rc, .l, 0x0⟩, ⟨23, 16, .rc, .l, 0x0⟩, ⟨15, 8, .rc, .l, 0x0⟩, ⟨7, 0, .rc, .l, 0x0⟩]⟩,
  ⟨0x501034, [(8, 0x80)], false,
    [⟨31, 24, .ro, .l, 0x0⟩]⟩,
  ⟨0x501038, [(8, 0x80)], false,
    [⟨31, 24, .rc, .l, 0x0⟩]⟩]

/-- The registers of block RAD, in offset order. -/
def mapRad : List RegDesc := mapRad0 ++ mapRad1

/-- Registers of block SWC, part 0. -/
def mapSwc0 : List RegDesc := [
  ⟨0x580000, [], false,
    [⟨7, 0, .rw, .l, 0x0⟩]⟩,
  ⟨0x580004, [], false,
    [⟨15, 8, .ro, .l, 0x0⟩, ⟨7, 0, .ro, .l, 0x0⟩]⟩,
  ⟨0x580008, [], false,
    [⟨29, 16, .rw, .l, 0x0⟩, ⟨14, 0, .rw, .l, 0x0⟩]⟩,
  ⟨0x58000c, [], false,
    [⟨31, 27, .rw, .l, 0x0⟩, ⟨26, 24, .rw, .l, 0x0⟩, ⟨21, 16, .rw, .l, 0x0⟩, ⟨12, 0, .rw, .l, 0x0⟩]⟩,
  ⟨0x580010, [], false,
    [⟨31, 31, .rw, .l, 0x0⟩, ⟨2, 0, .rw, .s, 0x6⟩]⟩,
  ⟨0x580014, [], false,
    [⟨15, 0, .rw, .s, 0x400⟩]⟩,
  ⟨0x580018, [], false,
    [⟨31, 31, .w1c, .l, 0x0⟩, ⟨30, 24, .ro, .l, 0x40⟩, ⟨15, 0, .ro, .l, 0x8000⟩]⟩,
  ⟨0x58001c, [], false,
    [⟨31, 16, .rw, .s, 0x1000⟩, ⟨15, 0, .rw, .s, 0x100⟩]⟩,
  ⟨0x580020, [], false,
    [⟨31, 31, .rc, .l, 0x0⟩, ⟨14, 0, .rc, .l, 0x0⟩]⟩,
  ⟨0x580024, [], false,
    [⟨15, 0, .rw, .l, 0x0⟩]⟩,
  ⟨0x580028, [], false,
    [⟨15, 0, .rc, .l, 0x0⟩]⟩,
  ⟨0x58002c, [], false,
    [⟨31, 30, .ro, .l, 0x0⟩, ⟨26, 24, .ro, .l, 0x0⟩, ⟨15, 0, .ro, .l, 0x0⟩]⟩,
  ⟨0x580030, [], false,
    [⟨31, 31, .rw, .l, 0x0⟩, ⟨30, 16, .rw, .l, 0x7fff⟩, ⟨14, 0, .rw, .l, 0x0⟩]⟩,
  ⟨0x580034, [], false,
    [⟨31, 16, .rc, .l, 0x0⟩, ⟨15, 0, .rc, .l, 0x0⟩]⟩,
  ⟨0x580080, [], false,
    [⟨4, 4, .w1c, .l, 0x0⟩, ⟨3, 3, .w1c, .l, 0x0⟩, ⟨2, 2, .w1c, .l, 0x0⟩, ⟨1, 1, .w1c, .l, 0x0⟩, ⟨0, 0, .w1c, .l, 0x0⟩]⟩,
  ⟨0x580084, [], false,
    [⟨4, 0, .rw, .l, 0x0⟩]⟩,
  ⟨0x580100, [(20, 0x20)], false,
    [⟨31, 31, .rw, .h, 0x0⟩, ⟨26, 24, .rw, .s, 0x5⟩, ⟨21, 16, .rw, .h, 0x0⟩, ⟨10, 8, .rw, .h, 0x4⟩]⟩,
  ⟨0x580104, [(20, 0x20)], false,
    [⟨31, 0, .rw, .h, 0x8080808⟩]⟩,
  ⟨0x580108, [(20, 0x20)], false,
    [⟨31, 16, .rc, .l, 0x0⟩]⟩,
  ⟨0x58010c, [(20, 0x20)], false,
    [⟨23, 0, .rw, .h, 0x80808⟩]⟩,
  ⟨0x580400, [(16, 0x10), (3, 0x4)], false,
    [⟨31, 24, .rw, .h, 0x0⟩, ⟨23, 12, .rw, .h, 0x0⟩, ⟨11, 0, .rw, .h, 0xfff⟩]⟩,
  ⟨0x58040c, [(16, 0x10)], false,
    [⟨3, 0, .rw, .h, 0x9⟩]⟩,
  ⟨0x580800, [(64, 0x40)], false,
    [⟨31, 31, .rw, .h, 0x0⟩, ⟨30, 30, .rw, .h, 0x0⟩, ⟨29, 29, .rw, .h, 0x1⟩, ⟨15, 0, .rw, .h, 0x8000⟩]⟩,
  ⟨0x580804, [(64, 0x40)], false,
    [⟨23, 0, .rw, .h, 0x0⟩]⟩]

/-- Registers of block SWC, part 1. -/
def mapSwc1 : List RegDesc := [
  ⟨0x580808, [(64, 0x40)], false,
    [⟨23, 0, .rw, .h, 0x0⟩]⟩,
  ⟨0x58080c, [(64, 0x40)], false,
    [⟨23, 0, .rw, .h, 0x0⟩]⟩,
  ⟨0x580810, [(64, 0x40)], false,
    [⟨23, 0, .rw, .h, 0x0⟩]⟩,
  ⟨0x580814, [(64, 0x40)], false,
    [⟨31, 31, .ro, .l, 0x0⟩, ⟨15, 0, .ro, .l, 0x0⟩]⟩,
  ⟨0x580818, [(64, 0x40)], false,
    [⟨31, 16, .rc, .l, 0x0⟩, ⟨15, 0, .rc, .l, 0x0⟩]⟩,
  ⟨0x58081c, [(64, 0x40)], false,
    [⟨31, 0, .rc, .l, 0x0⟩]⟩,
  ⟨0x581800, [(64, 0x4)], false,
    [⟨31, 31, .rw, .h, 0x0⟩, ⟨21, 16, .rw, .h, 0x0⟩, ⟨11, 0, .rw, .h, 0x0⟩]⟩,
  ⟨0x582000, [(4256, 0x10)], false,
    [⟨31, 31, .rw, .h, 0x1⟩, ⟨27, 24, .rw, .h, 0x0⟩, ⟨15, 0, .rw, .h, 0x0⟩]⟩,
  ⟨0x582004, [(4256, 0x10)], false,
    [⟨31, 24, .rc, .l, 0x0⟩, ⟨23, 16, .ro, .l, 0x0⟩, ⟨15, 0, .ro, .l, 0x0⟩]⟩,
  ⟨0x582008, [(4256, 0x10)], false,
    [⟨31, 0, .rc, .l, 0x0⟩]⟩,
  ⟨0x58200c, [(4256, 0x10)], false,
    [⟨23, 0, .ro, .l, 0x0⟩]⟩,
  ⟨0x594000, [(1024, 0x8)], false,
    [⟨31, 31, .rw, .h, 0x0⟩, ⟨30, 30, .rw, .h, 0x0⟩, ⟨19, 0, .rw, .h, 0x0⟩]⟩,
  ⟨0x594004, [(1024, 0x8)], false,
    [⟨31, 16, .rc, .l, 0x0⟩, ⟨15, 0, .rc, .l, 0x0⟩]⟩,
  ⟨0x598000, [(64, 0x4)], true,
    [⟨31, 0, .rw, .l, 0x0⟩]⟩]

/-- The registers of block SWC, in offset order. -/
def mapSwc : List RegDesc := mapSwc0 ++ mapSwc1

/-- The registers of block HMQ, in offset order. -/
def mapHmq : List RegDesc := [
  ⟨0x5c0000, [], false,
    [⟨7, 0, .rw, .l, 0x0⟩]⟩,
  ⟨0x5c0004, [], false,
    [⟨15, 8, .ro, .l, 0x0⟩, ⟨7, 0, .ro, .l, 0x0⟩]⟩,
  ⟨0x5c0008, [], false,
    [⟨4, 0, .rw, .l, 0x0⟩]⟩,
  ⟨0x5c000c, [], false,
    [⟨31, 0, .ro, .l, 0x0⟩]⟩,
  ⟨0x5c0010, [], false,
    [⟨31, 0, .w1c, .l, 0x0⟩]⟩,
  ⟨0x5c0014, [], false,
    [⟨31, 16, .rw, .l, 0x0⟩]⟩,
  ⟨0x5c0080, [], false,
    [⟨4, 4, .w1c, .l, 0x0⟩, ⟨3, 3, .w1c, .l, 0x0⟩, ⟨2, 2, .w1c, .l, 0x0⟩, ⟨1, 1, .w1c, .l, 0x0⟩, ⟨0, 0, .w1c, .l, 0x0⟩]⟩,
  ⟨0x5c0084, [], false,
    [⟨4, 0, .rw, .l, 0x0⟩]⟩,
  ⟨0x5c1000, [(32, 0x40)], false,
    [⟨31, 31, .rw, .l, 0x0⟩, ⟨30, 30, .rw, .s, 0x0⟩, ⟨21, 20, .rw, .s, 0x0⟩, ⟨19, 0, .rw, .h, 0x0⟩]⟩,
  ⟨0x5c1004, [(32, 0x40)], false,
    [⟨26, 16, .ro, .l, 0x0⟩, ⟨10, 0, .ro, .l, 0x0⟩]⟩,
  ⟨0x5c1008, [(32, 0x40)], false,
    [⟨31, 16, .rc, .l, 0x0⟩, ⟨15, 0, .rc, .l, 0x0⟩]⟩,
  ⟨0x5c100c, [(32, 0x40)], false,
    [⟨31, 0, .ro, .l, 0x0⟩]⟩,
  ⟨0x5c1010, [(32, 0x40)], false,
    [⟨31, 0, .rw, .l, 0x0⟩]⟩,
  ⟨0x5c1014, [(32, 0x40)], false,
    [⟨31, 0, .rw, .l, 0x0⟩]⟩,
  ⟨0x5c1018, [(32, 0x40)], false,
    [⟨31, 0, .rc, .l, 0x0⟩]⟩,
  ⟨0x5c101c, [(32, 0x40)], false,
    [⟨31, 31, .ro, .l, 0x0⟩, ⟨30, 30, .ro, .l, 0x0⟩, ⟨29, 29, .ro, .l, 0x0⟩, ⟨10, 0, .ro, .l, 0x0⟩]⟩]

/-- The registers of block BBN, in offset order. -/
def mapBbn : List RegDesc := [
  ⟨0x600000, [], false,
    [⟨31, 31, .rw, .l, 0x0⟩, ⟨30, 30, .rw, .s, 0x0⟩, ⟨29, 29, .rw, .s, 0x0⟩]⟩,
  ⟨0x600004, [], false,
    [⟨31, 0, .rw, .s, 0x0⟩]⟩,
  ⟨0x600008, [], false,
    [⟨15, 0, .rw, .s, 0x0⟩]⟩,
  ⟨0x60000c, [], false,
    [⟨31, 0, .rw, .s, 0x0⟩]⟩,
  ⟨0x600010, [], false,
    [⟨31, 31, .rw, .s, 0x0⟩, ⟨23, 16, .rw, .s, 0x0⟩, ⟨15, 0, .rw, .s, 0xbaf0⟩]⟩,
  ⟨0x600014, [], false,
    [⟨31, 0, .ro, .l, 0x0⟩]⟩,
  ⟨0x600018, [], false,
    [⟨31, 31, .rw, .h, 0x1⟩, ⟨15, 0, .rw, .h, 0x3e8⟩]⟩,
  ⟨0x60001c, [], false,
    [⟨31, 0, .rw, .h, 0xef007a1c⟩]⟩,
  ⟨0x600020, [], false,
    [⟨31, 0, .rw, .h, 0x0⟩]⟩,
  ⟨0x600024, [], false,
    [⟨15, 0, .rw, .h, 0xbaf1⟩]⟩,
  ⟨0x600028, [], false,
    [⟨31, 16, .rc, .l, 0x0⟩, ⟨15, 8, .rc, .l, 0x0⟩, ⟨7, 0, .rc, .l, 0x0⟩]⟩,
  ⟨0x600040, [(2, 0x20)], false,
    [⟨1, 0, .rw, .s, 0x0⟩]⟩,
  ⟨0x600044, [(2, 0x20)], false,
    [⟨31, 31, .ro, .l, 0x0⟩, ⟨30, 30, .ro, .l, 0x0⟩, ⟨29, 29, .ro, .l, 0x0⟩, ⟨15, 0, .rc, .l, 0x0⟩]⟩,
  ⟨0x600048, [(2, 0x20)], false,
    [⟨31, 0, .rc, .l, 0x0⟩]⟩,
  ⟨0x60004c, [(2, 0x20)], false,
    [⟨31, 0, .rc, .l, 0x0⟩]⟩,
  ⟨0x600050, [(2, 0x20)], false,
    [⟨31, 16, .rc, .l, 0x0⟩, ⟨15, 0, .rc, .l, 0x0⟩]⟩,
  ⟨0x600080, [], false,
    [⟨3, 3, .w1c, .l, 0x0⟩, ⟨2, 2, .w1c, .l, 0x0⟩, ⟨1, 1, .w1c, .l, 0x0⟩, ⟨0, 0, .w1c, .l, 0x0⟩]⟩,
  ⟨0x600084, [], false,
    [⟨3, 0, .rw, .l, 0x0⟩]⟩]

/-- The registers of block MZL, in offset order. -/
def mapMzl : List RegDesc := [
  ⟨0x640000, [], false,
    [⟨7, 0, .rw, .l, 0x0⟩]⟩,
  ⟨0x640004, [], false,
    [⟨15, 8, .ro, .l, 0x0⟩, ⟨7, 0, .ro, .l, 0x0⟩]⟩,
  ⟨0x640008, [], false,
    [⟨31, 31, .rw, .l, 0x0⟩, ⟨30, 30, .rw, .s, 0x0⟩, ⟨29, 16, .rw, .h, 0x3e8⟩, ⟨15, 0, .rw, .h, 0x1388⟩]⟩,
  ⟨0x64000c, [], false,
    [⟨31, 31, .ro, .l, 0x0⟩, ⟨30, 30, .w1c, .l, 0x0⟩, ⟨29, 29, .ro, .l, 0x0⟩, ⟨5, 0, .ro, .l, 0x0⟩]⟩,
  ⟨0x640040, [(2, 0x20)], false,
    [⟨31, 31, .ro, .l, 0x0⟩, ⟨21, 16, .ro, .l, 0x0⟩, ⟨15, 0, .rc, .l, 0x0⟩]⟩,
  ⟨0x640044, [(2, 0x20)], false,
    [⟨31, 16, .rc, .l, 0x0⟩, ⟨15, 0, .rc, .l, 0x0⟩]⟩,
  ⟨0x640048, [(2, 0x20)], false,
    [⟨31, 0, .rc, .l, 0x0⟩]⟩,
  ⟨0x64004c, [(2, 0x20)], false,
    [⟨31, 0, .rc, .l, 0x0⟩]⟩,
  ⟨0x640050, [(2, 0x20)], false,
    [⟨31, 0, .rc, .l, 0x0⟩]⟩,
  ⟨0x640080, [], false,
    [⟨3, 3, .w1c, .l, 0x0⟩, ⟨2, 2, .w1c, .l, 0x0⟩, ⟨1, 1, .w1c, .l, 0x0⟩, ⟨0, 0, .w1c, .l, 0x0⟩]⟩,
  ⟨0x640084, [], false,
    [⟨3, 0, .rw, .l, 0x0⟩]⟩]

/-- The registers of block HBR, in offset order. -/
def mapHbr : List RegDesc := [
  ⟨0x680000, [], false,
    [⟨7, 0, .rw, .l, 0x0⟩]⟩,
  ⟨0x680004, [], false,
    [⟨15, 8, .ro, .l, 0x0⟩, ⟨7, 0, .ro, .l, 0x0⟩]⟩,
  ⟨0x680008, [], false,
    [⟨3, 0, .rw, .l, 0x2⟩]⟩,
  ⟨0x68000c, [], false,
    [⟨15, 0, .rw, .l, 0xc8⟩]⟩,
  ⟨0x680010, [], false,
    [⟨15, 8, .ro, .l, 0x0⟩, ⟨7, 0, .ro, .l, 0x0⟩]⟩,
  ⟨0x680014, [], false,
    [⟨31, 31, .w1c, .l, 0x0⟩, ⟨30, 30, .w1c, .l, 0x0⟩, ⟨29, 28, .ro, .l, 0x0⟩]⟩,
  ⟨0x680018, [], false,
    [⟨31, 0, .ro, .l, 0x0⟩]⟩,
  ⟨0x680020, [], false,
    [⟨31, 0, .ro, .l, 0x0⟩]⟩,
  ⟨0x680024, [], false,
    [⟨31, 0, .ro, .l, 0x0⟩]⟩,
  ⟨0x680080, [], false,
    [⟨2, 2, .w1c, .l, 0x0⟩, ⟨1, 1, .w1c, .l, 0x0⟩, ⟨0, 0, .w1c, .l, 0x0⟩]⟩,
  ⟨0x680084, [], false,
    [⟨2, 0, .rw, .l, 0x0⟩]⟩,
  ⟨0x680100, [(16, 0x4)], false,
    [⟨31, 31, .rw, .l, 0x0⟩, ⟨30, 30, .rw, .l, 0x0⟩, ⟨29, 29, .rw, .l, 0x1⟩, ⟨28, 28, .rw, .l, 0x0⟩, ⟨27, 27, .rw, .l, 0x0⟩, ⟨26, 16, .rw, .l, 0x0⟩, ⟨9, 0, .rw, .l, 0x0⟩]⟩]

/-- The registers of block USB, in offset order. -/
def mapUsb : List RegDesc := [
  ⟨0x6c0000, [], false,
    [⟨31, 31, .rw, .l, 0x0⟩]⟩,
  ⟨0x6c0004, [], false,
    [⟨31, 16, .ro, .l, 0x2f4a⟩, ⟨15, 0, .ro, .l, 0x4096⟩]⟩,
  ⟨0x6c0008, [], false,
    [⟨31, 31, .ro, .l, 0x0⟩, ⟨30, 30, .ro, .l, 0x0⟩, ⟨29, 29, .ro, .l, 0x0⟩, ⟨28, 28, .w1c, .l, 0x0⟩]⟩,
  ⟨0x6c000c, [], false,
    [⟨31, 16, .rc, .l, 0x0⟩, ⟨15, 0, .rc, .l, 0x0⟩]⟩,
  ⟨0x6c0080, [], false,
    [⟨1, 1, .w1c, .l, 0x0⟩, ⟨0, 0, .w1c, .l, 0x0⟩]⟩,
  ⟨0x6c0084, [], false,
    [⟨1, 0, .rw, .l, 0x0⟩]⟩]

end Sys2Proof.Machine
end

