-- ==== Sys2Proof/Machine/RegNames.lean ====
section
/-! DEFINITION. The manual's names for the registers (`NAME.adr`, an offset) and fields (`NAME.FIELD`, a `Fld`) that the
meanings speak of, with the offsets and bit places of the spec's register tables. -/

namespace Sys2Proof.Machine

def SYS_ID_FAMILY.adr : Nat := 0x0
def SYS_ID_PART.adr : Nat := 0x4
def SYS_ID_PART.PART_CODE : Fld := ⟨SYS_ID_PART.adr, 16, 16⟩
def SYS_ID_SERIAL_LO.adr : Nat := 0x14
def SYS_ID_SERIAL_HI.adr : Nat := 0x18
def SYS_ID_SEG.adr : Nat := 0x1c
def SYS_ID_SEG.VALID : Fld := ⟨SYS_ID_SEG.adr, 31, 1⟩
def SYS_ID_SEG.POS : Fld := ⟨SYS_ID_SEG.adr, 16, 6⟩
def SYS_ID_SEG.SEG : Fld := ⟨SYS_ID_SEG.adr, 0, 14⟩
def SYS_IRQ_STAT.adr : Nat := 0x100
def SYS_IRQ_STAT.BLK : Fld := ⟨SYS_IRQ_STAT.adr, 0, 24⟩
def SYS_IRQ_EN.adr : Nat := 0x104
def SYS_IRQ_CTL.adr : Nat := 0x108
def SYS_IRQ_CTL.PIN_EN : Fld := ⟨SYS_IRQ_CTL.adr, 17, 1⟩
def SYS_IRQ_CTL.EVT_EN : Fld := ⟨SYS_IRQ_CTL.adr, 16, 1⟩
def SYS_IRQ_CTL.EVT_HOLDOFF : Fld := ⟨SYS_IRQ_CTL.adr, 0, 16⟩
def SYS_ACCESS_ERR.adr : Nat := 0x110
def SYS_ACCESS_ERR.SOURCE : Fld := ⟨SYS_ACCESS_ERR.adr, 12, 4⟩
def SYS_ACCESS_ERR.SIZE : Fld := ⟨SYS_ACCESS_ERR.adr, 10, 2⟩
def SYS_ACCESS_ERR.DIR : Fld := ⟨SYS_ACCESS_ERR.adr, 9, 1⟩
def SYS_ACCESS_ERR.OVF : Fld := ⟨SYS_ACCESS_ERR.adr, 8, 1⟩
def SYS_ACCESS_ERR.RO_WRITE : Fld := ⟨SYS_ACCESS_ERR.adr, 4, 1⟩
def SYS_ACCESS_ERR.STATIC : Fld := ⟨SYS_ACCESS_ERR.adr, 3, 1⟩
def SYS_ACCESS_ERR.RESERVED : Fld := ⟨SYS_ACCESS_ERR.adr, 2, 1⟩
def SYS_ACCESS_ERR.WIDTH : Fld := ⟨SYS_ACCESS_ERR.adr, 1, 1⟩
def SYS_ACCESS_ERR.ALIGN : Fld := ⟨SYS_ACCESS_ERR.adr, 0, 1⟩
def SYS_ACCESS_ADDR.adr : Nat := 0x114
def SYS_ACCESS_ADDR.OFFSET : Fld := ⟨SYS_ACCESS_ADDR.adr, 0, 26⟩
def SYS_RST_CAUSE.adr : Nat := 0x120
def SYS_RST_CAUSE.BANKED_WAKE : Fld := ⟨SYS_RST_CAUSE.adr, 9, 1⟩
def SYS_RST_CAUSE.ESCALATED : Fld := ⟨SYS_RST_CAUSE.adr, 8, 1⟩
def SYS_RST_CAUSE.CLOCK_FAIL : Fld := ⟨SYS_RST_CAUSE.adr, 7, 1⟩
def SYS_RST_CAUSE.LOCKSTEP : Fld := ⟨SYS_RST_CAUSE.adr, 6, 1⟩
def SYS_RST_CAUSE.WATCHDOG : Fld := ⟨SYS_RST_CAUSE.adr, 5, 1⟩
def SYS_RST_CAUSE.WARM_UPDATE : Fld := ⟨SYS_RST_CAUSE.adr, 4, 1⟩
def SYS_RST_CAUSE.WARM_CMD : Fld := ⟨SYS_RST_CAUSE.adr, 3, 1⟩
def SYS_RST_CAUSE.COLD_CMD : Fld := ⟨SYS_RST_CAUSE.adr, 2, 1⟩
def SYS_RST_CAUSE.COLD_POWER : Fld := ⟨SYS_RST_CAUSE.adr, 1, 1⟩
def SYS_RST_CAUSE.EMBER_POR : Fld := ⟨SYS_RST_CAUSE.adr, 0, 1⟩
def SYS_STAT.adr : Nat := 0x130
def SYS_STAT.SEG_DUP : Fld := ⟨SYS_STAT.adr, 0, 1⟩
def SYS_EVT_STAT.adr : Nat := 0x140
def SYS_EVT_STAT.SEG_DUP : Fld := ⟨SYS_EVT_STAT.adr, 1, 1⟩
def SYS_EVT_STAT.ACCESS_ERR : Fld := ⟨SYS_EVT_STAT.adr, 0, 1⟩
def SYS_EVT_EN.adr : Nat := 0x144
def EPC_CMD.adr : Nat := 0x2000
def EPC_CMD.CODE : Fld := ⟨EPC_CMD.adr, 0, 8⟩
def EPC_CMD_STAT.adr : Nat := 0x2004
def EPC_CMD_STAT.CMD : Fld := ⟨EPC_CMD_STAT.adr, 8, 8⟩
def EPC_CMD_STAT.STATUS : Fld := ⟨EPC_CMD_STAT.adr, 0, 8⟩
def EPC_CMD_ARG0.adr : Nat := 0x2008
def EPC_CMD_ARG0.EPA : Fld := ⟨EPC_CMD_ARG0.adr, 0, 12⟩
def EPC_CMD_ARG1.adr : Nat := 0x200c
def EPC_CMD_ARG1.EUI_LO : Fld := ⟨EPC_CMD_ARG1.adr, 0, 32⟩
def EPC_CMD_ARG2.adr : Nat := 0x2010
def EPC_CMD_ARG2.EUI_HI : Fld := ⟨EPC_CMD_ARG2.adr, 0, 32⟩
def EPC_STAT.adr : Nat := 0x2014
def EPC_STAT.ACTIVE : Fld := ⟨EPC_STAT.adr, 16, 13⟩
def EPC_STAT.RESERVED : Fld := ⟨EPC_STAT.adr, 0, 13⟩
def EPC_BANK_STAT.adr : Nat := 0x2018
def EPC_BANK_STAT.SPARE_USED : Fld := ⟨EPC_BANK_STAT.adr, 16, 1⟩
def EPC_BANK_STAT.UNAVAIL : Fld := ⟨EPC_BANK_STAT.adr, 0, 16⟩
def EPC_JOIN_CTL.adr : Nat := 0x201c
def EPC_JOIN_CTL.OPEN : Fld := ⟨EPC_JOIN_CTL.adr, 31, 1⟩
def EPC_JOIN_CTL.DEF_PROGRAM : Fld := ⟨EPC_JOIN_CTL.adr, 16, 8⟩
def EPC_JOIN_CTL.OPEN_MIN : Fld := ⟨EPC_JOIN_CTL.adr, 0, 11⟩
def EPC_SILENT_TIME.adr : Nat := 0x2020
def EPC_SILENT_TIME.SEC : Fld := ⟨EPC_SILENT_TIME.adr, 0, 17⟩
def EPC_MISMATCH_CFG.adr : Nat := 0x2024
def EPC_MISMATCH_CFG.TOL : Fld := ⟨EPC_MISMATCH_CFG.adr, 16, 16⟩
def EPC_MISMATCH_CFG.COUNT : Fld := ⟨EPC_MISMATCH_CFG.adr, 0, 4⟩
def EPC_EN_MAXW.adr : Nat := 0x2028
def EPC_EN_MAXW.W : Fld := ⟨EPC_EN_MAXW.adr, 0, 16⟩
def EPC_GTX_CTR.adr : Nat := 0x202c
def EPC_GTX_CTR.CTR : Fld := ⟨EPC_GTX_CTR.adr, 0, 32⟩
def EPC_REMOVED_EN_LO.adr : Nat := 0x2030
def EPC_REMOVED_EN_HI.adr : Nat := 0x2034
def EPC_REMOVED_EN_STAT.adr : Nat := 0x2038
def EPC_REMOVED_EN_STAT.REREAD : Fld := ⟨EPC_REMOVED_EN_STAT.adr, 1, 1⟩
def EPC_REMOVED_EN_STAT.PENDING : Fld := ⟨EPC_REMOVED_EN_STAT.adr, 0, 1⟩
def EPC_RX_DROP.adr : Nat := 0x203c
def EPC_RX_DROP.UNKNOWN_SRC : Fld := ⟨EPC_RX_DROP.adr, 24, 8⟩
def EPC_RX_DROP.SEC_LEVEL : Fld := ⟨EPC_RX_DROP.adr, 16, 8⟩
def EPC_RX_DROP.REPLAY : Fld := ⟨EPC_RX_DROP.adr, 0, 8⟩
def EPC_JOIN_EPA.adr : Nat := 0x2040
def EPC_JOIN_EPA.VALID : Fld := ⟨EPC_JOIN_EPA.adr, 31, 1⟩
def EPC_JOIN_EPA.EPA : Fld := ⟨EPC_JOIN_EPA.adr, 0, 12⟩
def EPC_IRQ_STAT.adr : Nat := 0x2080
def EPC_IRQ_STAT.BANK_LOST : Fld := ⟨EPC_IRQ_STAT.adr, 6, 1⟩
def EPC_IRQ_STAT.ECC_UNCORR : Fld := ⟨EPC_IRQ_STAT.adr, 5, 1⟩
def EPC_IRQ_STAT.MISMATCH : Fld := ⟨EPC_IRQ_STAT.adr, 4, 1⟩
def EPC_IRQ_STAT.SILENT : Fld := ⟨EPC_IRQ_STAT.adr, 3, 1⟩
def EPC_IRQ_STAT.FAULT : Fld := ⟨EPC_IRQ_STAT.adr, 2, 1⟩
def EPC_IRQ_STAT.JOIN : Fld := ⟨EPC_IRQ_STAT.adr, 1, 1⟩
def EPC_IRQ_STAT.CMD_DONE : Fld := ⟨EPC_IRQ_STAT.adr, 0, 1⟩
def EPC_IRQ_EN.adr : Nat := 0x2084
def CFG_CMD.adr : Nat := 0x10000
def CFG_CMD.CODE : Fld := ⟨CFG_CMD.adr, 0, 8⟩
def CFG_CMD_STAT.adr : Nat := 0x10004
def CFG_CMD_STAT.CMD : Fld := ⟨CFG_CMD_STAT.adr, 8, 8⟩
def CFG_CMD_STAT.STATUS : Fld := ⟨CFG_CMD_STAT.adr, 0, 8⟩
def CFG_STAT.adr : Nat := 0x10008
def CFG_STAT.FAIL_SECT : Fld := ⟨CFG_STAT.adr, 24, 8⟩
def CFG_STAT.FAIL_CODE : Fld := ⟨CFG_STAT.adr, 16, 8⟩
def CFG_STAT.DIGEST_BUSY : Fld := ⟨CFG_STAT.adr, 7, 1⟩
def CFG_STAT.GEN_LOWER : Fld := ⟨CFG_STAT.adr, 6, 1⟩
def CFG_STAT.WARM_DIFF : Fld := ⟨CFG_STAT.adr, 5, 1⟩
def CFG_STAT.STORE_BAD : Fld := ⟨CFG_STAT.adr, 4, 1⟩
def CFG_STAT.STORE_STALE : Fld := ⟨CFG_STAT.adr, 3, 1⟩
def CFG_STAT.CONFLICT : Fld := ⟨CFG_STAT.adr, 2, 1⟩
def CFG_STAT.STORE_APPLIED : Fld := ⟨CFG_STAT.adr, 1, 1⟩
def CFG_STAT.IMG_OK : Fld := ⟨CFG_STAT.adr, 0, 1⟩
def CFG_IMG_GEN.adr : Nat := 0x1000c
def CFG_IMG_GEN.GEN : Fld := ⟨CFG_IMG_GEN.adr, 0, 32⟩
def CFG_STORE_GEN.adr : Nat := 0x10010
def CFG_STORE_GEN.GEN : Fld := ⟨CFG_STORE_GEN.adr, 0, 32⟩
def CFG_EPOCH.adr : Nat := 0x10014
def CFG_EPOCH.EPOCH : Fld := ⟨CFG_EPOCH.adr, 0, 32⟩
def CFG_EPOCH_LATCH.adr : Nat := 0x10018
def CFG_DIGEST.adr (i : Nat) : Nat := 0x10020 + 0x4 * i
def CFG_DIGEST.WORD (i : Nat) : Fld := ⟨CFG_DIGEST.adr i, 0, 32⟩
def CFG_REQ_MASK_LO.adr : Nat := 0x10040
def CFG_REQ_MASK_LO.MASK : Fld := ⟨CFG_REQ_MASK_LO.adr, 0, 32⟩
def CFG_REQ_MASK_HI.adr : Nat := 0x10044
def CFG_REQ_MASK_HI.MASK : Fld := ⟨CFG_REQ_MASK_HI.adr, 0, 32⟩
def CFG_REQ_DIGEST.adr (i : Nat) : Nat := 0x10060 + 0x4 * i
def CFG_REQ_DIGEST.WORD (i : Nat) : Fld := ⟨CFG_REQ_DIGEST.adr i, 0, 32⟩
def CFG_IRQ_STAT.adr : Nat := 0x10080
def CFG_IRQ_STAT.WARM_DIFF : Fld := ⟨CFG_IRQ_STAT.adr, 3, 1⟩
def CFG_IRQ_STAT.CONFLICT : Fld := ⟨CFG_IRQ_STAT.adr, 2, 1⟩
def CFG_IRQ_STAT.CMD_DONE : Fld := ⟨CFG_IRQ_STAT.adr, 1, 1⟩
def CFG_IRQ_STAT.DIGEST_CHANGED : Fld := ⟨CFG_IRQ_STAT.adr, 0, 1⟩
def CFG_IRQ_EN.adr : Nat := 0x10084
def PWR_CMD.adr : Nat := 0x20000
def PWR_CMD.CODE : Fld := ⟨PWR_CMD.adr, 0, 8⟩
def PWR_CMD_STAT.adr : Nat := 0x20004
def PWR_CMD_STAT.CMD : Fld := ⟨PWR_CMD_STAT.adr, 8, 8⟩
def PWR_CMD_STAT.STATUS : Fld := ⟨PWR_CMD_STAT.adr, 0, 8⟩
def PWR_STAT.adr : Nat := 0x20008
def PWR_STAT.ISLAND : Fld := ⟨PWR_STAT.adr, 4, 1⟩
def PWR_STAT.MODE : Fld := ⟨PWR_STAT.adr, 0, 3⟩
def PWR_HEARTBEAT.adr : Nat := 0x2000c
def PWR_HEARTBEAT.HB : Fld := ⟨PWR_HEARTBEAT.adr, 0, 1⟩
def PWR_SOAK_TO.adr : Nat := 0x20010
def PWR_SOAK_TO.SEC : Fld := ⟨PWR_SOAK_TO.adr, 0, 12⟩
def PWR_IDLE_CFG.adr : Nat := 0x20014
def PWR_IDLE_CFG.EN : Fld := ⟨PWR_IDLE_CFG.adr, 16, 1⟩
def PWR_IDLE_CFG.MIN : Fld := ⟨PWR_IDLE_CFG.adr, 0, 11⟩
def PWR_BANKED_ALLOW.adr : Nat := 0x20018
def PWR_BANKED_ALLOW.ALLOW : Fld := ⟨PWR_BANKED_ALLOW.adr, 0, 1⟩
def PWR_WAKE_EN.adr : Nat := 0x2001c
def PWR_WAKE_EN.EN : Fld := ⟨PWR_WAKE_EN.adr, 0, 10⟩
def PWR_WAKE_SRC.adr : Nat := 0x20020
def PWR_WAKE_SRC.SRC : Fld := ⟨PWR_WAKE_SRC.adr, 0, 10⟩
def PWR_WAKE_FIO.adr : Nat := 0x20024
def PWR_WAKE_FIO.EDGE : Fld := ⟨PWR_WAKE_FIO.adr, 8, 8⟩
def PWR_WAKE_FIO.SEL : Fld := ⟨PWR_WAKE_FIO.adr, 0, 8⟩
def PWR_WSP_ADDR.adr : Nat := 0x20028
def PWR_WSP_ADDR.ADDR : Fld := ⟨PWR_WSP_ADDR.adr, 0, 7⟩
def PWR_RC0_LISTEN.adr : Nat := 0x2002c
def PWR_RC0_LISTEN.INTERVAL : Fld := ⟨PWR_RC0_LISTEN.adr, 16, 16⟩
def PWR_RC0_LISTEN.EN : Fld := ⟨PWR_RC0_LISTEN.adr, 0, 1⟩
def PWR_RC0_CODE.adr : Nat := 0x20030
def PWR_RC0_CODE.CODE : Fld := ⟨PWR_RC0_CODE.adr, 0, 16⟩
def PWR_AVS_STAT.adr : Nat := 0x20034
def PWR_AVS_STAT.FAIL : Fld := ⟨PWR_AVS_STAT.adr, 16, 1⟩
def PWR_AVS_STAT.MV : Fld := ⟨PWR_AVS_STAT.adr, 0, 16⟩
def PWR_SVC_CTL.adr : Nat := 0x20038
def PWR_SVC_CTL.SCENE : Fld := ⟨PWR_SVC_CTL.adr, 8, 6⟩
def PWR_SVC_CTL.RAD_EN : Fld := ⟨PWR_SVC_CTL.adr, 1, 1⟩
def PWR_SVC_CTL.POLICY : Fld := ⟨PWR_SVC_CTL.adr, 0, 1⟩
def PWR_IRQ_STAT.adr : Nat := 0x20080
def PWR_IRQ_STAT.IDLE_WARN : Fld := ⟨PWR_IRQ_STAT.adr, 3, 1⟩
def PWR_IRQ_STAT.SOAK_ENTER : Fld := ⟨PWR_IRQ_STAT.adr, 2, 1⟩
def PWR_IRQ_STAT.AVS_FAIL : Fld := ⟨PWR_IRQ_STAT.adr, 1, 1⟩
def PWR_IRQ_STAT.MODE_CHG : Fld := ⟨PWR_IRQ_STAT.adr, 0, 1⟩
def PWR_IRQ_EN.adr : Nat := 0x20084
def EMB_CMD.adr : Nat := 0x30000
def EMB_CMD.CODE : Fld := ⟨EMB_CMD.adr, 0, 8⟩
def EMB_CMD_STAT.adr : Nat := 0x30004
def EMB_CMD_STAT.CMD : Fld := ⟨EMB_CMD_STAT.adr, 8, 8⟩
def EMB_CMD_STAT.STATUS : Fld := ⟨EMB_CMD_STAT.adr, 0, 8⟩
def EMB_STAT.adr : Nat := 0x30008
def EMB_STAT.VBAT_LOW : Fld := ⟨EMB_STAT.adr, 5, 1⟩
def EMB_STAT.BADVAL : Fld := ⟨EMB_STAT.adr, 4, 1⟩
def EMB_STAT.WLOST : Fld := ⟨EMB_STAT.adr, 3, 1⟩
def EMB_STAT.WBUSY : Fld := ⟨EMB_STAT.adr, 2, 1⟩
def EMB_STAT.RTC_INVALID : Fld := ⟨EMB_STAT.adr, 1, 1⟩
def EMB_RTC_TIME.adr : Nat := 0x30010
def EMB_RTC_DATE.adr : Nat := 0x30014
def EMB_RTC_SUBSEC.adr : Nat := 0x30018
def EMB_ALARM.adr (i : Nat) : Nat := 0x30020 + 0x8 * i
def EMB_ALARM.EN (i : Nat) : Fld := ⟨EMB_ALARM.adr i, 31, 1⟩
def EMB_ALARM.DAILY (i : Nat) : Fld := ⟨EMB_ALARM.adr i, 30, 1⟩
def EMB_ALARM_DATE.adr (i : Nat) : Nat := 0x30024 + 0x8 * i
def EMB_PERIOD.adr : Nat := 0x30030
def EMB_PERIOD.EN : Fld := ⟨EMB_PERIOD.adr, 31, 1⟩
def EMB_PERIOD.PERIOD : Fld := ⟨EMB_PERIOD.adr, 0, 25⟩
def EMB_CAP_TIME.adr : Nat := 0x30040
def EMB_CAP_DATE.adr : Nat := 0x30044
def EMB_CAP_SUBSEC.adr : Nat := 0x30048
def EMB_EVT_CNT.adr : Nat := 0x30050
def EMB_EVT_CNT.TAMPER : Fld := ⟨EMB_EVT_CNT.adr, 16, 16⟩
def EMB_EVT_CNT.DOOR : Fld := ⟨EMB_EVT_CNT.adr, 0, 16⟩
def EMB_EVT_TIME.adr : Nat := 0x30054
def EMB_EVT_DATE.adr : Nat := 0x30058
def EMB_TAMP_CTL.adr : Nat := 0x30060
def EMB_TAMP_CTL.WAKE : Fld := ⟨EMB_TAMP_CTL.adr, 1, 1⟩
def EMB_TAMP_CTL.ERASE : Fld := ⟨EMB_TAMP_CTL.adr, 0, 1⟩
def EMB_PWRON_CTL.adr : Nat := 0x30064
def EMB_PWRON_CTL.SET_ON_DOOR : Fld := ⟨EMB_PWRON_CTL.adr, 3, 1⟩
def EMB_PWRON_CTL.SET_ON_PERIOD : Fld := ⟨EMB_PWRON_CTL.adr, 2, 1⟩
def EMB_PWRON_CTL.SET_ON_ALARM0 : Fld := ⟨EMB_PWRON_CTL.adr, 1, 1⟩
def EMB_PWRON_CTL.LEVEL : Fld := ⟨EMB_PWRON_CTL.adr, 0, 1⟩
def EMB_IRQ_STAT.adr : Nat := 0x30080
def EMB_IRQ_STAT.VBAT_LOW : Fld := ⟨EMB_IRQ_STAT.adr, 5, 1⟩
def EMB_IRQ_STAT.TAMPER : Fld := ⟨EMB_IRQ_STAT.adr, 4, 1⟩
def EMB_IRQ_STAT.DOOR : Fld := ⟨EMB_IRQ_STAT.adr, 3, 1⟩
def EMB_IRQ_STAT.PERIOD : Fld := ⟨EMB_IRQ_STAT.adr, 2, 1⟩
def EMB_IRQ_STAT.ALARM1 : Fld := ⟨EMB_IRQ_STAT.adr, 1, 1⟩
def EMB_IRQ_STAT.ALARM0 : Fld := ⟨EMB_IRQ_STAT.adr, 0, 1⟩
def EMB_IRQ_EN.adr : Nat := 0x30084
def EMB_BKP.adr (i : Nat) : Nat := 0x30100 + 0x4 * i
def EMB_BKP.DATA (i : Nat) : Fld := ⟨EMB_BKP.adr i, 0, 32⟩
def HLT_STAT.adr : Nat := 0x40000
def HLT_STAT.TRIPPED : Fld := ⟨HLT_STAT.adr, 31, 1⟩
def HLT_STAT.CRIT_TEMP : Fld := ⟨HLT_STAT.adr, 30, 1⟩
def HLT_STAT.CRIT_VOLT : Fld := ⟨HLT_STAT.adr, 29, 1⟩
def HLT_STAT.CRIT_PROC : Fld := ⟨HLT_STAT.adr, 28, 1⟩
def HLT_STAT.NVM_LOW : Fld := ⟨HLT_STAT.adr, 27, 1⟩
def HLT_STAT.WARN_TEMP : Fld := ⟨HLT_STAT.adr, 26, 1⟩
def HLT_TEMP.adr : Nat := 0x40004
def HLT_TEMP.TJ : Fld := ⟨HLT_TEMP.adr, 16, 16⟩
def HLT_TEMP.HOT : Fld := ⟨HLT_TEMP.adr, 0, 3⟩
def HLT_TEMP_CFG.adr : Nat := 0x40008
def HLT_TEMP_CFG.WARN : Fld := ⟨HLT_TEMP_CFG.adr, 24, 8⟩
def HLT_TEMP_CFG.THROTTLE : Fld := ⟨HLT_TEMP_CFG.adr, 16, 8⟩
def HLT_TEMP_CFG.CRIT : Fld := ⟨HLT_TEMP_CFG.adr, 8, 8⟩
def HLT_TEMP_CFG.RESTORE : Fld := ⟨HLT_TEMP_CFG.adr, 0, 8⟩
def HLT_VCORE.adr : Nat := 0x4000c
def HLT_VCORE.TARGET_MV : Fld := ⟨HLT_VCORE.adr, 16, 16⟩
def HLT_VCORE.MEAS_MV : Fld := ⟨HLT_VCORE.adr, 0, 16⟩
def HLT_VSUP0.adr : Nat := 0x40010
def HLT_VSUP0.VSYS_MV : Fld := ⟨HLT_VSUP0.adr, 16, 16⟩
def HLT_VSUP0.VAUX_MV : Fld := ⟨HLT_VSUP0.adr, 0, 16⟩
def HLT_VSUP1.adr : Nat := 0x40014
def HLT_VSUP1.VRF_MV : Fld := ⟨HLT_VSUP1.adr, 16, 16⟩
def HLT_VIO.adr (i : Nat) : Nat := 0x40018 + 0x4 * i
def HLT_VIO.MV (i : Nat) : Fld := ⟨HLT_VIO.adr i, 0, 16⟩
def HLT_PROC.adr : Nat := 0x40028
def HLT_PROC.MARGIN : Fld := ⟨HLT_PROC.adr, 16, 16⟩
def HLT_PROC.SLOWEST : Fld := ⟨HLT_PROC.adr, 0, 4⟩
def HLT_AVS_CFG.adr : Nat := 0x4002c
def HLT_AVS_CFG.EN : Fld := ⟨HLT_AVS_CFG.adr, 31, 1⟩
def HLT_AVS_CFG.HIGH : Fld := ⟨HLT_AVS_CFG.adr, 16, 9⟩
def HLT_AVS_CFG.LOW : Fld := ⟨HLT_AVS_CFG.adr, 0, 9⟩
def HLT_CAP0.adr : Nat := 0x40030
def HLT_CAP0.BUF_BANKS : Fld := ⟨HLT_CAP0.adr, 24, 8⟩
def HLT_CAP0.CTX_BANKS : Fld := ⟨HLT_CAP0.adr, 16, 8⟩
def HLT_CAP0.LANES : Fld := ⟨HLT_CAP0.adr, 8, 8⟩
def HLT_CAP0.RADIO_CH : Fld := ⟨HLT_CAP0.adr, 0, 8⟩
def HLT_CAP1.adr : Nat := 0x40034
def HLT_CAP1.MTR_CH : Fld := ⟨HLT_CAP1.adr, 24, 8⟩
def HLT_CAP1.LOG_RECORDS : Fld := ⟨HLT_CAP1.adr, 0, 14⟩
def HLT_SPARE.adr : Nat := 0x40038
def HLT_SPARE.BUF : Fld := ⟨HLT_SPARE.adr, 28, 4⟩
def HLT_SPARE.CTX : Fld := ⟨HLT_SPARE.adr, 24, 4⟩
def HLT_SPARE.LANE : Fld := ⟨HLT_SPARE.adr, 20, 4⟩
def HLT_SPARE.RADIO : Fld := ⟨HLT_SPARE.adr, 16, 4⟩
def HLT_SPARE.MOD : Fld := ⟨HLT_SPARE.adr, 12, 4⟩
def HLT_SPARE.NVM : Fld := ⟨HLT_SPARE.adr, 0, 8⟩
def HLT_SUBST_LAST.adr : Nat := 0x4003c
def HLT_AVS_REF.adr : Nat := 0x40040
def HLT_AVS_REF.REF : Fld := ⟨HLT_AVS_REF.adr, 0, 16⟩
def HLT_IRQ_STAT.adr : Nat := 0x40080
def HLT_IRQ_STAT.CAP_LOST : Fld := ⟨HLT_IRQ_STAT.adr, 3, 1⟩
def HLT_IRQ_STAT.SPARE : Fld := ⟨HLT_IRQ_STAT.adr, 2, 1⟩
def HLT_IRQ_STAT.VOLT : Fld := ⟨HLT_IRQ_STAT.adr, 1, 1⟩
def HLT_IRQ_STAT.TEMP : Fld := ⟨HLT_IRQ_STAT.adr, 0, 1⟩
def HLT_IRQ_EN.adr : Nat := 0x40084
def LOG_CMD.adr : Nat := 0x50000
def LOG_CMD.CODE : Fld := ⟨LOG_CMD.adr, 0, 8⟩
def LOG_CMD_STAT.adr : Nat := 0x50004
def LOG_CMD_STAT.CMD : Fld := ⟨LOG_CMD_STAT.adr, 8, 8⟩
def LOG_CMD_STAT.STATUS : Fld := ⟨LOG_CMD_STAT.adr, 0, 8⟩
def LOG_HEAD.adr : Nat := 0x50008
def LOG_HEAD.SEQ : Fld := ⟨LOG_HEAD.adr, 0, 32⟩
def LOG_OLDEST.adr : Nat := 0x5000c
def LOG_OLDEST.SEQ : Fld := ⟨LOG_OLDEST.adr, 0, 32⟩
def LOG_RD_SEQ.adr : Nat := 0x50010
def LOG_RD_SEQ.SEQ : Fld := ⟨LOG_RD_SEQ.adr, 0, 32⟩
def LOG_RD_STAT.adr : Nat := 0x50014
def LOG_RD_STAT.VALID : Fld := ⟨LOG_RD_STAT.adr, 31, 1⟩
def LOG_RD_STAT.CRC_BAD : Fld := ⟨LOG_RD_STAT.adr, 30, 1⟩
def LOG_RD_STAT.GONE : Fld := ⟨LOG_RD_STAT.adr, 29, 1⟩
def LOG_RD_STAT.STAGED : Fld := ⟨LOG_RD_STAT.adr, 28, 1⟩
def LOG_RD_DATA.adr (i : Nat) : Nat := 0x50020 + 0x4 * i
def LOG_RD_DATA.DATA (i : Nat) : Fld := ⟨LOG_RD_DATA.adr i, 0, 32⟩
def LOG_CNT.adr : Nat := 0x50040
def LOG_CNT.SUPPRESSED : Fld := ⟨LOG_CNT.adr, 16, 16⟩
def LOG_CNT.LOST : Fld := ⟨LOG_CNT.adr, 8, 8⟩
def LOG_CNT.OVERWRITTEN : Fld := ⟨LOG_CNT.adr, 0, 8⟩
def LOG_OPTIME.adr : Nat := 0x50044
def LOG_OPTIME.S : Fld := ⟨LOG_OPTIME.adr, 0, 32⟩
def LOG_PCYCLE.adr : Nat := 0x50048
def LOG_PCYCLE.COUNT : Fld := ⟨LOG_PCYCLE.adr, 0, 24⟩
def LOG_IRQ_SEV.adr : Nat := 0x5004c
def LOG_IRQ_SEV.MIN : Fld := ⟨LOG_IRQ_SEV.adr, 0, 3⟩
def LOG_IRQ_STAT.adr : Nat := 0x50080
def LOG_IRQ_STAT.CLEARED : Fld := ⟨LOG_IRQ_STAT.adr, 3, 1⟩
def LOG_IRQ_STAT.SEVERE : Fld := ⟨LOG_IRQ_STAT.adr, 2, 1⟩
def LOG_IRQ_STAT.WRAP : Fld := ⟨LOG_IRQ_STAT.adr, 1, 1⟩
def LOG_IRQ_STAT.CMD_DONE : Fld := ⟨LOG_IRQ_STAT.adr, 0, 1⟩
def LOG_IRQ_EN.adr : Nat := 0x50084
def LOG_RATE.adr (i : Nat) : Nat := 0x50400 + 0x4 * i
def LOG_RATE.OFF (i : Nat) : Fld := ⟨LOG_RATE.adr i, 31, 1⟩
def LOG_RATE.BURST (i : Nat) : Fld := ⟨LOG_RATE.adr i, 16, 8⟩
def LOG_RATE.PERIOD_S (i : Nat) : Fld := ⟨LOG_RATE.adr i, 0, 16⟩
def LOG_MAP.adr (i j : Nat) : Nat := 0x50800 + 0x100 * i + 0x4 * j
def LOG_MAP.CLASS (i j : Nat) : Fld := ⟨LOG_MAP.adr i j, 8, 8⟩
def LOG_MAP.SEV (i j : Nat) : Fld := ⟨LOG_MAP.adr i j, 0, 3⟩
def KEY_CMD.adr : Nat := 0x60000
def KEY_CMD_STAT.adr : Nat := 0x60004
def KEY_CMD_ARG.adr : Nat := 0x60008
def KEY_STAT.adr : Nat := 0x6000c
def KEY_STAT.GTX_LOW : Fld := ⟨KEY_STAT.adr, 8, 1⟩
def KEY_RADIO_CFG.adr : Nat := 0x60010
def KEY_RADIO_CFG.ROOT_SLOT : Fld := ⟨KEY_RADIO_CFG.adr, 0, 8⟩
def KEY_SESS_CFG.adr : Nat := 0x60014
def KEY_SESS_CFG.TTL_S : Fld := ⟨KEY_SESS_CFG.adr, 0, 16⟩
def KEY_SESS_ID.adr : Nat := 0x60018
def KEY_CNT.adr : Nat := 0x6001c
def KEY_CNT.AUTH_FAIL : Fld := ⟨KEY_CNT.adr, 16, 16⟩
def KEY_CNT.MISUSE : Fld := ⟨KEY_CNT.adr, 0, 16⟩
def KEY_IRQ_STAT.adr : Nat := 0x60080
def KEY_IRQ_STAT.SESS_LAPSED : Fld := ⟨KEY_IRQ_STAT.adr, 5, 1⟩
def KEY_IRQ_STAT.LC_CHANGE : Fld := ⟨KEY_IRQ_STAT.adr, 4, 1⟩
def KEY_IRQ_STAT.GTX_LOW : Fld := ⟨KEY_IRQ_STAT.adr, 3, 1⟩
def KEY_IRQ_STAT.MISUSE : Fld := ⟨KEY_IRQ_STAT.adr, 2, 1⟩
def KEY_IRQ_STAT.AUTH_FAIL : Fld := ⟨KEY_IRQ_STAT.adr, 1, 1⟩
def KEY_IRQ_STAT.CMD_DONE : Fld := ⟨KEY_IRQ_STAT.adr, 0, 1⟩
def KEY_IRQ_EN.adr : Nat := 0x60084
def UPD_CMD.adr : Nat := 0x70000
def UPD_CMD.CODE : Fld := ⟨UPD_CMD.adr, 0, 8⟩
def UPD_CMD_STAT.adr : Nat := 0x70004
def UPD_CMD_STAT.CMD : Fld := ⟨UPD_CMD_STAT.adr, 8, 8⟩
def UPD_CMD_STAT.STATUS : Fld := ⟨UPD_CMD_STAT.adr, 0, 8⟩
def UPD_CMD_ARG.adr : Nat := 0x70008
def UPD_CMD_ARG.AT : Fld := ⟨UPD_CMD_ARG.adr, 31, 1⟩
def UPD_CMD_ARG.COLD : Fld := ⟨UPD_CMD_ARG.adr, 30, 1⟩
def UPD_CMD_ARG.INDEX : Fld := ⟨UPD_CMD_ARG.adr, 0, 8⟩
def UPD_ACT_T_NS.adr : Nat := 0x7000c
def UPD_ACT_T_NS.NS : Fld := ⟨UPD_ACT_T_NS.adr, 0, 30⟩
def UPD_ACT_T_SEC_LO.adr : Nat := 0x70010
def UPD_ACT_T_SEC_LO.SEC_LO : Fld := ⟨UPD_ACT_T_SEC_LO.adr, 0, 32⟩
def UPD_ACT_T_SEC_HI.adr : Nat := 0x70014
def UPD_ACT_T_SEC_HI.SEC_HI : Fld := ⟨UPD_ACT_T_SEC_HI.adr, 0, 16⟩
def UPD_STAT.adr : Nat := 0x70018
def UPD_STAT.DEFERRED : Fld := ⟨UPD_STAT.adr, 30, 1⟩
def UPD_STAT.REVERTED : Fld := ⟨UPD_STAT.adr, 29, 1⟩
def UPD_CFG.adr : Nat := 0x7001c
def UPD_CFG.TRIAL_MAX : Fld := ⟨UPD_CFG.adr, 24, 8⟩
def UPD_CFG.CONFIRM_S : Fld := ⟨UPD_CFG.adr, 0, 16⟩
def UPD_RX_CFG.adr : Nat := 0x70020
def UPD_RX_CFG.UDP_EN : Fld := ⟨UPD_RX_CFG.adr, 31, 1⟩
def UPD_RX_CFG.HMQ : Fld := ⟨UPD_RX_CFG.adr, 16, 5⟩
def UPD_RX_CFG.PORT : Fld := ⟨UPD_RX_CFG.adr, 0, 16⟩
def UPD_CONFIRM_LEFT.adr : Nat := 0x70024
def UPD_SEC_MIN.adr : Nat := 0x70028
def UPD_EP_FLOOR.adr : Nat := 0x7002c
def UPD_EP_FLOOR.CLASS : Fld := ⟨UPD_EP_FLOOR.adr, 16, 3⟩
def UPD_EP_FLOOR.MS : Fld := ⟨UPD_EP_FLOOR.adr, 0, 16⟩
def UPD_RX_CNT.adr : Nat := 0x70030
def UPD_RX_CNT.DUP : Fld := ⟨UPD_RX_CNT.adr, 16, 16⟩
def UPD_RX_CNT.DROPPED : Fld := ⟨UPD_RX_CNT.adr, 0, 16⟩
def UPD_BANK_STAT.adr (i : Nat) : Nat := 0x70040 + 0x10 * i
def UPD_IRQ_STAT.adr : Nat := 0x70080
def UPD_IRQ_STAT.EP_DONE : Fld := ⟨UPD_IRQ_STAT.adr, 5, 1⟩
def UPD_IRQ_STAT.REVERTED : Fld := ⟨UPD_IRQ_STAT.adr, 4, 1⟩
def UPD_IRQ_STAT.ACT_LOST : Fld := ⟨UPD_IRQ_STAT.adr, 3, 1⟩
def UPD_IRQ_STAT.BANK_BAD : Fld := ⟨UPD_IRQ_STAT.adr, 2, 1⟩
def UPD_IRQ_STAT.VERDICT : Fld := ⟨UPD_IRQ_STAT.adr, 1, 1⟩
def UPD_IRQ_STAT.CMD_DONE : Fld := ⟨UPD_IRQ_STAT.adr, 0, 1⟩
def UPD_IRQ_EN.adr : Nat := 0x70084
def UPD_EP_CFG.adr (i : Nat) : Nat := 0x70200 + 0x40 * i
def UPD_EP_CFG.RUN (i : Nat) : Fld := ⟨UPD_EP_CFG.adr i, 31, 1⟩
def UPD_EP_CFG.CHMASK (i : Nat) : Fld := ⟨UPD_EP_CFG.adr i, 16, 8⟩
def UPD_EP_CFG.GROUP (i : Nat) : Fld := ⟨UPD_EP_CFG.adr i, 8, 8⟩
def UPD_EP_CFG.KEY_SLOT (i : Nat) : Fld := ⟨UPD_EP_CFG.adr i, 0, 8⟩
def UPD_EP_MODEL_LO.adr (i : Nat) : Nat := 0x70204 + 0x40 * i
def UPD_EP_MODEL_LO.MODEL (i : Nat) : Fld := ⟨UPD_EP_MODEL_LO.adr i, 0, 32⟩
def UPD_EP_MODEL_HI.adr (i : Nat) : Nat := 0x70208 + 0x40 * i
def UPD_EP_MODEL_HI.MODEL (i : Nat) : Fld := ⟨UPD_EP_MODEL_HI.adr i, 0, 32⟩
def UPD_EP_FW.adr (i : Nat) : Nat := 0x7020c + 0x40 * i
def UPD_EP_FW.FW (i : Nat) : Fld := ⟨UPD_EP_FW.adr i, 0, 32⟩
def UPD_EP_SIZE.adr (i : Nat) : Nat := 0x70210 + 0x40 * i
def UPD_EP_SIZE.BLOCKS (i : Nat) : Fld := ⟨UPD_EP_SIZE.adr i, 0, 16⟩
def UPD_EP_CTL.adr (i : Nat) : Nat := 0x70214 + 0x40 * i
def UPD_EP_CTL.CAMPAIGN (i : Nat) : Fld := ⟨UPD_EP_CTL.adr i, 16, 16⟩
def UPD_EP_CTL.COMMIT_S (i : Nat) : Fld := ⟨UPD_EP_CTL.adr i, 0, 16⟩
def NTU_CMD.adr : Nat := 0x80000
def NTU_CMD.CODE : Fld := ⟨NTU_CMD.adr, 0, 8⟩
def NTU_CMD_STAT.adr : Nat := 0x80004
def NTU_CMD_STAT.CMD : Fld := ⟨NTU_CMD_STAT.adr, 8, 8⟩
def NTU_CMD_STAT.STATUS : Fld := ⟨NTU_CMD_STAT.adr, 0, 8⟩
def NTU_CMD_ARG.adr : Nat := 0x80008
def NTU_CMD_ARG.INDEX : Fld := ⟨NTU_CMD_ARG.adr, 0, 4⟩
def NTU_CTL.adr : Nat := 0x8000c
def NTU_CTL.EN : Fld := ⟨NTU_CTL.adr, 31, 1⟩
def NTU_CTL.SERVO : Fld := ⟨NTU_CTL.adr, 30, 1⟩
def NTU_STAT.adr : Nat := 0x80010
def NTU_STAT.VALID : Fld := ⟨NTU_STAT.adr, 31, 1⟩
def NTU_STAT.SYNC : Fld := ⟨NTU_STAT.adr, 30, 1⟩
def NTU_STAT.STATE : Fld := ⟨NTU_STAT.adr, 24, 3⟩
def NTU_STAT.SRC : Fld := ⟨NTU_STAT.adr, 20, 4⟩
def NTU_STAT.DISAGREE : Fld := ⟨NTU_STAT.adr, 19, 1⟩
def NTU_STAT.JUMP_REFUSED : Fld := ⟨NTU_STAT.adr, 18, 1⟩
def NTU_STAT.SERVO_OWNED : Fld := ⟨NTU_STAT.adr, 17, 1⟩
def NTU_TIME_LO.adr : Nat := 0x80014
def NTU_TIME_HI.adr : Nat := 0x80018
def NTU_TIME_EXT.adr : Nat := 0x8001c
def NTU_TIME_FRC_LO.adr : Nat := 0x80020
def NTU_TIME_FRC_HI.adr : Nat := 0x80024
def NTU_FRC_LO.adr : Nat := 0x80028
def NTU_FRC_HI.adr : Nat := 0x8002c
def NTU_RATE.adr : Nat := 0x80030
def NTU_RATE.RATE : Fld := ⟨NTU_RATE.adr, 0, 32⟩
def NTU_PHASE.adr : Nat := 0x80034
def NTU_PHASE.NS : Fld := ⟨NTU_PHASE.adr, 0, 32⟩
def NTU_SLEW.adr : Nat := 0x80038
def NTU_SLEW.MAX_PPM : Fld := ⟨NTU_SLEW.adr, 0, 16⟩
def NTU_JUMP.adr : Nat := 0x8003c
def NTU_JUMP.LIMIT_NS : Fld := ⟨NTU_JUMP.adr, 0, 30⟩
def NTU_STEP_LO.adr : Nat := 0x80040
def NTU_STEP_HI.adr : Nat := 0x80044
def NTU_STEP_LAST_LO.adr : Nat := 0x80048
def NTU_STEP_LAST_HI.adr : Nat := 0x8004c
def NTU_SRC_TOL.adr : Nat := 0x80050
def NTU_SRC_TOL.NS : Fld := ⟨NTU_SRC_TOL.adr, 0, 20⟩
def NTU_SRC_PRIO.adr : Nat := 0x80054
def NTU_SRC_PRIO.RANK : Fld := ⟨NTU_SRC_PRIO.adr, 0, 20⟩
def NTU_HOLD.adr : Nat := 0x80058
def NTU_HOLD.ELAPSED_S : Fld := ⟨NTU_HOLD.adr, 16, 16⟩
def NTU_HOLD.HOLD_S : Fld := ⟨NTU_HOLD.adr, 0, 16⟩
def NTU_UTC.adr : Nat := 0x8005c
def NTU_UTC.LEAP61 : Fld := ⟨NTU_UTC.adr, 31, 1⟩
def NTU_UTC.LEAP59 : Fld := ⟨NTU_UTC.adr, 30, 1⟩
def NTU_UTC.OFS : Fld := ⟨NTU_UTC.adr, 0, 16⟩
def NTU_GNSS_CFG.adr : Nat := 0x80060
def NTU_GNSS_CFG.EN : Fld := ⟨NTU_GNSS_CFG.adr, 31, 1⟩
def NTU_GNSS_CFG.EDGE : Fld := ⟨NTU_GNSS_CFG.adr, 30, 1⟩
def NTU_GNSS_CFG.DELAY_NS : Fld := ⟨NTU_GNSS_CFG.adr, 0, 16⟩
def NTU_PORT_CORR.adr (i : Nat) : Nat := 0x80064 + 0x4 * i
def NTU_PORT_CORR.TX (i : Nat) : Fld := ⟨NTU_PORT_CORR.adr i, 16, 16⟩
def NTU_PORT_CORR.RX (i : Nat) : Fld := ⟨NTU_PORT_CORR.adr i, 0, 16⟩
def NTU_RTC_CFG.adr : Nat := 0x80074
def NTU_RTC_CFG.EN : Fld := ⟨NTU_RTC_CFG.adr, 31, 1⟩
def NTU_RTC_CFG.INTERVAL_MIN : Fld := ⟨NTU_RTC_CFG.adr, 16, 8⟩
def NTU_RTC_CFG.TOL_US : Fld := ⟨NTU_RTC_CFG.adr, 0, 16⟩
def NTU_RTC_STAT.adr : Nat := 0x80078
def NTU_RTC_STAT.FREQ : Fld := ⟨NTU_RTC_STAT.adr, 16, 16⟩
def NTU_RTC_STAT.ERR_US : Fld := ⟨NTU_RTC_STAT.adr, 0, 16⟩
def NTU_IRQ_STAT.adr : Nat := 0x80080
def NTU_IRQ_STAT.RTC_SET : Fld := ⟨NTU_IRQ_STAT.adr, 8, 1⟩
def NTU_IRQ_STAT.HOLD_EXPIRED : Fld := ⟨NTU_IRQ_STAT.adr, 7, 1⟩
def NTU_IRQ_STAT.SRC_LOST : Fld := ⟨NTU_IRQ_STAT.adr, 6, 1⟩
def NTU_IRQ_STAT.CMP : Fld := ⟨NTU_IRQ_STAT.adr, 5, 1⟩
def NTU_IRQ_STAT.STEP : Fld := ⟨NTU_IRQ_STAT.adr, 4, 1⟩
def NTU_IRQ_STAT.JUMP_REFUSED : Fld := ⟨NTU_IRQ_STAT.adr, 3, 1⟩
def NTU_IRQ_STAT.DISAGREE : Fld := ⟨NTU_IRQ_STAT.adr, 2, 1⟩
def NTU_IRQ_STAT.STATE_CHG : Fld := ⟨NTU_IRQ_STAT.adr, 1, 1⟩
def NTU_IRQ_STAT.CMD_DONE : Fld := ⟨NTU_IRQ_STAT.adr, 0, 1⟩
def NTU_IRQ_EN.adr : Nat := 0x80084
def NTU_CMP_FIRED.adr : Nat := 0x80088
def NTU_CAP_NS.adr : Nat := 0x80090
def NTU_CAP_SEC.adr : Nat := 0x80094
def NTU_SRC_W0.adr (i : Nat) : Nat := 0x80100 + 0x8 * i
def NTU_SRC_W0.STATE (i : Nat) : Fld := ⟨NTU_SRC_W0.adr i, 30, 2⟩
def NTU_SRC_W0.DISAGREE (i : Nat) : Fld := ⟨NTU_SRC_W0.adr i, 29, 1⟩
def NTU_SRC_W0.CURRENT (i : Nat) : Fld := ⟨NTU_SRC_W0.adr i, 28, 1⟩
def NTU_SRC_W1.adr (i : Nat) : Nat := 0x80104 + 0x8 * i
def NTU_SRC_W1.OFFSET (i : Nat) : Fld := ⟨NTU_SRC_W1.adr i, 0, 32⟩
def NTU_CMP_W0.adr (i : Nat) : Nat := 0x80200 + 0x10 * i
def NTU_CMP_W0.ARMED (i : Nat) : Fld := ⟨NTU_CMP_W0.adr i, 31, 1⟩
def NTU_CMP_W0.LATE (i : Nat) : Fld := ⟨NTU_CMP_W0.adr i, 30, 1⟩
def NTU_CMP_W0.CANCELLED (i : Nat) : Fld := ⟨NTU_CMP_W0.adr i, 29, 1⟩
def NTU_CMP_W0.PERIOD_MS (i : Nat) : Fld := ⟨NTU_CMP_W0.adr i, 0, 20⟩
def NTU_CMP_W1.adr (i : Nat) : Nat := 0x80204 + 0x10 * i
def NTU_CMP_W1.T_NS (i : Nat) : Fld := ⟨NTU_CMP_W1.adr i, 0, 30⟩
def NTU_CMP_W2.adr (i : Nat) : Nat := 0x80208 + 0x10 * i
def NTU_CMP_W2.T_SEC_LO (i : Nat) : Fld := ⟨NTU_CMP_W2.adr i, 0, 32⟩
def NTU_CMP_W3.adr (i : Nat) : Nat := 0x8020c + 0x10 * i
def NTU_CMP_W3.T_SEC_HI (i : Nat) : Fld := ⟨NTU_CMP_W3.adr i, 0, 16⟩
def PAIR_CMD.adr : Nat := 0x90000
def PAIR_CMD.CODE : Fld := ⟨PAIR_CMD.adr, 0, 8⟩
def PAIR_CMD_STAT.adr : Nat := 0x90004
def PAIR_CMD_STAT.CMD : Fld := ⟨PAIR_CMD_STAT.adr, 8, 8⟩
def PAIR_CMD_STAT.STATUS : Fld := ⟨PAIR_CMD_STAT.adr, 0, 8⟩
def PAIR_CFG.adr : Nat := 0x90008
def PAIR_CFG.EN : Fld := ⟨PAIR_CFG.adr, 31, 1⟩
def PAIR_CFG.LINK : Fld := ⟨PAIR_CFG.adr, 30, 1⟩
def PAIR_CFG.SIDE : Fld := ⟨PAIR_CFG.adr, 29, 1⟩
def PAIR_CFG.TAKE_STALE : Fld := ⟨PAIR_CFG.adr, 28, 1⟩
def PAIR_STAT.adr : Nat := 0x9000c
def PAIR_STAT.OWN : Fld := ⟨PAIR_STAT.adr, 31, 1⟩
def PAIR_STAT.PEER_OWN : Fld := ⟨PAIR_STAT.adr, 30, 1⟩
def PAIR_STAT.LINK : Fld := ⟨PAIR_STAT.adr, 29, 1⟩
def PAIR_STAT.SYNCED : Fld := ⟨PAIR_STAT.adr, 28, 1⟩
def PAIR_STAT.ELIGIBLE : Fld := ⟨PAIR_STAT.adr, 27, 1⟩
def PAIR_STAT.CFG_MISMATCH : Fld := ⟨PAIR_STAT.adr, 26, 1⟩
def PAIR_STAT.STALE : Fld := ⟨PAIR_STAT.adr, 25, 1⟩
def PAIR_STAT.ROLE : Fld := ⟨PAIR_STAT.adr, 16, 3⟩
def PAIR_STAT.PEER_COND : Fld := ⟨PAIR_STAT.adr, 8, 8⟩
def PAIR_STAT.COND : Fld := ⟨PAIR_STAT.adr, 0, 8⟩
def PAIR_LEASE_LEFT.adr : Nat := 0x90014
def PAIR_MIRROR.adr : Nat := 0x90018
def PAIR_MIRROR.SEQ : Fld := ⟨PAIR_MIRROR.adr, 0, 32⟩
def PAIR_MIRROR_LAG.adr : Nat := 0x9001c
def PAIR_DIGEST_MASK_LO.adr : Nat := 0x90020
def PAIR_DIGEST_MASK_LO.MASK : Fld := ⟨PAIR_DIGEST_MASK_LO.adr, 0, 32⟩
def PAIR_DIGEST_MASK_HI.adr : Nat := 0x90024
def PAIR_DIGEST_MASK_HI.MASK : Fld := ⟨PAIR_DIGEST_MASK_HI.adr, 0, 32⟩
def PAIR_ABD_MASK.adr : Nat := 0x90028
def PAIR_ABD_MASK.MASK : Fld := ⟨PAIR_ABD_MASK.adr, 0, 8⟩
def PAIR_CNT.adr : Nat := 0x9002c
def PAIR_CNT.RENEW_LOST : Fld := ⟨PAIR_CNT.adr, 16, 16⟩
def PAIR_CNT.TAKEOVERS : Fld := ⟨PAIR_CNT.adr, 8, 8⟩
def PAIR_CNT.SYNC_LOST : Fld := ⟨PAIR_CNT.adr, 0, 8⟩
def PAIR_PEER_SERIAL_LO.adr : Nat := 0x90030
def PAIR_PEER_SERIAL_LO.SERIAL : Fld := ⟨PAIR_PEER_SERIAL_LO.adr, 0, 32⟩
def PAIR_PEER_SERIAL_HI.adr : Nat := 0x90034
def PAIR_PEER_SERIAL_HI.SERIAL : Fld := ⟨PAIR_PEER_SERIAL_HI.adr, 0, 32⟩
def PAIR_IRQ_STAT.adr : Nat := 0x90080
def PAIR_IRQ_STAT.LINK_DOWN : Fld := ⟨PAIR_IRQ_STAT.adr, 5, 1⟩
def PAIR_IRQ_STAT.CFG_MISMATCH : Fld := ⟨PAIR_IRQ_STAT.adr, 4, 1⟩
def PAIR_IRQ_STAT.SYNC_LOST : Fld := ⟨PAIR_IRQ_STAT.adr, 3, 1⟩
def PAIR_IRQ_STAT.RELEASED : Fld := ⟨PAIR_IRQ_STAT.adr, 2, 1⟩
def PAIR_IRQ_STAT.TAKEOVER : Fld := ⟨PAIR_IRQ_STAT.adr, 1, 1⟩
def PAIR_IRQ_STAT.CMD_DONE : Fld := ⟨PAIR_IRQ_STAT.adr, 0, 1⟩
def PAIR_IRQ_EN.adr : Nat := 0x90084
def EPC_STATE.adr (i : Nat) : Nat := 0x100000 + 0x200 * i
def EPC_STATE.CLASS (i : Nat) : Fld := ⟨EPC_STATE.adr i, 8, 8⟩
def EPC_STATE.STATE (i : Nat) : Fld := ⟨EPC_STATE.adr i, 0, 3⟩
def EPC_EUI_LO.adr (i : Nat) : Nat := 0x100004 + 0x200 * i
def EPC_EUI_LO.EUI_LO (i : Nat) : Fld := ⟨EPC_EUI_LO.adr i, 0, 32⟩
def EPC_EUI_HI.adr (i : Nat) : Nat := 0x100008 + 0x200 * i
def EPC_EUI_HI.EUI_HI (i : Nat) : Fld := ⟨EPC_EUI_HI.adr i, 0, 32⟩
def EPC_REACH.adr (i : Nat) : Nat := 0x10000c + 0x200 * i
def EPC_REACH.REACH (i : Nat) : Fld := ⟨EPC_REACH.adr i, 28, 4⟩
def EPC_REACH.PORT (i : Nat) : Fld := ⟨EPC_REACH.adr i, 16, 8⟩
def EPC_REACH.ADDR (i : Nat) : Fld := ⟨EPC_REACH.adr i, 0, 12⟩
def EPC_TIMING.adr (i : Nat) : Nat := 0x100010 + 0x200 * i
def EPC_TIMING.CSL_MS (i : Nat) : Fld := ⟨EPC_TIMING.adr i, 16, 16⟩
def EPC_TIMING.LATENCY (i : Nat) : Fld := ⟨EPC_TIMING.adr i, 0, 16⟩
def EPC_PARAMS.adr (i : Nat) : Nat := 0x100014 + 0x200 * i
def EPC_PARAMS.PROFILE (i : Nat) : Fld := ⟨EPC_PARAMS.adr i, 24, 8⟩
def EPC_PARAMS.PROGRAM (i : Nat) : Fld := ⟨EPC_PARAMS.adr i, 16, 8⟩
def EPC_PARAMS.CURVE (i : Nat) : Fld := ⟨EPC_PARAMS.adr i, 8, 8⟩
def EPC_LAYER.adr (i : Nat) : Nat := 0x100018 + 0x200 * i
def EPC_LAYER.FLOOR (i : Nat) : Fld := ⟨EPC_LAYER.adr i, 16, 16⟩
def EPC_LAYER.EMERG (i : Nat) : Fld := ⟨EPC_LAYER.adr i, 0, 16⟩
def EPC_LIMITS.adr (i : Nat) : Nat := 0x10001c + 0x200 * i
def EPC_LIMITS.MAX_LEVEL (i : Nat) : Fld := ⟨EPC_LIMITS.adr i, 16, 16⟩
def EPC_LIMITS.HYST (i : Nat) : Fld := ⟨EPC_LIMITS.adr i, 0, 16⟩
def EPC_TENANT.adr (i : Nat) : Nat := 0x100020 + 0x200 * i
def EPC_TENANT.TENANT (i : Nat) : Fld := ⟨EPC_TENANT.adr i, 0, 6⟩
def EPC_REPORT_CFG.adr (i : Nat) : Nat := 0x100024 + 0x200 * i
def EPC_REPORT_CFG.STATUS_S (i : Nat) : Fld := ⟨EPC_REPORT_CFG.adr i, 16, 16⟩
def EPC_REPORT_CFG.ENERGY_S (i : Nat) : Fld := ⟨EPC_REPORT_CFG.adr i, 0, 16⟩
def EPC_GRP.adr (i j : Nat) : Nat := 0x100040 + 0x200 * i + 0x4 * j
def EPC_GRP.MEMBER (i j : Nat) : Fld := ⟨EPC_GRP.adr i j, 0, 32⟩
def EPC_LINK.adr (i j : Nat) : Nat := 0x100080 + 0x200 * i + 0x4 * j
def EPC_LINK.LINK (i j : Nat) : Fld := ⟨EPC_LINK.adr i j, 0, 32⟩
def EPC_LVL_BASE.adr (i : Nat) : Nat := 0x1000a0 + 0x200 * i
def EPC_LVL_BASE.BASE (i : Nat) : Fld := ⟨EPC_LVL_BASE.adr i, 16, 16⟩
def EPC_LVL_BASE.LFE (i : Nat) : Fld := ⟨EPC_LVL_BASE.adr i, 0, 16⟩
def EPC_LVL_MANUAL.adr (i : Nat) : Nat := 0x1000a4 + 0x200 * i
def EPC_LVL_MANUAL.VALID (i : Nat) : Fld := ⟨EPC_LVL_MANUAL.adr i, 31, 1⟩
def EPC_LVL_MANUAL.LEVEL (i : Nat) : Fld := ⟨EPC_LVL_MANUAL.adr i, 0, 16⟩
def EPC_LVL_MANUAL2.adr (i : Nat) : Nat := 0x1000a8 + 0x200 * i
def EPC_LVL_MANUAL2.FADE (i : Nat) : Fld := ⟨EPC_LVL_MANUAL2.adr i, 16, 16⟩
def EPC_LVL_MANUAL2.CCT (i : Nat) : Fld := ⟨EPC_LVL_MANUAL2.adr i, 0, 16⟩
def EPC_LVL_CMD.adr (i : Nat) : Nat := 0x1000ac + 0x200 * i
def EPC_LVL_CMD.LEVEL (i : Nat) : Fld := ⟨EPC_LVL_CMD.adr i, 16, 16⟩
def EPC_LVL_CMD.CCT (i : Nat) : Fld := ⟨EPC_LVL_CMD.adr i, 0, 16⟩
def EPC_LVL_SRC.adr (i : Nat) : Nat := 0x1000b0 + 0x200 * i
def EPC_LVL_SRC.PATTERN (i : Nat) : Fld := ⟨EPC_LVL_SRC.adr i, 8, 8⟩
def EPC_LVL_SRC.LAYER (i : Nat) : Fld := ⟨EPC_LVL_SRC.adr i, 0, 3⟩
def EPC_LVL_RPT.adr (i : Nat) : Nat := 0x1000b4 + 0x200 * i
def EPC_LVL_RPT.LEVEL (i : Nat) : Fld := ⟨EPC_LVL_RPT.adr i, 16, 16⟩
def EPC_LVL_RPT.CCT (i : Nat) : Fld := ⟨EPC_LVL_RPT.adr i, 0, 16⟩
def EPC_LAUNCH_NT.adr (i : Nat) : Nat := 0x1000b8 + 0x200 * i
def EPC_LAUNCH_NT.SEC (i : Nat) : Fld := ⟨EPC_LAUNCH_NT.adr i, 0, 32⟩
def EPC_RPT_FLAGS.adr (i : Nat) : Nat := 0x1000e0 + 0x200 * i
def EPC_RPT_FLAGS.SILENT (i : Nat) : Fld := ⟨EPC_RPT_FLAGS.adr i, 31, 1⟩
def EPC_RPT_FLAGS.MISMATCH (i : Nat) : Fld := ⟨EPC_RPT_FLAGS.adr i, 30, 1⟩
def EPC_RPT_FLAGS.GRP_PENDING (i : Nat) : Fld := ⟨EPC_RPT_FLAGS.adr i, 29, 1⟩
def EPC_RPT_FLAGS.RESYNC (i : Nat) : Fld := ⟨EPC_RPT_FLAGS.adr i, 28, 1⟩
def EPC_RPT_FLAGS.JOIN_PENDING (i : Nat) : Fld := ⟨EPC_RPT_FLAGS.adr i, 27, 1⟩
def EPC_RPT_FLAGS.EP_FLAGS (i : Nat) : Fld := ⟨EPC_RPT_FLAGS.adr i, 0, 16⟩
def EPC_RPT_ENV.adr (i : Nat) : Nat := 0x1000e4 + 0x200 * i
def EPC_RPT_ENV.TEMP (i : Nat) : Fld := ⟨EPC_RPT_ENV.adr i, 24, 8⟩
def EPC_RPT_ENV.SUPPLY (i : Nat) : Fld := ⟨EPC_RPT_ENV.adr i, 0, 16⟩
def EPC_RPT_LINK.adr (i : Nat) : Nat := 0x1000e8 + 0x200 * i
def EPC_RPT_LINK.RSSI (i : Nat) : Fld := ⟨EPC_RPT_LINK.adr i, 24, 8⟩
def EPC_RPT_LINK.LQI (i : Nat) : Fld := ⟨EPC_RPT_LINK.adr i, 16, 8⟩
def EPC_RPT_LINK.RC (i : Nat) : Fld := ⟨EPC_RPT_LINK.adr i, 8, 8⟩
def EPC_RPT_NT.adr (i : Nat) : Nat := 0x1000ec + 0x200 * i
def EPC_RPT_NT.SEC (i : Nat) : Fld := ⟨EPC_RPT_NT.adr i, 0, 32⟩
def EPC_FAULT_ACT.adr (i : Nat) : Nat := 0x1000f0 + 0x200 * i
def EPC_FAULT_ACT.ACTIVE (i : Nat) : Fld := ⟨EPC_FAULT_ACT.adr i, 0, 32⟩
def EPC_FAULT_LAST.adr (i : Nat) : Nat := 0x1000f4 + 0x200 * i
def EPC_FAULT_LAST.CODE (i : Nat) : Fld := ⟨EPC_FAULT_LAST.adr i, 24, 8⟩
def EPC_FAULT_LAST.COUNT (i : Nat) : Fld := ⟨EPC_FAULT_LAST.adr i, 0, 16⟩
def EPC_FAULT_DETAIL.adr (i : Nat) : Nat := 0x1000f8 + 0x200 * i
def EPC_FAULT_DETAIL.DETAIL (i : Nat) : Fld := ⟨EPC_FAULT_DETAIL.adr i, 0, 32⟩
def EPC_INFO_FW.adr (i : Nat) : Nat := 0x1000fc + 0x200 * i
def EPC_INFO_FW.FW (i : Nat) : Fld := ⟨EPC_INFO_FW.adr i, 0, 32⟩
def EPC_INFO_MODEL.adr (i j : Nat) : Nat := 0x100100 + 0x200 * i + 0x4 * j
def EPC_INFO_MODEL.MODEL (i j : Nat) : Fld := ⟨EPC_INFO_MODEL.adr i j, 0, 32⟩
def EPC_INFO_HOURS.adr (i : Nat) : Nat := 0x100108 + 0x200 * i
def EPC_INFO_HOURS.HOURS (i : Nat) : Fld := ⟨EPC_INFO_HOURS.adr i, 0, 32⟩
def EPC_EN_LO.adr (i : Nat) : Nat := 0x100120 + 0x200 * i
def EPC_EN_HI.adr (i : Nat) : Nat := 0x100124 + 0x200 * i
def EPC_EN_RAW.adr (i : Nat) : Nat := 0x100128 + 0x200 * i
def EPC_EN_RAW.CUM (i : Nat) : Fld := ⟨EPC_EN_RAW.adr i, 0, 32⟩
def EPC_EN_STAT.adr (i : Nat) : Nat := 0x10012c + 0x200 * i
def EPC_EN_STAT.EPOCH (i : Nat) : Fld := ⟨EPC_EN_STAT.adr i, 24, 8⟩
def EPC_EN_STAT.IMPLAUSIBLE (i : Nat) : Fld := ⟨EPC_EN_STAT.adr i, 2, 1⟩
def EPC_EN_STAT.REREAD (i : Nat) : Fld := ⟨EPC_EN_STAT.adr i, 1, 1⟩
def EPC_EN_STAT.PENDING (i : Nat) : Fld := ⟨EPC_EN_STAT.adr i, 0, 1⟩
def EPC_POWER.adr (i : Nat) : Nat := 0x100130 + 0x200 * i
def EPC_POWER.DW (i : Nat) : Fld := ⟨EPC_POWER.adr i, 0, 16⟩
def EPC_TX_CTR.adr (i : Nat) : Nat := 0x100140 + 0x200 * i
def EPC_TX_CTR.CTR (i : Nat) : Fld := ⟨EPC_TX_CTR.adr i, 0, 32⟩
def EPC_RX_HIGH.adr (i : Nat) : Nat := 0x100144 + 0x200 * i
def EPC_RX_HIGH.CTR (i : Nat) : Fld := ⟨EPC_RX_HIGH.adr i, 0, 32⟩
def EPC_RX_WIN.adr (i : Nat) : Nat := 0x100148 + 0x200 * i
def EPC_RX_WIN.MAP (i : Nat) : Fld := ⟨EPC_RX_WIN.adr i, 0, 32⟩
def EPC_RX_FLOOR.adr (i : Nat) : Nat := 0x10014c + 0x200 * i
def EPC_RX_FLOOR.CTR (i : Nat) : Fld := ⟨EPC_RX_FLOOR.adr i, 0, 32⟩
def EPC_SEC.adr (i : Nat) : Nat := 0x100150 + 0x200 * i
def EPC_SEC.KEY_GEN (i : Nat) : Fld := ⟨EPC_SEC.adr i, 24, 8⟩
def EPC_SEC.REPLAY (i : Nat) : Fld := ⟨EPC_SEC.adr i, 16, 8⟩
def EPC_SEC.MIC_FAIL (i : Nat) : Fld := ⟨EPC_SEC.adr i, 8, 8⟩
def EPC_SEC.JOINED (i : Nat) : Fld := ⟨EPC_SEC.adr i, 3, 1⟩
def EPC_SEC.MIN_LEVEL (i : Nat) : Fld := ⟨EPC_SEC.adr i, 0, 3⟩
def SCH_CMD.adr : Nat := 0x300000
def SCH_CMD.CODE : Fld := ⟨SCH_CMD.adr, 0, 8⟩
def SCH_CMD_STAT.adr : Nat := 0x300004
def SCH_CMD_STAT.CMD : Fld := ⟨SCH_CMD_STAT.adr, 8, 8⟩
def SCH_CMD_STAT.STATUS : Fld := ⟨SCH_CMD_STAT.adr, 0, 8⟩
def SCH_STAT.adr : Nat := 0x300008
def SCH_STAT.EXC_VALID : Fld := ⟨SCH_STAT.adr, 23, 1⟩
def SCH_STAT.EXC : Fld := ⟨SCH_STAT.adr, 16, 7⟩
def SCH_STAT.DAYTYPE : Fld := ⟨SCH_STAT.adr, 8, 4⟩
def SCH_STAT.DST_RULE_BAD : Fld := ⟨SCH_STAT.adr, 7, 1⟩
def SCH_STAT.BAD_STEP : Fld := ⟨SCH_STAT.adr, 6, 1⟩
def SCH_STAT.HOLD_EXPIRED : Fld := ⟨SCH_STAT.adr, 5, 1⟩
def SCH_STAT.LATE : Fld := ⟨SCH_STAT.adr, 4, 1⟩
def SCH_STAT.SOLAR_FB : Fld := ⟨SCH_STAT.adr, 3, 1⟩
def SCH_STAT.DST : Fld := ⟨SCH_STAT.adr, 2, 1⟩
def SCH_STAT.BAD_EXC : Fld := ⟨SCH_STAT.adr, 1, 1⟩
def SCH_STAT.TIME_VALID : Fld := ⟨SCH_STAT.adr, 0, 1⟩
def SCH_CTL.adr : Nat := 0x30000c
def SCH_CTL.HOLD : Fld := ⟨SCH_CTL.adr, 0, 1⟩
def SCH_TZ.adr : Nat := 0x300010
def SCH_TZ.MIN : Fld := ⟨SCH_TZ.adr, 0, 16⟩
def SCH_DST_CTL.adr : Nat := 0x300014
def SCH_DST_CTL.EN : Fld := ⟨SCH_DST_CTL.adr, 31, 1⟩
def SCH_DST_CTL.DELTA : Fld := ⟨SCH_DST_CTL.adr, 0, 8⟩
def SCH_DST_START.adr : Nat := 0x300018
def SCH_DST_START.BASIS : Fld := ⟨SCH_DST_START.adr, 31, 1⟩
def SCH_DST_START.MONTH : Fld := ⟨SCH_DST_START.adr, 24, 4⟩
def SCH_DST_START.WEEK : Fld := ⟨SCH_DST_START.adr, 20, 3⟩
def SCH_DST_START.WDAY : Fld := ⟨SCH_DST_START.adr, 16, 3⟩
def SCH_DST_START.MINUTE : Fld := ⟨SCH_DST_START.adr, 0, 11⟩
def SCH_DST_END.adr : Nat := 0x30001c
def SCH_DST_END.BASIS : Fld := ⟨SCH_DST_END.adr, 31, 1⟩
def SCH_DST_END.MONTH : Fld := ⟨SCH_DST_END.adr, 24, 4⟩
def SCH_DST_END.WEEK : Fld := ⟨SCH_DST_END.adr, 20, 3⟩
def SCH_DST_END.WDAY : Fld := ⟨SCH_DST_END.adr, 16, 3⟩
def SCH_DST_END.MINUTE : Fld := ⟨SCH_DST_END.adr, 0, 11⟩
def SCH_WEEK.adr : Nat := 0x300020
def SCH_WEEK.MAP : Fld := ⟨SCH_WEEK.adr, 0, 28⟩
def SCH_SOLAR_CTL.adr : Nat := 0x30002c
def SCH_SOLAR_CTL.HOST : Fld := ⟨SCH_SOLAR_CTL.adr, 0, 1⟩
def SCH_LOCAL_TIME.adr : Nat := 0x300030
def SCH_LOCAL_DATE.adr : Nat := 0x300034
def SCH_NEXT_LIT_LO.adr : Nat := 0x300038
def SCH_NEXT_LIT_LO.SEC_LO : Fld := ⟨SCH_NEXT_LIT_LO.adr, 0, 32⟩
def SCH_NEXT_LIT_HI.adr : Nat := 0x30003c
def SCH_NEXT_LIT_HI.VALID : Fld := ⟨SCH_NEXT_LIT_HI.adr, 31, 1⟩
def SCH_NEXT_LIT_HI.SEC_HI : Fld := ⟨SCH_NEXT_LIT_HI.adr, 0, 16⟩
def SCH_SOLAR_OFS.adr (i : Nat) : Nat := 0x300040 + 0x4 * i
def SCH_SOLAR_OFS.SEC (i : Nat) : Fld := ⟨SCH_SOLAR_OFS.adr i, 0, 16⟩
def SCH_SOLAR_FB.adr (i : Nat) : Nat := 0x300060 + 0x4 * i
def SCH_SOLAR_FB.SEC (i : Nat) : Fld := ⟨SCH_SOLAR_FB.adr i, 0, 17⟩
def SCH_SOLAR.adr (i j : Nat) : Nat := 0x300080 + 0x1c * i + 0x4 * j
def SCH_SOLAR.VALID (i j : Nat) : Fld := ⟨SCH_SOLAR.adr i j, 31, 1⟩
def SCH_SOLAR.ABSENT (i j : Nat) : Fld := ⟨SCH_SOLAR.adr i j, 30, 1⟩
def SCH_SOLAR.SEC (i j : Nat) : Fld := ⟨SCH_SOLAR.adr i j, 0, 17⟩
def SCH_IRQ_STAT.adr : Nat := 0x300100
def SCH_IRQ_STAT.HOLD_EXPIRED : Fld := ⟨SCH_IRQ_STAT.adr, 4, 1⟩
def SCH_IRQ_STAT.LATE : Fld := ⟨SCH_IRQ_STAT.adr, 3, 1⟩
def SCH_IRQ_STAT.SOLAR_FB : Fld := ⟨SCH_IRQ_STAT.adr, 2, 1⟩
def SCH_IRQ_STAT.TIME_LOST : Fld := ⟨SCH_IRQ_STAT.adr, 1, 1⟩
def SCH_IRQ_STAT.DAY : Fld := ⟨SCH_IRQ_STAT.adr, 0, 1⟩
def SCH_IRQ_EN.adr : Nat := 0x300104
def SCH_PROG_ATTR.adr (i : Nat) : Nat := 0x301000 + 0x4 * i
def SCH_PROG_ATTR.NO_TIME (i : Nat) : Fld := ⟨SCH_PROG_ATTR.adr i, 16, 16⟩
def SCH_PROG_ATTR.DEFAULT (i : Nat) : Fld := ⟨SCH_PROG_ATTR.adr i, 0, 16⟩
def SCH_EXC_W0.adr (i : Nat) : Nat := 0x301400 + 0x8 * i
def SCH_EXC_W0.EN (i : Nat) : Fld := ⟨SCH_EXC_W0.adr i, 31, 1⟩
def SCH_EXC_W0.ANNUAL (i : Nat) : Fld := ⟨SCH_EXC_W0.adr i, 30, 1⟩
def SCH_EXC_W0.YEAR (i : Nat) : Fld := ⟨SCH_EXC_W0.adr i, 16, 8⟩
def SCH_EXC_W0.MONTH (i : Nat) : Fld := ⟨SCH_EXC_W0.adr i, 8, 4⟩
def SCH_EXC_W0.DAY (i : Nat) : Fld := ⟨SCH_EXC_W0.adr i, 0, 5⟩
def SCH_EXC_W1.adr (i : Nat) : Nat := 0x301404 + 0x8 * i
def SCH_EXC_W1.LENGTH (i : Nat) : Fld := ⟨SCH_EXC_W1.adr i, 16, 5⟩
def SCH_EXC_W1.DAYTYPE (i : Nat) : Fld := ⟨SCH_EXC_W1.adr i, 0, 4⟩
def SCH_SCENE_DEF.adr (i : Nat) : Nat := 0x301800 + 0x4 * i
def SCH_SCENE_DEF.CCT (i : Nat) : Fld := ⟨SCH_SCENE_DEF.adr i, 16, 14⟩
def SCH_SCENE_DEF.LEVEL (i : Nat) : Fld := ⟨SCH_SCENE_DEF.adr i, 0, 16⟩
def SCH_PROG_OUT_W0.adr (i : Nat) : Nat := 0x302000 + 0x8 * i
def SCH_PROG_OUT_W0.CCT (i : Nat) : Fld := ⟨SCH_PROG_OUT_W0.adr i, 16, 16⟩
def SCH_PROG_OUT_W0.LEVEL (i : Nat) : Fld := ⟨SCH_PROG_OUT_W0.adr i, 0, 16⟩
def SCH_PROG_OUT_W1.adr (i : Nat) : Nat := 0x302004 + 0x8 * i
def SCH_PROG_OUT_W1.FADE (i : Nat) : Fld := ⟨SCH_PROG_OUT_W1.adr i, 16, 16⟩
def SCH_PROG_OUT_W1.SCENE (i : Nat) : Fld := ⟨SCH_PROG_OUT_W1.adr i, 7, 1⟩
def SCH_PROG_OUT_W1.NONE (i : Nat) : Fld := ⟨SCH_PROG_OUT_W1.adr i, 6, 1⟩
def SCH_PROG_OUT_W1.NO_TIME (i : Nat) : Fld := ⟨SCH_PROG_OUT_W1.adr i, 5, 1⟩
def SCH_PROG_OUT_W1.STEP (i : Nat) : Fld := ⟨SCH_PROG_OUT_W1.adr i, 0, 5⟩
def SCH_SCENE.adr (i j : Nat) : Nat := 0x310000 + 0x400 * i + 0x4 * j
def SCH_SCENE.DEF (i j : Nat) : Fld := ⟨SCH_SCENE.adr i j, 31, 1⟩
def SCH_SCENE.CCT (i j : Nat) : Fld := ⟨SCH_SCENE.adr i j, 16, 14⟩
def SCH_SCENE.LEVEL (i j : Nat) : Fld := ⟨SCH_SCENE.adr i j, 0, 16⟩
def SCH_STEP_W0.adr (i j : Nat) : Nat := 0x320000 + 0x200 * i + 0x10 * j
def SCH_STEP_W0.ANCHOR (i j : Nat) : Fld := ⟨SCH_STEP_W0.adr i j, 28, 4⟩
def SCH_STEP_W0.ACTION (i j : Nat) : Fld := ⟨SCH_STEP_W0.adr i j, 27, 1⟩
def SCH_STEP_W0.OFFSET (i j : Nat) : Fld := ⟨SCH_STEP_W0.adr i j, 17, 10⟩
def SCH_STEP_W0.TIME (i j : Nat) : Fld := ⟨SCH_STEP_W0.adr i j, 0, 17⟩
def SCH_STEP_W1.adr (i j : Nat) : Nat := 0x320004 + 0x200 * i + 0x10 * j
def SCH_STEP_W1.DAYS (i j : Nat) : Fld := ⟨SCH_STEP_W1.adr i j, 16, 16⟩
def SCH_STEP_W1.LEVEL (i j : Nat) : Fld := ⟨SCH_STEP_W1.adr i j, 0, 16⟩
def SCH_STEP_W2.adr (i j : Nat) : Nat := 0x320008 + 0x200 * i + 0x10 * j
def SCH_STEP_W2.FADE (i j : Nat) : Fld := ⟨SCH_STEP_W2.adr i j, 16, 16⟩
def SCH_STEP_W2.CCT (i j : Nat) : Fld := ⟨SCH_STEP_W2.adr i j, 0, 16⟩
def LFE_CMD.adr : Nat := 0x340000
def LFE_CMD.CODE : Fld := ⟨LFE_CMD.adr, 0, 8⟩
def LFE_CMD_STAT.adr : Nat := 0x340004
def LFE_CMD_STAT.CMD : Fld := ⟨LFE_CMD_STAT.adr, 8, 8⟩
def LFE_CMD_STAT.STATUS : Fld := ⟨LFE_CMD_STAT.adr, 0, 8⟩
def LFE_CTL.adr : Nat := 0x340008
def LFE_CTL.EN : Fld := ⟨LFE_CTL.adr, 31, 1⟩
def LFE_CTL.PROP_EN : Fld := ⟨LFE_CTL.adr, 30, 1⟩
def LFE_CTL.DEF_PROFILE : Fld := ⟨LFE_CTL.adr, 16, 8⟩
def LFE_CTL.TICK_MS : Fld := ⟨LFE_CTL.adr, 8, 8⟩
def LFE_FLOOR_CFG.adr : Nat := 0x34000c
def LFE_FLOOR_CFG.FLOOR_FADE : Fld := ⟨LFE_FLOOR_CFG.adr, 0, 16⟩
def LFE_STAT.adr : Nat := 0x340010
def LFE_STAT.NO_LANES : Fld := ⟨LFE_STAT.adr, 31, 1⟩
def LFE_STAT.STRETCHED : Fld := ⟨LFE_STAT.adr, 30, 1⟩
def LFE_STAT.BAD_PROF : Fld := ⟨LFE_STAT.adr, 29, 1⟩
def LFE_STAT.LANES : Fld := ⟨LFE_STAT.adr, 24, 5⟩
def LFE_STAT.TICK_MS : Fld := ⟨LFE_STAT.adr, 16, 8⟩
def LFE_STAT.SOURCES : Fld := ⟨LFE_STAT.adr, 0, 10⟩
def LFE_SRC_CFG.adr : Nat := 0x340014
def LFE_SRC_CFG.TRACK_PCT : Fld := ⟨LFE_SRC_CFG.adr, 24, 8⟩
def LFE_SRC_CFG.TRACK_MIN : Fld := ⟨LFE_SRC_CFG.adr, 16, 8⟩
def LFE_SRC_CFG.MIN_CONF : Fld := ⟨LFE_SRC_CFG.adr, 0, 8⟩
def LFE_TICK_NT_LO.adr : Nat := 0x340018
def LFE_TICK_NT_HI.adr : Nat := 0x34001c
def LFE_TICK_NT_HI.SEC : Fld := ⟨LFE_TICK_NT_HI.adr, 0, 32⟩
def LFE_EMERG_CTL.adr : Nat := 0x340020
def LFE_EMERG_CTL.HOST : Fld := ⟨LFE_EMERG_CTL.adr, 31, 1⟩
def LFE_EMERG_CTL.ALL : Fld := ⟨LFE_EMERG_CTL.adr, 30, 1⟩
def LFE_EMERG_CTL.FIO_EN : Fld := ⟨LFE_EMERG_CTL.adr, 29, 1⟩
def LFE_EMERG_CTL.FIO : Fld := ⟨LFE_EMERG_CTL.adr, 16, 7⟩
def LFE_EMERG_CTL.ACTIVE : Fld := ⟨LFE_EMERG_CTL.adr, 0, 1⟩
def LFE_COAL_CFG.adr : Nat := 0x340024
def LFE_COAL_CFG.BACKLOG_MS : Fld := ⟨LFE_COAL_CFG.adr, 16, 16⟩
def LFE_COAL_CFG.EN : Fld := ⟨LFE_COAL_CFG.adr, 0, 1⟩
def LFE_INJ_0.adr : Nat := 0x340030
def LFE_INJ_0.HEADING : Fld := ⟨LFE_INJ_0.adr, 24, 8⟩
def LFE_INJ_0.CLASS : Fld := ⟨LFE_INJ_0.adr, 16, 8⟩
def LFE_INJ_0.ORIGIN : Fld := ⟨LFE_INJ_0.adr, 0, 12⟩
def LFE_INJ_1.adr : Nat := 0x340034
def LFE_INJ_1.AGE : Fld := ⟨LFE_INJ_1.adr, 24, 8⟩
def LFE_INJ_1.COUNT : Fld := ⟨LFE_INJ_1.adr, 16, 8⟩
def LFE_INJ_1.CONF : Fld := ⟨LFE_INJ_1.adr, 8, 8⟩
def LFE_INJ_1.SPEED : Fld := ⟨LFE_INJ_1.adr, 0, 8⟩
def LFE_EMERG_GRP.adr (i : Nat) : Nat := 0x340040 + 0x4 * i
def LFE_EMERG_GRP.MEMBER (i : Nat) : Fld := ⟨LFE_EMERG_GRP.adr i, 0, 32⟩
def LFE_COAL_GRP.adr (i : Nat) : Nat := 0x340060 + 0x4 * i
def LFE_COAL_GRP.MEMBER (i : Nat) : Fld := ⟨LFE_COAL_GRP.adr i, 0, 32⟩
def LFE_CNT_A.adr : Nat := 0x340080
def LFE_CNT_A.CREATED : Fld := ⟨LFE_CNT_A.adr, 16, 16⟩
def LFE_CNT_A.MERGED : Fld := ⟨LFE_CNT_A.adr, 0, 16⟩
def LFE_CNT_B.adr : Nat := 0x340084
def LFE_CNT_B.TRACKED : Fld := ⟨LFE_CNT_B.adr, 16, 16⟩
def LFE_CNT_B.EVICTED : Fld := ⟨LFE_CNT_B.adr, 0, 16⟩
def LFE_CNT_C.adr : Nat := 0x340088
def LFE_CNT_C.TRUNCATED : Fld := ⟨LFE_CNT_C.adr, 16, 16⟩
def LFE_CNT_C.INTAKE_DROP : Fld := ⟨LFE_CNT_C.adr, 0, 16⟩
def LFE_CNT_D.adr : Nat := 0x34008c
def LFE_CNT_D.LATE_IN : Fld := ⟨LFE_CNT_D.adr, 16, 16⟩
def LFE_CNT_D.SUPERSEDED : Fld := ⟨LFE_CNT_D.adr, 0, 16⟩
def LFE_COAL_CNT.adr (i : Nat) : Nat := 0x340090 + 0x4 * i
def LFE_COAL_CNT.GROUP_FRAMES (i : Nat) : Fld := ⟨LFE_COAL_CNT.adr i, 16, 16⟩
def LFE_COAL_CNT.REPLACED (i : Nat) : Fld := ⟨LFE_COAL_CNT.adr i, 0, 16⟩
def LFE_CNT_E.adr : Nat := 0x3400b0
def LFE_CNT_E.LOW_CONF : Fld := ⟨LFE_CNT_E.adr, 0, 16⟩
def LFE_CNT_F.adr : Nat := 0x3400b4
def LFE_CNT_F.CLOSED : Fld := ⟨LFE_CNT_F.adr, 16, 16⟩
def LFE_CNT_F.NO_PROFILE : Fld := ⟨LFE_CNT_F.adr, 0, 16⟩
def LFE_IRQ_STAT.adr : Nat := 0x340100
def LFE_IRQ_STAT.NO_LANES : Fld := ⟨LFE_IRQ_STAT.adr, 5, 1⟩
def LFE_IRQ_STAT.STRETCHED : Fld := ⟨LFE_IRQ_STAT.adr, 4, 1⟩
def LFE_IRQ_STAT.EVICT : Fld := ⟨LFE_IRQ_STAT.adr, 3, 1⟩
def LFE_IRQ_STAT.INTAKE_DROP : Fld := ⟨LFE_IRQ_STAT.adr, 2, 1⟩
def LFE_IRQ_STAT.EMERG : Fld := ⟨LFE_IRQ_STAT.adr, 1, 1⟩
def LFE_IRQ_STAT.CMD_DONE : Fld := ⟨LFE_IRQ_STAT.adr, 0, 1⟩
def LFE_IRQ_EN.adr : Nat := 0x340104
def LFE_CLASS_CFG.adr (i : Nat) : Nat := 0x340200 + 0x4 * i
def LFE_CLASS_CFG.DEF_SPEED (i : Nat) : Fld := ⟨LFE_CLASS_CFG.adr i, 8, 8⟩
def LFE_CLASS_CFG.MIN_SPEED (i : Nat) : Fld := ⟨LFE_CLASS_CFG.adr i, 0, 8⟩
def LFE_PROF_W0.adr (i : Nat) : Nat := 0x341000 + 0x20 * i
def LFE_PROF_W0.BOOST (i : Nat) : Fld := ⟨LFE_PROF_W0.adr i, 16, 16⟩
def LFE_PROF_W0.BOOST_CCT (i : Nat) : Fld := ⟨LFE_PROF_W0.adr i, 0, 16⟩
def LFE_PROF_W1.adr (i : Nat) : Nat := 0x341004 + 0x20 * i
def LFE_PROF_W1.LEAD (i : Nat) : Fld := ⟨LFE_PROF_W1.adr i, 16, 16⟩
def LFE_PROF_W1.HOLD (i : Nat) : Fld := ⟨LFE_PROF_W1.adr i, 0, 16⟩
def LFE_PROF_W2.adr (i : Nat) : Nat := 0x341008 + 0x20 * i
def LFE_PROF_W2.RISE (i : Nat) : Fld := ⟨LFE_PROF_W2.adr i, 16, 16⟩
def LFE_PROF_W2.DECAY (i : Nat) : Fld := ⟨LFE_PROF_W2.adr i, 0, 16⟩
def LFE_PROF_W3.adr (i : Nat) : Nat := 0x34100c + 0x20 * i
def LFE_PROF_W3.CLASS_EN (i : Nat) : Fld := ⟨LFE_PROF_W3.adr i, 24, 8⟩
def LFE_PROF_W3.ANGLE (i : Nat) : Fld := ⟨LFE_PROF_W3.adr i, 16, 8⟩
def LFE_PROF_W3.LIFE (i : Nat) : Fld := ⟨LFE_PROF_W3.adr i, 0, 16⟩
def LFE_PROF_W4.adr (i : Nat) : Nat := 0x341010 + 0x20 * i
def LFE_PROF_W4.HORIZON (i : Nat) : Fld := ⟨LFE_PROF_W4.adr i, 16, 16⟩
def LFE_PROF_W4.HOPS (i : Nat) : Fld := ⟨LFE_PROF_W4.adr i, 8, 8⟩
def LFE_PROF_W5.adr (i : Nat) : Nat := 0x341014 + 0x20 * i
def LFE_PROF_W5.EDGE_MASK (i : Nat) : Fld := ⟨LFE_PROF_W5.adr i, 0, 16⟩
def LFE_SRC_W0.adr (i : Nat) : Nat := 0x344000 + 0x10 * i
def LFE_SRC_W0.LIVE (i : Nat) : Fld := ⟨LFE_SRC_W0.adr i, 31, 1⟩
def LFE_SRC_W0.ORIGIN (i : Nat) : Fld := ⟨LFE_SRC_W0.adr i, 16, 12⟩
def LFE_SRC_W0.CLASS (i : Nat) : Fld := ⟨LFE_SRC_W0.adr i, 8, 3⟩
def LFE_SRC_W0.SPEED (i : Nat) : Fld := ⟨LFE_SRC_W0.adr i, 0, 8⟩
def LFE_SRC_W1.adr (i : Nat) : Nat := 0x344004 + 0x10 * i
def LFE_SRC_W1.T0_SEC (i : Nat) : Fld := ⟨LFE_SRC_W1.adr i, 0, 32⟩
def LFE_SRC_W2.adr (i : Nat) : Nat := 0x344008 + 0x10 * i
def LFE_SRC_W2.T0_NS (i : Nat) : Fld := ⟨LFE_SRC_W2.adr i, 0, 32⟩
def LFE_SRC_W3.adr (i : Nat) : Nat := 0x34400c + 0x10 * i
def LFE_SRC_W3.REFRESH_AGE (i : Nat) : Fld := ⟨LFE_SRC_W3.adr i, 16, 16⟩
def LFE_SRC_W3.HEADING (i : Nat) : Fld := ⟨LFE_SRC_W3.adr i, 8, 8⟩
def LFE_SRC_W3.SETTLED (i : Nat) : Fld := ⟨LFE_SRC_W3.adr i, 0, 8⟩
def TRN_CMD.adr : Nat := 0x380000
def TRN_CMD.CODE : Fld := ⟨TRN_CMD.adr, 0, 8⟩
def TRN_CMD_STAT.adr : Nat := 0x380004
def TRN_CMD_STAT.CMD : Fld := ⟨TRN_CMD_STAT.adr, 8, 8⟩
def TRN_CMD_STAT.STATUS : Fld := ⟨TRN_CMD_STAT.adr, 0, 8⟩
def TRN_CMD_ARG.adr : Nat := 0x380008
def TRN_CMD_ARG.AT : Fld := ⟨TRN_CMD_ARG.adr, 31, 1⟩
def TRN_CMD_ARG.INDEX : Fld := ⟨TRN_CMD_ARG.adr, 0, 8⟩
def TRN_STAT.adr : Nat := 0x38000c
def TRN_STAT.ARMED : Fld := ⟨TRN_STAT.adr, 16, 7⟩
def TRN_STAT.BUSY_WRITE : Fld := ⟨TRN_STAT.adr, 8, 1⟩
def TRN_STAT.RUNNING : Fld := ⟨TRN_STAT.adr, 0, 6⟩
def TRN_CMD_T_NS.adr : Nat := 0x380010
def TRN_CMD_T_NS.NS : Fld := ⟨TRN_CMD_T_NS.adr, 0, 30⟩
def TRN_CMD_T_SEC_LO.adr : Nat := 0x380014
def TRN_CMD_T_SEC_LO.SEC_LO : Fld := ⟨TRN_CMD_T_SEC_LO.adr, 0, 32⟩
def TRN_CMD_T_SEC_HI.adr : Nat := 0x380018
def TRN_CMD_T_SEC_HI.SEC_HI : Fld := ⟨TRN_CMD_T_SEC_HI.adr, 0, 16⟩
def TRN_CFG.adr : Nat := 0x38001c
def TRN_CFG.CATCHUP_S : Fld := ⟨TRN_CFG.adr, 16, 16⟩
def TRN_CFG.ARM_REPEAT : Fld := ⟨TRN_CFG.adr, 0, 4⟩
def TRN_RC_LAT.adr (i : Nat) : Nat := 0x380020 + 0x4 * i
def TRN_RC_LAT.US (i : Nat) : Fld := ⟨TRN_RC_LAT.adr i, 0, 16⟩
def TRN_DL_LAT.adr (i : Nat) : Nat := 0x380040 + 0x4 * i
def TRN_DL_LAT.US (i : Nat) : Fld := ⟨TRN_DL_LAT.adr i, 0, 16⟩
def TRN_IRQ_STAT.adr : Nat := 0x380080
def TRN_IRQ_STAT.ENG_END : Fld := ⟨TRN_IRQ_STAT.adr, 6, 1⟩
def TRN_IRQ_STAT.SHIFTED : Fld := ⟨TRN_IRQ_STAT.adr, 5, 1⟩
def TRN_IRQ_STAT.FIRE_HELD : Fld := ⟨TRN_IRQ_STAT.adr, 4, 1⟩
def TRN_IRQ_STAT.LATE : Fld := ⟨TRN_IRQ_STAT.adr, 3, 1⟩
def TRN_IRQ_STAT.SLOT_DONE : Fld := ⟨TRN_IRQ_STAT.adr, 2, 1⟩
def TRN_IRQ_STAT.SLOT_FIRED : Fld := ⟨TRN_IRQ_STAT.adr, 1, 1⟩
def TRN_IRQ_STAT.CMD_DONE : Fld := ⟨TRN_IRQ_STAT.adr, 0, 1⟩
def TRN_IRQ_EN.adr : Nat := 0x380084
def TRN_CNT.adr : Nat := 0x380088
def TRN_CNT.CATCHUP : Fld := ⟨TRN_CNT.adr, 16, 16⟩
def TRN_CNT.FIRE_HELD : Fld := ⟨TRN_CNT.adr, 0, 16⟩
def TRN_SLOT_CTL.adr (i : Nat) : Nat := 0x381000 + 0x40 * i
def TRN_SLOT_CTL.STATE (i : Nat) : Fld := ⟨TRN_SLOT_CTL.adr i, 29, 3⟩
def TRN_SLOT_CTL.DAILY (i : Nat) : Fld := ⟨TRN_SLOT_CTL.adr i, 28, 1⟩
def TRN_SLOT_CTL.PRIORITY (i : Nat) : Fld := ⟨TRN_SLOT_CTL.adr i, 24, 4⟩
def TRN_SLOT_CTL.SCOPE (i : Nat) : Fld := ⟨TRN_SLOT_CTL.adr i, 22, 2⟩
def TRN_SLOT_CTL.TARGET (i : Nat) : Fld := ⟨TRN_SLOT_CTL.adr i, 0, 12⟩
def TRN_SLOT_T_NS.adr (i : Nat) : Nat := 0x381004 + 0x40 * i
def TRN_SLOT_T_NS.NS (i : Nat) : Fld := ⟨TRN_SLOT_T_NS.adr i, 0, 30⟩
def TRN_SLOT_T_SEC_LO.adr (i : Nat) : Nat := 0x381008 + 0x40 * i
def TRN_SLOT_T_SEC_LO.SEC_LO (i : Nat) : Fld := ⟨TRN_SLOT_T_SEC_LO.adr i, 0, 32⟩
def TRN_SLOT_T_SEC_HI.adr (i : Nat) : Nat := 0x38100c + 0x40 * i
def TRN_SLOT_T_SEC_HI.SEC_HI (i : Nat) : Fld := ⟨TRN_SLOT_T_SEC_HI.adr i, 0, 16⟩
def TRN_SLOT_LVL.adr (i : Nat) : Nat := 0x381010 + 0x40 * i
def TRN_SLOT_LVL.CCT (i : Nat) : Fld := ⟨TRN_SLOT_LVL.adr i, 16, 16⟩
def TRN_SLOT_LVL.LEVEL (i : Nat) : Fld := ⟨TRN_SLOT_LVL.adr i, 0, 16⟩
def TRN_SLOT_FADE.adr (i : Nat) : Nat := 0x381014 + 0x40 * i
def TRN_SLOT_FADE.HOLD_S (i : Nat) : Fld := ⟨TRN_SLOT_FADE.adr i, 16, 16⟩
def TRN_SLOT_FADE.FADE (i : Nat) : Fld := ⟨TRN_SLOT_FADE.adr i, 0, 16⟩
def TRN_SLOT_ARM.adr (i : Nat) : Nat := 0x381018 + 0x40 * i
def TRN_SLOT_ARM.ARM_ID (i : Nat) : Fld := ⟨TRN_SLOT_ARM.adr i, 16, 16⟩
def TRN_SLOT_ARM.LEAD_S (i : Nat) : Fld := ⟨TRN_SLOT_ARM.adr i, 0, 16⟩
def TRN_SLOT_STAT.adr (i : Nat) : Nat := 0x38101c + 0x40 * i
def TRN_SLOT_STAT.SHIFT_US (i : Nat) : Fld := ⟨TRN_SLOT_STAT.adr i, 16, 16⟩
def TRN_SLOT_STAT.CATCHUP (i : Nat) : Fld := ⟨TRN_SLOT_STAT.adr i, 8, 8⟩
def TRN_SLOT_STAT.FIRE_HELD (i : Nat) : Fld := ⟨TRN_SLOT_STAT.adr i, 2, 1⟩
def TRN_SLOT_STAT.LATE (i : Nat) : Fld := ⟨TRN_SLOT_STAT.adr i, 1, 1⟩
def TRN_SLOT_STAT.SHIFTED (i : Nat) : Fld := ⟨TRN_SLOT_STAT.adr i, 0, 1⟩
def TRN_PAT_CTL.adr (i : Nat) : Nat := 0x382000 + 0x40 * i
def TRN_PAT_CTL.RUN (i : Nat) : Fld := ⟨TRN_PAT_CTL.adr i, 31, 1⟩
def TRN_PAT_CTL.START_ON_EMERG (i : Nat) : Fld := ⟨TRN_PAT_CTL.adr i, 30, 1⟩
def TRN_PAT_CTL.DIRECT_FAST (i : Nat) : Fld := ⟨TRN_PAT_CTL.adr i, 29, 1⟩
def TRN_PAT_CTL.DIR (i : Nat) : Fld := ⟨TRN_PAT_CTL.adr i, 28, 1⟩
def TRN_PAT_CTL.PRIORITY (i : Nat) : Fld := ⟨TRN_PAT_CTL.adr i, 24, 4⟩
def TRN_PAT_CTL.SCOPE (i : Nat) : Fld := ⟨TRN_PAT_CTL.adr i, 22, 2⟩
def TRN_PAT_CTL.TYPE (i : Nat) : Fld := ⟨TRN_PAT_CTL.adr i, 16, 4⟩
def TRN_PAT_CTL.GROUP (i : Nat) : Fld := ⟨TRN_PAT_CTL.adr i, 8, 8⟩
def TRN_PAT_LVL.adr (i : Nat) : Nat := 0x382004 + 0x40 * i
def TRN_PAT_LVL.HIGH (i : Nat) : Fld := ⟨TRN_PAT_LVL.adr i, 16, 16⟩
def TRN_PAT_LVL.LOW (i : Nat) : Fld := ⟨TRN_PAT_LVL.adr i, 0, 16⟩
def TRN_PAT_CCT.adr (i : Nat) : Nat := 0x382008 + 0x40 * i
def TRN_PAT_CCT.CCT_HIGH (i : Nat) : Fld := ⟨TRN_PAT_CCT.adr i, 16, 16⟩
def TRN_PAT_CCT.CCT_LOW (i : Nat) : Fld := ⟨TRN_PAT_CCT.adr i, 0, 16⟩
def TRN_PAT_TIME.adr (i : Nat) : Nat := 0x38200c + 0x40 * i
def TRN_PAT_TIME.PERIOD (i : Nat) : Fld := ⟨TRN_PAT_TIME.adr i, 16, 16⟩
def TRN_PAT_TIME.STEP (i : Nat) : Fld := ⟨TRN_PAT_TIME.adr i, 0, 16⟩
def TRN_PAT_SHAPE.adr (i : Nat) : Nat := 0x382010 + 0x40 * i
def TRN_PAT_SHAPE.DUTY (i : Nat) : Fld := ⟨TRN_PAT_SHAPE.adr i, 24, 8⟩
def TRN_PAT_SHAPE.WIDTH (i : Nat) : Fld := ⟨TRN_PAT_SHAPE.adr i, 16, 8⟩
def TRN_PAT_SHAPE.COUNT (i : Nat) : Fld := ⟨TRN_PAT_SHAPE.adr i, 0, 16⟩
def TRN_PAT_LIST.adr (i : Nat) : Nat := 0x382014 + 0x40 * i
def TRN_PAT_LIST.LEN (i : Nat) : Fld := ⟨TRN_PAT_LIST.adr i, 16, 9⟩
def TRN_PAT_LIST.SEQ_LEN (i : Nat) : Fld := ⟨TRN_PAT_LIST.adr i, 8, 5⟩
def TRN_PAT_START_SEC.adr (i : Nat) : Nat := 0x382018 + 0x40 * i
def TRN_PAT_START_SEC.SEC_LO (i : Nat) : Fld := ⟨TRN_PAT_START_SEC.adr i, 0, 32⟩
def TRN_PAT_START_NS.adr (i : Nat) : Nat := 0x38201c + 0x40 * i
def TRN_PAT_START_NS.NS (i : Nat) : Fld := ⟨TRN_PAT_START_NS.adr i, 0, 32⟩
def TRN_PAT_SEQ_W0.adr (i j : Nat) : Nat := 0x384000 + 0x80 * i + 0x8 * j
def TRN_PAT_SEQ_W0.CCT (i j : Nat) : Fld := ⟨TRN_PAT_SEQ_W0.adr i j, 16, 16⟩
def TRN_PAT_SEQ_W0.LEVEL (i j : Nat) : Fld := ⟨TRN_PAT_SEQ_W0.adr i j, 0, 16⟩
def TRN_PAT_SEQ_W1.adr (i j : Nat) : Nat := 0x384004 + 0x80 * i + 0x8 * j
def TRN_PAT_SEQ_W1.FADE (i j : Nat) : Fld := ⟨TRN_PAT_SEQ_W1.adr i j, 16, 16⟩
def TRN_PAT_SEQ_W1.DUR (i j : Nat) : Fld := ⟨TRN_PAT_SEQ_W1.adr i j, 0, 16⟩
def TRN_PAT_MEM.adr (i j : Nat) : Nat := 0x388000 + 0x200 * i + 0x4 * j
def TRN_PAT_MEM.MEMBER_ODD (i j : Nat) : Fld := ⟨TRN_PAT_MEM.adr i j, 16, 12⟩
def TRN_PAT_MEM.MEMBER_EVEN (i j : Nat) : Fld := ⟨TRN_PAT_MEM.adr i j, 0, 12⟩
def DRV_CMD.adr : Nat := 0x400000
def DRV_CMD.CODE : Fld := ⟨DRV_CMD.adr, 0, 8⟩
def DRV_CMD_STAT.adr : Nat := 0x400004
def DRV_CMD_STAT.CMD : Fld := ⟨DRV_CMD_STAT.adr, 8, 8⟩
def DRV_CMD_STAT.STATUS : Fld := ⟨DRV_CMD_STAT.adr, 0, 8⟩
def DRV_CMD_ARG.adr : Nat := 0x400008
def DRV_CMD_ARG.GROUP : Fld := ⟨DRV_CMD_ARG.adr, 8, 1⟩
def DRV_CMD_ARG.INDEX : Fld := ⟨DRV_CMD_ARG.adr, 0, 6⟩
def DRV_STAT.adr : Nat := 0x40000c
def DRV_STAT.LATCHED : Fld := ⟨DRV_STAT.adr, 16, 7⟩
def DRV_STAT.UV_GROUPS : Fld := ⟨DRV_STAT.adr, 8, 8⟩
def DRV_STAT.OC_GROUPS : Fld := ⟨DRV_STAT.adr, 0, 8⟩
def DRV_FAULT_MAP_LO.adr : Nat := 0x400010
def DRV_FAULT_MAP_LO.MAP : Fld := ⟨DRV_FAULT_MAP_LO.adr, 0, 32⟩
def DRV_FAULT_MAP_HI.adr : Nat := 0x400014
def DRV_FAULT_MAP_HI.MAP : Fld := ⟨DRV_FAULT_MAP_HI.adr, 0, 32⟩
def DRV_SCAN_CTL.adr : Nat := 0x400018
def DRV_SCAN_CTL.EN : Fld := ⟨DRV_SCAN_CTL.adr, 31, 1⟩
def DRV_SCAN_CTL.MS : Fld := ⟨DRV_SCAN_CTL.adr, 0, 16⟩
def DRV_SCAN_STAT.adr : Nat := 0x40001c
def DRV_SCAN_STAT.VALID : Fld := ⟨DRV_SCAN_STAT.adr, 31, 1⟩
def DRV_SCAN_STAT.PAIR : Fld := ⟨DRV_SCAN_STAT.adr, 16, 2⟩
def DRV_SCAN_STAT.CH_B : Fld := ⟨DRV_SCAN_STAT.adr, 8, 6⟩
def DRV_SCAN_STAT.CH_A : Fld := ⟨DRV_SCAN_STAT.adr, 0, 6⟩
def DRV_IRQ_STAT.adr : Nat := 0x400080
def DRV_IRQ_STAT.BAD_CFG : Fld := ⟨DRV_IRQ_STAT.adr, 7, 1⟩
def DRV_IRQ_STAT.COMP_SAT : Fld := ⟨DRV_IRQ_STAT.adr, 6, 1⟩
def DRV_IRQ_STAT.PAD_SHORT : Fld := ⟨DRV_IRQ_STAT.adr, 5, 1⟩
def DRV_IRQ_STAT.SUPPLY_UV : Fld := ⟨DRV_IRQ_STAT.adr, 4, 1⟩
def DRV_IRQ_STAT.GROUP_OC : Fld := ⟨DRV_IRQ_STAT.adr, 3, 1⟩
def DRV_IRQ_STAT.CH_LATCH : Fld := ⟨DRV_IRQ_STAT.adr, 2, 1⟩
def DRV_IRQ_STAT.CH_FAULT : Fld := ⟨DRV_IRQ_STAT.adr, 1, 1⟩
def DRV_IRQ_STAT.CMD_DONE : Fld := ⟨DRV_IRQ_STAT.adr, 0, 1⟩
def DRV_IRQ_EN.adr : Nat := 0x400084
def DRV_GRP_CTL.adr (i : Nat) : Nat := 0x400200 + 0x40 * i
def DRV_GRP_CTL.NT_ALIGN (i : Nat) : Fld := ⟨DRV_GRP_CTL.adr i, 31, 1⟩
def DRV_GRP_CTL.HICCUP_N (i : Nat) : Fld := ⟨DRV_GRP_CTL.adr i, 16, 8⟩
def DRV_GRP_CTL.HICCUP_MS (i : Nat) : Fld := ⟨DRV_GRP_CTL.adr i, 0, 16⟩
def DRV_GRP_PWM.adr (i : Nat) : Nat := 0x400204 + 0x40 * i
def DRV_GRP_PWM.PERIOD (i : Nat) : Fld := ⟨DRV_GRP_PWM.adr i, 0, 20⟩
def DRV_GRP_FSW.adr (i : Nat) : Nat := 0x400208 + 0x40 * i
def DRV_GRP_FSW.DIV (i : Nat) : Fld := ⟨DRV_GRP_FSW.adr i, 0, 13⟩
def DRV_GRP_LIMIT.adr (i : Nat) : Nat := 0x40020c + 0x40 * i
def DRV_GRP_LIMIT.GOC_US (i : Nat) : Fld := ⟨DRV_GRP_LIMIT.adr i, 16, 16⟩
def DRV_GRP_LIMIT.LIMIT_MA (i : Nat) : Fld := ⟨DRV_GRP_LIMIT.adr i, 0, 16⟩
def DRV_GRP_UV.adr (i : Nat) : Nat := 0x400210 + 0x40 * i
def DRV_GRP_UV.HYST_10MV (i : Nat) : Fld := ⟨DRV_GRP_UV.adr i, 16, 12⟩
def DRV_GRP_UV.UV_10MV (i : Nat) : Fld := ⟨DRV_GRP_UV.adr i, 0, 12⟩
def DRV_GRP_MEAS.adr (i : Nat) : Nat := 0x400214 + 0x40 * i
def DRV_GRP_MEAS.VDRV_10MV (i : Nat) : Fld := ⟨DRV_GRP_MEAS.adr i, 16, 16⟩
def DRV_GRP_MEAS.MA (i : Nat) : Fld := ⟨DRV_GRP_MEAS.adr i, 0, 16⟩
def DRV_GRP_STAT.adr (i : Nat) : Nat := 0x400218 + 0x40 * i
def DRV_GRP_STAT.STATE (i : Nat) : Fld := ⟨DRV_GRP_STAT.adr i, 30, 2⟩
def DRV_GRP_STAT.RETRIES (i : Nat) : Fld := ⟨DRV_GRP_STAT.adr i, 16, 8⟩
def DRV_GRP_STAT.ALLOW_MA (i : Nat) : Fld := ⟨DRV_GRP_STAT.adr i, 0, 16⟩
def DRV_GRP_EN_LO.adr (i : Nat) : Nat := 0x400220 + 0x40 * i
def DRV_GRP_EN_HI.adr (i : Nat) : Nat := 0x400224 + 0x40 * i
def DRV_GRP_EN_STAT.adr (i : Nat) : Nat := 0x400228 + 0x40 * i
def DRV_GRP_EN_STAT.REREAD (i : Nat) : Fld := ⟨DRV_GRP_EN_STAT.adr i, 1, 1⟩
def DRV_GRP_EN_STAT.PENDING (i : Nat) : Fld := ⟨DRV_GRP_EN_STAT.adr i, 0, 1⟩
def DRV_CH_CTL.adr (i : Nat) : Nat := 0x401000 + 0x40 * i
def DRV_CH_CTL.EN (i : Nat) : Fld := ⟨DRV_CH_CTL.adr i, 31, 1⟩
def DRV_CH_CTL.PHASE_AUTO (i : Nat) : Fld := ⟨DRV_CH_CTL.adr i, 30, 1⟩
def DRV_CH_CTL.MODE (i : Nat) : Fld := ⟨DRV_CH_CTL.adr i, 28, 2⟩
def DRV_CH_CTL.PHASE (i : Nat) : Fld := ⟨DRV_CH_CTL.adr i, 0, 16⟩
def DRV_CH_ISET.adr (i : Nat) : Nat := 0x401004 + 0x40 * i
def DRV_CH_ISET.RSENSE_MOHM (i : Nat) : Fld := ⟨DRV_CH_ISET.adr i, 16, 16⟩
def DRV_CH_ISET.ISET_MA (i : Nat) : Fld := ⟨DRV_CH_ISET.adr i, 0, 16⟩
def DRV_CH_LOOP.adr (i : Nat) : Nat := 0x401008 + 0x40 * i
def DRV_CH_LOOP.KNEE (i : Nat) : Fld := ⟨DRV_CH_LOOP.adr i, 16, 16⟩
def DRV_CH_LOOP.BLANK (i : Nat) : Fld := ⟨DRV_CH_LOOP.adr i, 8, 8⟩
def DRV_CH_LOOP.SLOPE (i : Nat) : Fld := ⟨DRV_CH_LOOP.adr i, 0, 8⟩
def DRV_CH_PROT.adr (i : Nat) : Nat := 0x40100c + 0x40 * i
def DRV_CH_PROT.TRIP (i : Nat) : Fld := ⟨DRV_CH_PROT.adr i, 16, 10⟩
def DRV_CH_PROT.TRIP_INRUSH (i : Nat) : Fld := ⟨DRV_CH_PROT.adr i, 0, 10⟩
def DRV_CH_SS.adr (i : Nat) : Nat := 0x401010 + 0x40 * i
def DRV_CH_SS.INRUSH_MS (i : Nat) : Fld := ⟨DRV_CH_SS.adr i, 24, 8⟩
def DRV_CH_SS.SS_MS (i : Nat) : Fld := ⟨DRV_CH_SS.adr i, 16, 8⟩
def DRV_CH_SS.INRUSH_ALLOW_MA (i : Nat) : Fld := ⟨DRV_CH_SS.adr i, 0, 16⟩
def DRV_CH_VTH.adr (i : Nat) : Nat := 0x401014 + 0x40 * i
def DRV_CH_VTH.OPEN_MV (i : Nat) : Fld := ⟨DRV_CH_VTH.adr i, 16, 12⟩
def DRV_CH_VTH.SHORT_MV (i : Nat) : Fld := ⟨DRV_CH_VTH.adr i, 0, 12⟩
def DRV_CH_VTIME.adr (i : Nat) : Nat := 0x401018 + 0x40 * i
def DRV_CH_VTIME.SS_SHORT_MS (i : Nat) : Fld := ⟨DRV_CH_VTIME.adr i, 24, 8⟩
def DRV_CH_VTIME.SHORT_10US (i : Nat) : Fld := ⟨DRV_CH_VTIME.adr i, 16, 8⟩
def DRV_CH_VTIME.OPEN_US (i : Nat) : Fld := ⟨DRV_CH_VTIME.adr i, 8, 8⟩
def DRV_CH_SCALE.adr (i : Nat) : Nat := 0x40101c + 0x40 * i
def DRV_CH_SCALE.VO_SCALE (i : Nat) : Fld := ⟨DRV_CH_SCALE.adr i, 16, 16⟩
def DRV_CH_SCALE.MIN_ON (i : Nat) : Fld := ⟨DRV_CH_SCALE.adr i, 0, 16⟩
def DRV_CH_HOST.adr (i : Nat) : Nat := 0x401020 + 0x40 * i
def DRV_CH_HOST.VALID (i : Nat) : Fld := ⟨DRV_CH_HOST.adr i, 31, 1⟩
def DRV_CH_HOST.LEVEL (i : Nat) : Fld := ⟨DRV_CH_HOST.adr i, 0, 16⟩
def DRV_CH_OUT.adr (i : Nat) : Nat := 0x401024 + 0x40 * i
def DRV_CH_OUT.D (i : Nat) : Fld := ⟨DRV_CH_OUT.adr i, 16, 16⟩
def DRV_CH_OUT.LEVEL (i : Nat) : Fld := ⟨DRV_CH_OUT.adr i, 0, 16⟩
def DRV_CH_MEAS.adr (i : Nat) : Nat := 0x401028 + 0x40 * i
def DRV_CH_MEAS.VO_MV (i : Nat) : Fld := ⟨DRV_CH_MEAS.adr i, 16, 12⟩
def DRV_CH_MEAS.I_MA (i : Nat) : Fld := ⟨DRV_CH_MEAS.adr i, 0, 16⟩
def DRV_CH_STAT.adr (i : Nat) : Nat := 0x40102c + 0x40 * i
def DRV_CH_STAT.STATE (i : Nat) : Fld := ⟨DRV_CH_STAT.adr i, 29, 3⟩
def DRV_CH_STAT.RETRIES (i : Nat) : Fld := ⟨DRV_CH_STAT.adr i, 16, 8⟩
def DRV_CH_STAT.FCODE (i : Nat) : Fld := ⟨DRV_CH_STAT.adr i, 8, 8⟩
def DRV_CH_STAT.COMP_SAT (i : Nat) : Fld := ⟨DRV_CH_STAT.adr i, 4, 1⟩
def DRV_CH_STAT.IN_INRUSH (i : Nat) : Fld := ⟨DRV_CH_STAT.adr i, 3, 1⟩
def DRV_CH_STAT.SCAN_SUSP (i : Nat) : Fld := ⟨DRV_CH_STAT.adr i, 2, 1⟩
def DRV_CH_FAULT.adr (i : Nat) : Nat := 0x401030 + 0x40 * i
def DRV_CH_FAULT.CODE (i : Nat) : Fld := ⟨DRV_CH_FAULT.adr i, 24, 8⟩
def DRV_CH_FAULT.COUNT (i : Nat) : Fld := ⟨DRV_CH_FAULT.adr i, 0, 16⟩
def DRV_CH_PWM_OUT.adr (i : Nat) : Nat := 0x401034 + 0x40 * i
def DRV_CH_PWM_OUT.WIDTH (i : Nat) : Fld := ⟨DRV_CH_PWM_OUT.adr i, 0, 20⟩
def DRV_CH_PK.adr (i : Nat) : Nat := 0x401038 + 0x40 * i
def DRV_CH_PK.PEAK (i : Nat) : Fld := ⟨DRV_CH_PK.adr i, 0, 10⟩
def DRV_CURVE.adr (i j : Nat) : Nat := 0x404000 + 0x80 * i + 0x4 * j
def DRV_CURVE.D (i j : Nat) : Fld := ⟨DRV_CURVE.adr i j, 0, 16⟩
def DRV_SET_CFG.adr (i : Nat) : Nat := 0x406000 + 0x40 * i
def DRV_SET_CFG.EN (i : Nat) : Fld := ⟨DRV_SET_CFG.adr i, 31, 1⟩
def DRV_SET_CFG.NCOL (i : Nat) : Fld := ⟨DRV_SET_CFG.adr i, 28, 2⟩
def DRV_SET_CFG.TS_SEL (i : Nat) : Fld := ⟨DRV_SET_CFG.adr i, 24, 4⟩
def DRV_SET_CFG.CH3 (i : Nat) : Fld := ⟨DRV_SET_CFG.adr i, 18, 6⟩
def DRV_SET_CFG.CH2 (i : Nat) : Fld := ⟨DRV_SET_CFG.adr i, 12, 6⟩
def DRV_SET_CFG.CH1 (i : Nat) : Fld := ⟨DRV_SET_CFG.adr i, 6, 6⟩
def DRV_SET_CFG.CH0 (i : Nat) : Fld := ⟨DRV_SET_CFG.adr i, 0, 6⟩
def DRV_SET_COL.adr (i j : Nat) : Nat := 0x406004 + 0x40 * i + 0x4 * j
def DRV_SET_COL.CCT (i j : Nat) : Fld := ⟨DRV_SET_COL.adr i j, 16, 16⟩
def DRV_SET_COL.CURVE (i j : Nat) : Fld := ⟨DRV_SET_COL.adr i j, 8, 8⟩
def DRV_SET_COMP.adr (i : Nat) : Nat := 0x406014 + 0x40 * i
def DRV_SET_COMP.T_START (i : Nat) : Fld := ⟨DRV_SET_COMP.adr i, 16, 16⟩
def DRV_SET_COMP.T_STEP (i : Nat) : Fld := ⟨DRV_SET_COMP.adr i, 8, 8⟩
def DRV_SET_FAIL.adr (i : Nat) : Nat := 0x406018 + 0x40 * i
def DRV_SET_FAIL.T_FAIL (i : Nat) : Fld := ⟨DRV_SET_FAIL.adr i, 0, 16⟩
def DRV_SET_STAT.adr (i : Nat) : Nat := 0x40601c + 0x40 * i
def DRV_SET_STAT.TS_FAIL (i : Nat) : Fld := ⟨DRV_SET_STAT.adr i, 31, 1⟩
def DRV_SET_STAT.COMP_SAT (i : Nat) : Fld := ⟨DRV_SET_STAT.adr i, 0, 4⟩
def DRV_SET_GAIN.adr (i j : Nat) : Nat := 0x406020 + 0x40 * i + 0x4 * j
def DRV_SET_GAIN.GAIN (i j : Nat) : Fld := ⟨DRV_SET_GAIN.adr i j, 0, 16⟩
def DRV_COMP.adr (i j k : Nat) : Nat := 0x408000 + 0x100 * i + 0x40 * j + 0x4 * k
def DRV_COMP.GAIN (i j k : Nat) : Fld := ⟨DRV_COMP.adr i j k, 0, 16⟩
def LBUS_CMD.adr : Nat := 0x440000
def LBUS_CMD.CODE : Fld := ⟨LBUS_CMD.adr, 0, 8⟩
def LBUS_CMD_STAT.adr : Nat := 0x440004
def LBUS_CMD_STAT.CMD : Fld := ⟨LBUS_CMD_STAT.adr, 8, 8⟩
def LBUS_CMD_STAT.STATUS : Fld := ⟨LBUS_CMD_STAT.adr, 0, 8⟩
def LBUS_CMD_ARG.adr : Nat := 0x440008
def LBUS_CMD_ARG.ADDR : Fld := ⟨LBUS_CMD_ARG.adr, 8, 6⟩
def LBUS_CMD_ARG.INDEX : Fld := ⟨LBUS_CMD_ARG.adr, 0, 7⟩
def LBUS_RAW_TX.adr : Nat := 0x44000c
def LBUS_RAW_TX.LONG : Fld := ⟨LBUS_RAW_TX.adr, 31, 1⟩
def LBUS_RAW_TX.ANSWER : Fld := ⟨LBUS_RAW_TX.adr, 30, 1⟩
def LBUS_RAW_TX.FRAME : Fld := ⟨LBUS_RAW_TX.adr, 0, 24⟩
def LBUS_RAW_RX.adr : Nat := 0x440010
def LBUS_RAW_RX.VALID : Fld := ⟨LBUS_RAW_RX.adr, 31, 1⟩
def LBUS_RAW_RX.RESULT : Fld := ⟨LBUS_RAW_RX.adr, 8, 2⟩
def LBUS_RAW_RX.DATA : Fld := ⟨LBUS_RAW_RX.adr, 0, 8⟩
def LBUS_FIO_IN.adr (i : Nat) : Nat := 0x440020 + 0x4 * i
def LBUS_FIO_OUT.adr (i : Nat) : Nat := 0x440030 + 0x4 * i
def LBUS_FIO_OUT.REQ (i : Nat) : Fld := ⟨LBUS_FIO_OUT.adr i, 0, 32⟩
def LBUS_EVT.adr : Nat := 0x440040
def LBUS_EVT.VALID : Fld := ⟨LBUS_EVT.adr, 31, 1⟩
def LBUS_EVT.PORT : Fld := ⟨LBUS_EVT.adr, 24, 4⟩
def LBUS_EVT.FRAME : Fld := ⟨LBUS_EVT.adr, 0, 24⟩
def LBUS_IRQ_STAT.adr : Nat := 0x440080
def LBUS_IRQ_STAT.DL_EVENT : Fld := ⟨LBUS_IRQ_STAT.adr, 8, 1⟩
def LBUS_IRQ_STAT.TS_FAULT : Fld := ⟨LBUS_IRQ_STAT.adr, 7, 1⟩
def LBUS_IRQ_STAT.SB_FAULT : Fld := ⟨LBUS_IRQ_STAT.adr, 6, 1⟩
def LBUS_IRQ_STAT.CONT_FAULT : Fld := ⟨LBUS_IRQ_STAT.adr, 5, 1⟩
def LBUS_IRQ_STAT.AO_FAULT : Fld := ⟨LBUS_IRQ_STAT.adr, 4, 1⟩
def LBUS_IRQ_STAT.DL_LATE : Fld := ⟨LBUS_IRQ_STAT.adr, 3, 1⟩
def LBUS_IRQ_STAT.DL_DUP : Fld := ⟨LBUS_IRQ_STAT.adr, 2, 1⟩
def LBUS_IRQ_STAT.DL_DOWN : Fld := ⟨LBUS_IRQ_STAT.adr, 1, 1⟩
def LBUS_IRQ_STAT.CMD_DONE : Fld := ⟨LBUS_IRQ_STAT.adr, 0, 1⟩
def LBUS_IRQ_EN.adr : Nat := 0x440084
def LBUS_DL_CFG.adr (i : Nat) : Nat := 0x441000 + 0x40 * i
def LBUS_DL_CFG.EN (i : Nat) : Fld := ⟨LBUS_DL_CFG.adr i, 31, 1⟩
def LBUS_DL_CFG.COAL (i : Nat) : Fld := ⟨LBUS_DL_CFG.adr i, 30, 1⟩
def LBUS_DL_SAFE.adr (i : Nat) : Nat := 0x441004 + 0x40 * i
def LBUS_DL_SAFE.SYS_FAIL (i : Nat) : Fld := ⟨LBUS_DL_SAFE.adr i, 8, 8⟩
def LBUS_DL_SAFE.POWER_ON (i : Nat) : Fld := ⟨LBUS_DL_SAFE.adr i, 0, 8⟩
def LBUS_DL_QCYC.adr (i : Nat) : Nat := 0x441008 + 0x40 * i
def LBUS_DL_QCYC.ENERGY_S (i : Nat) : Fld := ⟨LBUS_DL_QCYC.adr i, 16, 16⟩
def LBUS_DL_QCYC.LEVEL_S (i : Nat) : Fld := ⟨LBUS_DL_QCYC.adr i, 0, 16⟩
def LBUS_DL_STAT.adr (i : Nat) : Nat := 0x44100c + 0x40 * i
def LBUS_DL_STAT.STATE (i : Nat) : Fld := ⟨LBUS_DL_STAT.adr i, 30, 2⟩
def LBUS_DL_STAT.LATE (i : Nat) : Fld := ⟨LBUS_DL_STAT.adr i, 29, 1⟩
def LBUS_DL_STAT.QUEUED (i : Nat) : Fld := ⟨LBUS_DL_STAT.adr i, 8, 8⟩
def LBUS_DL_STAT.ANSWERING (i : Nat) : Fld := ⟨LBUS_DL_STAT.adr i, 0, 8⟩
def LBUS_DL_CNT.adr (i : Nat) : Nat := 0x441010 + 0x40 * i
def LBUS_DL_CNT.COLL (i : Nat) : Fld := ⟨LBUS_DL_CNT.adr i, 16, 16⟩
def LBUS_DL_CNT.EVT_LOST (i : Nat) : Fld := ⟨LBUS_DL_CNT.adr i, 8, 8⟩
def LBUS_DL_CNT.NOANSWER (i : Nat) : Fld := ⟨LBUS_DL_CNT.adr i, 0, 8⟩
def LBUS_DL_DUP.adr (i j : Nat) : Nat := 0x441014 + 0x40 * i + 0x4 * j
def LBUS_DL_DUP.MAP (i j : Nat) : Fld := ⟨LBUS_DL_DUP.adr i j, 0, 32⟩
def LBUS_DL_GMAP.adr (i j : Nat) : Nat := 0x441020 + 0x40 * i + 0x4 * j
def LBUS_DL_GMAP.EN_ODD (i j : Nat) : Fld := ⟨LBUS_DL_GMAP.adr i j, 31, 1⟩
def LBUS_DL_GMAP.SEG_GRP_ODD (i j : Nat) : Fld := ⟨LBUS_DL_GMAP.adr i j, 16, 8⟩
def LBUS_DL_GMAP.EN_EVEN (i j : Nat) : Fld := ⟨LBUS_DL_GMAP.adr i j, 15, 1⟩
def LBUS_DL_GMAP.SEG_GRP_EVEN (i j : Nat) : Fld := ⟨LBUS_DL_GMAP.adr i j, 0, 8⟩
def LBUS_AO_CFG.adr (i : Nat) : Nat := 0x442000 + 0x20 * i
def LBUS_AO_CFG.RANGE (i : Nat) : Fld := ⟨LBUS_AO_CFG.adr i, 30, 2⟩
def LBUS_AO_HOST.adr (i : Nat) : Nat := 0x442004 + 0x20 * i
def LBUS_AO_HOST.VALID (i : Nat) : Fld := ⟨LBUS_AO_HOST.adr i, 31, 1⟩
def LBUS_AO_HOST.LEVEL (i : Nat) : Fld := ⟨LBUS_AO_HOST.adr i, 0, 16⟩
def LBUS_AO_OUT.adr (i : Nat) : Nat := 0x442008 + 0x20 * i
def LBUS_AO_OUT.DRIVEN (i : Nat) : Fld := ⟨LBUS_AO_OUT.adr i, 31, 1⟩
def LBUS_AO_OUT.FAULT (i : Nat) : Fld := ⟨LBUS_AO_OUT.adr i, 30, 1⟩
def LBUS_AO_OUT.CLAMP (i : Nat) : Fld := ⟨LBUS_AO_OUT.adr i, 29, 1⟩
def LBUS_AO_OUT.SET_MV (i : Nat) : Fld := ⟨LBUS_AO_OUT.adr i, 15, 14⟩
def LBUS_AO_OUT.CURVE_BAD (i : Nat) : Fld := ⟨LBUS_AO_OUT.adr i, 14, 1⟩
def LBUS_AO_OUT.MEAS_MV (i : Nat) : Fld := ⟨LBUS_AO_OUT.adr i, 0, 14⟩
def LBUS_AO_LVL.adr (i : Nat) : Nat := 0x44200c + 0x20 * i
def LBUS_AO_LVL.LEVEL (i : Nat) : Fld := ⟨LBUS_AO_LVL.adr i, 0, 16⟩
def LBUS_FIO_CFG.adr (i : Nat) : Nat := 0x443000 + 0x20 * i
def LBUS_FIO_CFG.EN (i : Nat) : Fld := ⟨LBUS_FIO_CFG.adr i, 31, 1⟩
def LBUS_FIO_CFG.MODE (i : Nat) : Fld := ⟨LBUS_FIO_CFG.adr i, 28, 3⟩
def LBUS_FIO_CFG.INV (i : Nat) : Fld := ⟨LBUS_FIO_CFG.adr i, 27, 1⟩
def LBUS_FIO_CFG.DEB (i : Nat) : Fld := ⟨LBUS_FIO_CFG.adr i, 0, 8⟩
def LBUS_FIO_CONT.adr (i : Nat) : Nat := 0x443004 + 0x20 * i
def LBUS_FIO_CONT.EMERG_ON (i : Nat) : Fld := ⟨LBUS_FIO_CONT.adr i, 31, 1⟩
def LBUS_FIO_CONT.ILK_EN (i : Nat) : Fld := ⟨LBUS_FIO_CONT.adr i, 30, 1⟩
def LBUS_FIO_CONT.FB_EN (i : Nat) : Fld := ⟨LBUS_FIO_CONT.adr i, 29, 1⟩
def LBUS_FIO_CONT.SRC (i : Nat) : Fld := ⟨LBUS_FIO_CONT.adr i, 27, 2⟩
def LBUS_FIO_CONT.ILK (i : Nat) : Fld := ⟨LBUS_FIO_CONT.adr i, 20, 7⟩
def LBUS_FIO_CONT.FB (i : Nat) : Fld := ⟨LBUS_FIO_CONT.adr i, 13, 7⟩
def LBUS_FIO_CONT.SRC_IDX (i : Nat) : Fld := ⟨LBUS_FIO_CONT.adr i, 0, 8⟩
def LBUS_FIO_CTIME.adr (i : Nat) : Nat := 0x443008 + 0x20 * i
def LBUS_FIO_CTIME.MIN_ON_S (i : Nat) : Fld := ⟨LBUS_FIO_CTIME.adr i, 24, 8⟩
def LBUS_FIO_CTIME.MIN_OFF_S (i : Nat) : Fld := ⟨LBUS_FIO_CTIME.adr i, 16, 8⟩
def LBUS_FIO_CTIME.DEAD_10MS (i : Nat) : Fld := ⟨LBUS_FIO_CTIME.adr i, 8, 8⟩
def LBUS_FIO_CTIME.FB_10MS (i : Nat) : Fld := ⟨LBUS_FIO_CTIME.adr i, 0, 8⟩
def LBUS_FIO_DET.adr (i : Nat) : Nat := 0x44300c + 0x20 * i
def LBUS_FIO_DET.ORIGIN (i : Nat) : Fld := ⟨LBUS_FIO_DET.adr i, 20, 12⟩
def LBUS_FIO_DET.CLASS (i : Nat) : Fld := ⟨LBUS_FIO_DET.adr i, 16, 4⟩
def LBUS_FIO_DET.HEADING (i : Nat) : Fld := ⟨LBUS_FIO_DET.adr i, 8, 8⟩
def LBUS_FIO_DET.PAIR (i : Nat) : Fld := ⟨LBUS_FIO_DET.adr i, 7, 1⟩
def LBUS_FIO_DIST.adr (i : Nat) : Nat := 0x443010 + 0x20 * i
def LBUS_FIO_DIST.DIST_DM (i : Nat) : Fld := ⟨LBUS_FIO_DIST.adr i, 0, 16⟩
def LBUS_FIO_STAT.adr (i : Nat) : Nat := 0x443014 + 0x20 * i
def LBUS_FIO_STAT.LEVEL (i : Nat) : Fld := ⟨LBUS_FIO_STAT.adr i, 31, 1⟩
def LBUS_FIO_STAT.OUT (i : Nat) : Fld := ⟨LBUS_FIO_STAT.adr i, 30, 1⟩
def LBUS_FIO_STAT.CFAULT (i : Nat) : Fld := ⟨LBUS_FIO_STAT.adr i, 28, 2⟩
def LBUS_FIO_STAT.ILK_HOLD (i : Nat) : Fld := ⟨LBUS_FIO_STAT.adr i, 27, 1⟩
def LBUS_FIO_STAT.EDGES (i : Nat) : Fld := ⟨LBUS_FIO_STAT.adr i, 0, 16⟩
def LBUS_ARC.adr (i j : Nat) : Nat := 0x444100 + 0x80 * i + 0x4 * j
def LBUS_ARC.ARC (i j : Nat) : Fld := ⟨LBUS_ARC.adr i j, 0, 8⟩
def LBUS_AO_CURVE.adr (i j : Nat) : Nat := 0x444800 + 0x80 * i + 0x4 * j
def LBUS_AO_CURVE.F (i j : Nat) : Fld := ⟨LBUS_AO_CURVE.adr i j, 0, 16⟩
def LBUS_SB_CFG.adr (i : Nat) : Nat := 0x445000 + 0x40 * i
def LBUS_SB_CFG.EN (i : Nat) : Fld := ⟨LBUS_SB_CFG.adr i, 31, 1⟩
def LBUS_SB_CFG.MODE (i : Nat) : Fld := ⟨LBUS_SB_CFG.adr i, 29, 2⟩
def LBUS_SB_CFG.BITDIV (i : Nat) : Fld := ⟨LBUS_SB_CFG.adr i, 0, 20⟩
def LBUS_SB_HOST.adr (i : Nat) : Nat := 0x445004 + 0x40 * i
def LBUS_SB_HOST.HMQ (i : Nat) : Fld := ⟨LBUS_SB_HOST.adr i, 0, 4⟩
def LBUS_SB_POLL_W0.adr (i j : Nat) : Nat := 0x445008 + 0x40 * i + 0x8 * j
def LBUS_SB_POLL_W0.EN (i j : Nat) : Fld := ⟨LBUS_SB_POLL_W0.adr i j, 31, 1⟩
def LBUS_SB_POLL_W0.UNIT (i j : Nat) : Fld := ⟨LBUS_SB_POLL_W0.adr i j, 16, 8⟩
def LBUS_SB_POLL_W0.ORIGIN (i j : Nat) : Fld := ⟨LBUS_SB_POLL_W0.adr i j, 0, 12⟩
def LBUS_SB_POLL_W1.adr (i j : Nat) : Nat := 0x44500c + 0x40 * i + 0x8 * j
def LBUS_SB_POLL_W1.POLL_MS (i j : Nat) : Fld := ⟨LBUS_SB_POLL_W1.adr i j, 0, 16⟩
def LBUS_SB_STAT.adr (i : Nat) : Nat := 0x445028 + 0x40 * i
def LBUS_SB_STAT.ENT_FAULT (i : Nat) : Fld := ⟨LBUS_SB_STAT.adr i, 28, 4⟩
def LBUS_SB_STAT.CRC_ERR (i : Nat) : Fld := ⟨LBUS_SB_STAT.adr i, 8, 8⟩
def LBUS_SB_STAT.TIMEOUT (i : Nat) : Fld := ⟨LBUS_SB_STAT.adr i, 0, 8⟩
def LBUS_TS_CFG.adr (i : Nat) : Nat := 0x446000 + 0x10 * i
def LBUS_TS_CFG.BETA (i : Nat) : Fld := ⟨LBUS_TS_CFG.adr i, 16, 16⟩
def LBUS_TS_CFG.R25 (i : Nat) : Fld := ⟨LBUS_TS_CFG.adr i, 0, 16⟩
def LBUS_TS_VAL.adr (i : Nat) : Nat := 0x446004 + 0x10 * i
def LBUS_TS_VAL.FAULT (i : Nat) : Fld := ⟨LBUS_TS_VAL.adr i, 31, 1⟩
def LBUS_TS_VAL.SHORT (i : Nat) : Fld := ⟨LBUS_TS_VAL.adr i, 30, 1⟩
def LBUS_TS_VAL.TEMP (i : Nat) : Fld := ⟨LBUS_TS_VAL.adr i, 0, 16⟩
def MTR_CMD.adr : Nat := 0x480000
def MTR_CMD.CODE : Fld := ⟨MTR_CMD.adr, 0, 8⟩
def MTR_CMD_STAT.adr : Nat := 0x480004
def MTR_CMD_STAT.CMD : Fld := ⟨MTR_CMD_STAT.adr, 8, 8⟩
def MTR_CMD_STAT.STATUS : Fld := ⟨MTR_CMD_STAT.adr, 0, 8⟩
def MTR_CMD_ARG.adr : Nat := 0x480008
def MTR_CMD_ARG.AT : Fld := ⟨MTR_CMD_ARG.adr, 31, 1⟩
def MTR_CTL.adr : Nat := 0x48000c
def MTR_CTL.EN : Fld := ⟨MTR_CTL.adr, 31, 1⟩
def MTR_CTL.NOM60 : Fld := ⟨MTR_CTL.adr, 30, 1⟩
def MTR_STAT.adr : Nat := 0x480010
def MTR_STAT.IN_SERVICE : Fld := ⟨MTR_STAT.adr, 16, 8⟩
def MTR_STAT.SPARES : Fld := ⟨MTR_STAT.adr, 8, 8⟩
def MTR_STAT.FREEZE_SKIP : Fld := ⟨MTR_STAT.adr, 0, 8⟩
def MTR_FREEZE_T_NS.adr : Nat := 0x480014
def MTR_FREEZE_T_NS.NS : Fld := ⟨MTR_FREEZE_T_NS.adr, 0, 30⟩
def MTR_FREEZE_T_SEC_LO.adr : Nat := 0x480018
def MTR_FREEZE_T_SEC_LO.SEC_LO : Fld := ⟨MTR_FREEZE_T_SEC_LO.adr, 0, 32⟩
def MTR_FREEZE_T_SEC_HI.adr : Nat := 0x48001c
def MTR_FREEZE_T_SEC_HI.SEC_HI : Fld := ⟨MTR_FREEZE_T_SEC_HI.adr, 0, 16⟩
def MTR_FREEZE_AT_NS.adr : Nat := 0x480020
def MTR_FREEZE_AT_NS.NS : Fld := ⟨MTR_FREEZE_AT_NS.adr, 0, 32⟩
def MTR_FREEZE_AT_SEC.adr : Nat := 0x480024
def MTR_FREEZE_AT_SEC.SEC : Fld := ⟨MTR_FREEZE_AT_SEC.adr, 0, 32⟩
def MTR_COMP_T.adr : Nat := 0x480028
def MTR_COMP_T.T_START : Fld := ⟨MTR_COMP_T.adr, 16, 16⟩
def MTR_COMP_T.T_STEP : Fld := ⟨MTR_COMP_T.adr, 0, 16⟩
def MTR_HARM_CTL.adr : Nat := 0x48002c
def MTR_HARM_CTL.FREEZE : Fld := ⟨MTR_HARM_CTL.adr, 31, 1⟩
def MTR_HARM_CTL.MODE : Fld := ⟨MTR_HARM_CTL.adr, 0, 2⟩
def MTR_TEMP.adr : Nat := 0x480030
def MTR_TEMP.T : Fld := ⟨MTR_TEMP.adr, 0, 16⟩
def MTR_IRQ_STAT.adr : Nat := 0x480080
def MTR_IRQ_STAT.INPUT_LOST : Fld := ⟨MTR_IRQ_STAT.adr, 8, 1⟩
def MTR_IRQ_STAT.PULSE_OVF : Fld := ⟨MTR_IRQ_STAT.adr, 7, 1⟩
def MTR_IRQ_STAT.REC_EXCESS : Fld := ⟨MTR_IRQ_STAT.adr, 6, 1⟩
def MTR_IRQ_STAT.REC_LOSS : Fld := ⟨MTR_IRQ_STAT.adr, 5, 1⟩
def MTR_IRQ_STAT.OC : Fld := ⟨MTR_IRQ_STAT.adr, 4, 1⟩
def MTR_IRQ_STAT.V_ALARM : Fld := ⟨MTR_IRQ_STAT.adr, 3, 1⟩
def MTR_IRQ_STAT.ZC_LOST : Fld := ⟨MTR_IRQ_STAT.adr, 2, 1⟩
def MTR_IRQ_STAT.FREEZE : Fld := ⟨MTR_IRQ_STAT.adr, 1, 1⟩
def MTR_IRQ_STAT.CMD_DONE : Fld := ⟨MTR_IRQ_STAT.adr, 0, 1⟩
def MTR_IRQ_EN.adr : Nat := 0x480084
def MTR_CH_GAIN.adr (i : Nat) : Nat := 0x481000 + 0x20 * i
def MTR_CH_GAIN.GAIN (i : Nat) : Fld := ⟨MTR_CH_GAIN.adr i, 0, 32⟩
def MTR_CH_OFS.adr (i : Nat) : Nat := 0x481004 + 0x20 * i
def MTR_CH_OFS.OFS (i : Nat) : Fld := ⟨MTR_CH_OFS.adr i, 0, 32⟩
def MTR_CH_PHASE.adr (i : Nat) : Nat := 0x481008 + 0x20 * i
def MTR_CH_PHASE.RANGE16_TRIM (i : Nat) : Fld := ⟨MTR_CH_PHASE.adr i, 16, 16⟩
def MTR_CH_PHASE.PHASE_NS (i : Nat) : Fld := ⟨MTR_CH_PHASE.adr i, 0, 16⟩
def MTR_CH_CTL.adr (i : Nat) : Nat := 0x48100c + 0x20 * i
def MTR_CH_CTL.AUTO (i : Nat) : Fld := ⟨MTR_CH_CTL.adr i, 31, 1⟩
def MTR_CH_CTL.FIX16 (i : Nat) : Fld := ⟨MTR_CH_CTL.adr i, 30, 1⟩
def MTR_CH_STAT.adr (i : Nat) : Nat := 0x481010 + 0x20 * i
def MTR_CH_STAT.FAILED (i : Nat) : Fld := ⟨MTR_CH_STAT.adr i, 31, 1⟩
def MTR_CH_STAT.SPARE (i : Nat) : Fld := ⟨MTR_CH_STAT.adr i, 30, 1⟩
def MTR_CH_STAT.MOD (i : Nat) : Fld := ⟨MTR_CH_STAT.adr i, 24, 6⟩
def MTR_CH_STAT.RANGE16 (i : Nat) : Fld := ⟨MTR_CH_STAT.adr i, 23, 1⟩
def MTR_CH_STAT.UNCAL (i : Nat) : Fld := ⟨MTR_CH_STAT.adr i, 22, 1⟩
def MTR_CH_STAT.CLIP (i : Nat) : Fld := ⟨MTR_CH_STAT.adr i, 21, 1⟩
def MTR_CH_STAT.INTERP (i : Nat) : Fld := ⟨MTR_CH_STAT.adr i, 0, 16⟩
def MTR_CH_COMP.adr (i : Nat) : Nat := 0x481014 + 0x20 * i
def MTR_CH_COMP.C_G (i : Nat) : Fld := ⟨MTR_CH_COMP.adr i, 16, 16⟩
def MTR_CH_COMP.C_P (i : Nat) : Fld := ⟨MTR_CH_COMP.adr i, 0, 16⟩
def MTR_SET_CFG.adr (i : Nat) : Nat := 0x482000 + 0x40 * i
def MTR_SET_CFG.EN (i : Nat) : Fld := ⟨MTR_SET_CFG.adr i, 31, 1⟩
def MTR_SET_CFG.VNOM_MV (i : Nat) : Fld := ⟨MTR_SET_CFG.adr i, 0, 24⟩
def MTR_SET_ALARM.adr (i : Nat) : Nat := 0x482004 + 0x40 * i
def MTR_SET_ALARM.OV_PCT (i : Nat) : Fld := ⟨MTR_SET_ALARM.adr i, 24, 8⟩
def MTR_SET_ALARM.UV_PCT (i : Nat) : Fld := ⟨MTR_SET_ALARM.adr i, 16, 8⟩
def MTR_SET_ALARM.ZC_TO (i : Nat) : Fld := ⟨MTR_SET_ALARM.adr i, 8, 8⟩
def MTR_SET_RES0.adr (i : Nat) : Nat := 0x482008 + 0x40 * i
def MTR_SET_RES0.SEQ (i : Nat) : Fld := ⟨MTR_SET_RES0.adr i, 16, 16⟩
def MTR_SET_RES0.NOSYNC (i : Nat) : Fld := ⟨MTR_SET_RES0.adr i, 15, 1⟩
def MTR_SET_RES0.ZC_LOST (i : Nat) : Fld := ⟨MTR_SET_RES0.adr i, 3, 1⟩
def MTR_SET_RES0.OV (i : Nat) : Fld := ⟨MTR_SET_RES0.adr i, 2, 1⟩
def MTR_SET_RES0.UV (i : Nat) : Fld := ⟨MTR_SET_RES0.adr i, 1, 1⟩
def MTR_SET_RES0.VALID (i : Nat) : Fld := ⟨MTR_SET_RES0.adr i, 0, 1⟩
def MTR_SET_FREQ.adr (i : Nat) : Nat := 0x48200c + 0x40 * i
def MTR_SET_FREQ.MHZ (i : Nat) : Fld := ⟨MTR_SET_FREQ.adr i, 0, 32⟩
def MTR_SET_VRMS.adr (i j : Nat) : Nat := 0x482010 + 0x40 * i + 0x4 * j
def MTR_SET_VRMS.MV (i j : Nat) : Fld := ⟨MTR_SET_VRMS.adr i j, 0, 32⟩
def MTR_SET_END.adr (i : Nat) : Nat := 0x48201c + 0x40 * i
def MTR_SET_END.SEC (i : Nat) : Fld := ⟨MTR_SET_END.adr i, 0, 32⟩
def MTR_FDR_CFG.adr (i : Nat) : Nat := 0x483000 + 0x100 * i
def MTR_FDR_CFG.EN (i : Nat) : Fld := ⟨MTR_FDR_CFG.adr i, 31, 1⟩
def MTR_FDR_CFG.VSET (i : Nat) : Fld := ⟨MTR_FDR_CFG.adr i, 24, 2⟩
def MTR_FDR_CFG.START_MA (i : Nat) : Fld := ⟨MTR_FDR_CFG.adr i, 0, 16⟩
def MTR_FDR_ALARM.adr (i : Nat) : Nat := 0x483004 + 0x100 * i
def MTR_FDR_ALARM.IMAX_A (i : Nat) : Fld := ⟨MTR_FDR_ALARM.adr i, 0, 16⟩
def MTR_FDR_RES0.adr (i : Nat) : Nat := 0x483010 + 0x100 * i
def MTR_FDR_RES0.SEQ (i : Nat) : Fld := ⟨MTR_FDR_RES0.adr i, 16, 16⟩
def MTR_FDR_RES0.NOSYNC (i : Nat) : Fld := ⟨MTR_FDR_RES0.adr i, 3, 1⟩
def MTR_FDR_RES0.PARTIAL (i : Nat) : Fld := ⟨MTR_FDR_RES0.adr i, 2, 1⟩
def MTR_FDR_RES0.OC (i : Nat) : Fld := ⟨MTR_FDR_RES0.adr i, 1, 1⟩
def MTR_FDR_RES0.VALID (i : Nat) : Fld := ⟨MTR_FDR_RES0.adr i, 0, 1⟩
def MTR_FDR_IRMS.adr (i j : Nat) : Nat := 0x483014 + 0x100 * i + 0x4 * j
def MTR_FDR_IRMS.MA (i j : Nat) : Fld := ⟨MTR_FDR_IRMS.adr i j, 0, 32⟩
def MTR_FDR_P.adr (i j : Nat) : Nat := 0x483020 + 0x100 * i + 0x4 * j
def MTR_FDR_P.MW (i j : Nat) : Fld := ⟨MTR_FDR_P.adr i j, 0, 32⟩
def MTR_FDR_Q.adr (i j : Nat) : Nat := 0x48302c + 0x100 * i + 0x4 * j
def MTR_FDR_Q.MVAR (i j : Nat) : Fld := ⟨MTR_FDR_Q.adr i j, 0, 32⟩
def MTR_FDR_S.adr (i j : Nat) : Nat := 0x483038 + 0x100 * i + 0x4 * j
def MTR_FDR_S.MVA (i j : Nat) : Fld := ⟨MTR_FDR_S.adr i j, 0, 32⟩
def MTR_FDR_PT.adr (i : Nat) : Nat := 0x483044 + 0x100 * i
def MTR_FDR_PT.TOTAL (i : Nat) : Fld := ⟨MTR_FDR_PT.adr i, 0, 32⟩
def MTR_FDR_QT.adr (i : Nat) : Nat := 0x483048 + 0x100 * i
def MTR_FDR_QT.TOTAL (i : Nat) : Fld := ⟨MTR_FDR_QT.adr i, 0, 32⟩
def MTR_FDR_ST.adr (i : Nat) : Nat := 0x48304c + 0x100 * i
def MTR_FDR_ST.TOTAL (i : Nat) : Fld := ⟨MTR_FDR_ST.adr i, 0, 32⟩
def MTR_FDR_PF.adr (i : Nat) : Nat := 0x483050 + 0x100 * i
def MTR_FDR_PF.PF (i : Nat) : Fld := ⟨MTR_FDR_PF.adr i, 0, 16⟩
def MTR_FDR_ACC_LO.adr (i j : Nat) : Nat := 0x483060 + 0x100 * i + 0x8 * j
def MTR_FDR_ACC_HI.adr (i j : Nat) : Nat := 0x483064 + 0x100 * i + 0x8 * j
def MTR_FDR_ACC_STAT.adr (i : Nat) : Nat := 0x483098 + 0x100 * i
def MTR_FDR_REC_CFG.adr (i : Nat) : Nat := 0x4830a0 + 0x100 * i
def MTR_FDR_REC_CFG.EN (i : Nat) : Fld := ⟨MTR_FDR_REC_CFG.adr i, 31, 1⟩
def MTR_FDR_REC_CFG.COUNT (i : Nat) : Fld := ⟨MTR_FDR_REC_CFG.adr i, 24, 4⟩
def MTR_FDR_REC_CFG.GROUP (i : Nat) : Fld := ⟨MTR_FDR_REC_CFG.adr i, 16, 8⟩
def MTR_FDR_REC_CFG.WIN_MIN (i : Nat) : Fld := ⟨MTR_FDR_REC_CFG.adr i, 8, 8⟩
def MTR_FDR_REC_CFG.LOSS_PCT (i : Nat) : Fld := ⟨MTR_FDR_REC_CFG.adr i, 0, 8⟩
def MTR_FDR_REC_CFG2.adr (i : Nat) : Nat := 0x4830a4 + 0x100 * i
def MTR_FDR_REC_CFG2.EXCESS_PCT (i : Nat) : Fld := ⟨MTR_FDR_REC_CFG2.adr i, 24, 8⟩
def MTR_FDR_REC_CFG2.FIXED_W (i : Nat) : Fld := ⟨MTR_FDR_REC_CFG2.adr i, 0, 16⟩
def MTR_FDR_REC_CFG3.adr (i : Nat) : Nat := 0x4830a8 + 0x100 * i
def MTR_FDR_REC_CFG3.AO_W (i : Nat) : Fld := ⟨MTR_FDR_REC_CFG3.adr i, 16, 16⟩
def MTR_FDR_REC_CFG3.MIN_WH (i : Nat) : Fld := ⟨MTR_FDR_REC_CFG3.adr i, 0, 16⟩
def MTR_FDR_REC_FDR.adr (i : Nat) : Nat := 0x4830ac + 0x100 * i
def MTR_FDR_REC_FDR.MWH (i : Nat) : Fld := ⟨MTR_FDR_REC_FDR.adr i, 0, 32⟩
def MTR_FDR_REC_EP.adr (i : Nat) : Nat := 0x4830b0 + 0x100 * i
def MTR_FDR_REC_EP.MWH (i : Nat) : Fld := ⟨MTR_FDR_REC_EP.adr i, 0, 32⟩
def MTR_FDR_REC_LOSS.adr (i : Nat) : Nat := 0x4830b4 + 0x100 * i
def MTR_FDR_REC_LOSS.MWH (i : Nat) : Fld := ⟨MTR_FDR_REC_LOSS.adr i, 0, 32⟩
def MTR_FDR_REC_STAT.adr (i : Nat) : Nat := 0x4830b8 + 0x100 * i
def MTR_FDR_REC_STAT.LOSS (i : Nat) : Fld := ⟨MTR_FDR_REC_STAT.adr i, 31, 1⟩
def MTR_FDR_REC_STAT.EXCESS (i : Nat) : Fld := ⟨MTR_FDR_REC_STAT.adr i, 30, 1⟩
def MTR_FDR_REC_STAT.SKIPPED (i : Nat) : Fld := ⟨MTR_FDR_REC_STAT.adr i, 29, 1⟩
def MTR_FDR_REC_STAT.RUN (i : Nat) : Fld := ⟨MTR_FDR_REC_STAT.adr i, 16, 8⟩
def MTR_FDR_REC_STAT.PCT (i : Nat) : Fld := ⟨MTR_FDR_REC_STAT.adr i, 0, 16⟩
def MTR_FDR_REC_CNT.adr (i : Nat) : Nat := 0x4830bc + 0x100 * i
def MTR_FDR_REC_CNT.JUDGED (i : Nat) : Fld := ⟨MTR_FDR_REC_CNT.adr i, 16, 16⟩
def MTR_FDR_REC_CNT.SKIPPED (i : Nat) : Fld := ⟨MTR_FDR_REC_CNT.adr i, 0, 16⟩
def MTR_COMP.adr (i j : Nat) : Nat := 0x484000 + 0x40 * i + 0x4 * j
def MTR_COMP.GAIN_PPM (i j : Nat) : Fld := ⟨MTR_COMP.adr i j, 16, 16⟩
def MTR_COMP.PHASE_NS (i j : Nat) : Fld := ⟨MTR_COMP.adr i j, 0, 16⟩
def MTR_PULSE_CFG.adr (i : Nat) : Nat := 0x486000 + 0x10 * i
def MTR_PULSE_CFG.EN (i : Nat) : Fld := ⟨MTR_PULSE_CFG.adr i, 31, 1⟩
def MTR_PULSE_CFG.FDR (i : Nat) : Fld := ⟨MTR_PULSE_CFG.adr i, 24, 4⟩
def MTR_PULSE_CFG.QTY (i : Nat) : Fld := ⟨MTR_PULSE_CFG.adr i, 16, 3⟩
def MTR_PULSE_CFG.WIDTH_MS (i : Nat) : Fld := ⟨MTR_PULSE_CFG.adr i, 0, 16⟩
def MTR_PULSE_CONST.adr (i : Nat) : Nat := 0x486004 + 0x10 * i
def MTR_PULSE_CONST.UNITS (i : Nat) : Fld := ⟨MTR_PULSE_CONST.adr i, 0, 32⟩
def MTR_PULSE_STAT.adr (i : Nat) : Nat := 0x486008 + 0x10 * i
def MTR_PULSE_STAT.OVF (i : Nat) : Fld := ⟨MTR_PULSE_STAT.adr i, 31, 1⟩
def MTR_PULSE_STAT.BACKLOG (i : Nat) : Fld := ⟨MTR_PULSE_STAT.adr i, 0, 16⟩
def MTR_PULSE_CNT.adr (i : Nat) : Nat := 0x48600c + 0x10 * i
def MTR_PULSE_CNT.SENT (i : Nat) : Fld := ⟨MTR_PULSE_CNT.adr i, 0, 32⟩
def RAD_CMD.adr : Nat := 0x500000
def RAD_CMD.CODE : Fld := ⟨RAD_CMD.adr, 0, 8⟩
def RAD_CMD_STAT.adr : Nat := 0x500004
def RAD_CMD_STAT.CMD : Fld := ⟨RAD_CMD_STAT.adr, 8, 8⟩
def RAD_CMD_STAT.STATUS : Fld := ⟨RAD_CMD_STAT.adr, 0, 8⟩
def RAD_CMD_ARG.adr : Nat := 0x500008
def RAD_CMD_ARG.LEN : Fld := ⟨RAD_CMD_ARG.adr, 16, 9⟩
def RAD_CMD_ARG.CH : Fld := ⟨RAD_CMD_ARG.adr, 0, 3⟩
def RAD_AIRTIME.adr : Nat := 0x50000c
def RAD_AIRTIME.US : Fld := ⟨RAD_AIRTIME.adr, 0, 32⟩
def RAD_EUI_LO.adr : Nat := 0x500010
def RAD_EUI_LO.EUI_LO : Fld := ⟨RAD_EUI_LO.adr, 0, 32⟩
def RAD_EUI_HI.adr : Nat := 0x500014
def RAD_EUI_HI.EUI_HI : Fld := ⟨RAD_EUI_HI.adr, 0, 32⟩
def RAD_CTL.adr : Nat := 0x500018
def RAD_CTL.EN : Fld := ⟨RAD_CTL.adr, 31, 1⟩
def RAD_CTL.TIME_S : Fld := ⟨RAD_CTL.adr, 16, 8⟩
def RAD_CTL.TX_L5 : Fld := ⟨RAD_CTL.adr, 0, 1⟩
def RAD_STAT.adr : Nat := 0x50001c
def RAD_STAT.SPARE_USED : Fld := ⟨RAD_STAT.adr, 31, 1⟩
def RAD_STAT.SPARE_FOR : Fld := ⟨RAD_STAT.adr, 24, 3⟩
def RAD_STAT.FAILED : Fld := ⟨RAD_STAT.adr, 16, 8⟩
def RAD_STAT.TX_STEP : Fld := ⟨RAD_STAT.adr, 8, 8⟩
def RAD_IRQ_STAT.adr : Nat := 0x500080
def RAD_IRQ_STAT.CH_FAILED : Fld := ⟨RAD_IRQ_STAT.adr, 8, 1⟩
def RAD_IRQ_STAT.SPARE_IN : Fld := ⟨RAD_IRQ_STAT.adr, 7, 1⟩
def RAD_IRQ_STAT.RX_OVERRUN : Fld := ⟨RAD_IRQ_STAT.adr, 6, 1⟩
def RAD_IRQ_STAT.NO_ACK : Fld := ⟨RAD_IRQ_STAT.adr, 5, 1⟩
def RAD_IRQ_STAT.TIMED_SHIFT : Fld := ⟨RAD_IRQ_STAT.adr, 4, 1⟩
def RAD_IRQ_STAT.TIMED_REFUSED : Fld := ⟨RAD_IRQ_STAT.adr, 3, 1⟩
def RAD_IRQ_STAT.LEDGER_WAIT : Fld := ⟨RAD_IRQ_STAT.adr, 2, 1⟩
def RAD_IRQ_STAT.BAD_CFG : Fld := ⟨RAD_IRQ_STAT.adr, 1, 1⟩
def RAD_IRQ_STAT.CMD_DONE : Fld := ⟨RAD_IRQ_STAT.adr, 0, 1⟩
def RAD_IRQ_EN.adr : Nat := 0x500084
def RAD_SB_LO.adr (i : Nat) : Nat := 0x500200 + 0x20 * i
def RAD_SB_LO.EN (i : Nat) : Fld := ⟨RAD_SB_LO.adr i, 31, 1⟩
def RAD_SB_LO.UNLIMITED (i : Nat) : Fld := ⟨RAD_SB_LO.adr i, 30, 1⟩
def RAD_SB_LO.LO_KHZ (i : Nat) : Fld := ⟨RAD_SB_LO.adr i, 0, 20⟩
def RAD_SB_HI.adr (i : Nat) : Nat := 0x500204 + 0x20 * i
def RAD_SB_HI.MAX_HDBM (i : Nat) : Fld := ⟨RAD_SB_HI.adr i, 24, 8⟩
def RAD_SB_HI.HI_KHZ (i : Nat) : Fld := ⟨RAD_SB_HI.adr i, 0, 20⟩
def RAD_SB_LIMIT.adr (i : Nat) : Nat := 0x500208 + 0x20 * i
def RAD_SB_LIMIT.LIMIT_MS (i : Nat) : Fld := ⟨RAD_SB_LIMIT.adr i, 0, 22⟩
def RAD_SB_RESERVE.adr (i : Nat) : Nat := 0x50020c + 0x20 * i
def RAD_SB_RESERVE.RESERVE_US (i : Nat) : Fld := ⟨RAD_SB_RESERVE.adr i, 0, 16⟩
def RAD_SB_USED.adr (i : Nat) : Nat := 0x500210 + 0x20 * i
def RAD_SB_USED.USED_US (i : Nat) : Fld := ⟨RAD_SB_USED.adr i, 0, 32⟩
def RAD_SB_AVAIL.adr (i : Nat) : Nat := 0x500214 + 0x20 * i
def RAD_SB_AVAIL.AVAIL_US (i : Nat) : Fld := ⟨RAD_SB_AVAIL.adr i, 0, 32⟩
def RAD_SB_CNT.adr (i : Nat) : Nat := 0x500218 + 0x20 * i
def RAD_SB_CNT.WAITS (i : Nat) : Fld := ⟨RAD_SB_CNT.adr i, 16, 16⟩
def RAD_SB_CNT.REFUSED (i : Nat) : Fld := ⟨RAD_SB_CNT.adr i, 0, 16⟩
def RAD_CH_CTL.adr (i : Nat) : Nat := 0x501000 + 0x80 * i
def RAD_CH_CTL.EN (i : Nat) : Fld := ⟨RAD_CH_CTL.adr i, 31, 1⟩
def RAD_CH_CTL.CCA_EN (i : Nat) : Fld := ⟨RAD_CH_CTL.adr i, 30, 1⟩
def RAD_CH_CTL.ACK_EN (i : Nat) : Fld := ⟨RAD_CH_CTL.adr i, 29, 1⟩
def RAD_CH_CTL.SB (i : Nat) : Fld := ⟨RAD_CH_CTL.adr i, 24, 3⟩
def RAD_CH_FREQ.adr (i : Nat) : Nat := 0x501004 + 0x80 * i
def RAD_CH_FREQ.KHZ (i : Nat) : Fld := ⟨RAD_CH_FREQ.adr i, 0, 20⟩
def RAD_CH_PHY.adr (i : Nat) : Nat := 0x501008 + 0x80 * i
def RAD_CH_PHY.OFDM (i : Nat) : Fld := ⟨RAD_CH_PHY.adr i, 31, 1⟩
def RAD_CH_PHY.RATE (i : Nat) : Fld := ⟨RAD_CH_PHY.adr i, 24, 4⟩
def RAD_CH_PHY.OPTION (i : Nat) : Fld := ⟨RAD_CH_PHY.adr i, 20, 4⟩
def RAD_CH_PHY.MCS (i : Nat) : Fld := ⟨RAD_CH_PHY.adr i, 16, 4⟩
def RAD_CH_PHY.FCS4 (i : Nat) : Fld := ⟨RAD_CH_PHY.adr i, 15, 1⟩
def RAD_CH_PHY.PREAMBLE (i : Nat) : Fld := ⟨RAD_CH_PHY.adr i, 0, 10⟩
def RAD_CH_PWR.adr (i : Nat) : Nat := 0x50100c + 0x80 * i
def RAD_CH_PWR.EFF_HDBM (i : Nat) : Fld := ⟨RAD_CH_PWR.adr i, 16, 8⟩
def RAD_CH_PWR.TX_HDBM (i : Nat) : Fld := ⟨RAD_CH_PWR.adr i, 0, 8⟩
def RAD_CH_MAC.adr (i : Nat) : Nat := 0x501010 + 0x80 * i
def RAD_CH_MAC.MIN_BE (i : Nat) : Fld := ⟨RAD_CH_MAC.adr i, 28, 4⟩
def RAD_CH_MAC.MAX_BE (i : Nat) : Fld := ⟨RAD_CH_MAC.adr i, 24, 4⟩
def RAD_CH_MAC.MAX_BACKOFFS (i : Nat) : Fld := ⟨RAD_CH_MAC.adr i, 20, 4⟩
def RAD_CH_MAC.MAX_RETRIES (i : Nat) : Fld := ⟨RAD_CH_MAC.adr i, 16, 4⟩
def RAD_CH_MAC.CCA_DBM (i : Nat) : Fld := ⟨RAD_CH_MAC.adr i, 8, 8⟩
def RAD_CH_SHARE.adr (i : Nat) : Nat := 0x501014 + 0x80 * i
def RAD_CH_SHARE.SHARE_MS (i : Nat) : Fld := ⟨RAD_CH_SHARE.adr i, 0, 22⟩
def RAD_CH_STAT.adr (i : Nat) : Nat := 0x501018 + 0x80 * i
def RAD_CH_STAT.STATE (i : Nat) : Fld := ⟨RAD_CH_STAT.adr i, 29, 3⟩
def RAD_CH_STAT.TRAIN (i : Nat) : Fld := ⟨RAD_CH_STAT.adr i, 28, 1⟩
def RAD_CH_AVAIL.adr (i : Nat) : Nat := 0x50101c + 0x80 * i
def RAD_CH_AVAIL.AVAIL_US (i : Nat) : Fld := ⟨RAD_CH_AVAIL.adr i, 0, 32⟩
def RAD_CH_CNT_TX.adr (i : Nat) : Nat := 0x501020 + 0x80 * i
def RAD_CH_CNT_TX.TX_OK (i : Nat) : Fld := ⟨RAD_CH_CNT_TX.adr i, 16, 16⟩
def RAD_CH_CNT_TX.NO_ACK (i : Nat) : Fld := ⟨RAD_CH_CNT_TX.adr i, 0, 16⟩
def RAD_CH_CNT_TX2.adr (i : Nat) : Nat := 0x501024 + 0x80 * i
def RAD_CH_CNT_TX2.CAF (i : Nat) : Fld := ⟨RAD_CH_CNT_TX2.adr i, 16, 16⟩
def RAD_CH_CNT_TX2.RETRIES (i : Nat) : Fld := ⟨RAD_CH_CNT_TX2.adr i, 0, 16⟩
def RAD_CH_CNT_RX.adr (i : Nat) : Nat := 0x501028 + 0x80 * i
def RAD_CH_CNT_RX.RX_OK (i : Nat) : Fld := ⟨RAD_CH_CNT_RX.adr i, 16, 16⟩
def RAD_CH_CNT_RX.FCS_ERR (i : Nat) : Fld := ⟨RAD_CH_CNT_RX.adr i, 0, 16⟩
def RAD_CH_CNT_RX2.adr (i : Nat) : Nat := 0x50102c + 0x80 * i
def RAD_CH_CNT_RX2.FILTERED (i : Nat) : Fld := ⟨RAD_CH_CNT_RX2.adr i, 24, 8⟩
def RAD_CH_CNT_RX2.OVERRUN (i : Nat) : Fld := ⟨RAD_CH_CNT_RX2.adr i, 16, 8⟩
def RAD_CH_CNT_RX2.BLANKED (i : Nat) : Fld := ⟨RAD_CH_CNT_RX2.adr i, 8, 8⟩
def RAD_CH_CNT_RX2.TOO_LONG (i : Nat) : Fld := ⟨RAD_CH_CNT_RX2.adr i, 0, 8⟩
def RAD_CH_CNT_MISC.adr (i : Nat) : Nat := 0x501030 + 0x80 * i
def RAD_CH_CNT_MISC.ACK_SKIPPED (i : Nat) : Fld := ⟨RAD_CH_CNT_MISC.adr i, 24, 8⟩
def RAD_CH_CNT_MISC.TIMED_LATE (i : Nat) : Fld := ⟨RAD_CH_CNT_MISC.adr i, 16, 8⟩
def RAD_CH_CNT_MISC.TIMED_SHIFT (i : Nat) : Fld := ⟨RAD_CH_CNT_MISC.adr i, 8, 8⟩
def RAD_CH_CNT_MISC.UNSECURED (i : Nat) : Fld := ⟨RAD_CH_CNT_MISC.adr i, 0, 8⟩
def RAD_CH_RF.adr (i : Nat) : Nat := 0x501034 + 0x80 * i
def RAD_CH_RF.NOISE_DBM (i : Nat) : Fld := ⟨RAD_CH_RF.adr i, 24, 8⟩
def RAD_CH_CNT_TEP.adr (i : Nat) : Nat := 0x501038 + 0x80 * i
def RAD_CH_CNT_TEP.BAD_MSG (i : Nat) : Fld := ⟨RAD_CH_CNT_TEP.adr i, 24, 8⟩
def SWC_CMD.adr : Nat := 0x580000
def SWC_CMD.CODE : Fld := ⟨SWC_CMD.adr, 0, 8⟩
def SWC_CMD_STAT.adr : Nat := 0x580004
def SWC_CMD_STAT.CMD : Fld := ⟨SWC_CMD_STAT.adr, 8, 8⟩
def SWC_CMD_STAT.STATUS : Fld := ⟨SWC_CMD_STAT.adr, 0, 8⟩
def SWC_CMD_ARG0.adr : Nat := 0x580008
def SWC_CMD_ARG0.LEN : Fld := ⟨SWC_CMD_ARG0.adr, 16, 14⟩
def SWC_CMD_ARG0.CELL : Fld := ⟨SWC_CMD_ARG0.adr, 0, 15⟩
def SWC_CMD_ARG1.adr : Nat := 0x58000c
def SWC_CMD_ARG1.HMQ : Fld := ⟨SWC_CMD_ARG1.adr, 27, 5⟩
def SWC_CMD_ARG1.CLASS : Fld := ⟨SWC_CMD_ARG1.adr, 24, 3⟩
def SWC_CMD_ARG1.TENANT : Fld := ⟨SWC_CMD_ARG1.adr, 16, 6⟩
def SWC_CMD_ARG1.QUEUE : Fld := ⟨SWC_CMD_ARG1.adr, 0, 13⟩
def SWC_CTL.adr : Nat := 0x580010
def SWC_CTL.EN : Fld := ⟨SWC_CTL.adr, 31, 1⟩
def SWC_CTL.RSV_CLASS : Fld := ⟨SWC_CTL.adr, 0, 3⟩
def SWC_RESERVE.adr : Nat := 0x580014
def SWC_RESERVE.CELLS : Fld := ⟨SWC_RESERVE.adr, 0, 16⟩
def SWC_STAT.adr : Nat := 0x580018
def SWC_STAT.WIN_DENIED : Fld := ⟨SWC_STAT.adr, 31, 1⟩
def SWC_STAT.IN_SERVICE : Fld := ⟨SWC_STAT.adr, 24, 7⟩
def SWC_STAT.FREE : Fld := ⟨SWC_STAT.adr, 0, 16⟩
def SWC_CLAIM_MAX.adr : Nat := 0x58001c
def SWC_CLAIM_MAX.CPU : Fld := ⟨SWC_CLAIM_MAX.adr, 16, 16⟩
def SWC_CLAIM_MAX.HOST : Fld := ⟨SWC_CLAIM_MAX.adr, 0, 16⟩
def SWC_CLAIM.adr : Nat := 0x580020
def SWC_FREE.adr : Nat := 0x580024
def SWC_FREE_ERR.adr : Nat := 0x580028
def SWC_FREE_ERR.COUNT : Fld := ⟨SWC_FREE_ERR.adr, 0, 16⟩
def SWC_FREE_LAST.adr : Nat := 0x58002c
def SWC_FREE_LAST.REASON : Fld := ⟨SWC_FREE_LAST.adr, 30, 2⟩
def SWC_FREE_LAST.REQUESTER : Fld := ⟨SWC_FREE_LAST.adr, 24, 3⟩
def SWC_FREE_LAST.CELL : Fld := ⟨SWC_FREE_LAST.adr, 0, 16⟩
def SWC_CELL_SEL.adr : Nat := 0x580030
def SWC_CELL_SEL.CELL : Fld := ⟨SWC_CELL_SEL.adr, 0, 15⟩
def SWC_CNT.adr : Nat := 0x580034
def SWC_CNT.NOBUF : Fld := ⟨SWC_CNT.adr, 16, 16⟩
def SWC_CNT.DISABLED : Fld := ⟨SWC_CNT.adr, 0, 16⟩
def SWC_IRQ_STAT.adr : Nat := 0x580080
def SWC_IRQ_STAT.BANK_RETIRED : Fld := ⟨SWC_IRQ_STAT.adr, 4, 1⟩
def SWC_IRQ_STAT.FREE_ERR : Fld := ⟨SWC_IRQ_STAT.adr, 3, 1⟩
def SWC_IRQ_STAT.NOBUF : Fld := ⟨SWC_IRQ_STAT.adr, 2, 1⟩
def SWC_IRQ_STAT.TENANT_OVER : Fld := ⟨SWC_IRQ_STAT.adr, 1, 1⟩
def SWC_IRQ_STAT.CMD_DONE : Fld := ⟨SWC_IRQ_STAT.adr, 0, 1⟩
def SWC_IRQ_EN.adr : Nat := 0x580084
def SWC_PORT_CFG.adr (i : Nat) : Nat := 0x580100 + 0x20 * i
def SWC_PORT_CFG.MARK_DEI (i : Nat) : Fld := ⟨SWC_PORT_CFG.adr i, 31, 1⟩
def SWC_PORT_CFG.EQ_CLASS (i : Nat) : Fld := ⟨SWC_PORT_CFG.adr i, 24, 3⟩
def SWC_PORT_CFG.TENANT (i : Nat) : Fld := ⟨SWC_PORT_CFG.adr i, 16, 6⟩
def SWC_PORT_CFG.SP_MIN (i : Nat) : Fld := ⟨SWC_PORT_CFG.adr i, 8, 3⟩
def SWC_PORT_WRR.adr (i : Nat) : Nat := 0x580104 + 0x20 * i
def SWC_PORT_WRR.WEIGHT (i : Nat) : Fld := ⟨SWC_PORT_WRR.adr i, 0, 32⟩
def SWC_PORT_CNT.adr (i : Nat) : Nat := 0x580108 + 0x20 * i
def SWC_PORT_CNT.TOO_LONG (i : Nat) : Fld := ⟨SWC_PORT_CNT.adr i, 16, 16⟩
def SWC_PORT_WRR_HI.adr (i : Nat) : Nat := 0x58010c + 0x20 * i
def SWC_PORT_WRR_HI.WEIGHT (i : Nat) : Fld := ⟨SWC_PORT_WRR_HI.adr i, 0, 24⟩
def SWC_RED.adr (i j : Nat) : Nat := 0x580400 + 0x10 * i + 0x4 * j
def SWC_RED.MAXP (i j : Nat) : Fld := ⟨SWC_RED.adr i j, 24, 8⟩
def SWC_RED.MAX (i j : Nat) : Fld := ⟨SWC_RED.adr i j, 12, 12⟩
def SWC_RED.MIN (i j : Nat) : Fld := ⟨SWC_RED.adr i j, 0, 12⟩
def SWC_RED_W.adr (i : Nat) : Nat := 0x58040c + 0x10 * i
def SWC_RED_W.W (i : Nat) : Fld := ⟨SWC_RED_W.adr i, 0, 4⟩
def SWC_TENANT_CFG.adr (i : Nat) : Nat := 0x580800 + 0x40 * i
def SWC_TENANT_CFG.POL_EN (i : Nat) : Fld := ⟨SWC_TENANT_CFG.adr i, 31, 1⟩
def SWC_TENANT_CFG.AWARE (i : Nat) : Fld := ⟨SWC_TENANT_CFG.adr i, 30, 1⟩
def SWC_TENANT_CFG.RED_DROP (i : Nat) : Fld := ⟨SWC_TENANT_CFG.adr i, 29, 1⟩
def SWC_TENANT_CFG.QUOTA (i : Nat) : Fld := ⟨SWC_TENANT_CFG.adr i, 0, 16⟩
def SWC_TENANT_CIR.adr (i : Nat) : Nat := 0x580804 + 0x40 * i
def SWC_TENANT_CIR.KBPS (i : Nat) : Fld := ⟨SWC_TENANT_CIR.adr i, 0, 24⟩
def SWC_TENANT_PIR.adr (i : Nat) : Nat := 0x580808 + 0x40 * i
def SWC_TENANT_PIR.KBPS (i : Nat) : Fld := ⟨SWC_TENANT_PIR.adr i, 0, 24⟩
def SWC_TENANT_CBS.adr (i : Nat) : Nat := 0x58080c + 0x40 * i
def SWC_TENANT_CBS.BYTES (i : Nat) : Fld := ⟨SWC_TENANT_CBS.adr i, 0, 24⟩
def SWC_TENANT_PBS.adr (i : Nat) : Nat := 0x580810 + 0x40 * i
def SWC_TENANT_PBS.BYTES (i : Nat) : Fld := ⟨SWC_TENANT_PBS.adr i, 0, 24⟩
def SWC_TENANT_STAT.adr (i : Nat) : Nat := 0x580814 + 0x40 * i
def SWC_TENANT_STAT.OVER (i : Nat) : Fld := ⟨SWC_TENANT_STAT.adr i, 31, 1⟩
def SWC_TENANT_STAT.USE (i : Nat) : Fld := ⟨SWC_TENANT_STAT.adr i, 0, 16⟩
def SWC_TENANT_CNT.adr (i : Nat) : Nat := 0x580818 + 0x40 * i
def SWC_TENANT_CNT.QUOTA (i : Nat) : Fld := ⟨SWC_TENANT_CNT.adr i, 16, 16⟩
def SWC_TENANT_CNT.POLICE (i : Nat) : Fld := ⟨SWC_TENANT_CNT.adr i, 0, 16⟩
def SWC_TENANT_YEL.adr (i : Nat) : Nat := 0x58081c + 0x40 * i
def SWC_TENANT_YEL.YELLOW (i : Nat) : Fld := ⟨SWC_TENANT_YEL.adr i, 0, 32⟩
def SWC_VID_MAP.adr (i : Nat) : Nat := 0x581800 + 0x4 * i
def SWC_VID_MAP.EN (i : Nat) : Fld := ⟨SWC_VID_MAP.adr i, 31, 1⟩
def SWC_VID_MAP.TENANT (i : Nat) : Fld := ⟨SWC_VID_MAP.adr i, 16, 6⟩
def SWC_VID_MAP.VID (i : Nat) : Fld := ⟨SWC_VID_MAP.adr i, 0, 12⟩
def SWC_Q_CFG.adr (i : Nat) : Nat := 0x582000 + 0x10 * i
def SWC_Q_CFG.EN (i : Nat) : Fld := ⟨SWC_Q_CFG.adr i, 31, 1⟩
def SWC_Q_CFG.RED (i : Nat) : Fld := ⟨SWC_Q_CFG.adr i, 24, 4⟩
def SWC_Q_CFG.QUOTA (i : Nat) : Fld := ⟨SWC_Q_CFG.adr i, 0, 16⟩
def SWC_Q_STAT.adr (i : Nat) : Nat := 0x582004 + 0x10 * i
def SWC_Q_STAT.RED (i : Nat) : Fld := ⟨SWC_Q_STAT.adr i, 24, 8⟩
def SWC_Q_STAT.PKTS (i : Nat) : Fld := ⟨SWC_Q_STAT.adr i, 16, 8⟩
def SWC_Q_STAT.USE (i : Nat) : Fld := ⟨SWC_Q_STAT.adr i, 0, 16⟩
def SWC_Q_DROP.adr (i : Nat) : Nat := 0x582008 + 0x10 * i
def SWC_Q_DROP.DROPS (i : Nat) : Fld := ⟨SWC_Q_DROP.adr i, 0, 32⟩
def SWC_Q_AVG.adr (i : Nat) : Nat := 0x58200c + 0x10 * i
def SWC_Q_AVG.AVG (i : Nat) : Fld := ⟨SWC_Q_AVG.adr i, 0, 24⟩
def SWC_MC.adr (i : Nat) : Nat := 0x594000 + 0x8 * i
def SWC_MC.EN (i : Nat) : Fld := ⟨SWC_MC.adr i, 31, 1⟩
def SWC_MC.REFLECT (i : Nat) : Fld := ⟨SWC_MC.adr i, 30, 1⟩
def SWC_MC.PORTS (i : Nat) : Fld := ⟨SWC_MC.adr i, 0, 20⟩
def SWC_MC_CNT.adr (i : Nat) : Nat := 0x594004 + 0x8 * i
def SWC_MC_CNT.DROPPED (i : Nat) : Fld := ⟨SWC_MC_CNT.adr i, 16, 16⟩
def SWC_MC_CNT.SENT (i : Nat) : Fld := ⟨SWC_MC_CNT.adr i, 0, 16⟩
def HMQ_CMD.adr : Nat := 0x5c0000
def HMQ_CMD.CODE : Fld := ⟨HMQ_CMD.adr, 0, 8⟩
def HMQ_CMD_STAT.adr : Nat := 0x5c0004
def HMQ_CMD_STAT.CMD : Fld := ⟨HMQ_CMD_STAT.adr, 8, 8⟩
def HMQ_CMD_STAT.STATUS : Fld := ⟨HMQ_CMD_STAT.adr, 0, 8⟩
def HMQ_CMD_ARG.adr : Nat := 0x5c0008
def HMQ_CMD_ARG.INDEX : Fld := ⟨HMQ_CMD_ARG.adr, 0, 5⟩
def HMQ_NONEMPTY.adr : Nat := 0x5c000c
def HMQ_STALE.adr : Nat := 0x5c0010
def HMQ_DATA_EN.adr : Nat := 0x5c0014
def HMQ_IRQ_STAT.adr : Nat := 0x5c0080
def HMQ_IRQ_STAT.DATA : Fld := ⟨HMQ_IRQ_STAT.adr, 4, 1⟩
def HMQ_IRQ_STAT.STALE : Fld := ⟨HMQ_IRQ_STAT.adr, 3, 1⟩
def HMQ_IRQ_STAT.PARITY : Fld := ⟨HMQ_IRQ_STAT.adr, 2, 1⟩
def HMQ_IRQ_STAT.OVF : Fld := ⟨HMQ_IRQ_STAT.adr, 1, 1⟩
def HMQ_IRQ_STAT.CMD_DONE : Fld := ⟨HMQ_IRQ_STAT.adr, 0, 1⟩
def HMQ_IRQ_EN.adr : Nat := 0x5c0084
def HMQ_Q_CFG.adr (i : Nat) : Nat := 0x5c1000 + 0x40 * i
def HMQ_Q_CFG.EN (i : Nat) : Fld := ⟨HMQ_Q_CFG.adr i, 31, 1⟩
def HMQ_Q_CFG.BIND (i : Nat) : Fld := ⟨HMQ_Q_CFG.adr i, 30, 1⟩
def HMQ_Q_CFG.TAIL (i : Nat) : Fld := ⟨HMQ_Q_CFG.adr i, 20, 2⟩
def HMQ_Q_CFG.STALE_US (i : Nat) : Fld := ⟨HMQ_Q_CFG.adr i, 0, 20⟩
def HMQ_Q_LEVEL.adr (i : Nat) : Nat := 0x5c1004 + 0x40 * i
def HMQ_Q_LEVEL.PKTS (i : Nat) : Fld := ⟨HMQ_Q_LEVEL.adr i, 16, 11⟩
def HMQ_Q_LEVEL.WORDS (i : Nat) : Fld := ⟨HMQ_Q_LEVEL.adr i, 0, 11⟩
def HMQ_Q_CNT.adr (i : Nat) : Nat := 0x5c1008 + 0x40 * i
def HMQ_Q_CNT.PAR_ERR (i : Nat) : Fld := ⟨HMQ_Q_CNT.adr i, 16, 16⟩
def HMQ_Q_CNT.OVF_DROP (i : Nat) : Fld := ⟨HMQ_Q_CNT.adr i, 0, 16⟩
def HMQ_Q_PKTS.adr (i : Nat) : Nat := 0x5c100c + 0x40 * i
def HMQ_Q_PKTS.TOTAL (i : Nat) : Fld := ⟨HMQ_Q_PKTS.adr i, 0, 32⟩
def HMQ_Q_POP_LO.adr (i : Nat) : Nat := 0x5c1018 + 0x40 * i
def HMQ_Q_POP_HI.adr (i : Nat) : Nat := 0x5c101c + 0x40 * i
def HMQ_Q_POP_HI.VALID (i : Nat) : Fld := ⟨HMQ_Q_POP_HI.adr i, 31, 1⟩
def HMQ_Q_POP_HI.POISON (i : Nat) : Fld := ⟨HMQ_Q_POP_HI.adr i, 30, 1⟩
def HMQ_Q_POP_HI.END (i : Nat) : Fld := ⟨HMQ_Q_POP_HI.adr i, 29, 1⟩
def HMQ_Q_POP_HI.WORDS (i : Nat) : Fld := ⟨HMQ_Q_POP_HI.adr i, 0, 11⟩
def BBN_CTL.adr : Nat := 0x600000
def BBN_CTL.EN : Fld := ⟨BBN_CTL.adr, 31, 1⟩
def BBN_CTL.RING : Fld := ⟨BBN_CTL.adr, 30, 1⟩
def BBN_CTL.RING_OWNER : Fld := ⟨BBN_CTL.adr, 29, 1⟩
def BBN_MAC_LO.adr : Nat := 0x600004
def BBN_MAC_LO.MAC : Fld := ⟨BBN_MAC_LO.adr, 0, 32⟩
def BBN_MAC_HI.adr : Nat := 0x600008
def BBN_MAC_HI.MAC : Fld := ⟨BBN_MAC_HI.adr, 0, 16⟩
def BBN_IP.adr : Nat := 0x60000c
def BBN_IP.ADDR : Fld := ⟨BBN_IP.adr, 0, 32⟩
def BBN_RAF_CFG.adr : Nat := 0x600010
def BBN_RAF_CFG.EN : Fld := ⟨BBN_RAF_CFG.adr, 31, 1⟩
def BBN_RAF_CFG.KEY_SLOT : Fld := ⟨BBN_RAF_CFG.adr, 16, 8⟩
def BBN_RAF_EPOCH.adr : Nat := 0x600014
def BBN_RAF_EPOCH.EPOCH : Fld := ⟨BBN_RAF_EPOCH.adr, 0, 32⟩
def BBN_HB_CFG.adr : Nat := 0x600018
def BBN_HB_CFG.EN : Fld := ⟨BBN_HB_CFG.adr, 31, 1⟩
def BBN_HB_CFG.MS : Fld := ⟨BBN_HB_CFG.adr, 0, 16⟩
def BBN_EVT_DST.adr : Nat := 0x600020
def BBN_EVT_DST.ADDR : Fld := ⟨BBN_EVT_DST.adr, 0, 32⟩
def BBN_RAF_CNT.adr : Nat := 0x600028
def BBN_RAF_CNT.AUTH_FAIL : Fld := ⟨BBN_RAF_CNT.adr, 16, 16⟩
def BBN_RAF_CNT.EPOCH_BAD : Fld := ⟨BBN_RAF_CNT.adr, 8, 8⟩
def BBN_RAF_CNT.STALE_SEQ : Fld := ⟨BBN_RAF_CNT.adr, 0, 8⟩
def BBN_PORT_CFG.adr (i : Nat) : Nat := 0x600040 + 0x20 * i
def BBN_PORT_CFG.SPEED (i : Nat) : Fld := ⟨BBN_PORT_CFG.adr i, 0, 2⟩
def BBN_PORT_STAT.adr (i : Nat) : Nat := 0x600044 + 0x20 * i
def BBN_PORT_STAT.LINK (i : Nat) : Fld := ⟨BBN_PORT_STAT.adr i, 31, 1⟩
def BBN_PORT_STAT.GIG (i : Nat) : Fld := ⟨BBN_PORT_STAT.adr i, 30, 1⟩
def BBN_PORT_STAT.BLOCKED (i : Nat) : Fld := ⟨BBN_PORT_STAT.adr i, 29, 1⟩
def BBN_PORT_STAT.DOWN_CNT (i : Nat) : Fld := ⟨BBN_PORT_STAT.adr i, 0, 16⟩
def BBN_PORT_RX.adr (i : Nat) : Nat := 0x600048 + 0x20 * i
def BBN_PORT_RX.FRAMES (i : Nat) : Fld := ⟨BBN_PORT_RX.adr i, 0, 32⟩
def BBN_PORT_TX.adr (i : Nat) : Nat := 0x60004c + 0x20 * i
def BBN_PORT_TX.FRAMES (i : Nat) : Fld := ⟨BBN_PORT_TX.adr i, 0, 32⟩
def BBN_PORT_ERR.adr (i : Nat) : Nat := 0x600050 + 0x20 * i
def BBN_PORT_ERR.FCS (i : Nat) : Fld := ⟨BBN_PORT_ERR.adr i, 16, 16⟩
def BBN_PORT_ERR.TOO_LONG (i : Nat) : Fld := ⟨BBN_PORT_ERR.adr i, 0, 16⟩
def BBN_IRQ_STAT.adr : Nat := 0x600080
def BBN_IRQ_STAT.RING_OPEN : Fld := ⟨BBN_IRQ_STAT.adr, 3, 1⟩
def BBN_IRQ_STAT.RING_CLOSED : Fld := ⟨BBN_IRQ_STAT.adr, 2, 1⟩
def BBN_IRQ_STAT.RAF_AUTH : Fld := ⟨BBN_IRQ_STAT.adr, 1, 1⟩
def BBN_IRQ_STAT.LINK_CHG : Fld := ⟨BBN_IRQ_STAT.adr, 0, 1⟩
def BBN_IRQ_EN.adr : Nat := 0x600084
def MZL_CMD.adr : Nat := 0x640000
def MZL_CMD.CODE : Fld := ⟨MZL_CMD.adr, 0, 8⟩
def MZL_CMD_STAT.adr : Nat := 0x640004
def MZL_CMD_STAT.CMD : Fld := ⟨MZL_CMD_STAT.adr, 8, 8⟩
def MZL_CMD_STAT.STATUS : Fld := ⟨MZL_CMD_STAT.adr, 0, 8⟩
def MZL_CFG.adr : Nat := 0x640008
def MZL_CFG.EN : Fld := ⟨MZL_CFG.adr, 31, 1⟩
def MZL_CFG.DLA : Fld := ⟨MZL_CFG.adr, 30, 1⟩
def MZL_CFG.REQ_TO_US : Fld := ⟨MZL_CFG.adr, 16, 14⟩
def MZL_CFG.LOST_MS : Fld := ⟨MZL_CFG.adr, 0, 16⟩
def MZL_STAT.adr : Nat := 0x64000c
def MZL_STAT.ENUMERATED : Fld := ⟨MZL_STAT.adr, 31, 1⟩
def MZL_STAT.POS_CONFLICT : Fld := ⟨MZL_STAT.adr, 30, 1⟩
def MZL_STAT.DLA_MISMATCH : Fld := ⟨MZL_STAT.adr, 29, 1⟩
def MZL_STAT.LAST_POS : Fld := ⟨MZL_STAT.adr, 0, 6⟩
def MZL_LINK_STAT.adr (i : Nat) : Nat := 0x640040 + 0x20 * i
def MZL_LINK_STAT.UP (i : Nat) : Fld := ⟨MZL_LINK_STAT.adr i, 31, 1⟩
def MZL_LINK_STAT.PEER_POS (i : Nat) : Fld := ⟨MZL_LINK_STAT.adr i, 16, 6⟩
def MZL_LINK_STAT.RETRAIN (i : Nat) : Fld := ⟨MZL_LINK_STAT.adr i, 0, 16⟩
def MZL_LINK_CNT.adr (i : Nat) : Nat := 0x640044 + 0x20 * i
def MZL_LINK_CNT.CRC_ERR (i : Nat) : Fld := ⟨MZL_LINK_CNT.adr i, 16, 16⟩
def MZL_LINK_CNT.TIMEOUT (i : Nat) : Fld := ⟨MZL_LINK_CNT.adr i, 0, 16⟩
def MZL_LINK_TX.adr (i : Nat) : Nat := 0x640048 + 0x20 * i
def MZL_LINK_TX.FRAMES (i : Nat) : Fld := ⟨MZL_LINK_TX.adr i, 0, 32⟩
def MZL_LINK_RX.adr (i : Nat) : Nat := 0x64004c + 0x20 * i
def MZL_LINK_RX.FRAMES (i : Nat) : Fld := ⟨MZL_LINK_RX.adr i, 0, 32⟩
def MZL_LINK_TRANSIT.adr (i : Nat) : Nat := 0x640050 + 0x20 * i
def MZL_LINK_TRANSIT.FRAMES (i : Nat) : Fld := ⟨MZL_LINK_TRANSIT.adr i, 0, 32⟩
def MZL_IRQ_STAT.adr : Nat := 0x640080
def MZL_IRQ_STAT.LINK_CHG : Fld := ⟨MZL_IRQ_STAT.adr, 3, 1⟩
def MZL_IRQ_STAT.POS_CONFLICT : Fld := ⟨MZL_IRQ_STAT.adr, 2, 1⟩
def MZL_IRQ_STAT.ENUM_DONE : Fld := ⟨MZL_IRQ_STAT.adr, 1, 1⟩
def MZL_IRQ_STAT.CMD_DONE : Fld := ⟨MZL_IRQ_STAT.adr, 0, 1⟩
def MZL_IRQ_EN.adr : Nat := 0x640084
def HBR_CMD.adr : Nat := 0x680000
def HBR_CMD.CODE : Fld := ⟨HBR_CMD.adr, 0, 8⟩
def HBR_CMD_STAT.adr : Nat := 0x680004
def HBR_CMD_STAT.CMD : Fld := ⟨HBR_CMD_STAT.adr, 8, 8⟩
def HBR_CMD_STAT.STATUS : Fld := ⟨HBR_CMD_STAT.adr, 0, 8⟩
def HBR_HSPI_CFG.adr : Nat := 0x680008
def HBR_FETCH_CFG.adr : Nat := 0x68000c
def HBR_FETCH_CFG.HOLD_US : Fld := ⟨HBR_FETCH_CFG.adr, 0, 16⟩
def HBR_SLOT_STAT.adr : Nat := 0x680010
def HBR_POST_ERR.adr : Nat := 0x680014
def HBR_POST_ERR.VALID : Fld := ⟨HBR_POST_ERR.adr, 31, 1⟩
def HBR_POST_ERR.OVF : Fld := ⟨HBR_POST_ERR.adr, 30, 1⟩
def HBR_POST_ERR.CODE : Fld := ⟨HBR_POST_ERR.adr, 28, 2⟩
def HBR_POST_ADDR.adr : Nat := 0x680018
def HBR_POST_ADDR.ADDR : Fld := ⟨HBR_POST_ADDR.adr, 0, 32⟩
def HBR_CASC_PEND_LO.adr : Nat := 0x680020
def HBR_CASC_PEND_HI.adr : Nat := 0x680024
def HBR_IRQ_STAT.adr : Nat := 0x680080
def HBR_IRQ_STAT.POST_ERR : Fld := ⟨HBR_IRQ_STAT.adr, 2, 1⟩
def HBR_IRQ_STAT.SLOT_EXPIRED : Fld := ⟨HBR_IRQ_STAT.adr, 1, 1⟩
def HBR_IRQ_STAT.CMD_DONE : Fld := ⟨HBR_IRQ_STAT.adr, 0, 1⟩
def HBR_IRQ_EN.adr : Nat := 0x680084
def HBR_WIN.adr (i : Nat) : Nat := 0x680100 + 0x4 * i
def HBR_WIN.NP (i : Nat) : Fld := ⟨HBR_WIN.adr i, 31, 1⟩
def HBR_WIN.RULE (i : Nat) : Fld := ⟨HBR_WIN.adr i, 30, 1⟩
def HBR_WIN.WR_HSPI (i : Nat) : Fld := ⟨HBR_WIN.adr i, 29, 1⟩
def HBR_WIN.WR_RAF (i : Nat) : Fld := ⟨HBR_WIN.adr i, 28, 1⟩
def HBR_WIN.WR_USB (i : Nat) : Fld := ⟨HBR_WIN.adr i, 27, 1⟩
def HBR_WIN.SIZE (i : Nat) : Fld := ⟨HBR_WIN.adr i, 16, 11⟩
def HBR_WIN.BASE (i : Nat) : Fld := ⟨HBR_WIN.adr i, 0, 10⟩
def USB_CTL.adr : Nat := 0x6c0000
def USB_CTL.EN : Fld := ⟨USB_CTL.adr, 31, 1⟩
def USB_STAT.adr : Nat := 0x6c0008
def USB_STAT.CONFIGURED : Fld := ⟨USB_STAT.adr, 31, 1⟩
def USB_STAT.HS : Fld := ⟨USB_STAT.adr, 30, 1⟩
def USB_STAT.DESTR_REFUSED : Fld := ⟨USB_STAT.adr, 28, 1⟩
def USB_CNT.adr : Nat := 0x6c000c
def USB_CNT.BUS_RESETS : Fld := ⟨USB_CNT.adr, 16, 16⟩
def USB_CNT.ABORTED : Fld := ⟨USB_CNT.adr, 0, 16⟩
def USB_IRQ_STAT.adr : Nat := 0x6c0080
def USB_IRQ_STAT.ABORTED : Fld := ⟨USB_IRQ_STAT.adr, 1, 1⟩
def USB_IRQ_STAT.CONFIG_CHG : Fld := ⟨USB_IRQ_STAT.adr, 0, 1⟩
def USB_IRQ_EN.adr : Nat := 0x6c0084

end Sys2Proof.Machine
end

