-- ==== Sys2Proof/Config.lean ====
section
/-! DEFINITION. What an implementation fixes and what the spec leaves open: factory values, the cryptographic
primitives the spec names by their standards, and free values. Every constant here is opaque: nothing can be
proved of its value. -/

namespace Sys2Proof.Config

/-- A free value: the `n`-th value that the spec leaves open in a run (assumption 1). -/
opaque freeNat : Nat → Nat

/-- Bytes the module draws at random: nonces, identifiers (R410, R416), the `n`-th draw, of the given length. -/
opaque randomByte : Nat → Nat → Byte

/-- What a cell of the shared buffer holds when it is claimed, byte by byte, under the free value's number (R310, R311;
assumption 34). -/
opaque cellByte : Nat → Nat → Byte

/-- SYS_ID_SERIAL: unique to each module (R9). -/
opaque serial : BitVec 64

/-- The factory radio EUI-64 (Table 10.7). -/
opaque radioEui : BitVec 64

/-- The factory MAC address of BBN (Table 13.13). -/
opaque mac : BitVec 48

/-- The factory reference count of the process monitors (Table 18.8). -/
opaque avsRef : BitVec 16

/-- The key bytes of factory slot 0 to 3 (Table 15.1). -/
opaque factoryKey : Nat → List Byte

/-- KEY_DEV_PUB: the public half of slot 1 (Table 15.1), byte by byte. -/
opaque devPub : Nat → Byte

/-- The factory key check values' byte function is SHA-256; SHA-256 itself, by its standard (R62, R405). -/
opaque sha256 : List Byte → List Byte

/-- SHA-384, by its standard (Table 15.4). -/
opaque sha384 : List Byte → List Byte

/-- HMAC-SHA-256 of a key and a message (Table 15.4). -/
opaque hmac256 : List Byte → List Byte → List Byte

/-- HKDF-SHA-256 of IKM, salt, info and length (Table 15.4). -/
opaque hkdf : List Byte → List Byte → List Byte → Nat → List Byte

/-- AES-CMAC of a key and a message (Table 15.4). -/
opaque cmac : List Byte → List Byte → List Byte

/-- AES-256-GCM opening: key, nonce, additional data, ciphertext, tag; nothing where the tag fails (R407). -/
opaque gcmOpen : List Byte → List Byte → List Byte → List Byte → List Byte → Option (List Byte)

/-- AES-CCM* sealing under AES-128: key, nonce, additional data, plaintext, tag length; ciphertext and tag (R113). -/
opaque ccmSeal : List Byte → List Byte → List Byte → List Byte → Nat → List Byte

/-- AES-CCM* opening: key, nonce, additional data, ciphertext with tag, tag length; nothing where the tag fails. -/
opaque ccmOpen : List Byte → List Byte → List Byte → List Byte → Nat → Option (List Byte)

/-- ECDSA P-256 verification: public key x and y, SHA-256 message digest, r, s (Table 2.5). -/
opaque ecdsaP256 : List Byte → List Byte → List Byte → List Byte → Bool

/-- ECDSA P-384 verification: public key, SHA-384 message digest, r, s. -/
opaque ecdsaP384 : List Byte → List Byte → List Byte → List Byte → Bool

/-- The x-coordinate of P-256 ECDH between a private key and a public point; nothing where the point is not on
the curve (R408). -/
opaque ecdhX : List Byte → List Byte → Option (List Byte)

/-- The bundle written to bank A at manufacture and the recovery image: digest, VERSION, SEC_VER and STATE_ABI, by
image (0 bank A, 2 recovery). The spec gives none of them (assumption 6). -/
opaque bundleDigest : Nat → List Byte
opaque bundleVersion : Nat → BitVec 32
opaque bundleSecVer : Nat → BitVec 16
opaque bundleAbi : Nat → BitVec 16

/-- OFDM symbols of a frame, preamble and PHR included: option, MCS and PSDU octets. The spec gives them by reference to
IEEE 802.15.4g alone (R274; assumption 37). -/
opaque ofdmSymbols : Nat → Nat → Nat → Nat

/-- The carrier supplies bank VIO_Fb at 3.3 V, not 1.8 V (Table 19.4). -/
opaque vio33 : Nat → Bool

/-- The fractional-delay filter of the metering chain: a signal with its neighbours, delayed by a number of ns; which
filter it is the spec leaves open (R385). -/
opaque fracDelay : List Int → Int → List Int

/-- The Hilbert filter of the reactive quantities, and the group delay the current gets to match it (R390). -/
opaque hilbert : List Int → List Int
opaque groupDelay : List Int → List Int

/-- The value of a window's signal between two of its samples: the samples, the index of the one before, and the part of
a sample interval after it in 1/2,048 (R397; assumption 134). -/
opaque between : List Int → Nat → Nat → Int

/-- What the configuration flash holds as a start reads it, from what it held at the read before: it may have been written since
(R36; assumption 140). -/
opaque flashAt : Nat → List Byte → List Byte

/-- What the clock monitor measures in a window of 32 ember-clock cycles: TCXO cycles, and the longest time without PLL lock, ns (R20;
assumption 141). -/
opaque tcxoCount : Nat → Nat
opaque pllUnlock : Nat → Nat

end Sys2Proof.Config
end

