-- ==== Sys2Proof/Machine/State.lean ====
section
/-! DEFINITION. The state of the module as plain data, and its reset. Software-visible registers live in one
sparse store (`State.regs`); what the spec gives the module beside its registers has fields of its own, one
record per block. -/

namespace Sys2Proof.Machine

/-! ### Outcomes -/

/-- Why a command stops with a fault. -/
inductive Fault where
  /-- Raised by no meaning of this model: the spec names no state in which the block stops dead. Safe. -/
  | stuck
deriving DecidableEq, Repr

/-- Why a command is refused. -/
inductive Refusal where
  /-- Raised by `exec` for a command that has no meaning yet, named by its mnemonic. Safe. -/
  | notModelled (mnemonic : String)
deriving DecidableEq, Repr

/-! ### Shared records -/

/-- Register blocks, in the order of their numbers in SYS_IRQ_STAT.BLK (Table 1.10). -/
inductive Blk where
  | sys | cfg | pwr | emb | hlt | log | key | upd | ntu | pair | epc | sch | lfe | trn | drv | lbus | mtr | rad
  | swc | hmq | bbn | mzl | hbr | usb
deriving DecidableEq, Repr

/-- Power domains (Table 1.5). -/
inductive Dom where
  | ember | alwaysOn | drive | meter | network | compute
deriving DecidableEq, Repr

/-- The six modes (Table 0.3). -/
inductive Mode where
  | ember | banked | kindling | firing | soak | service
deriving DecidableEq, Repr

/-- What the module has put on a port. The list of these in State is the model's own record of outputs. -/
inductive OutPort where
  /-- A RAF message on BB port `p` (R372, R374, R376): its TYPE. -/
  | raf (typ p : Nat)
  /-- An Ethernet frame leaving BB port `p`. -/
  | bb (p : Nat)
  /-- A Mistazil frame of a KIND on link `l` (0 MZ_A, 1 MZ_B). -/
  | mzl (l kind : Nat)
  /-- A pair lease message to the partner (chapter 17): its subtype. -/
  | lease (subtype : Nat)
  /-- A radio frame on channel `ch`. -/
  | radio (ch : Nat)
  /-- A frame on luminaire bus port `p`; the bytes hold the bits, 16 or 24. -/
  | dl (p : Nat)
  /-- A frame on serial bus `p`. -/
  | sb (p : Nat)
  /-- A transaction's answer on HSPI: status byte, then data. -/
  | hspi
  /-- A USB answer: a data stage or a status stage, or STALL. -/
  | usb (stall : Bool)
  /-- A WSP answer byte (R81). -/
  | wsp
  /-- An AVSBus request, in mV (R84). -/
  | avs
  /-- A JTAG answer (R489). -/
  | jtag
  /-- A message from the packet engines to the cores or back, by switch port. -/
  | core (sp : Nat)
  /-- The value a register read returns to its requester, by source code. -/
  | reg (src : Nat)
  /-- A metering pulse edge on an FIO (R400). -/
  | pulse (fio : Nat)
  /-- A read of the configuration flash: command and address, before this many dummy cycles (R37). -/
  | cfgf (dummy : Nat)
deriving DecidableEq, Repr

/-- One thing sent. -/
structure Sent where
  on : OutPort
  bytes : List Byte
deriving DecidableEq, Repr

/-! ### SYS, PWR and EMB (chapters 01 and 03) -/

structure SysState where
  /-- Blocks within an event hold-off, with the `clk` at which it ends (R30). -/
  evtHold : List (Nat × Nat)
  /-- Blocks with a rise pending until their hold-off ends (R30). -/
  evtPend : List Nat
  /-- When the last unplanned warm start or thermal trip happened (R24, R462). -/
  lastUnplanned : Option Nat
deriving DecidableEq, Repr

/-- An AVSBus request in progress (R84). -/
structure AvsReq where
  /-- The step requested now, mV. -/
  req : Nat
  /-- Attempts made for it. -/
  tries : Nat
  /-- `clk` before which its next attempt is not sent, where one waits: requests are 1 ms apart. -/
  waits : Option Nat
deriving DecidableEq, Repr

structure PwrState where
  mode : Mode
  /-- VAUX in range. -/
  vaux : Bool
  /-- VSYS in range. -/
  vsys : Bool
  /-- `clk` at the last restart of the SOAK timer (R70). -/
  soakFrom : Nat
  /-- `clk` at the last restart of the idle timer (R77). -/
  idleFrom : Nat
  /-- IDLE_WARN has been given for this idle period. -/
  idleWarned : Bool
  /-- AVSBus: the new target asked for, and the request in progress (R84). -/
  avsTarget : Nat
  avsReq : Option AvsReq
  /-- Some request has been acknowledged since the core rail rose. -/
  avsAcked : Bool
  /-- `clk` of the last sample of RC0 in BANKED (R82). -/
  rc0At : Option Nat
  /-- PFAIL_N has fallen since the last start or periodic snapshot; a supply loss came without it (R83). -/
  pfail : Bool
  snapOld : Bool
  /-- `clk` at which VAUX last came into range (R87). -/
  vauxAt : Nat
  /-- `clk` of the last AVSBus request. -/
  avsAt : Option Nat
  /-- `clk` of step 1 of Table 3.5 while the entry to BANKED goes on (R78). -/
  entry : Option Nat
  /-- Wake sources latched during the entry, or recognised while VSYS is absent; a start trigger latched during the entry
  (R79). -/
  latched : Nat
  trigger : Bool
  /-- `clk` of the last wake (R80). -/
  wokeAt : Option Nat
  /-- TCXO cycles that the clock monitor counted in its last two windows, newest first, and the longest time without PLL lock
  since it last found the clock bad, ns (R20). -/
  tcxo : List Nat
  unlock : Nat
deriving DecidableEq, Repr

/-- A write waiting to land in the ember domain: one word, or a pair landed in one ember write (R87, R88). -/
structure EmbWrite where
  adr : Nat
  val : Word
  pair : Option Word
  /-- Written by the module itself (EMB_ALARM[1], R91; RTC discipline, R351). -/
  own : Bool
deriving DecidableEq, Repr

structure EmbState where
  /-- RTC, in seconds since 2000-01-01 00:00:00 UTC (R86). -/
  rtc : Nat
  /-- `clk` at which the running second began (the prescaler, R88). -/
  secAt : Nat
  queue : List EmbWrite
  /-- `clk` at which the periodic wake next fires (R91). -/
  periodAt : Option Nat
  /-- An ember reset has happened that no VAUX power-up has recorded yet (R26). -/
  por : Bool
  /-- The door and tamper counts when VAUX was lost (R92). -/
  doorAtLoss : Nat
  tampAtLoss : Nat
deriving DecidableEq, Repr

/-! ### CFG (chapter 02) -/

/-- The content of a settings store area: never written or erased, or bytes (R49, R57). -/
inductive Area where
  | blank
  | bytes (l : List Byte)
deriving DecidableEq, Repr

structure CfgState where
  /-- The carrier's configuration flash, from address 0; past its end it reads 0xFF (R37). -/
  cfgf : List Byte
  /-- The three settings store areas (R49). -/
  areas : List Area
  /-- Highest image generation accepted (R47). -/
  highestGen : Nat
  /-- The image in force: GENERATION, SEG, SIG_KEY and FLAGS; nothing where no image is accepted. -/
  image : Option (Nat × Nat × Nat × Nat)
  /-- The register words that applying the accepted image alone produces, where they differ from their reset
  values (R54). -/
  baseline : List (Nat × Word)
  /-- The last winning or last stored store generation (R55). -/
  lastGen : Nat
  /-- The copy that the STORE in progress writes (R54), and the join records it makes needless (R128). -/
  storing : Option (List Byte)
  storeJoins : List (Nat × List Word)
  /-- Set digests, by set, as last computed (R62). -/
  digests : List (List Byte)
  /-- Sets whose digest is stale (R64). -/
  stale : List Nat
  /-- `clk` at which DIGEST_REQ was accepted (R67). -/
  reqAt : Option Nat
  /-- Starts so far: the model's own. A start computes every set digest anew. -/
  starts : Nat
deriving DecidableEq, Repr

/-! ### KEY (chapter 15) -/

/-- Key bytes of a slot. -/
inductive KeyBytes where
  /-- A factory slot: bytes fused at manufacture. -/
  | factory (slot : Nat)
  | bytes (l : List Byte)
deriving DecidableEq, Repr

/-- A filled key slot (R405). -/
structure KeySlot where
  idx : Nat
  exhausted : Bool
  typ : Nat
  usage : Nat
  lc : Nat
  expireReset : Bool
  uses : Nat
  key : KeyBytes
deriving DecidableEq, Repr

/-- The registers that KEY banks per source (R418). -/
structure KeyBank where
  src : Nat
  code : Nat
  cmd : Nat
  status : Nat
  slot : Nat
  arg : Nat
  sessId : Nat
  /-- The pending nonce, the slot named and the `clk` of OPEN_SESSION (R416). -/
  nonce : Option (List Byte × Nat × Nat)
  proof : List Word
  eph : List Word
  sig : List Word
  blob : List Word
  attNonce : List Word
  attResp : List Byte
  /-- `clk` of the failed proofs of the last 60 s, and the end of the refusal of OPEN_SESSION (R416). -/
  fails : List Nat
  lockUntil : Option Nat
deriving DecidableEq, Repr

/-- An authorisation session (R417). -/
structure Session where
  src : Nat
  id : Nat
  ip : Nat
  port : Nat
  /-- `clk` of its PROVE or of the last command it authorised. -/
  last : Nat
deriving DecidableEq, Repr

/-- A life-cycle transition in progress: from, to (R411). -/
structure LcIntent where
  old : Nat
  new : Nat
  /-- The source whose command it is. -/
  src : Nat
deriving DecidableEq, Repr

structure KeyState where
  lc : Nat
  slots : List KeySlot
  banks : List KeyBank
  sessions : List Session
  intent : Option LcIntent
  /-- KEY_LC_NONCE (R410). -/
  lcNonce : List Byte
  /-- Commands of other sources waiting their turn: source and code (R418). -/
  waiting : List (Src × Nat)
  /-- The link key table: EPA and link key (R413). -/
  linkKeys : List (Nat × List Byte)
  /-- The KCV of the radio root the table was built from, nothing where none was (R413). -/
  rootKcv : Option Nat
  /-- The persistent attestation counter (R419). -/
  attCtr : Nat
deriving DecidableEq, Repr

/-! ### LOG (chapter 18) -/

/-- A firing log record before it is written (Table 18.4). -/
structure LogRec where
  code : Nat
  sev : Nat
  cls : Nat
  flags : Nat
  optime : Nat
  pcycle : Nat
  ntSec : Nat
  ntNs : Nat
  param : List Byte
  /-- `clk` of its event: records of one instant take ascending CODE order (R471). -/
  at_ : Nat
deriving DecidableEq, Repr

/-- An open rate-limit window (R472). -/
structure RateWin where
  cls : Nat
  endAt : Nat
  written : Nat
  count : Nat
  first : Nat
  last : Nat
deriving DecidableEq, Repr

structure LogState where
  /-- The 64-record staging buffer (ALWAYS-ON), in write order (R471). -/
  staged : List LogRec
  /-- Records in NVM: sequence number and 32 bytes, oldest first. -/
  recs : List (Nat × List Byte)
  head : Nat
  wins : List RateWin
  optime : Nat
  pcycle : Nat
  /-- A CLEAR in progress or cut short: LOG_HEAD before it, records to erase, and its source (R473). -/
  clearing : Option (Nat × Nat × Nat)
deriving DecidableEq, Repr

/-! ### NTU (chapter 12) -/

/-- One network-grade source (R336). -/
structure NtuSrc where
  /-- 0 absent, 1 qualifying, 2 intact. -/
  st : Nat
  /-- The last measurements, newest first: FRC, and the source's time at it, ns. -/
  meas : List (Nat × Int)
  /-- Consecutive good PPS edges (GNSS). -/
  good : Nat
  /-- FRC of the last Sync, exchange or PPS edge. -/
  lastAt : Nat
  disagree : Bool
  /-- FRC at which the loss condition began (Mistazil: link down or upstream SYNC 0). -/
  badAt : Option Nat
  /-- The port is in SLAVE state; the link is up and upstream SYNC is 1; the last message had a fix. -/
  ok : Bool
  /-- It has been passed over as a refused jump, and its offset is still beyond the limit (R338). -/
  passed : Bool
deriving DecidableEq, Repr

structure NtuState where
  /-- The free-running counter, 2 ns (R327). -/
  frc : Nat
  /-- The base pair: F_b, and T_b in 2⁻¹⁶ ns (R328). -/
  fb : Nat
  tb : Nat
  /-- RATE in force, 2⁻⁴¹ (R329). -/
  rate : Int
  /-- The part of P not yet taken up, 2⁻¹⁶ ns, and the slew of the running millisecond (R332). -/
  phase : Int
  slew : Int
  /-- An accepted step waiting for the next update, ns, and whether it was forced (R333, R335). -/
  step : Option (Int × Bool)
  srcs : List NtuSrc
  /-- FRC of the last second spent in LOCKED (R334). -/
  lockedAt : Nat
  /-- RATE values in force, newest first, with the FRC each began, back over 64 s (R339). -/
  rates : List (Nat × Int)
  /-- NVM: RATE recorded while LOCKED, and NTU_UTC.OFS (R340, R341). -/
  nvmRate : Int
  nvmOfs : Int
  /-- `clk` of the last capture of the RTC discipline, and its result: UTC seconds and RTC, µs (R351). -/
  capAt : Option (Nat × Int × Int)
  /-- A change of OFS that calls for a capture within 10 s. -/
  ofsChg : Bool
  /-- The FRC of the last PPS edge not yet labelled (R336). -/
  pps : Option Nat
  /-- The last time exchange: SEQ and t1, 2⁻¹⁶ ns (R363). -/
  exch : Option (Nat × Int)
  /-- FRC at which RATE was last recorded in NVM (R340). -/
  recAt : Nat
deriving DecidableEq, Repr


/-! ### EPC (chapter 04) -/

/-- A join not yet proven: its case in R106 (4 a rekey), the state and KEY_GEN held before, when it lapses (`clk`), and
the REQ_NONCE of the last request. -/
structure JoinPend where
  kind : Nat
  oldState : Nat
  oldGen : Nat
  deadline : Nat
deriving DecidableEq, Repr

/-- A frame that waits for its CFG_ACK: its TSN and the `clk` at which it was last sent. -/
structure AckWait where
  tsn : Nat
  at_ : Nat
deriving DecidableEq, Repr

/-- What the module keeps of an endpoint beside its context words (METER unless noted). -/
structure EpRun where
  epa : Nat
  join : Option JoinPend
  grp : Option AckWait
  cfg1 : Option AckWait
  cfg2 : Option AckWait
  resync : Option AckWait
  /-- Lower bound of the resync window: RX_HIGH as restored (R119). -/
  resyncLow : Nat
  /-- Next TSN. -/
  tsn : Nat
  /-- Consecutive reports out of tolerance (R122). -/
  mismatches : Nat
  /-- The next ENERGY frame only sets the baseline (R123). -/
  baseline : Bool
  /-- `clk` of the last accepted ENERGY frame, or the NT (ns) of the snapshot that restored the baseline (R124). -/
  energyAt : Option Nat
  energyNt : Option Nat
  /-- `clk` of the last command's launch and its fade time in 10 ms (R122). -/
  launchAt : Option Nat
  launchFade : Nat
  /-- `clk` of the last accepted frame (R126). -/
  heardAt : Nat
  /-- `clk` of the replays of the last hour (R116). -/
  replays : List Nat
  /-- `clk` at which a lapsed rekey starts again (R414). -/
  rekeyAt : Option Nat
deriving DecidableEq, Repr

/-- What the NVM context snapshot holds of a context (R128). -/
structure SnapCtx where
  epa : Nat
  /-- Identity words 0x000 to 0x00F. -/
  ident : List Word
  /-- EPC_EN_LO, HI, RAW, STAT, and the RAR shadow. -/
  energy : List Word
  shadow : Nat
  txCtr : Nat
  rxHigh : Nat
  keyGen : Nat
  joined : Bool
  /-- The next ENERGY frame only sets the baseline (R123). -/
  baseline : Bool
deriving DecidableEq, Repr

/-- The NVM context snapshot (R83, R128, R396). -/
structure Snapshot where
  gen : Nat
  /-- NT (ns) at which it was taken, where it was valid. -/
  nt : Option Nat
  ctxs : List SnapCtx
  gtx : Nat
  /-- EPC_REMOVED_EN: words and shadow. -/
  removed : List Word
  removedShadow : Nat
  /-- Join records: EPA and the identity words that resulted. -/
  joins : List (Nat × List Word)
  /-- Metering accumulators, their shadows and pulse residues, and the operating counters. -/
  meter : List (Nat × Word)
  meterShadow : List (Nat × Nat)
  residues : List Int
  rems : List Nat
  optime : Nat
  pcycle : Nat
  /-- The words of the slots armed before a commanded warm start (R23). -/
  slots : List (Nat × Word)
deriving DecidableEq, Repr

structure EpcState where
  runs : List EpRun
  /-- Bus gear to be commissioned (R246). -/
  toCommission : List Nat
  /-- `clk` at which EPC_JOIN_CTL.OPEN was set (R108). -/
  openAt : Nat
  /-- Join records made since the last STORE: EPA and identity words (R128). -/
  joins : List (Nat × List Word)
  /-- Counters as last snapshotted: (EPA, or 4096 for EPC_GTX_CTR) and value (R117). -/
  snapCtr : List (Nat × Nat)
  /-- A commanded snapshot is being written. -/
  snapping : Bool
  /-- Bits of module fault 0x86 and rekeys already started are in the words; banks lost, kept in NVM (R130). -/
  lostBanks : List Nat
  /-- `clk` of the last cold start, and of the last start of any kind. -/
  coldAt : Nat
  startAt : Nat
deriving DecidableEq, Repr


/-! ### SCH (chapter 05) -/

structure SchState where
  /-- NT seconds of the last schedule second. -/
  lastSec : Option Nat
  /-- Local date (days since 2000-01-01) of the previous evaluation with valid local time since the start. -/
  prevDate : Option Nat
  /-- Local time was valid at the previous evaluation. -/
  wasValid : Bool
  /-- `clk` at which SCH_CTL.HOLD was set (R144). -/
  holdAt : Option Nat
  /-- The cores are recomputing the solar slots (R136). -/
  solarBusy : Bool
  /-- Dates for which SCH_SOLAR_FB has been logged (R137). -/
  fbDates : List Nat
  /-- CCT and fade of each endpoint's base level (R141). -/
  base : List (Nat × Nat × Nat)
deriving DecidableEq, Repr


/-! ### DRV (chapters 07 and 08) -/

/-- A fade of a value (R184): from, to, steps of 1 ms and steps done. -/
structure Ramp where
  src : Nat
  dst : Nat
  n : Nat
  i : Nat
deriving DecidableEq, Repr

/-- A fade unit (R183): its present level and CCT, their fades, and for a timed fade the network time (ns) of its
origin. Units 0 to 63 serve the channels, 64 to 79 the luminaire sets, 80 to 91 the analogue outputs. -/
structure FadeUnit where
  level : Nat
  cct : Nat
  lv : Option Ramp
  ct : Option Ramp
  /-- The origins of a timed fade of the level, and of the CCT, ns; none for a fade that is not timed (R223). -/
  origin : Option Nat
  cOrigin : Option Nat
  /-- A command has reached it since the cold start. -/
  driven : Bool
deriving DecidableEq, Repr

/-- A loaded drive comparator (R192, R223): unit, instant (ns), level, CCT, fade and slot. -/
structure Load where
  unit : Nat
  at_ : Nat
  level : Nat
  cct : Nat
  fade : Nat
  slot : Nat
deriving DecidableEq, Repr

/-- What a direct channel holds beside its registers. -/
structure ChRun where
  /-- Target current of the last change, mA. -/
  it : Nat
  /-- Peak reference, µV (R225). -/
  peak : Nat
  /-- `clk` of the start of the ramp and of the inrush window, of the last stop, and of the entry to RUN. -/
  rampAt : Nat
  inrushAt : Nat
  stoppedAt : Nat
  runAt : Nat
  /-- Stopped by GROUP_OC. -/
  byGroup : Bool
  /-- The curve and the compensation gains in force (R216). -/
  pts : List Nat
  comp : List Nat
  /-- Start, step and fail temperature of the compensation table in force (R216, R222). -/
  tStart : Int
  tStep : Nat
  tFail : Int
  /-- The present PWM period: its start (NT ns), and where it gates, the end of its on-window (ns from the start). -/
  p0 : Nat
  toff : Nat
  /-- Phase offset in force, 2 ns (R228). -/
  phase : Nat
  /-- The offset at which the present period began, and `clk` at its end (R227, R228). -/
  used : Nat
  pEnd : Nat
  /-- Its inrush window was open as it last stopped (R233). -/
  stopWin : Bool
deriving DecidableEq, Repr

/-- What a supply group holds beside its registers. -/
structure GrpRun where
  uv : Bool
  /-- `clk` of the last GROUP_OC (R234). -/
  ocAt : Nat
  /-- Energy below 1 mWh (R237). -/
  rem : Nat
deriving DecidableEq, Repr

/-- A pair of the pad scan with failing visits: kind, first channel, run (R236). -/
structure PadRun where
  kind : Nat
  ch : Nat
  fails : Nat
deriving DecidableEq, Repr

/-- A fast chase in the drive sequencer (R212): engine, start (ns), next step, waveform, member units, and the members
that have left it. -/
structure Chase where
  engine : Nat
  start : Nat
  k : Nat
  chase : Bool
  period : Nat
  duty : Nat
  width : Nat
  high : Nat
  low : Nat
  cctHigh : Nat
  cctLow : Nat
  units : List Nat
  out : List Nat
  /-- Its first edge has been made: it has taken over from the command path. -/
  live : Bool
deriving DecidableEq, Repr

structure DrvState where
  units : List FadeUnit
  loads : List Load
  chs : List ChRun
  grps : List GrpRun
  pads : List PadRun
  chases : List Chase
  /-- Energy of endpoints below 1 mWh, and of the running second: EPA, remainder, sum (R237). -/
  energy : List (Nat × Nat × Nat)
  /-- `clk` of the last pass of the pad scan; a pass ordered by SCAN_NOW is due at once (R236, R240). -/
  scanAt : Nat
  scanDue : Bool
deriving DecidableEq, Repr


/-! ### LFE (chapter 06) -/

/-- A presence source: its slot, its speed as a fraction in 0.25 m/s, and the nodes of its last propagation with their
distances in 0.1 m. Times in ns. -/
structure PSource where
  slot : Nat
  origin : Nat
  cls : Nat
  heading : Nat
  vn : Nat
  vd : Nat
  t0 : Nat
  refresh : Nat
  settled : List (Nat × Nat)
deriving DecidableEq, Repr

/-- What the engine keeps of an endpoint: whether LFE demand caused the last command, and the last CCT sent. -/
structure LvlMem where
  epa : Nat
  byLfe : Bool
  cct : Nat
  /-- A decrease deferred by coalescing (R175). -/
  deferred : Bool
deriving DecidableEq, Repr

/-- A pattern engine's run: S in ns, started by the emergency, a PAT_STOP waiting. -/
structure PatRun where
  engine : Nat
  start : Nat
  emerg : Bool
  stop : Bool
deriving DecidableEq, Repr

/-- A tick between its boundary and the close of its intake (Table 6.1): the boundary, ns; the words of the contexts and slots as
sampled then, the engines' runs, and CCT and fade of the base levels. -/
structure TickOpen where
  at_ : Nat
  words : List (Nat × Word)
  pats : List PatRun
  base : List (Nat × Nat × Nat)
deriving DecidableEq, Repr

structure LfeState where
  sources : List PSource
  /-- on_until of each endpoint, ns (R165). -/
  onUntil : List (Nat × Nat)
  /-- Records in the intake, each with the network time (ns) at which it reached it (R151). -/
  intake : List (Nat × DetRec)
  mem : List LvlMem
  /-- The emergency was in force at the last boundary (R168). -/
  emerg : Bool
  /-- CLEAR_SOURCES waits for the boundary. -/
  clearing : Bool
  /-- The intake is closed (R181). -/
  closed : Bool
  /-- The last boundary sampled, ns; whether there was one since the start; the tick whose intake is still open; ticks completed. -/
  lastTick : Nat
  ticked : Bool
  opened : Option TickOpen
  ticks : Nat
deriving DecidableEq, Repr

/-! ### TRN (chapter 07) -/

/-- A transition slot's run: the next ARM round, the endpoints armed or loaded, unicast ARMs with whether each was
acknowledged, the channels that received a group ARM, the endpoints already caught up, and a RELEASE waiting. -/
structure SlotRun where
  slot : Nat
  round : Nat
  armed : List Nat
  uni : List (Nat × Bool)
  chans : List Nat
  caught : List Nat
  release : Bool
deriving DecidableEq, Repr

structure TrnState where
  slots : List SlotRun
  pats : List PatRun
  /-- Engines held stopped until the emergency ends (R211). -/
  blocked : List Nat
  /-- The emergency was in force when the engines last looked at it (R211). -/
  emergSeen : Bool
deriving DecidableEq, Repr


/-! ### LBUS (chapter 09) -/

/-- What a forward frame on a DL port is for (Table 9.1). -/
inductive DlKind where
  | config
  /-- A level for these gear, with the fade code used and the fade in 10 ms. -/
  | level (epas : List Nat) (code fade : Nat)
  | queryLevel (epa : Nat)
  | queryStatus (epa : Nat)
  | queryFailure (epa : Nat)
  | queryGroups (epa : Nat) (high : Bool)
  /-- READ MEMORY LOCATION: the bank, and whether it is the last of the reading. -/
  | readMem (epa bank : Nat) (last : Bool)
  | queryDevice (epa : Nat)
  | raw (answer : Bool)
deriving DecidableEq, Repr

/-- A forward frame: its bits, 16 or 24, right-aligned. -/
structure DlFrame where
  bits : Nat
  len : Nat
  kind : DlKind
deriving DecidableEq, Repr

/-- A transaction: its priority, and its frames in order (R242). -/
structure DlTx where
  prio : Nat
  frames : List DlFrame
deriving DecidableEq, Repr

/-- A level for gear that its port has not yet sent. -/
structure DlLevel where
  epa : Nat
  level : Nat
  fade : Nat
deriving DecidableEq, Repr

/-- What a port keeps of a gear or device. -/
structure GearRec where
  epa : Nat
  /-- The fade programmed (R245). -/
  fade : Option Nat
  /-- Level queries unanswered in a row (R249). -/
  missed : Nat
  /-- Last status and failure bytes. -/
  status : Nat
  failure : Nat
  /-- Bytes of the memory bank being read. -/
  mem : List Byte
  /-- The next bank 202 reading only sets the baseline (R250). -/
  baseline : Bool
  /-- Energy below 1 mWh, in 1/1000 mWh. -/
  rem : Nat
  /-- QUERY GROUPS 0–7 of the check. -/
  groups : Nat
deriving DecidableEq, Repr

structure DlPort where
  levels : List DlLevel
  queue : List DlTx
  /-- Frames of the transaction in progress still to come, and the whole of it; whether a slot committed it. -/
  cur : List DlFrame
  tx : Option DlTx
  slot : Bool
  /-- The frame last sent, the attempts made for it, and whether its answer is awaited. -/
  last : Option DlFrame
  attempts : Nat
  waiting : Bool
  /-- Frames of committed slots: the instant of the first start bit (ns), and the transaction (R192, R252). -/
  committed : List (Nat × DlTx)
  /-- `clk` of the last level cycle, energy cycle and diagnostics; gear that answered in the running cycle, and
  gear whose turn in it is still to come (R248). -/
  levelAt : Nat
  energyAt : Nat
  diagAt : Nat
  answered : Nat
  cycle : List Nat
deriving DecidableEq, Repr

/-- A contactor or output: `clk` of its last switching, and whether it was requested on. -/
structure OutRun where
  fio : Nat
  at_ : Nat
deriving DecidableEq, Repr

/-- An SB poll entry: port, entry, count of the last answer, failures in a row, `clk` of the last poll, and whether its
answer is awaited (R266). -/
structure PollRun where
  port : Nat
  entry : Nat
  count : Option Nat
  bad : Nat
  at_ : Nat
  waiting : Bool
deriving DecidableEq, Repr

/-- An analogue output pad (R255, Tables 3.3 and 3.4); voltages in mV. -/
inductive AoPad where
  | unpowered
  /-- The hold stage keeps the last voltage. -/
  | held (mv : Nat)
  | highZ
  | driven (mv : Nat)
deriving DecidableEq, Repr

structure LbusState where
  aoPads : List AoPad
  /-- `clk` of the last change of a RANGE (R257). -/
  clampAt : Nat
  ports : List DlPort
  gear : List GearRec
  /-- LBUS_EVT: port and frame, oldest first (R253). -/
  events : List (Nat × Nat)
  /-- Consecutive measurements of each AO out of, or back in, tolerance (R258). -/
  aoBad : List Nat
  aoGood : List Nat
  /-- Loops A that wait for their loop B: FIO and instant of A, ns (R260). -/
  loops : List (Nat × Nat)
  outs : List OutRun
  polls : List PollRun
  /-- The DL port whose DL_RAW is in progress. -/
  rawPort : Option Nat
deriving DecidableEq, Repr


/-! ### Frames and packets (chapters 04, 10 and 11) -/

/-- Where a radio frame goes (Table 10.3). -/
inductive Dst where
  /-- Unicast to an endpoint's short address. -/
  | ep (epa : Nat)
  /-- Group or segment: 0xFFFF. -/
  | all
  /-- Under the join key, to the EUI-64 of an endpoint. -/
  | eui (epa eui : Nat)
deriving DecidableEq, Repr

/-- The block that queued a frame, to which its outcome is returned (R275). -/
inductive Owner where
  | none
  /-- The command generator's command to an endpoint. -/
  | cmd (epa : Nat)
  /-- A GROUP_FADE of the command generator and the members it reaches. -/
  | group (epas : List Nat)
  /-- A frame of a transition slot: ARM, FIRE or CANCEL, with its ARM_ID. -/
  | slot (n armId : Nat)
  /-- The FADE of R199 of a slot. -/
  | catchUp (n epa : Nat)
  | time
  /-- A frame of an endpoint firmware campaign. -/
  | fw (c : Nat)
deriving DecidableEq, Repr

/-- A frame bound for the air (R272, R273). -/
structure Frame where
  typ : Nat
  /-- The TEP message: TYPE, TSN and fields. -/
  msg : List Byte
  dst : Dst
  /-- Key index: 1 link, 2 group, 3 join (R113). -/
  key : Nat
  /-- Launch instant of a timed frame, ns (R281). -/
  launch : Option Nat
  /-- Persistent until this instant, ns (R277). -/
  persist : Option Nat
  owner : Owner
  /-- The secured PSDU; nothing before it leaves its queue (R273). -/
  psdu : Option (List Byte)
deriving DecidableEq, Repr

/-- What a packet in the switch is. -/
inductive Body where
  | raw (l : List Byte)
  | tep (f : Frame)
  /-- A level command to bus gear: EPA, level, CCT, fade time in 10 ms (R245). -/
  | bus (epa level cct fade : Nat)
deriving DecidableEq, Repr

/-! ### SWC (chapter 11) -/

/-- A descriptor: one replica of a packet in a queue (R298). -/
structure Desc where
  /-- The packet; its replicas share it. -/
  id : Nat
  queue : Nat
  port : Nat
  /-- Enqueue sequence on its port (R301). -/
  seq : Nat
  len : Nat
  tenant : Nat
  cls : Nat
  /-- 0 green, 1 yellow, 2 red. -/
  colour : Nat
  ingress : Nat
  hmq : Nat
  body : Body
deriving DecidableEq, Repr

/-- The cells of a packet, in order, held until its last replica leaves. -/
structure CellRef where
  id : Nat
  cells : List Nat
deriving DecidableEq, Repr

/-- A claimed cell: its owner tag (2 HMQ, 3 CPU, 4 HOST), its link and its 256 bytes (Table 11.2, R310). -/
structure Claimed where
  cell : Nat
  tag : Nat
  link : Nat
  data : List Byte
deriving DecidableEq, Repr

/-- The buckets of a tenant's marker, in 1/4,000,000 byte, and the `clk` of their last refill (R303). -/
structure Marker where
  tenant : Nat
  tp : Nat
  tc : Nat
  at_ : Nat
deriving DecidableEq, Repr

structure SwcState where
  /-- Every queued descriptor, each queue in its order. -/
  q : List Desc
  nextId : Nat
  refs : List CellRef
  claims : List Claimed
  /-- Next enqueue sequence of each port. -/
  seqs : List Nat
  /-- Deficits of (port, class), and the class each port's round stands at (R300). -/
  deficits : List (Nat × Nat × Nat)
  turns : List (Nat × Nat)
  markers : List Marker
  /-- H words of SWC and HMQ not yet in effect: offset and `clk` of the write (Table 2.14, R306). -/
  writeAt : List (Nat × Nat)
  /-- Buffer banks retired: no free cell of theirs is given out any more (R315). -/
  retired : List Nat
deriving DecidableEq, Repr

/-! ### HMQ (chapter 11) -/

/-- A word of a queue: data, END, POISON (an abort word). -/
structure HWord where
  data : Nat
  fin : Bool
  poison : Bool
deriving DecidableEq, Repr

/-- A host message queue: 11-bit pointers, the buffer, the two host-side banks (R317). -/
structure Hq where
  wp : Nat
  rp : Nat
  buf : List HWord
  active : List HWord
  idle : List HWord
  /-- Discarding up to the next HMQ_PUSH_END (R320). -/
  discard : Bool
  /-- `clk` of the last push into the active bank of a down queue. -/
  pushAt : Nat
  /-- `clk` of the last pop, or of the end of emptiness, and whether the stale notice has been given (R323). -/
  popAt : Nat
  stale : Bool
deriving DecidableEq, Repr

/-! ### RAD (chapter 10) -/

/-- The frame a channel has in service, after it left its queue. -/
structure InService where
  frame : Frame
  be : Nat
  nb : Nat
  retries : Nat
  /-- `clk` at which the backoff ends. -/
  backoffAt : Nat
  /-- The frame waits for ledger credit (R288). -/
  credit : Bool
deriving DecidableEq, Repr

/-- A transmission in progress: what, its start and end (`clk`). -/
structure Tx where
  /-- 0 frame in service, 1 timed frame, 2 acknowledgement. -/
  kind : Nat
  frame : Frame
  start : Nat
  stop : Nat
  /-- A wake-up train leads it. -/
  train : Bool
deriving DecidableEq, Repr

/-- A prepared or waiting timed frame (R281). -/
structure Timed where
  frame : Frame
  /-- It is secured, and this much airtime is reserved in the ledger, µs. -/
  ready : Option Nat
  /-- `clk` before which it cannot start: the end of a conflicting transmission. -/
  notBefore : Nat
  late : Bool
deriving DecidableEq, Repr

/-- A pending hardware acknowledgement: `clk` of its instant, the destination, and e (R280). -/
structure AckDue where
  at_ : Nat
  ext : Option Nat
  epa : Nat
  e : Int
deriving DecidableEq, Repr

/-- A listening window after a unicast frame (R277): its frame, whether that was timed, its bounds (`clk`), and whether
the antenna port transmitted during it. -/
structure Listen where
  frame : Frame
  timed : Bool
  opens : Nat
  closes : Nat
  lost : Bool
deriving DecidableEq, Repr

structure Chan where
  cur : Option InService
  /-- Timed unicast frames whose launch was not acknowledged, waiting for their untimed retries. -/
  again : List Frame
  tx : Option Tx
  timed : List Timed
  ack : Option AckDue
  window : Option Listen
  /-- A reception in progress: `clk` of its SFD. -/
  rxFrom : Option Nat
  /-- That reception has been lost (R278). -/
  rxLost : Bool
  /-- Substitution in progress: no start before CHANNEL_RESUMES (R292). -/
  swap : Bool
  /-- The channel's own window, newest bucket first (R286). -/
  share : List Nat
  /-- CCA energies of the last second, dBm, with their `clk`. -/
  noise : List (Nat × Int)
deriving DecidableEq, Repr

/-- What an endpoint's CSL IE taught: `clk` of the frame, the next sample's distance from it (counts of 2 ns), and the
period (ms) (R284). -/
structure Phase where
  epa : Nat
  at_ : Nat
  phase : Nat
  period : Nat
deriving DecidableEq, Repr

/-- Outcomes of a frame (R275). -/
inductive Outcome where
  | sent | acked | noAck | refused | discarded
deriving DecidableEq, Repr

structure RadState where
  chans : List Chan
  /-- Windows of the sub-bands, newest bucket first (R285). -/
  ledger : List (List Nat)
  phases : List Phase
  /-- NT second of the last TIME frames queued (R282). -/
  timeAt : Nat
  /-- `clk` at which the running ledger second began (R285). -/
  secAt : Nat
  /-- Spare transceiver: it failed or is in use; channels FAILED (R293), kept in NVM. -/
  failed : List Nat
  /-- The outcomes returned to the blocks that queued frames, newest first: owner, TYPE and outcome (R275). -/
  outcomes : List (Owner × Nat × Outcome)
deriving DecidableEq, Repr

/-! ### BBN, MZL, HBR and USB (chapter 13) -/

/-- A Mistazil frame as sent (Table 13.6). -/
structure MzFrame where
  kind : Nat
  adj : Bool
  dst : Nat
  src : Nat
  tag : Nat
  payload : List Byte
deriving DecidableEq, Repr

/-- A frame that waits on a link: whether it came in on the other link, whose credit returns when it leaves. -/
structure MzOut where
  frame : MzFrame
  transit : Bool
deriving DecidableEq, Repr

/-- One end of a Mistazil link (R361, R362). -/
structure MzLink where
  queue : List MzOut
  /-- Credits held: REQ, RSP, TIME/LEASE, DATA, and the pool of REQ and RSP in BACKOFF (R368). -/
  credits : List Nat
  /-- The classes whose last frame sent was a transit frame. -/
  last : List Nat
  /-- `clk` since when the next REQ has waited for credit. -/
  blockedAt : Option Nat
deriving DecidableEq, Repr

/-- Where a REQ of this module comes from. -/
inductive ReqFrom where
  /-- The HSPI operation with this number. -/
  | hspi (seq : Nat)
  /-- The RAF request of a source: IP address, port and SEQ. -/
  | raf (ip port seq : Nat)
  | usb
  /-- A HOST_HB passed on (R375). -/
  | heartbeat
deriving DecidableEq, Repr

/-- A REQ without its RSP (R362). -/
structure Req where
  tag : Nat
  pos : Nat
  link : Nat
  at_ : Nat
  origin : ReqFrom
deriving DecidableEq, Repr

structure MzState where
  links : List MzLink
  reqs : List Req
  nextTag : Nat
  /-- MZ_A has had a link since the cold start (R364). -/
  aSeen : Bool
  /-- `clk` of the last ENUM sent or answered that no ENUM_DONE has followed (R364). -/
  enumAt : Option Nat
  /-- When each position last answered: position and `clk` (R367). -/
  answered : List (Nat × Nat)
  /-- `clk` of the last IRQ frame sent, and of the last TIME exchange (R363, R369). -/
  irqAt : Nat
  timeAt : Option Nat
  /-- Exchange number of the last T_REQ. -/
  timeSeq : Nat
deriving DecidableEq, Repr

/-- A source of RAF requests: the last SEQ accepted, the response sent, and `clk` of its last use (R373). -/
structure RafSrc where
  ip : Nat
  port : Nat
  seq : Nat
  rsp : List Byte
  used : Nat
deriving DecidableEq, Repr

/-- A RAF request being performed (R373): its header, the operations to come (16 bytes each) and those answered. -/
structure RafJob where
  ip : Nat
  port : Nat
  /-- The BB port it came by. -/
  via : Nat
  hdr : List Byte
  todo : List (List Byte)
  done : List Byte
  /-- While the next operation is answered RETRY: `clk` until which it is retried, and at which it is tried next. -/
  limit : Option Nat
  tryAt : Option Nat
deriving DecidableEq, Repr

structure BbState where
  /-- BBN_RAF_EPOCH in NVM (R372). -/
  epoch : Nat
  srcs : List RafSrc
  jobs : List RafJob
  /-- Sequence number of the module's own RAF messages. -/
  seq : Nat
  /-- `clk` of the last MODULE_HB (R374). -/
  hbAt : Option Nat
  /-- Ring owner: sequence of the last check, `clk` of it, checks missing in a row, and whether the last one has come
  back (R371). -/
  ringSeq : Nat
  ringAt : Nat
  missing : Nat
  back : Bool
  /-- `clk` until which a port that has come up stays out of transit (R371). -/
  holdUntil : List (Nat × Nat)
  /-- `clk` at which each port last changed speed (R370). -/
  altAt : List Nat
deriving DecidableEq, Repr

/-- An HSPI operation in the bridge: posted, or in a fetch slot (R357, R358). -/
structure HostOp where
  seq : Nat
  /-- The fetch slot; nothing for a posted write. -/
  slot : Option Nat
  cmd : Nat
  addr : Nat
  data : List Byte
  /-- A destructive read (R360). -/
  destr : Bool
  begun : Bool
  /-- Its status and read data, and `clk` of its completion. -/
  result : Option (Nat × Nat)
  doneAt : Nat
deriving DecidableEq, Repr

structure HbState where
  ops : List HostOp
  nextSeq : Nat
deriving DecidableEq, Repr

/-- A USB access in progress (R378): READ or WRITE, position, offset, words to come and words done. -/
structure UsbXfer where
  write : Bool
  pos : Nat
  adr : Nat
  count : Nat
  words : List Nat
  got : List Byte
  /-- While an access is answered RETRY: `clk` until which it is retried, and at which it is tried next (R378). -/
  limit : Option Nat
  tryAt : Option Nat
deriving DecidableEq, Repr

structure UsbState where
  /-- Outcome of the last WRITE: status code, words performed, offset of the first word not performed. -/
  result : Nat × Nat × Nat
  xfer : Option UsbXfer
deriving DecidableEq, Repr

/-- A link at link-up, with the credits of R362 and the pool of R368. -/
def MzLink.fresh : MzLink := { queue := [], credits := [16, 16, 8, 128, 32], last := [], blockedAt := none }

def MzState.fresh : MzState :=
  { links := [.fresh, .fresh], reqs := [], nextTag := 0, aSeen := false, enumAt := none, answered := [], irqAt := 0
    timeAt := none, timeSeq := 0 }

def BbState.fresh (epoch : Nat) : BbState :=
  { epoch := epoch, srcs := [], jobs := [], seq := 0, hbAt := none, ringSeq := 0, ringAt := 0, missing := 0, back := false
    holdUntil := [], altAt := [0, 0] }

def UsbState.fresh : UsbState := { result := (0, 0, 0), xfer := none }

/-! ### MTR (chapter 14) -/

/-- What a voltage set keeps of its zero crossings (R388, R389): `clk` of the last accepted crossing, of the first of the
running window and of the window's start, crossings accepted since the first, and a window that has ended: its span from
first to last crossing in counts of 2 ns (nothing for a nominal window). -/
structure SetRun where
  last : Option Nat
  first : Option Nat
  start : Nat
  count : Nat
  ended : Option (Option Nat)
deriving DecidableEq, Repr

/-- A pulse generator (R399, R400): its residue and the energy spread over the interval that began at `clk` `start`, both
in units of `energyDen`; the due instant of the last pulse; the end of the running pulse; when the output has been low for
long enough; and the widths of the pulses that wait. -/
structure PulseRun where
  residue : Int
  spread : Nat
  start : Nat
  lastDue : Option Nat
  highUntil : Option Nat
  lowUntil : Nat
  waiting : List Nat
deriving DecidableEq, Repr

/-- A reconciliation window (R401): its start and length in counts of FRC, E_FDR and E_EP in mWh, the sum of AO_W × level
over its intervals, and the endpoints that have reported energy. -/
structure RecRun where
  feeder : Nat
  start : Nat
  len : Nat
  fdr : Nat
  ep : Nat
  ao : Nat
  heard : List Nat
deriving DecidableEq, Repr

structure MtrState where
  /-- The remainder of each accumulator: feeder times 7 plus quantity (R393). -/
  rems : List Nat
  /-- Energy of the running interval already transferred at a freeze sample, in the same order (R395, R399). -/
  carry : List Nat
  /-- `clk` of the last interval's end. -/
  intAt : Nat
  sets : List SetRun
  pulses : List PulseRun
  recs : List RecRun
  /-- Feeders in a run of windows: 1 LOSS, 2 EXCESS (R402). -/
  runs : List (Nat × Nat)
  /-- Compensation evaluated and not yet in force: c_g, c_p of each channel (R386). -/
  comps : List (Int × Int)
  /-- The back bank of the harmonic results: channel and 64 words; the sets it has windows of; and whether it is complete
  (R398). -/
  back : List (Nat × List Nat)
  fresh : List Nat
  ready : Bool
  /-- The freeze sample of a pending FREEZE_ALL: an instant in ns, 0 for the next sample (R395). -/
  freezeAt : Option Nat
  /-- A substitution being trimmed: channel, modulator and `clk` of its start (R383). -/
  trims : List (Nat × Nat × Nat)
  /-- Channels lost, in NVM (R384). -/
  lost : List Nat
deriving DecidableEq, Repr

def PulseRun.fresh : PulseRun :=
  { residue := 0, spread := 0, start := 0, lastDue := none, highUntil := none, lowUntil := 0, waiting := [] }

def MtrState.init (lost : List Nat) : MtrState :=
  { rems := List.replicate 84 0, carry := List.replicate 84 0, intAt := 0
    sets := List.replicate 4 { last := none, first := none, start := 0, count := 0, ended := none }
    pulses := List.replicate 16 .fresh, recs := [], runs := [], comps := [], back := [], fresh := [], ready := false
    freezeAt := none, trims := [], lost := lost }


/-! ### UPD (chapter 16) -/

/-- A firmware bank (Tables 16.5, 16.6). -/
structure Bank where
  st : Nat
  fail : Nat
  /-- The bank holds the bundle written at manufacture, whose bytes the spec does not give. -/
  factory : Bool
  /-- Blocks written: index and 4,096 bytes. -/
  blocks : List (Nat × List Byte)
  /-- Blocks whose bit is set in the bitmap (NVM). -/
  bitmap : List Nat
  /-- From the header of block 0, once it passed its checks. -/
  secVer : Nat
  version : Nat
  abi : Nat
  total : Nat
  coldOnly : Bool
  digest : List Byte
deriving DecidableEq, Repr

/-- One boot selector copy (Table 16.7). -/
structure Selector where
  gen : Nat
  active : Nat
  fired : Nat
  trial : Nat
  trialMax : Nat
  confirmS : Nat
deriving DecidableEq, Repr

/-- An armed activation: its instant (ns), COLD, the deferrals made, and whether the selector write has begun. -/
structure Armed where
  at_ : Nat
  cold : Bool
  deferrals : Nat
  begun : Bool
deriving DecidableEq, Repr

/-- A target of an endpoint firmware campaign (R439 to R442). -/
structure FwTarget where
  epa : Nat
  /-- The first 256-block window that holds a missing block and its map, as last reported. -/
  first : Nat
  map : Nat
  complete : Bool
  /-- FW_COMMIT has been sent. -/
  committed : Bool
  /-- Consecutive map requests without an answer. -/
  silent : Nat
  result : Option Nat
deriving DecidableEq, Repr

/-- A campaign (R439): its loaded blocks, its targets and its rounds. -/
structure Campaign where
  run : Bool
  blocks : List (Nat × List Byte)
  targets : List FwTarget
  rounds : Nat
  installed : Nat
deriving DecidableEq, Repr

/-- A half of a block in processor SRAM waiting for its partner (R425). -/
structure Half where
  target : Nat
  index : Nat
  block : Nat
  part : Nat
  data : List Byte
deriving DecidableEq, Repr

/-- The code of an engine: the image it came from (0 bank A, 1 bank B, 2 recovery) and that image's digest. -/
structure Code where
  image : Nat
  digest : List Byte
deriving DecidableEq, Repr

/-- A programmable engine (R16, R17): what it runs, nothing while it is held in reset; and the code in its inactive program
memory, where the engine has one and a swap is to come. -/
structure Engine where
  runs : Option Code
  loaded : Option Code
deriving DecidableEq, Repr

structure UpdState where
  /-- The programmable engines: 0 the light field engine, 1 to 9 the radio sequencers, 10 and 11 the metering DSPs, 12 the drive
  sequencer. -/
  engines : List Engine
  banks : List Bank
  /-- The three boot selector copies; nothing where one is not intact. -/
  copies : List (Option Selector)
  /-- The running image: 0 bank A, 1 bank B, 2 recovery. -/
  running : Nat
  /-- The running image is on trial. -/
  glaze : Bool
  armed : Option Armed
  /-- UPD_CONFIRM_LEFT while the count stands, and `clk` at which it ends while it runs (R436). -/
  confirmLeft : Nat
  confirmAt : Option Nat
  /-- CONFIRM is verifying the other bank. -/
  confirming : Bool
  /-- VERIFY is to run again after the next entry to FIRING or SOAK (R430). -/
  rerun : Bool
  /-- The bank that BEGIN last acted on while the recovery image runs (R429). -/
  work : Nat
  halves : List Half
  camps : List Campaign
  secMin : Nat
deriving DecidableEq, Repr


/-! ### PAIR (chapter 17) -/

/-- A mirror record: SPACE, WORD, INDEX and VALUE (R449). -/
structure MirRec where
  space : Nat
  word : Nat
  index : Nat
  value : Nat
deriving DecidableEq, Repr

structure PairState where
  /-- `clk` at which PAIR_OWN was driven low while claiming; nothing otherwise (R447). -/
  claimAt : Option Nat
  /-- RENEW frames sent and not yet granted: SEQ, `clk` of sending, and whether it has been counted lost (R446). -/
  sentSeqs : List (Nat × Nat × Bool)
  /-- SEQ of the last RENEW sent, and of the last accepted. -/
  seqOut : Nat
  seqIn : Option Nat
  /-- `clk` of the lease expiry, from the first GRANT on, and of the standby's deadline. -/
  expiry : Option Nat
  deadline : Nat
  /-- `clk` at which RENEW is next due (R446). -/
  renewAt : Nat
  /-- `clk` at which the election began or a RENEW or CLAIM was last heard (R447, R458). -/
  electAt : Nat
  /-- `clk` of the release, while RELEASED (R457). -/
  releasedAt : Nat
  /-- The partner's FLAGS, COND, ROLE and ACT_SEC of its last lease frame. -/
  peerFlags : Nat
  peerCond : Nat
  peerActSec : Nat
  /-- Standby: SEQ and PART expected, the records collected, whether the FULL frames so far have come without a gap, and the
  `clk` of the last apply (R450). -/
  nextSeq : Nat
  nextPart : Nat
  parts : List MirRec
  full : Bool
  appliedAt : Nat
  /-- The next GRANT requests RESYNC. -/
  wantResync : Bool
  /-- Active: a full copy is asked for; the mirrored words as last sent. -/
  sendFull : Bool
  mirrored : List (Nat × Word)
  /-- Active: airtime charged to each sub-band since the last delta, µs. -/
  aired : List Nat
  /-- HANDOVER waits for a GRANT of this MIRROR_SEQ; nothing before the delta was sent (R456). -/
  handover : Option (Option Nat)
  /-- Shadow ledger windows of the sub-bands, newest bucket first (R450). -/
  ledger : List (List Nat)
deriving DecidableEq, Repr


/-! ### HLT (chapter 18) -/

/-- A unit waiting for a substitution: kind (Table 18.3), unit number, and whether it failed outright. -/
structure Waiting where
  kind : Nat
  unit : Nat
  failed : Bool
deriving DecidableEq, Repr

structure HltState where
  /-- A thermal trip holds NETWORK and COMPUTE in reset (R462). -/
  hold : Bool
  /-- `clk` at which T_J last rose to THROTTLE or a step was last added; nothing while T_J is below (R461). -/
  throttleFrom : Option Nat
  /-- `clk` since when T_J has been below RESTORE without a break, or since the last restore step (R461). -/
  coolFrom : Option Nat
  /-- No transmission starts: VRF fell below 3.00 V (R463). -/
  vrfHold : Bool
  /-- Rails whose warning stands: 0 VCORE, 1 VSYS, 2 VAUX, 3 VRF, 4 to 7 VIO_F0 to VIO_F3 (R463). -/
  warned : List Nat
  /-- Spares left of kinds 0 to 5, kept in NVM (R467). -/
  spares : List Nat
  /-- Spare numbers next to be taken of kinds 0 to 5. -/
  nextSpare : List Nat
  /-- Units in service: buffer banks, context banks, lanes, radio channels, metering channels, log records. -/
  caps : List Nat
  /-- HLT_SUBST_LAST, kept in NVM. -/
  substLast : Nat
  /-- Units retired with no spare left: kind and unit. -/
  retired : List (Nat × Nat)
  /-- Spares in service: kind, unit and spare, kept in NVM. -/
  subs : List (Nat × Nat × Nat)
  waiting : List Waiting
  /-- Kinds with a substitution in progress, and its unit and spare. -/
  busy : List (Nat × Nat × Nat)
  /-- SECDED corrections of each context bank with the `clk` of each (Table 18.3). -/
  ecc : List (Nat × Nat)
deriving DecidableEq, Repr

/-! ### The machine -/

structure State where
  /-- Register words that differ from their reset value: module offset and word, offsets rising. -/
  regs : List (Nat × Word)
  /-- For a word with an H write not yet in effect: the word in force (R61). -/
  shadow : List (Nat × Word)
  /-- Elapsed time in counts of 2 ns: the model's own. -/
  clk : Nat
  /-- How many free values the run has used: the model's own. -/
  free : Nat
  /-- What the module has sent, newest first: the model's own record. -/
  sent : List Sent
  /-- Commands waiting, first in, first out. -/
  pending : List Instr
  sys : SysState
  pwr : PwrState
  emb : EmbState
  cfg : CfgState
  key : KeyState
  log : LogState
  ntu : NtuState
  epc : EpcState
  /-- RAR shadows: offset of the low word, and the snapshot that a high read or another low read returns (R12). -/
  rar : List (Nat × Nat)
  /-- The NVM context snapshot. -/
  nvm : Option Snapshot
  sch : SchState
  /-- Latched words: offset, and what the last read of the latching word captured (R492). -/
  latch : List (Nat × Word)
  drv : DrvState
  lfe : LfeState
  trn : TrnState
  lbus : LbusState
  swc : SwcState
  hmq : List Hq
  rad : RadState
  mz : MzState
  bb : BbState
  hb : HbState
  usb : UsbState
  mtr : MtrState
  upd : UpdState
  pair : PairState
  hlt : HltState
deriving DecidableEq, Repr

/-- The module right after an ember reset: VBAT applied, every other domain unpowered (Table 1.6). -/
def State.reset : State where
  regs := []
  shadow := []
  clk := 0
  free := 0
  sent := []
  pending := []
  sys := { evtHold := [], evtPend := [], lastUnplanned := none }
  pwr := { mode := .ember, vaux := false, vsys := false, soakFrom := 0, idleFrom := 0,
           idleWarned := false, avsTarget := 800, avsReq := none, avsAcked := false, rc0At := none,
           pfail := false, snapOld := false, vauxAt := 0, avsAt := none, entry := none, latched := 0, trigger := false,
           wokeAt := none, tcxo := [], unlock := 0 }
  emb := { rtc := 0, secAt := 0, queue := [], periodAt := none, por := true, doorAtLoss := 0, tampAtLoss := 0 }
  cfg := { cfgf := [], areas := [.blank, .blank, .blank], highestGen := 0, image := none, baseline := [], lastGen := 0,
           storing := none, storeJoins := [], digests := [], stale := [], reqAt := none, starts := 0 }
  key := { lc := 0,
           slots := [
             { idx := 0, exhausted := false, typ := 2, usage := 0x40, lc := 0x1F, expireReset := false,
               uses := 0xFFFFFFFF, key := .factory 0 },
             { idx := 1, exhausted := false, typ := 6, usage := 0x80, lc := 0x1F, expireReset := false,
               uses := 0xFFFFFFFF, key := .factory 1 },
             { idx := 2, exhausted := false, typ := 5, usage := 0x02, lc := 0x1F, expireReset := false,
               uses := 0xFFFFFFFF, key := .factory 2 },
             { idx := 3, exhausted := false, typ := 5, usage := 0x100, lc := 0x1F, expireReset := false,
               uses := 0xFFFFFFFF, key := .factory 3 }],
           banks := [], sessions := [], intent := none, lcNonce := [], waiting := [], linkKeys := [],
           rootKcv := none, attCtr := 0 }
  log := { staged := [], recs := [], head := 0, wins := [], optime := 0, pcycle := 0, clearing := none }
  ntu := { frc := 0, fb := 0, tb := 0, rate := 0, phase := 0, slew := 0, step := none,
           srcs := List.replicate 5 { st := 0, meas := [], good := 0, lastAt := 0, disagree := false, badAt := none,
                                      ok := false, passed := false },
           lockedAt := 0, rates := [], nvmRate := 0, nvmOfs := 37, capAt := none, ofsChg := false, pps := none,
           exch := none, recAt := 0 }
  epc := { runs := [], toCommission := [], openAt := 0, joins := [], snapCtr := [], snapping := false, lostBanks := [], coldAt := 0, startAt := 0 }
  rar := []
  nvm := none
  sch := { lastSec := none, prevDate := none, wasValid := false, holdAt := none, solarBusy := false, fbDates := [],
           base := [] }
  latch := []
  drv := { units := List.replicate 92 { level := 0, cct := 0, lv := none, ct := none, origin := none, cOrigin := none,
                                          driven := false },
           loads := [],
           chs := List.replicate 64 { it := 0, peak := 0, rampAt := 0, inrushAt := 0, stoppedAt := 0, runAt := 0,
                                      byGroup := false, pts := [], comp := [], tStart := 0, tStep := 0, tFail := 0,
                                      p0 := 0, toff := 0, phase := 0, used := 0, pEnd := 0, stopWin := false },
           grps := List.replicate 8 { uv := false, ocAt := 0, rem := 0 },
           pads := [], chases := [], energy := [], scanAt := 0, scanDue := false }
  lfe := { sources := [], onUntil := [], intake := [], mem := [], emerg := false, clearing := false, closed := false,
           lastTick := 0, ticked := false, opened := none, ticks := 0 }
  trn := { slots := [], pats := [], blocked := [], emergSeen := false }
  lbus := { aoPads := List.replicate 12 .unpowered, clampAt := 0,
            ports := List.replicate 16 { levels := [], queue := [], cur := [], tx := none, slot := false, last := none, attempts := 0, waiting := false,
                                         committed := [], levelAt := 0, energyAt := 0, diagAt := 0, answered := 0, cycle := [] },
            gear := [], events := [], aoBad := List.replicate 12 0, aoGood := List.replicate 12 0, loops := [], outs := [],
            polls := [], rawPort := none }
  swc := { q := [], nextId := 0, refs := [], claims := [], seqs := List.replicate 20 0, deficits := [], turns := [],
           markers := [], writeAt := [], retired := [] }
  hmq := List.replicate 32 { wp := 0, rp := 0, buf := [], active := [], idle := [], discard := false, pushAt := 0,
                             popAt := 0, stale := false }
  rad := { chans := List.replicate 8 { cur := none, again := [], tx := none, timed := [], ack := none, window := none,
                                       rxFrom := none, rxLost := false, swap := false, share := [], noise := [] },
           ledger := List.replicate 8 [], phases := [], timeAt := 0, secAt := 0, failed := [], outcomes := [] }
  mz := .fresh
  bb := .fresh 0
  hb := { ops := [], nextSeq := 0 }
  usb := .fresh
  mtr := .init []
  upd := {
    engines := List.replicate 13 { runs := none, loaded := none },
    banks := [
      { st := 5, fail := 0, factory := true, blocks := [], bitmap := [], secVer := (Config.bundleSecVer 0).toNat,
        version := (Config.bundleVersion 0).toNat, abi := (Config.bundleAbi 0).toNat, total := 0, coldOnly := false,
        digest := Config.bundleDigest 0 },
      { st := 0, fail := 0, factory := false, blocks := [], bitmap := [], secVer := 0, version := 0, abi := 0, total := 0,
        coldOnly := false, digest := [] }],
    copies := List.replicate 3 (some { gen := 1, active := 0, fired := 0, trial := 0, trialMax := 3, confirmS := 600 }),
    running := 0, glaze := false, armed := none, confirmLeft := 0, confirmAt := none, confirming := false, rerun := false,
    work := 0, halves := [], camps := List.replicate 4 { run := false, blocks := [], targets := [], rounds := 0, installed := 0 },
    secMin := 0 }
  pair := { claimAt := none, sentSeqs := [], seqOut := 0, seqIn := none, expiry := none, deadline := 0, renewAt := 0,
            electAt := 0, releasedAt := 0, peerFlags := 0, peerCond := 0, peerActSec := 0, nextSeq := 0, nextPart := 0,
            parts := [], full := false, appliedAt := 0, wantResync := false, sendFull := false, mirrored := [],
            aired := List.replicate 8 0, handover := none, ledger := List.replicate 8 [] }
  hlt := { hold := false, throttleFrom := none, coolFrom := none, vrfHold := false, warned := [],
           spares := [4, 1, 2, 1, 4, 128], nextSpare := [0, 0, 0, 0, 0, 0], caps := [64, 16, 16, 8, 48, 8192],
           substLast := 0, retired := [], subs := [], waiting := [], busy := [], ecc := [] }

end Sys2Proof.Machine
end

