-- ==== Sys2Proof/Machine/Ops.lean ====
section
/-! DEFINITION. The named operations every meaning is built from: the register store and its reset values,
fields, counters, interrupts, command status, elapsed and network time, free values, and the
firing log. -/

namespace Sys2Proof.Machine

/-! ### The register map -/

/-- Block base addresses (Table 1.8): the registers of the block an offset lies in. The EPC control registers
stand at 0x0000_2000 (Table 4.8). -/
def blkMap (a : Nat) : List RegDesc :=
  if a < 0x10000 then mapSys
  else if a < 0x20000 then mapCfg
  else if a < 0x30000 then mapPwr
  else if a < 0x40000 then mapEmb
  else if a < 0x50000 then mapHlt
  else if a < 0x60000 then mapLog
  else if a < 0x70000 then mapKey
  else if a < 0x80000 then mapUpd
  else if a < 0x90000 then mapNtu
  else if a < 0xA0000 then mapPair
  else if a < 0x100000 then []
  else if a < 0x300000 then mapEpc
  else if a < 0x340000 then mapSch
  else if a < 0x380000 then mapLfe
  else if a < 0x400000 then mapTrn
  else if a < 0x440000 then mapDrv
  else if a < 0x480000 then mapLbus
  else if a < 0x500000 then mapMtr
  else if a < 0x580000 then mapRad
  else if a < 0x5C0000 then mapSwc
  else if a < 0x600000 then mapHmq
  else if a < 0x640000 then mapBbn
  else if a < 0x680000 then mapMzl
  else if a < 0x6C0000 then mapHbr
  else if a < 0x700000 then mapUsb
  else []

/-- The indices at which a distance from a register's base falls on a word of it. -/
def dimsIdx : List (Nat × Nat) → Nat → Option (List Nat)
  | [], r => if r = 0 then some [] else none
  | (c, st) :: t, r => if r / st < c then (dimsIdx t (r % st)).map (r / st :: ·) else none

/-- The indices of a word of register `d`, nothing where the offset is no word of it. -/
def RegDesc.idx (d : RegDesc) (a : Nat) : Option (List Nat) :=
  if a < d.base then none else dimsIdx d.dims (a - d.base)

/-- The register and indices at a word offset, nothing in reserved space (R6, R27). -/
def findReg (a : Nat) : Option (RegDesc × List Nat) :=
  (blkMap a).findSome? fun d => (d.idx a).map fun i => (d, i)

/-- Default speeds of the detection classes, 0.25 m/s (Table 6.3). -/
def classSpeeds : List Nat := [6, 20, 56, 44, 56, 20, 20, 20]

/-- Reset severity of an event (Table 18.6); an event with no row is INFO. -/
def eventSeverity (b e : Nat) : Nat :=
  let rows : List (Nat × List Nat) := [
    (0, [3]), (1, [3, 2, 2, 3, 2, 3, 2, 2]), (2, [3, 2]), (3, [1, 2]), (4, [2, 1, 4, 4, 2, 3, 1, 3]), (5, [1, 1]),
    (6, [2, 1, 2, 2, 2]), (7, [3, 2, 3, 2, 3, 3, 1, 2, 1, 3]), (8, [1, 2, 2, 3, 0]), (9, [3, 2, 4, 3, 3, 3]),
    (10, [0, 2, 1, 2, 3]), (11, [2]), (12, [4, 2, 3]), (13, [2, 3, 1, 2, 2, 3]), (14, [2, 3]), (15, [3, 3, 3]),
    (16, [3, 2, 2, 2, 2, 2, 2]), (17, [3]), (18, [2, 3]), (21, [3, 1]), (22, [2])]
  match rows.find? (·.1 == b) with
  | some (_, l) => if e = 0 then 0 else l.getD (e - 1) 0
  | none => 0

/-- The part of a word's reset value that depends on its index, or that the factory set. -/
def resetSpecial (base : Nat) (i : List Nat) : Nat :=
  let i0 := i.getD 0 0
  let i1 := i.getD 1 0
  if base = SYS_ID_SERIAL_LO.adr then Config.serial.toNat % 2 ^ 32
  else if base = SYS_ID_SERIAL_HI.adr then Config.serial.toNat / 2 ^ 32
  else if base = HLT_AVS_REF.adr then Config.avsRef.toNat
  else if base = LOG_MAP.adr 0 0 then i0 * 256 + eventSeverity i0 i1
  else if base = EPC_STATE.adr 0 then i0 * 65536
  else if base = SCH_SOLAR_FB.adr 0 then [21600, 64800, 19800, 66600, 18000, 68400, 43200].getD i0 0
  else if base = LFE_CLASS_CFG.adr 0 then classSpeeds.getD i0 0 * 256
  else if base = DRV_CURVE.adr 0 0 then (if i1 = 16 then 65535 else 4096 * i1)
  else if base = LBUS_AO_CURVE.adr 0 0 then (if i1 = 16 then 65535 else 4096 * i1)
  else if base = LBUS_ARC.adr 0 0 then divRound (254 * i1) 16
  else if base = MTR_CH_STAT.adr 0 then i0 * 2 ^ 24
  else if base = RAD_EUI_LO.adr then Config.radioEui.toNat % 2 ^ 32
  else if base = RAD_EUI_HI.adr then Config.radioEui.toNat / 2 ^ 32
  else if base = BBN_MAC_LO.adr then Config.mac.toNat % 2 ^ 32
  else if base = BBN_MAC_HI.adr then Config.mac.toNat / 2 ^ 32
  else if base = SWC_Q_CFG.adr 0 then (if i0 < 4096 then 16 else 2048)
  else if base = HBR_WIN.adr 0 then
    [0xB0010000, 0xB0010002, 0xB0010006, 0xB0010007, 0xB0010009].getD i0 (if i0 = 15 then 0x34000000 else 0)
  else 0

/-- The reset value of the word at an offset (the register tables). -/
def resetWord (a : Nat) : Word :=
  match findReg a with
  | none => 0
  | some (d, i) =>
    BitVec.ofNat 32 ((d.fields.foldl (fun n f => n + f.rst * 2 ^ f.lo) 0) ||| resetSpecial d.base i)

/-! ### The register store -/

/-- The word listed at an offset. -/
def regFind : List (Nat × Word) → Nat → Option Word
  | [], _ => none
  | (k, v) :: t, a => if k = a then some v else regFind t a

/-- The store with nothing listed at an offset. -/
def regDel : List (Nat × Word) → Nat → List (Nat × Word)
  | [], _ => []
  | (k, v) :: t, a => if k = a then t else (k, v) :: regDel t a

/-- The store with a word listed at an offset, offsets rising. -/
def regIns : List (Nat × Word) → Nat → Word → List (Nat × Word)
  | [], a, w => [(a, w)]
  | (k, v) :: t, a, w => if a < k then (a, w) :: (k, v) :: t else if k = a then (a, w) :: t else (k, v) :: regIns t a w

/-- The store is in its one form: offsets strictly rising, and no word equal to its reset value. -/
def regsWf (l : List (Nat × Word)) : Prop :=
  l.Pairwise (fun x y => x.1 < y.1) ∧ ∀ x ∈ l, x.2 ≠ resetWord x.1

/-- The word at an offset as last written by software or by the module. -/
def State.word (s : State) (a : Nat) : Word := (regFind s.regs a).getD (resetWord a)

/-- The same word as a number. -/
def State.rd (s : State) (a : Nat) : Nat := (s.word a).toNat

/-- A word takes a value. -/
def State.setWord (s : State) (a : Nat) (w : Word) : State :=
  { s with regs := if w = resetWord a then regDel s.regs a else regIns s.regs a w }

/-- A word takes a value given as a number. -/
def State.wr (s : State) (a n : Nat) : State := s.setWord a (BitVec.ofNat 32 n)

/-- Bits `[lo + w − 1 : lo]` of a number. -/
def bitsOf (n lo w : Nat) : Nat := n / 2 ^ lo % 2 ^ w

/-- A number with bits `[lo + w − 1 : lo]` replaced. -/
def putBits (n lo w v : Nat) : Nat :=
  n / 2 ^ (lo + w) * 2 ^ (lo + w) + v % 2 ^ w * 2 ^ lo + n % 2 ^ lo

/-- A field as last written. -/
def State.fld (s : State) (f : Fld) : Nat := bitsOf (s.rd f.adr) f.lo f.w

/-- A one-bit field is 1. -/
def State.bit (s : State) (f : Fld) : Bool := s.fld f == 1

/-- A signed field. -/
def State.sfld (s : State) (f : Fld) : Int := toSigned f.w (s.fld f)

/-- A field takes a value; the word's other bits stay. -/
def State.put (s : State) (f : Fld) (v : Nat) : State := s.wr f.adr (putBits (s.rd f.adr) f.lo f.w v)

/-- A one-bit field takes a truth value. -/
def State.putB (s : State) (f : Fld) (b : Bool) : State := s.put f (if b then 1 else 0)

/-- A signed field takes a value, saturating. -/
def State.putI (s : State) (f : Fld) (i : Int) : State := s.put f (ofSignedSat f.w i)

/-- A counter field rises by `n`, saturating at its largest value. -/
def State.bumpBy (s : State) (f : Fld) (n : Nat) : State :=
  s.put f (if s.fld f + n ≥ 2 ^ f.w then 2 ^ f.w - 1 else s.fld f + n)

/-- A counter field rises by one, saturating. -/
def State.bump (s : State) (f : Fld) : State := s.bumpBy f 1

/-- The value in force of a shadowed field: before its boundary, the value before the write (R61). -/
def State.cf (s : State) (f : Fld) : Nat :=
  bitsOf ((regFind s.shadow f.adr).getD (s.word f.adr)).toNat f.lo f.w

/-- The value in force of a shadowed one-bit field. -/
def State.cfB (s : State) (f : Fld) : Bool := s.cf f == 1

/-- The value in force of a shadowed signed field. -/
def State.cfI (s : State) (f : Fld) : Int := toSigned f.w (s.cf f)

/-- A boundary: pending H writes of the words in `[lo, hi)` take effect (R61). -/
def State.boundary (s : State) (lo hi : Nat) : State :=
  { s with shadow := s.shadow.filter fun x => x.1 < lo || hi ≤ x.1 }

/-- The words in `[lo, hi)` return to their reset values, with nothing pending. -/
def State.resetRange (s : State) (lo hi : Nat) : State :=
  { s with regs := s.regs.filter fun x => x.1 < lo || hi ≤ x.1
           shadow := s.shadow.filter fun x => x.1 < lo || hi ≤ x.1 }

/-! ### Time, free values and outputs -/

/-- Counts of 2 ns in a microsecond, a millisecond and a second. -/
def usec : Nat := 500
def msec : Nat := 500000
def secs : Nat := 500000000

/-- A value the spec leaves open (assumption 1). -/
def State.freeVal (s : State) : Nat := Config.freeNat s.free

/-- The next free value is a new one. -/
def State.useFree (s : State) : State := { s with free := s.free + 1 }

/-- `n` bytes drawn at random. -/
def State.random (s : State) (n : Nat) : List Byte := (List.range n).map fun k => Config.randomByte s.free k

/-- Something leaves the module. -/
def State.emit (s : State) (on : OutPort) (b : List Byte) : State := { s with sent := ⟨on, b⟩ :: s.sent }

/-- The 64-bit serial number as 8 little-endian bytes. -/
def serialBytes : List Byte := leBytes 8 Config.serial.toNat

/-! ### Modes and domains -/

/-- The VCORE islands are supplied (Table 0.3). -/
def State.coreOn (s : State) : Bool :=
  match s.pwr.mode with
  | .ember | .banked => false
  | _ => true

/-- A domain is powered and out of reset. A thermal trip holds NETWORK and COMPUTE in reset (R462). -/
def State.domUp (s : State) (d : Dom) : Bool :=
  match d with
  | .ember => true
  | .alwaysOn => s.pwr.mode != .ember
  | .drive | .meter => s.coreOn
  | .network | .compute => s.coreOn && !s.hlt.hold

/-- The domain of a block's registers, but for the words of `wordDom` (Table 1.1, R28). -/
def Blk.dom : Blk → Dom
  | .sys | .pwr | .emb | .hbr | .pair => .alwaysOn
  | .cfg | .hlt | .log | .key | .upd | .sch | .lfe | .trn => .compute
  | .ntu | .drv => .drive
  | .epc | .mtr => .meter
  | .lbus | .rad | .swc | .hmq | .bbn | .mzl | .usb => .network

/-- Words that lie in another domain than their block (Table 1.1): the AO, FIO and TS words of LBUS in DRIVE, the port timestamp
units of NTU in NETWORK, PAIR mirroring in COMPUTE. -/
def wordDom (a : Nat) : Option Dom :=
  if (0x440020 ≤ a ∧ a < 0x440040) ∨ (0x442000 ≤ a ∧ a < 0x444000) ∨ (0x444800 ≤ a ∧ a < 0x445000) ∨ (0x446000 ≤ a ∧ a < 0x447000) then
    some .drive
  else if 0x80064 ≤ a ∧ a < 0x80074 then some .network
  else if a = PAIR_MIRROR.adr ∨ a = PAIR_MIRROR_LAG.adr then some .compute
  else none

/-- An access to a block's registers is answered, not RETRY (R28). -/
def State.up (s : State) (b : Blk) : Bool := s.domUp b.dom

/-- The mode runs lighting under its own schedules: FIRING or SOAK. -/
def State.running (s : State) : Bool := s.pwr.mode == .firing || s.pwr.mode == .soak

/-- Something restarts the idle timer (R77). -/
def State.idleRestart (s : State) : State := { s with pwr := { s.pwr with idleFrom := s.clk, idleWarned := false } }

/-! ### The pair role (chapter 17) -/

/-- PAIR_STAT.ROLE: 0 NONE, 1 ELECTING, 2 ACTIVE, 3 STANDBY, 4 RELEASED. -/
def State.role (s : State) : Nat := s.fld PAIR_STAT.ROLE

/-- The module is the standby: its outputs are off and its mirrored words are not its own (R451, R452). -/
def State.standby (s : State) : Bool := s.role == 3

/-- The module issues commands: it is unpaired or active. A released or electing module holds its outputs and issues none
(R452; assumption 49), and from step 1 of an entry to BANKED on none is issued (Table 3.5). -/
def State.mayCommand (s : State) : Bool := (s.role == 0 || s.role == 2) && s.pwr.entry.isNone

/-- The module drives its outputs: a fade, a loaded comparator and a fast chase run on in DRIVE while it is unpaired, active or
electing (R22, R183, R213). A standby's outputs are off, and a released module's hold their last values (R452). -/
def State.drives (s : State) : Bool := s.role != 3 && s.role != 4 && s.pwr.entry.isNone

/-- Words that an active module mirrors (Table 17.4). -/
def mirroredWord (a : Nat) : Bool :=
  (0x100000 ≤ a && a < 0x300000 && a % 0x200 < 0x180) ||
    (0x381000 ≤ a && a < 0x382000 && a % 64 < 32) ||
    (0x382000 ≤ a && a < 0x382800 && (a % 64 == 0 || a % 64 == 24 || a % 64 == 28)) ||
    (0x401000 ≤ a && a < 0x402000 && (a % 64 == 0 || a % 64 == 32 || a % 64 == 36)) ||
    (0x442000 ≤ a && a < 0x442180 && (a % 32 == 4 || a % 32 == 12)) ||
    (0x440030 ≤ a && a < 0x44003C) || a == 0x202C

/-- What the standby's own schedules and engines do: no mirrored word is written, and nothing of DRIVE or of the
transitions moves (R451). -/
def State.quiet (s : State) (f : State → State) : State :=
  if s.standby then
    let t := f s
    { t with regs := (s.regs.filter fun x => mirroredWord x.1).foldl (fun l x => regIns l x.1 x.2)
               (t.regs.filter fun x => !mirroredWord x.1),
             drv := s.drv, trn := s.trn }
  else f s

/-- A set digest is stale: CFG_STAT.DIGEST_BUSY (R64). -/
def State.digestBusy (s : State) : Bool := !s.cfg.stale.isEmpty

/-! ### Network time -/

/-- T(F) of R328, in 2⁻¹⁶ ns, with the slew of the running millisecond. -/
def State.ntAt (s : State) (f : Nat) : Nat :=
  let d : Int := (f : Int) - s.ntu.fb
  let base : Int := d * 131072 + d * 131072 * s.ntu.rate / (2 ^ 41 : Nat)
  ((s.ntu.tb : Int) + base + d * s.ntu.slew / 500000).toNat

/-- Network time now, in 2⁻¹⁶ ns. -/
def State.ntSub (s : State) : Nat := s.ntAt s.ntu.frc

/-- Network time now, ns. -/
def State.nt (s : State) : Nat := s.ntSub / 65536

/-- Network time is valid (Table 12.1). -/
def State.ntValid (s : State) : Bool := s.bit NTU_STAT.VALID

/-- NT seconds, and the nanoseconds within the second. -/
def State.ntSec (s : State) : Nat := s.nt / 1000000000
def State.ntNs (s : State) : Nat := s.nt % 1000000000

/-- A target lies within ±549 s of the present, the range of a hardware time comparison (R11). -/
def State.inRange (s : State) (t : Nat) : Bool := t ≤ s.nt + 549000000000 && s.nt ≤ t + 549000000000

/-! ### Interrupts (R29, R31, R493) -/

/-- The status and enable registers of each block, by number (Table 1.10). -/
def irqRegs : List (Nat × Nat) := [
  (SYS_EVT_STAT.adr, SYS_EVT_EN.adr), (CFG_IRQ_STAT.adr, CFG_IRQ_EN.adr), (PWR_IRQ_STAT.adr, PWR_IRQ_EN.adr),
  (EMB_IRQ_STAT.adr, EMB_IRQ_EN.adr), (HLT_IRQ_STAT.adr, HLT_IRQ_EN.adr), (LOG_IRQ_STAT.adr, LOG_IRQ_EN.adr),
  (KEY_IRQ_STAT.adr, KEY_IRQ_EN.adr), (UPD_IRQ_STAT.adr, UPD_IRQ_EN.adr), (NTU_IRQ_STAT.adr, NTU_IRQ_EN.adr),
  (PAIR_IRQ_STAT.adr, PAIR_IRQ_EN.adr), (EPC_IRQ_STAT.adr, EPC_IRQ_EN.adr), (SCH_IRQ_STAT.adr, SCH_IRQ_EN.adr),
  (LFE_IRQ_STAT.adr, LFE_IRQ_EN.adr), (TRN_IRQ_STAT.adr, TRN_IRQ_EN.adr), (DRV_IRQ_STAT.adr, DRV_IRQ_EN.adr),
  (LBUS_IRQ_STAT.adr, LBUS_IRQ_EN.adr), (MTR_IRQ_STAT.adr, MTR_IRQ_EN.adr), (RAD_IRQ_STAT.adr, RAD_IRQ_EN.adr),
  (SWC_IRQ_STAT.adr, SWC_IRQ_EN.adr), (HMQ_IRQ_STAT.adr, HMQ_IRQ_EN.adr), (BBN_IRQ_STAT.adr, BBN_IRQ_EN.adr),
  (MZL_IRQ_STAT.adr, MZL_IRQ_EN.adr), (HBR_IRQ_STAT.adr, HBR_IRQ_EN.adr), (USB_IRQ_STAT.adr, USB_IRQ_EN.adr)]

/-- Block `b` has a status bit set whose enable is 1. -/
def State.blkIrq (s : State) (b : Nat) : Bool :=
  match irqRegs[b]? with
  | some (st, en) => (s.rd st &&& s.rd en) != 0
  | none => false

/-- SYS_IRQ_STAT: the block summary bits, and CASC at POS 0. -/
def State.irqStat (s : State) : Nat :=
  (List.range 24).foldl (fun n b => if s.blkIrq b then n + 2 ^ b else n) 0 +
  (if s.fld SYS_ID_SEG.POS = 0 ∧ (s.rd HBR_CASC_PEND_LO.adr ≠ 0 ∨ s.rd HBR_CASC_PEND_HI.adr ≠ 0) then 2 ^ 24 else 0)

/-- (SYS_IRQ_STAT AND SYS_IRQ_EN) is non-zero: the HOST_IRQ_N condition of R29. -/
def State.irqCond (s : State) : Bool := (s.irqStat &&& s.rd SYS_IRQ_EN.adr) != 0

/-- HOST_IRQ_N is asserted (R29). -/
def State.hostIrq (s : State) : Bool := s.bit SYS_IRQ_CTL.PIN_EN && s.irqCond

/-- A status bit is set. What follows from it (the summary bits, HOST_IRQ_N, event frames) is settled at the end of
the command (`settle`). -/
def State.raise (s : State) (f : Fld) : State := s.put f 1

/-! ### The firing log (R469 to R472) -/

/-- The LOG fields in force. -/
def State.logSev (s : State) (b e : Nat) : Nat :=
  let v := s.fld (LOG_MAP.SEV b e)
  if v > 4 then 4 else v

/-- A record takes its place in the staging buffer: after older records, in CODE order within one instant. A full
buffer gives up its lowest and oldest record to a more severe one (R471). -/
def stage (r : LogRec) (l : List LogRec) : List LogRec :=
  l.filter (·.at_ != r.at_) ++ (fun now => now.filter (·.code ≤ r.code) ++ [r] ++ now.filter (r.code < ·.code))
    (l.filter (·.at_ == r.at_))

/-- The lowest severity staged. -/
def minSev (l : List LogRec) : Nat := l.foldl (fun m r => min m r.sev) 7

/-- A record enters the staging buffer (R471). -/
def State.stageRec (s : State) (r : LogRec) : State :=
  if s.log.staged.length < 64 then { s with log := { s.log with staged := stage r s.log.staged } }
  else
    let m := minSev s.log.staged
    let s := s.bump LOG_CNT.LOST
    if m < r.sev then { s with log := { s.log with staged := stage r (s.log.staged.eraseP (·.sev == m)) } } else s

/-- The record of an event as it happens now (R469). -/
def State.mkRec (s : State) (b e flags : Nat) (param : List Byte) : LogRec :=
  { code := b * 256 + e, sev := s.logSev b e, cls := s.fld (LOG_MAP.CLASS b e), flags := flags
    optime := s.log.optime, pcycle := s.log.pcycle
    ntSec := if s.ntValid then s.ntSec % 2 ^ 32 else 0
    ntNs := if s.ntValid then 2 ^ 31 + s.ntNs else 0
    param := (param ++ List.replicate 8 0).take 8, at_ := s.clk }

/-- An event is logged: rate limits, then the staging buffer (R471, R472). In BANKED and EMBER no record is made. -/
def State.logEv (s : State) (b e : Nat) (param : List Byte) : State :=
  if !s.coreOn then s
  else
    let r := s.mkRec b e 0 param
    if b = 5 ∨ s.bit (LOG_RATE.OFF r.cls) then s.stageRec r
    else
      let burst := max 1 (s.fld (LOG_RATE.BURST r.cls))
      match s.log.wins.find? (·.cls == r.cls) with
      | none =>
        let w : RateWin := { cls := r.cls, endAt := s.clk + max 1 (s.fld (LOG_RATE.PERIOD_S r.cls)) * secs
                             written := 1, count := 0, first := 0, last := 0 }
        ({ s with log := { s.log with wins := s.log.wins ++ [w] } }).stageRec r
      | some w =>
        if w.written < burst ∨ r.sev = 4 then
          ({ s with log := { s.log with wins := s.log.wins.map fun (x : RateWin) =>
              if x.cls == r.cls then { x with written := x.written + 1 } else x } }).stageRec r
        else
          { s with log := { s.log with wins := s.log.wins.map fun (x : RateWin) =>
              if x.cls == r.cls then
                { x with count := x.count + 1, first := if x.count = 0 then r.code else x.first, last := r.code }
              else x } }

/-! ### Command status (R14, R15) -/

def stDone : Nat := 0
def stPending : Nat := 1
def stRefusedState : Nat := 2
def stRefusedAuth : Nat := 3
def stRefusedArg : Nat := 4
def stCheckFailed : Nat := 5
def stInterrupted : Nat := 6
def stTimeout : Nat := 7
def stNoResource : Nat := 8

/-- The CODE field of a block's command register, its CMD and STATUS fields, and its CMD_DONE bit where it has one. -/
structure CmdRegs where
  code : Fld
  cmd : Fld
  status : Fld
  done : Option Fld
deriving DecidableEq, Repr

/-- The command registers of each block that has them. KEY banks its own (R418). -/
def Blk.cmdRegs : Blk → Option CmdRegs
  | .cfg => some ⟨CFG_CMD.CODE, CFG_CMD_STAT.CMD, CFG_CMD_STAT.STATUS, some CFG_IRQ_STAT.CMD_DONE⟩
  | .pwr => some ⟨PWR_CMD.CODE, PWR_CMD_STAT.CMD, PWR_CMD_STAT.STATUS, none⟩
  | .emb => some ⟨EMB_CMD.CODE, EMB_CMD_STAT.CMD, EMB_CMD_STAT.STATUS, none⟩
  | .log => some ⟨LOG_CMD.CODE, LOG_CMD_STAT.CMD, LOG_CMD_STAT.STATUS, some LOG_IRQ_STAT.CMD_DONE⟩
  | .upd => some ⟨UPD_CMD.CODE, UPD_CMD_STAT.CMD, UPD_CMD_STAT.STATUS, some UPD_IRQ_STAT.CMD_DONE⟩
  | .ntu => some ⟨NTU_CMD.CODE, NTU_CMD_STAT.CMD, NTU_CMD_STAT.STATUS, some NTU_IRQ_STAT.CMD_DONE⟩
  | .pair => some ⟨PAIR_CMD.CODE, PAIR_CMD_STAT.CMD, PAIR_CMD_STAT.STATUS, some PAIR_IRQ_STAT.CMD_DONE⟩
  | .epc => some ⟨EPC_CMD.CODE, EPC_CMD_STAT.CMD, EPC_CMD_STAT.STATUS, some EPC_IRQ_STAT.CMD_DONE⟩
  | .sch => some ⟨SCH_CMD.CODE, SCH_CMD_STAT.CMD, SCH_CMD_STAT.STATUS, none⟩
  | .lfe => some ⟨LFE_CMD.CODE, LFE_CMD_STAT.CMD, LFE_CMD_STAT.STATUS, some LFE_IRQ_STAT.CMD_DONE⟩
  | .trn => some ⟨TRN_CMD.CODE, TRN_CMD_STAT.CMD, TRN_CMD_STAT.STATUS, some TRN_IRQ_STAT.CMD_DONE⟩
  | .drv => some ⟨DRV_CMD.CODE, DRV_CMD_STAT.CMD, DRV_CMD_STAT.STATUS, some DRV_IRQ_STAT.CMD_DONE⟩
  | .lbus => some ⟨LBUS_CMD.CODE, LBUS_CMD_STAT.CMD, LBUS_CMD_STAT.STATUS, some LBUS_IRQ_STAT.CMD_DONE⟩
  | .mtr => some ⟨MTR_CMD.CODE, MTR_CMD_STAT.CMD, MTR_CMD_STAT.STATUS, some MTR_IRQ_STAT.CMD_DONE⟩
  | .rad => some ⟨RAD_CMD.CODE, RAD_CMD_STAT.CMD, RAD_CMD_STAT.STATUS, some RAD_IRQ_STAT.CMD_DONE⟩
  | .swc => some ⟨SWC_CMD.CODE, SWC_CMD_STAT.CMD, SWC_CMD_STAT.STATUS, some SWC_IRQ_STAT.CMD_DONE⟩
  | .hmq => some ⟨HMQ_CMD.CODE, HMQ_CMD_STAT.CMD, HMQ_CMD_STAT.STATUS, some HMQ_IRQ_STAT.CMD_DONE⟩
  | .mzl => some ⟨MZL_CMD.CODE, MZL_CMD_STAT.CMD, MZL_CMD_STAT.STATUS, some MZL_IRQ_STAT.CMD_DONE⟩
  | .hbr => some ⟨HBR_CMD.CODE, HBR_CMD_STAT.CMD, HBR_CMD_STAT.STATUS, some HBR_IRQ_STAT.CMD_DONE⟩
  | .sys | .key | .hlt | .bbn | .usb => none

/-- The status a block's last command reports. -/
def State.cmdStatus (s : State) (b : Blk) : Nat :=
  match b.cmdRegs with
  | some r => s.fld r.status
  | none => 0

/-- The code of a block's last command. -/
def State.cmdCode (s : State) (b : Blk) : Nat :=
  match b.cmdRegs with
  | some r => s.fld r.cmd
  | none => 0

/-- A write of a command code that reached its block: refused while a command is PENDING (R15), otherwise carried
out by `f`, whose status is reported (R14). An access to a block whose domain is down has no effect (R28). -/
def runCmd (b : Blk) (code : Nat) (f : State → Nat × State) (s : State) : State :=
  match b.cmdRegs with
  | none => s
  | some r =>
    if !s.up b || s.fld r.status == stPending then s
    else
      let p := f (s.put r.code code)
      (p.2.put r.cmd code).put r.status p.1

/-- A command that was PENDING ends with a status, and CMD_DONE is set where the block has it. -/
def finishCmd (b : Blk) (st : Nat) (s : State) : State :=
  match b.cmdRegs with
  | none => s
  | some r =>
    let s := s.put r.status st
    match r.done with
    | some d => s.raise d
    | none => s

/-- The block's command with this code is PENDING. -/
def State.isPending (s : State) (b : Blk) (code : Nat) : Bool :=
  s.cmdStatus b == stPending && s.cmdCode b == code

/-- A start cut a PENDING command of a surviving block short (R495). -/
def cutCmd (b : Blk) (s : State) : State :=
  if s.cmdStatus b = stPending then finishCmd b stInterrupted s else s

/-! ### Engines (R16, R17) -/

/-- Engine `k` has two program memories: the metering DSPs and the drive sequencer. -/
def twoMemories (k : Nat) : Bool := 10 ≤ k

/-- Engine `k` as it stands. -/
def State.engine (s : State) (k : Nat) : Engine := (s.upd.engines[k]?).getD { runs := none, loaded := none }

/-- Every engine becomes what `f` makes of it. -/
def State.mapEngines (s : State) (f : Nat → Engine → Engine) : State :=
  { s with upd := { s.upd with engines := (List.range 13).map fun k => f k (s.engine k) } }

/-- A start holds the engines in reset until their new code is loaded; a warm one leaves those with two memories running. -/
def State.haltEngines (s : State) (warm : Bool) : State :=
  s.mapEngines fun k e => if warm && twoMemories k then e else { runs := none, loaded := none }

/-- The code of the running image. -/
def State.runningCode (s : State) : Code :=
  { image := s.upd.running, digest := if s.upd.running = 2 then [] else ((s.upd.banks[s.upd.running]?).map (·.digest)).getD [] }

/-- Every engine is loaded from the image that this start has verified: an engine that runs takes the code into its inactive
memory, to swap at its next boundary. -/
def State.loadEngines (s : State) : State :=
  let c := s.runningCode
  s.mapEngines fun _ e => if e.runs.isSome then { e with loaded := some c } else { runs := some c, loaded := none }

/-- An engine swaps its program memories where new code stands in the inactive one. -/
def Engine.swap (e : Engine) : Engine :=
  match e.loaded with
  | some c => { runs := some c, loaded := none }
  | none => e

/-- The metering DSPs, or the drive sequencer, reach a boundary. -/
def State.swapEngines (s : State) (ks : List Nat) : State :=
  s.mapEngines fun k e => if ks.contains k then e.swap else e

/-! ### Authorisation (R416, R417) -/

/-- KEY_SESS_CFG.TTL_S, in counts of 2 ns. -/
def State.sessTtl (s : State) : Nat := clampN 10 3600 (s.fld KEY_SESS_CFG.TTL_S) * secs

/-- Whether a session is the one that authorises a source: by source, and for RAF by address, port and identifier. -/
def Session.fits (x : Session) : Src → Bool
  | .raf ip port id => x.src == 1 && x.ip == ip && x.port == port && x.id == id && id != 0
  | .core => false
  | src => x.src == src.code

/-- A session that has just authorised a command (R417). -/
def Session.used (now : Nat) (src : Src) (x : Session) : Session := if x.fits src then { x with last := now } else x

/-- A privileged command from a source: authorised by its session, which the command extends, or not. -/
def State.authorise (s : State) (src : Src) : Option State :=
  if s.key.sessions.any (fun x => x.fits src && s.clk < x.last + s.sessTtl) then
    some { s with key := { s.key with sessions := s.key.sessions.map (Session.used s.clk src) } }
  else none

/-- A privileged command: REFUSED_AUTH without a session, otherwise carried out by `f`. -/
def privileged (src : Src) (f : State → Nat × State) (s : State) : Nat × State :=
  match s.authorise src with
  | none => (stRefusedAuth, s)
  | some s => f s

end Sys2Proof.Machine
end

