-- ==== Sys2Proof/Machine/Log.lean ====
section
/-! DEFINITION. The firing log's commands and events (chapter 18, R469 to R474). -/

namespace Sys2Proof.Machine

/-- The first 28 bytes of a record (Table 18.4). -/
def LogRec.body (r : LogRec) : List Byte :=
  leBytes 2 r.code ++ leBytes 1 (r.sev * 32 + r.code / 256 % 32) ++ leBytes 1 r.cls ++ leBytes 4 r.optime ++
    leBytes 3 r.pcycle ++ leBytes 1 r.flags ++ leBytes 4 r.ntSec ++ leBytes 4 r.ntNs ++ r.param

/-- A record's 32 bytes (Table 18.4). -/
def LogRec.bytes (r : LogRec) : List Byte := r.body ++ leBytes 4 (crc32 r.body)

/-- Log capacity in records (R468). -/
def State.logCap (s : State) : Nat := s.hlt.caps.getD 5 8192

/-- LOG_HEAD, LOG_OLDEST, LOG_OPTIME and LOG_PCYCLE report the log. -/
def State.publishLog (s : State) : State :=
  let oldest := match s.log.recs with
    | [] => s.log.head
    | r :: _ => r.1
  (((s.put LOG_HEAD.SEQ s.log.head).put LOG_OLDEST.SEQ oldest).put LOG_OPTIME.S s.log.optime).put LOG_PCYCLE.COUNT
    s.log.pcycle

/-- One record is written to NVM: it takes the next sequence number, and a full log gives up its oldest (R471). -/
def State.writeRec (s : State) (r : LogRec) : State :=
  let full := s.logCap ≤ s.log.recs.length
  let s := { s with log := { s.log with
      recs := (if full then s.log.recs.drop 1 else s.log.recs) ++ [(s.log.head, r.bytes)], head := s.log.head + 1 } }
  let s := if full then (s.bump LOG_CNT.OVERWRITTEN).raise LOG_IRQ_STAT.WRAP else s
  if s.fld LOG_IRQ_SEV.MIN ≤ r.sev then s.raise LOG_IRQ_STAT.SEVERE else s

/-- Every staged record is written, in order. A CLEAR in progress lets no other record be written first (R473). -/
def State.flushLog (s : State) : State :=
  if s.log.clearing.isSome then s
  else
    let l := s.log.staged
    (l.foldl State.writeRec { s with log := { s.log with staged := [] } }).publishLog

/-- LOG_NVM_WRITE (R471). -/
def logNvmWrite (s : State) : State := if s.up .log then s.flushLog else s

/-- The summary record of a closed window (R472). -/
def State.suppressed (s : State) (w : RateWin) : State :=
  let p := leBytes 1 w.cls ++ [0] ++ leBytes 2 (min w.count 65535) ++ leBytes 2 w.first ++ leBytes 2 w.last
  (s.stageRec (s.mkRec 5 2 1 p)).bumpBy LOG_CNT.SUPPRESSED w.count

/-- RATE_WINDOW_CLOSE: the window of class `c` closes when its period has passed (R472). -/
def rateWindowClose (c : Nat) (s : State) : State :=
  match s.log.wins.find? (fun w => w.cls == c && w.endAt ≤ s.clk) with
  | none => s
  | some w =>
    let s := { s with log := { s.log with wins := s.log.wins.filter (·.cls != c) } }
    if w.count = 0 ∨ !s.coreOn then s else s.suppressed w

/-- CLEAR: the intent is written and every record erased; the command stays PENDING (R473). -/
def logClear (src : Src) (s : State) : State :=
  runCmd .log 1 (privileged src fun s =>
    let s := { s with log := { s.log with clearing := some (s.log.head, s.log.recs.length, src.code), recs := [] } }
    (stPending, s.publishLog)) s

/-- The end of a clear: LOG_CLEARED is the first record, and the intent goes (R473). -/
def State.finishClear (s : State) : State :=
  match s.log.clearing with
  | none => s
  | some (prev, erased, src) =>
    let s := { s with log := { s.log with clearing := none } }
    let r := s.mkRec 5 1 2 (leBytes 4 prev ++ leBytes 2 erased ++ leBytes 1 src)
    ((s.writeRec r).publishLog).raise LOG_IRQ_STAT.CLEARED

/-- LOG_CLEAR_DONE (R473). -/
def logClearDone (s : State) : State :=
  if s.log.clearing.isSome && s.up .log then
    let s := s.finishClear
    if s.isPending .log 1 then finishCmd .log stDone s else s
  else s

/-- FLUSH writes the staging buffer at once (R475). -/
def logFlush (s : State) : State := runCmd .log 2 (fun s => (stDone, s.flushLog)) s

/-- LOG_RD_DATA takes a record's bytes. -/
def State.copyRec (s : State) (b : List Byte) : State :=
  (List.range 8).foldl (fun s k => s.put (LOG_RD_DATA.DATA k) (leAt b (4 * k) 4)) s

/-- LOG_RD_STAT: VALID, CRC_BAD, GONE, STAGED. -/
def State.rdStat (s : State) (valid crcBad gone staged : Bool) : State :=
  (((s.putB LOG_RD_STAT.VALID valid).putB LOG_RD_STAT.CRC_BAD crcBad).putB LOG_RD_STAT.GONE gone).putB
    LOG_RD_STAT.STAGED staged

/-- A write of LOG_RD_SEQ copies the record of that sequence (R474). -/
def logRead (seq : Nat) (s : State) : State :=
  if !s.up .log then s
  else
    let s := s.put LOG_RD_SEQ.SEQ seq
    match s.log.recs.find? (·.1 == seq) with
    | some (_, b) => (s.copyRec b).rdStat true (leAt b 28 4 != crc32 (b.take 28)) false false
    | none =>
      if seq < s.log.head then s.rdStat false false true false
      else
        match s.log.staged[seq - s.log.head]? with
        | some r => (s.copyRec r.bytes).rdStat true false false true
        | none => s.rdStat false false true false

/-- OPTIME counts whole seconds with VCORE powered (R470). -/
def optimeSecond (s : State) : State :=
  if s.coreOn then
    let s := { s with log := { s.log with optime := s.log.optime + 1 } }
    if s.up .log then s.publishLog else s
  else s

end Sys2Proof.Machine
end

