-- ==== Sys2Proof/Machine/Swc.lean ====
section
/-! DEFINITION. The switch core: cells, admission, policers, queues, port service, claims and its commands
(chapter 11, R296 to R315). -/

namespace Sys2Proof.Machine

/-! ### Cells (R297, R310, R315) -/

/-- A cell of a bank in service. -/
def State.cellLive (s : State) (c : Nat) : Bool := c < 32768 && !s.swc.retired.contains (c / 512)

/-- A cell that belongs to a packet or a claim. -/
def State.cellUsed (s : State) (c : Nat) : Bool :=
  s.swc.claims.any (·.cell == c) || s.swc.refs.any (·.cells.contains c)

/-- FREE cells: those in service that nothing holds. -/
def State.freeCells (s : State) : Nat :=
  512 * (64 - s.swc.retired.length) - (s.swc.claims.filter fun x => s.cellLive x.cell).length -
    ((s.swc.refs.flatMap (·.cells)).filter s.cellLive).length

/-- The first cell from `c` upward, in rotation, that `ok` accepts. -/
def findCell (ok : Nat → Bool) : Nat → Nat → Option Nat
  | 0, _ => none
  | n + 1, c => if ok (c % 32768) then some (c % 32768) else findCell ok n (c + 1)

/-- A free cell outside bank `last` where there is one. Which of the free cells is taken the spec leaves open: a free
value starts the search (assumption 31). -/
def State.pickCell (s : State) (busy : List Nat) (last k : Nat) : Nat :=
  let start := Config.freeNat (s.free + k)
  let ok := fun c => s.cellLive c && !s.cellUsed c && !busy.contains c
  match findCell (fun c => ok c && c / 512 != last) 32768 start with
  | some c => c
  | none => (findCell ok 32768 start).getD 0

/-- Cells for a packet of `n` cells, successive ones in different banks (R297). -/
def State.pickCells (s : State) : Nat → List Nat → List Nat
  | 0, acc => acc.reverse
  | n + 1, acc => s.pickCells n (s.pickCell acc ((acc.headD 32768) / 512) n :: acc)

/-- SWC_STAT.FREE reads the free cells. -/
def State.pubFree (s : State) : State := s.put SWC_STAT.FREE s.freeCells

/-- The cells a packet of `n` bytes takes. -/
def cellsFor (n : Nat) : Nat := (n + 255) / 256

/-! ### Tenants and colour (R302, R303, R306) -/

/-- The tenant of an endpoint queue, or the tenant given. -/
def State.tenantFor (s : State) (q given : Nat) : Nat := if q < 4096 then s.fld (EPC_TENANT.TENANT q) else given

/-- The tenant of a VID: the lowest enabled matching entry (R302). -/
def State.vidTenant (s : State) (vid : Nat) : Option Nat :=
  ((List.range 64).find? fun v => s.cfB (SWC_VID_MAP.EN v) && s.cf (SWC_VID_MAP.VID v) == vid).map fun v =>
    s.cf (SWC_VID_MAP.TENANT v)

/-- A token in units of 1/4,000,000 byte: kb/s times counts of 2 ns. -/
def tokenUnit : Nat := 4000000

/-- A tenant's marker refilled to now; a marker not used since the enable is full (R303). -/
def State.marker (s : State) (t : Nat) : Marker :=
  let pbs := s.cf (SWC_TENANT_PBS.BYTES t) * tokenUnit
  let cbs := s.cf (SWC_TENANT_CBS.BYTES t) * tokenUnit
  match s.swc.markers.find? (·.tenant == t) with
  | none => { tenant := t, tp := pbs, tc := cbs, at_ := s.clk }
  | some m =>
    { m with tp := min pbs (m.tp + s.cf (SWC_TENANT_PIR.KBPS t) * (s.clk - m.at_))
             tc := min cbs (m.tc + s.cf (SWC_TENANT_CIR.KBPS t) * (s.clk - m.at_)), at_ := s.clk }

/-- The colour of a packet of `b` bytes (0 green, 1 yellow, 2 red) and the marker after it (R303). -/
def mark (m : Marker) (aware : Bool) (inCol b : Nat) : Nat × Marker :=
  let c := b * tokenUnit
  if (aware && inCol == 2) || m.tp < c then (2, m)
  else if (aware && inCol == 1) || m.tc < c then (1, { m with tp := m.tp - c })
  else (0, { m with tp := m.tp - c, tc := m.tc - c })

/-- A tenant's marker is stored. -/
def State.setMarker (s : State) (m : Marker) : State :=
  { s with swc := { s.swc with markers := s.swc.markers.filter (·.tenant != m.tenant) ++ [m] } }

/-- POLICER: a packet of a tenant is metered once (R303). -/
def State.police (s : State) (t inCol b : Nat) : Nat × State :=
  let aware := s.cfB (SWC_TENANT_CFG.AWARE t)
  if s.cfB (SWC_TENANT_CFG.POL_EN t) then
    let r := mark (s.marker t) aware inCol b
    let s := s.setMarker r.2
    (r.1, if r.1 = 1 then s.bump (SWC_TENANT_YEL.YELLOW t) else s)
  else (if aware then inCol else 0, s)

/-- OVER clears at the first moment USE_t is below its quota (R306). -/
def State.checkOver (s : State) (t : Nat) : State :=
  if s.fld (SWC_TENANT_STAT.USE t) < s.cf (SWC_TENANT_CFG.QUOTA t) then s.put (SWC_TENANT_STAT.OVER t) 0 else s

/-- The words of tenant `t` that await their boundary. -/
def isTenantWord (t a : Nat) : Bool := SWC_TENANT_CFG.adr t ≤ a && a < SWC_TENANT_CFG.adr t + 0x40

/-- Words held by a host message queue. -/
def Hq.words (h : Hq) : List HWord := h.active ++ h.idle ++ h.buf

/-- The queue that an SWC or HMQ configuration word governs is empty (Table 2.14): the queue of a queue word, the
packets of a port or tenant word, and for a shared word the whole switch. -/
def State.queueIdle (s : State) (a : Nat) : Bool :=
  if 0x582000 ≤ a && a < 0x594000 then !s.swc.q.any fun d => d.queue == (a - 0x582000) / 16
  else if 0x580100 ≤ a && a < 0x580400 then !s.swc.q.any fun d => d.port == (a - 0x580100) / 0x20
  else if 0x580800 ≤ a && a < 0x581800 then !s.swc.q.any fun d => d.tenant == (a - 0x580800) / 0x40
  else if 0x5C1000 ≤ a then ((s.hmq[(a - 0x5C1000) / 0x40]?).map fun h => h.words.isEmpty).getD true
  else s.swc.q.isEmpty

/-- The boundary of an SWC or HMQ word has come: its queue is empty, or 10 ms have passed since the write. -/
def State.swcDue (s : State) (x : Nat × Nat) : Bool := x.2 + 10 * msec ≤ s.clk || s.queueIdle x.1

/-- SWC and HMQ words of all but the tenants take effect at their boundary (Table 2.14). -/
def swcBounds (s : State) : State :=
  let due := s.swc.writeAt.filter fun x => s.swcDue x && !(0x580800 ≤ x.1 && x.1 < 0x581800)
  due.foldl (fun (s : State) x =>
    ({ s with swc := { s.swc with writeAt := s.swc.writeAt.filter (·.1 != x.1) } }).boundary x.1 (x.1 + 4)) s

/-- QUOTA_BOUNDARY: a tenant's configuration takes effect 10 ms after its write, or when the tenant has drained
(R306). -/
def quotaBoundary (t : Nat) (s : State) : State :=
  if !s.up .swc || !s.swc.writeAt.any (fun x => isTenantWord t x.1 && s.swcDue x) then s
  else
    let s := { s with swc := { s.swc with writeAt := s.swc.writeAt.filter fun x => !isTenantWord t x.1 } }
    let s := s.boundary (SWC_TENANT_CFG.adr t) (SWC_TENANT_CFG.adr t + 0x40)
    if s.cf (SWC_TENANT_CFG.QUOTA t) < s.fld (SWC_TENANT_STAT.USE t) then
      (s.put (SWC_TENANT_STAT.OVER t) 1).raise SWC_IRQ_STAT.TENANT_OVER
    else s.checkOver t

/-! ### Admission (R304, R305, R307) -/

/-- A packet offered to queues. -/
structure Offer where
  len : Nat
  tenant : Nat
  cls : Nat
  inCol : Nat
  ingress : Nat
  hmq : Nat
  body : Body
  queues : List Nat
  /-- The cells it already occupies (ENQUEUE). -/
  cells : Option (List Nat)

/-- The port a queue feeds: by the endpoint's reach (R299), or by its number. -/
def State.queuePort (s : State) (q : Nat) : Option Nat :=
  if q ≥ 4096 then (if q < 4256 then some ((q - 4096) / 8) else none)
  else if s.fld (EPC_REACH.REACH q) = 1 then some (s.fld (EPC_REACH.PORT q) % 8)
  else if s.fld (EPC_REACH.REACH q) = 2 then some 13
  else none

/-- Check 4: the queue is enabled, and an endpoint queue's context is in service with a radio or bus reach. -/
def State.queueOpen (s : State) (q : Nat) : Bool :=
  s.cfB (SWC_Q_CFG.EN q) && (s.queuePort q).isSome &&
    (q ≥ 4096 || [1, 2, 3].contains (s.fld (EPC_STATE.STATE q)))

/-- The average of a queue after an admission check (R307). -/
def State.redAvg (s : State) (q : Nat) : Nat :=
  let k := s.cf (SWC_Q_CFG.RED q)
  let avg : Int := s.fld (SWC_Q_AVG.AVG q)
  (avg + (s.fld (SWC_Q_STAT.USE q) * 256 - avg) / (2 ^ s.cf (SWC_RED_W.W k) : Nat)).toNat

/-- RED drops a replica: r below p × 65,536 (R307). The LFSR's value is left open (assumption 32). -/
def State.redDrops (s : State) (q col avg : Nat) : Bool :=
  let k := s.cf (SWC_Q_CFG.RED q)
  let lo := s.cf (SWC_RED.MIN k col)
  let hi := s.cf (SWC_RED.MAX k col)
  if hi ≤ lo || avg < lo * 256 then false
  else if avg ≥ hi * 256 then true
  else (s.freeVal % 65536) * ((hi - lo) * 256) * 256 < 65536 * s.cf (SWC_RED.MAXP k col) * (avg - lo * 256)

/-- One replica enters queue `q`, of a packet `id` of `c` cells. -/
def State.pushDesc (s : State) (o : Offer) (id col c q p : Nat) : State :=
  let d : Desc := { id := id, queue := q, port := p, seq := s.swc.seqs.getD p 0, len := o.len, tenant := o.tenant
                    cls := o.cls, colour := col, ingress := o.ingress, hmq := o.hmq, body := o.body }
  let s := { s with swc := { s.swc with q := s.swc.q ++ [d], seqs := updAt s.swc.seqs p fun n => (n + 1) % 2 ^ 32 } }
  (s.bumpBy (SWC_Q_STAT.USE q) c).put (SWC_Q_STAT.PKTS q) (min 255 (s.swc.q.countP (·.queue == q)))

/-- Checks 4 to 6 for one replica (Table 11.3): whether it was admitted. Check 6 draws a value of the LFSR. -/
def State.admitTo (s : State) (o : Offer) (id col c q : Nat) : Bool × State :=
  let s := s.put (SWC_Q_AVG.AVG q) (s.redAvg q)
  if !s.queueOpen q then (false, (s.bump (SWC_Q_DROP.DROPS q)).bump SWC_CNT.DISABLED)
  else if s.cf (SWC_Q_CFG.QUOTA q) < s.fld (SWC_Q_STAT.USE q) + c then (false, s.bump (SWC_Q_DROP.DROPS q))
  else if s.redDrops q col (s.fld (SWC_Q_AVG.AVG q)) then
    (false, ((s.bump (SWC_Q_DROP.DROPS q)).bump (SWC_Q_STAT.RED q)).useFree)
  else (true, (s.pushDesc o id col c q ((s.queuePort q).getD 0)).useFree)

/-- Checks 4 to 6 for every replica, and how many were admitted. -/
def State.admitAll (s : State) (o : Offer) (id col c : Nat) : List Nat → Nat → Nat × State
  | [], n => (n, s)
  | q :: t, n =>
    let r := s.admitTo o id col c q
    r.2.admitAll o id col c t (if r.1 then n + 1 else n)

/-- An admitted packet's cells are charged and held (R305). -/
def State.holdCells (s : State) (o : Offer) (id c : Nat) : State :=
  let cells := o.cells.getD (s.pickCells c [])
  let s := { s with free := s.free + c, swc := { s.swc with refs := s.swc.refs ++ [CellRef.mk id cells] } }
  s.bumpBy (SWC_TENANT_STAT.USE o.tenant) c

/-- Check 2: buffer cells and descriptors. -/
def State.roomFor (s : State) (o : Offer) (c : Nat) : Bool :=
  let free := s.freeCells + (if o.cells.isSome then c else 0)
  (free ≥ c + s.fld SWC_RESERVE.CELLS || (free ≥ c && s.fld SWC_CTL.RSV_CLASS ≤ o.cls)) &&
    s.swc.q.length + o.queues.length ≤ 65536

/-- The checks of Table 11.3 (R304): how many replicas were admitted. -/
def State.offer (s : State) (o : Offer) : Nat × State :=
  if !s.up .swc || !s.bit SWC_CTL.EN then (0, s)
  else
    let s := swcBounds s
    let c := cellsFor o.len
    let r := s.police o.tenant o.inCol o.len
    let s := r.2
    if r.1 = 2 ∧ s.cfB (SWC_TENANT_CFG.RED_DROP o.tenant) then (0, s.bump (SWC_TENANT_CNT.POLICE o.tenant))
    else if !s.roomFor o c then (0, (s.bump SWC_CNT.NOBUF).raise SWC_IRQ_STAT.NOBUF)
    else if s.cf (SWC_TENANT_CFG.QUOTA o.tenant) < s.fld (SWC_TENANT_STAT.USE o.tenant) + c then
      (0, s.bump (SWC_TENANT_CNT.QUOTA o.tenant))
    else
      let id := s.swc.nextId
      let a := s.admitAll o id r.1 c o.queues 0
      if a.1 = 0 then a
      else
        let s : State := { a.2 with swc := { a.2.swc with nextId := id + 1 } }
        (a.1, (s.holdCells o id c).pubFree)

/-- The queues of a multicast group's replicas (R308); nothing where the group sends none. -/
def State.groupQueues (s : State) (g cls ingress : Nat) : List Nat :=
  if s.cfB (SWC_MC.EN g) then
    ((List.range 20).filter fun p =>
      bitOf (s.cf (SWC_MC.PORTS g)) p && (p != ingress || s.cfB (SWC_MC.REFLECT g))).map fun p => 4096 + 8 * p + cls
  else []

/-- A packet to a multicast group (R308). -/
def State.admitGroup (s : State) (o : Offer) (g : Nat) : State :=
  match s.groupQueues g o.cls o.ingress with
  | [] => s.bump (SWC_MC_CNT.DROPPED g)
  | l =>
    let r := s.offer { o with queues := l }
    if r.1 = 0 then r.2 else r.2.bump (SWC_MC_CNT.SENT g)

/-! ### Leaving a queue (R300, R301, R305) -/

/-- A descriptor leaves: its queue's charge falls, and the packet's cells return with its last replica (R298, R305). -/
def State.dropDesc (s : State) (d : Desc) : State :=
  let c := cellsFor d.len
  let same := fun (x : Desc) => x.id == d.id && x.queue == d.queue
  let s := { s with swc := { s.swc with q := s.swc.q.filter fun x => !same x } }
  let s := s.put (SWC_Q_STAT.USE d.queue) (s.fld (SWC_Q_STAT.USE d.queue) - c)
  let s := s.put (SWC_Q_STAT.PKTS d.queue) (min 255 (s.swc.q.countP (·.queue == d.queue)))
  if s.swc.q.any (·.id == d.id) then s
  else
    let s := { s with swc := { s.swc with refs := s.swc.refs.filter (·.id != d.id) } }
    ((s.put (SWC_TENANT_STAT.USE d.tenant) (s.fld (SWC_TENANT_STAT.USE d.tenant) - c)).checkOver d.tenant).pubFree

/-- The class a descriptor is served in on its port (R301). -/
def State.descClass (s : State) (d : Desc) : Nat :=
  if d.queue < 4096 then s.fld (SWC_PORT_CFG.EQ_CLASS d.port) else (d.queue - 4096) % 8

/-- A descriptor is the head of its queue. -/
def State.isHead (s : State) (d : Desc) : Bool :=
  match s.swc.q.find? (·.queue == d.queue) with
  | some h => h.id == d.id
  | none => false

/-- `a` comes before `b` by signed difference of 32-bit sequences. -/
def seqBefore (a b : Nat) : Bool := 0 < (b + 2 ^ 32 - a) % 2 ^ 32 && (b + 2 ^ 32 - a) % 2 ^ 32 < 2 ^ 31

/-- The packet of a port's class that is next: the head with the lowest enqueue sequence (R301). -/
def State.headOf (s : State) (p c : Nat) : Option Desc :=
  (s.swc.q.filter fun d => d.port == p && s.descClass d == c && s.isHead d).foldl
    (fun b d => match b with
      | none => some d
      | some x => if seqBefore d.seq x.seq then some d else some x) none

/-- WEIGHT of a class on a port; 0 acts as 1 (R300). -/
def State.weight (s : State) (p c : Nat) : Nat :=
  max 1 (if c < 4 then bitsOf (s.cf (SWC_PORT_WRR.WEIGHT p)) (8 * c) 8
         else bitsOf (s.cf (SWC_PORT_WRR_HI.WEIGHT p)) (8 * (c - 4)) 8)

/-- Deficit of a class, and the same with one replaced. -/
def State.deficit (s : State) (p c : Nat) : Nat :=
  ((s.swc.deficits.find? fun x => x.1 == p && x.2.1 == c).map (·.2.2)).getD 0

def State.setDeficit (s : State) (p c v : Nat) : State :=
  { s with swc := { s.swc with
      deficits := s.swc.deficits.filter (fun x => !(x.1 == p && x.2.1 == c)) ++ (if v = 0 then [] else [(p, c, v)]) } }

/-- The class a port's round stands at. -/
def State.turn (s : State) (p : Nat) : Option Nat := (s.swc.turns.find? (·.1 == p)).map (·.2)

def State.setTurn (s : State) (p c : Nat) : State :=
  { s with swc := { s.swc with turns := s.swc.turns.filter (·.1 != p) ++ [(p, c)] } }

/-- The class after `c` in a port's round: downward, from the top again after class 0 (assumption 33). -/
def nextTurn (spMin c : Nat) : Nat := if c = 0 then spMin - 1 else c - 1

/-- Deficit weighted round robin over the classes below SP_MIN (R300): the packet served, and the round after it. A
class gets its quantum when the round comes to it, and an empty class keeps no deficit. -/
def State.dwrr (s : State) (p spMin : Nat) : Nat → Nat → Option Desc × State
  | 0, _ => (none, s)
  | n + 1, c =>
    match s.headOf p c with
    | none =>
      let s := s.setDeficit p c 0
      let c' := nextTurn spMin c
      ((s.setTurn p c').setDeficit p c' (s.deficit p c' + s.weight p c' * 256)).dwrr p spMin n c'
    | some d =>
      if d.len ≤ s.deficit p c then (some d, s.setDeficit p c (s.deficit p c - d.len))
      else
        let c' := nextTurn spMin c
        ((s.setTurn p c').setDeficit p c' (s.deficit p c' + s.weight p c' * 256)).dwrr p spMin n c'

/-- The packet a ready port takes next, and the scheduler after it (R300). -/
def State.schedule (s : State) (p : Nat) : Option Desc × State :=
  let s := swcBounds s
  let spMin := min 7 (s.cf (SWC_PORT_CFG.SP_MIN p))
  match ((List.range (8 - spMin)).map fun k => 7 - k).findSome? fun c => s.headOf p c with
  | some d => (some d, s)
  | none =>
    if spMin = 0 || !s.swc.q.any (fun d => d.port == p) then (none, s)
    else
      match s.turn p with
      | some c => s.dwrr p spMin 400 (min c (spMin - 1))
      | none =>
        let c := spMin - 1
        ((s.setTurn p c).setDeficit p c (s.weight p c * 256)).dwrr p spMin 400 c

/-! ### Claims (R310 to R313) -/

/-- The owner tag of a requester (Table 11.2). -/
def tagOf : Src → Nat
  | .core => 3
  | _ => 4

/-- Claims a requester's kind may hold. -/
def State.claimMax (s : State) (tag : Nat) : Nat :=
  if tag = 3 then s.fld SWC_CLAIM_MAX.CPU else s.fld SWC_CLAIM_MAX.HOST

/-- A read of SWC_CLAIM: the word returned, and the claim (R310). What a claimed cell holds, and its link, are what the
last user left: free values (assumptions 31, 34). -/
def swcClaim (src : Src) (s : State) : Nat × State :=
  if !s.up .swc then (0, s)
  else
    let tag := tagOf src
    if s.freeCells ≤ s.fld SWC_RESERVE.CELLS || s.claimMax tag ≤ s.swc.claims.countP (·.tag == tag) then (0, s)
    else
      let c := s.pickCell [] 64 0
      let k : Claimed := { cell := c, tag := tag, link := Config.freeNat (s.free + 1) % 32768
                           data := (List.range 256).map (Config.cellByte (s.free + 1)) }
      (2 ^ 31 + c, ({ s with free := s.free + 2, swc := { s.swc with claims := s.swc.claims ++ [k] } }).pubFree)

/-- The claim a requester holds on a cell. -/
def State.claimOf (s : State) (src : Src) (c : Nat) : Option Claimed :=
  s.swc.claims.find? fun k => k.cell == c && k.tag == tagOf src

/-- A claimed cell replaced. -/
def State.setClaim (s : State) (k : Claimed) : State :=
  { s with swc := { s.swc with claims := s.swc.claims.map fun (x : Claimed) => if x.cell == k.cell then k else x } }

/-- A write of SWC_CELL_SEL (R311). -/
def swcCellSel (src : Src) (w : Nat) (s : State) : State :=
  if !s.up .swc then s
  else
    let s := s.wr SWC_CELL_SEL.adr (w - bitsOf w 15 1 * 2 ^ 15)
    if bitOf w 31 then
      match s.claimOf src (bitsOf w 0 15) with
      | some k => s.setClaim { k with link := bitsOf w 16 15 }
      | none => s.put SWC_STAT.WIN_DENIED 1
    else s

/-- A read of the cell window's word `w` (R311). -/
def cellRead (src : Src) (w : Nat) (s : State) : Nat × State :=
  match s.claimOf src (s.fld SWC_CELL_SEL.CELL) with
  | some k => (leAt k.data (4 * w) 4, s)
  | none => (2 ^ 32 - 1, s.put SWC_STAT.WIN_DENIED 1)

/-- A list with the bytes from `o` on replaced by those of `l` whose enable bit is set. -/
def putBytes (o : Nat) (be : Nat) (l data : List Byte) : List Byte :=
  (List.range l.length).foldl (fun d k => if bitOf be k then updAt d (o + k) fun _ => l.getD k 0 else d) data

/-- A write of the bytes of word `w` that `be` enables (R311). -/
def cellWrite (src : Src) (w v be : Nat) (s : State) : State :=
  match s.claimOf src (s.fld SWC_CELL_SEL.CELL) with
  | some k => s.setClaim { k with data := putBytes (4 * w) be (leBytes 4 v) k.data }
  | none => s.put SWC_STAT.WIN_DENIED 1

/-- Why a free is refused: 1 DOUBLE, 2 NOT_OWNER, 3 RANGE (R313). -/
def State.freeRefusal (s : State) (src : Src) (c : Nat) : Option Nat :=
  if !s.cellLive c then some 3
  else if !s.cellUsed c then some 1
  else if (s.claimOf src c).isNone then some 2
  else none

/-- A write of SWC_FREE (R313). -/
def swcFree (src : Src) (c : Nat) (s : State) : State :=
  if !s.up .swc then s
  else
    match s.freeRefusal src c with
    | none => ({ s with swc := { s.swc with claims := s.swc.claims.filter (·.cell != c) } }).pubFree
    | some r =>
      let s := s.bump SWC_FREE_ERR.COUNT
      let s := ((s.put SWC_FREE_LAST.REASON r).put SWC_FREE_LAST.REQUESTER (tagOf src)).put SWC_FREE_LAST.CELL c
      (s.raise SWC_IRQ_STAT.FREE_ERR).logEv 18 1 (leBytes 2 c ++ leBytes 1 (tagOf src) ++ leBytes 1 r)

/-- The cells of a chain from `c`: each owned by the requester, the last ending with 0x7FFF. -/
def State.chain (s : State) (src : Src) : Nat → Nat → Option (List Nat)
  | 0, c => if c = 0x7FFF then some [] else none
  | n + 1, c =>
    match s.claimOf src c with
    | none => none
    | some k => (s.chain src n k.link).map (c :: ·)

/-- The port through which a requester's chain enters (Table 11.1, assumption 142). -/
def ingressOf : Src → Nat
  | .core => 14
  | .usb => 17
  | _ => 16

/-- ENQUEUE (R312). -/
def enqueueBody (src : Src) (s : State) : Nat × State :=
  let len := s.fld SWC_CMD_ARG0.LEN
  let q := s.fld SWC_CMD_ARG1.QUEUE
  let n := cellsFor len
  if len = 0 ∨ 9728 < len ∨ 4255 < q then (stRefusedArg, s)
  else
    match s.chain src n (s.fld SWC_CMD_ARG0.CELL) with
    | none => (stRefusedArg, s)
    | some cells =>
      if cells.eraseDups.length ≠ cells.length then (stRefusedArg, s)
      else
        let bytes := (cells.flatMap fun c => ((s.claimOf src c).map (·.data)).getD []).take len
        let o : Offer := { len := len, tenant := s.tenantFor q (s.fld SWC_CMD_ARG1.TENANT)
                           cls := s.fld SWC_CMD_ARG1.CLASS, inCol := 0, ingress := ingressOf src
                           hmq := s.fld SWC_CMD_ARG1.HMQ, body := .raw bytes, queues := [q], cells := some cells }
        let r := s.offer o
        if r.1 = 0 then (stNoResource, r.2)
        else
          (stDone, ({ r.2 with swc := { r.2.swc with
            claims := r.2.swc.claims.filter fun x => !cells.contains x.cell } }).pubFree)

/-- Q_FLUSH: every packet of a queue is discarded and counted (R325). -/
def qFlushBody (s : State) : Nat × State :=
  let q := s.fld SWC_CMD_ARG1.QUEUE
  if 4255 < q then (stRefusedArg, s)
  else (stDone, (s.swc.q.filter (·.queue == q)).foldl (fun s d => (s.dropDesc d).bump (SWC_Q_DROP.DROPS q)) s)

def swcEnqueue (src : Src) (s : State) : State := runCmd .swc 1 (enqueueBody src) s

def swcQFlush (s : State) : State := runCmd .swc 2 qFlushBody s

/-- BUFFER_BANK_RETIRED: a bank with no spare leaves service (R315). -/
def State.retireBank (s : State) (b : Nat) : State :=
  if s.swc.retired.contains b then s
  else
    let s := { s with swc := { s.swc with retired := s.swc.retired ++ [b] } }
    let n := 64 - s.swc.retired.length
    ((s.put SWC_STAT.IN_SERVICE n).raise SWC_IRQ_STAT.BANK_RETIRED).pubFree.logEv 18 2 (leBytes 1 b ++ leBytes 1 n)

/-- A start leaves the switch empty, every cell FREE and every claim void (R314). Retired banks stay (R315). -/
def swcStart (s : State) : State :=
  { s with swc := { q := [], nextId := 0, refs := [], claims := [], seqs := List.replicate 20 0, deficits := []
                    turns := [], markers := [], writeAt := [], retired := s.swc.retired } }

/-! ### The module's own packets -/

/-- Bytes of the PSDU a frame takes (Table 10.3), with an FCS of `fcs` octets and a MIC of `mic`. -/
def Frame.len (f : Frame) (mic fcs : Nat) : Nat :=
  match f.psdu with
  | some l => l.length
  | none =>
    match f.dst with
    | .eui _ _ => 2 + 2 + 8 + 8 + 6 + f.msg.length + mic + fcs
    | _ => 2 + 2 + 2 + 2 + 6 + f.msg.length + mic + fcs

/-- Types whose minimum level is 5 (Tables 4.5 and 16.10). -/
def typeMin5 (t : Nat) : Bool := [1, 2, 3, 5, 7, 0x0C, 0x21, 0x22].contains t

/-- The security level the module sends a type at (R273). -/
def State.txLevel (s : State) (t : Nat) : Nat := if s.bit RAD_CTL.TX_L5 && typeMin5 t then 5 else 6

/-- Octets of the MIC and of the FCS. -/
def micLen (level : Nat) : Nat := if level = 5 then 4 else 8

def State.fcsLen (s : State) (ch : Nat) : Nat := if s.bit (RAD_CH_PHY.FCS4 ch) then 4 else 2

/-- PSDU octets of a frame on a channel. -/
def State.psduLen (s : State) (ch : Nat) (f : Frame) : Nat := f.len (micLen (s.txLevel f.typ)) (s.fcsLen ch)

/-- A packet of the module's own that is no command: a received frame handed up. -/
def Body.isRaw : Body → Bool
  | .raw _ => true
  | _ => false

/-- A packet of the module's own enters queue `q` from port `p`: whether it was admitted. A module that is not to issue
commands queues none (R452). -/
def State.enq (s : State) (q p cls len : Nat) (b : Body) : Bool × State :=
  if !s.mayCommand && !b.isRaw then (false, s) else
  let r := s.offer { len := len, tenant := s.tenantFor q (s.cf (SWC_PORT_CFG.TENANT p)), cls := cls, inCol := 0
                     ingress := p, hmq := 0, body := b, queues := [q], cells := none }
  (0 < r.1, r.2)

/-- What became of a frame is noted for its owner (R275). -/
def State.noteOutcome (s : State) (f : Frame) (o : Outcome) : State :=
  { s with rad := { s.rad with outcomes := (f.owner, f.typ, o) :: s.rad.outcomes } }

/-- A timed frame waits in no queue: its channel takes it into its timed list (R496); one outside the range of R11 is
refused with outcome REFUSED (R281). -/
def State.addTimed (s : State) (ch : Nat) (f : Frame) : State :=
  if !s.mayCommand then s
  else if s.inRange (f.launch.getD 0) then
    { s with rad := { s.rad with chans := updAt s.rad.chans ch fun (c : Chan) =>
        { c with timed := c.timed ++ [{ frame := f, ready := none, notBefore := 0, late := false }] } } }
  else s.noteOutcome f .refused

/-- A frame to an endpoint from switch port `p`: its endpoint queue, or its channel's timed list (R298, R496). -/
def State.sendEpFrom (s : State) (p epa : Nat) (f : Frame) : Bool × State :=
  let ch := s.fld (EPC_REACH.PORT epa) % 8
  if f.launch.isSome then (true, s.addTimed ch f)
  else s.enq epa p (s.fld (SWC_PORT_CFG.EQ_CLASS ch)) (s.psduLen ch f) (.tep f)

/-- A frame to an endpoint from the cores. -/
def State.sendEp (s : State) (epa : Nat) (f : Frame) : Bool × State := s.sendEpFrom 14 epa f

/-- A group or segment frame of the module's own on a channel, from switch port `p` (R496). -/
def State.sendGrpFrom (s : State) (p ch : Nat) (f : Frame) : Bool × State :=
  if f.launch.isSome then (true, s.addTimed ch f)
  else
    let c := s.fld (SWC_PORT_CFG.EQ_CLASS ch)
    s.enq (4096 + 8 * ch + c) p c (s.psduLen ch f) (.tep f)

end Sys2Proof.Machine
end

