-- ==== Sys2Proof/Machine/Hmq.lean ====
section
/-! DEFINITION. The host message queues (chapter 11, R316 to R324). -/

namespace Sys2Proof.Machine

/-- A queue's state. -/
def State.hq (s : State) (q : Nat) : Hq :=
  (s.hmq[q]?).getD { wp := 0, rp := 0, buf := [], active := [], idle := [], discard := false, pushAt := 0, popAt := 0
                     stale := false }

/-- A queue's state replaced, and its level words with it (R317, R322). -/
def State.setHq (s : State) (q : Nat) (h : Hq) : State :=
  let s := { s with hmq := updAt s.hmq q fun _ => h }
  let n := h.words.length
  let s := (s.put (HMQ_Q_LEVEL.WORDS q) n).put (HMQ_Q_LEVEL.PKTS q) (h.words.countP (·.fin))
  s.put ⟨HMQ_NONEMPTY.adr, q, 1⟩ (if n = 0 then 0 else 1)

/-- Words a queue can still take. -/
def Hq.room (h : Hq) : Nat := 1024 - h.words.length

/-- The active bank passes to the buffer (R317). -/
def Hq.passBank (h : Hq) : Hq :=
  { h with buf := h.buf ++ h.active, active := [], wp := (h.wp + h.active.length) % 2048 }

/-- An up queue's idle bank takes up to 16 words ahead of the active one (R317). -/
def Hq.refill (h : Hq) : Hq :=
  let h := if h.active.isEmpty then { h with active := h.idle, idle := [] } else h
  let h := if h.active.isEmpty then { h with active := h.buf.take 16, buf := h.buf.drop 16 } else h
  if h.idle.isEmpty then { h with idle := h.buf.take 16, buf := h.buf.drop 16 } else h

/-- The end of emptiness starts the stale timer (R323). -/
def Hq.woken (h : Hq) (now : Nat) : Hq := if h.words.isEmpty then { h with popAt := now } else h

/-- One word enters a down queue's active bank, which passes on when it is full or the word ends a packet. -/
def Hq.push (h : Hq) (w : HWord) (now : Nat) : Hq :=
  let h := { h.woken now with active := (h.woken now).active ++ [w], pushAt := now }
  if w.fin || h.active.length ≥ 16 then h.passBank else h

/-- An END word stored counts in HMQ_Q_PKTS, which wraps (R322). -/
def State.countEnd (s : State) (q : Nat) : State := s.put (HMQ_Q_PKTS.TOTAL q) (s.fld (HMQ_Q_PKTS.TOTAL q) + 1)

/-- A discarded push (R320). -/
def State.hmqDrop (s : State) (q : Nat) : State := (s.bump (HMQ_Q_CNT.OVF_DROP q)).raise HMQ_IRQ_STAT.OVF

/-- A word is pushed into a down queue, `fin` where the write was to HMQ_PUSH_END (R320). -/
def hmqPush (q v : Nat) (fin : Bool) (s : State) : State :=
  if !s.up .hmq || !s.bit (HMQ_Q_CFG.EN q) || 16 ≤ q then s
  else
    let h := s.hq q
    if h.discard then
      ({ s with hmq := updAt s.hmq q fun h => { h with discard := !fin } }).hmqDrop q
    else if h.room = 0 then ({ s with hmq := updAt s.hmq q fun h => { h with discard := true } }).hmqDrop q
    else if !fin && h.room = 1 then
      (s.setHq q { h.push { data := 0, fin := true, poison := true } s.clk with discard := true }).countEnd q
    else
      let s := s.setHq q (h.push { data := v, fin := fin, poison := false } s.clk)
      if fin then s.countEnd q else s

/-- HMQ_BANK_PASS: a down queue's bank passes on 1 µs after the last push into it (R317). -/
def hmqBankPass (q : Nat) (s : State) : State :=
  let h := s.hq q
  if s.up .hmq && q < 16 && !h.active.isEmpty && h.pushAt + usec ≤ s.clk then s.setHq q h.passBank else s

/-- A parity failure as a word leaves is counted and flagged (R319). -/
def State.parity (s : State) (q : Nat) (bad : Bool) : State :=
  if bad then (s.bump (HMQ_Q_CNT.PAR_ERR q)).raise HMQ_IRQ_STAT.PARITY else s

/-- A read of HMQ_POP_LO of an up queue: the word returned; `bad` where its parity fails as it leaves (R318, R319). -/
def hmqPop (q : Nat) (bad : Bool) (s : State) : Nat × State :=
  if !s.up .hmq || q < 16 then (0, s)
  else
    let h := (s.hq q).refill
    match h.active with
    | [] => (0, s.wr (HMQ_Q_POP_HI.adr q) 0)
    | w :: t =>
      let s := s.parity q bad
      let h : Hq := { h with active := t, rp := (h.rp + 1) % 2048, popAt := s.clk, stale := false }
      let s := s.setHq q h.refill
      let s := ((s.put (HMQ_Q_POP_HI.VALID q) 1).putB (HMQ_Q_POP_HI.POISON q) (w.poison || bad)).putB
        (HMQ_Q_POP_HI.END q) w.fin
      (w.data, s.put (HMQ_Q_POP_HI.WORDS q) h.words.length)

/-- The first whole packet of a list of words, and what follows it. -/
def takePacket : List HWord → List HWord → Option (List HWord × List HWord)
  | [], _ => none
  | w :: t, acc => if w.fin then some ((w :: acc).reverse, t) else takePacket t (w :: acc)

/-- A packet's bytes, little-endian in each word; the END word holds `tail` bytes, 0 meaning 4 (R316). -/
def packetBytes (tail : Nat) (l : List HWord) : List Byte :=
  let b := l.flatMap fun w => leBytes 4 w.data
  b.take (b.length - (if tail = 0 then 0 else 4 - tail))

/-- Words of a packet bound for an up queue: END on the last (R321). -/
def wordsOf (b : List Byte) : List HWord :=
  let n := (b.length + 3) / 4
  (List.range n).map fun k => { data := leAt b (4 * k) 4, fin := k + 1 == n, poison := false }

/-- The SB port in HOST mode whose down queue is `q` (R316). -/
def State.sbOf (s : State) (q : Nat) : Option Nat :=
  (List.range 8).find? fun p =>
    s.bit (LBUS_SB_CFG.EN p) && s.fld (LBUS_SB_CFG.MODE p) == 1 && s.cf (LBUS_SB_HOST.HMQ p) == q

/-- A whole packet leaves a down queue's buffer (R317): its words. `bad` where a word's parity fails. -/
def State.takeDown (s : State) (q : Nat) (bad : Bool) : Option (List HWord) × State :=
  let h := s.hq q
  match takePacket h.buf [] with
  | none => (none, s)
  | some (p, rest) =>
    let s := s.setHq q { h with buf := rest, rp := (h.rp + p.length) % 2048, popAt := s.clk, stale := false }
    (some p, s.parity q bad)

/-- A down packet to the switch (R316): header word, then the bytes. -/
def State.hmqToSwitch (s : State) (q : Nat) (p : List HWord) : State :=
  match p with
  | [] => s
  | hd :: t =>
    let b := packetBytes (s.fld (HMQ_Q_CFG.TAIL q)) t
    let dst := bitsOf hd.data 0 13
    if b.isEmpty || 4255 < dst then s
    else if 9728 < b.length then s.bump (SWC_PORT_CNT.TOO_LONG 15)
    else
      (s.offer { len := b.length, tenant := s.tenantFor dst (bitsOf hd.data 16 6), cls := bitsOf hd.data 24 3, inCol := 0
                 ingress := 15, hmq := 0, body := .raw b, queues := [dst], cells := none }).2

/-- HMQ_DOWN_PACKET: the consumer named by BIND takes a whole packet (R316). A packet with a poisoned word is corrupt
(R319): the switch does not take it. The packets of an SB port in HOST mode leave by SB_FRAME_TX. -/
def hmqDownPacket (q : Nat) (bad : Bool) (s : State) : State :=
  if !s.up .hmq || 16 ≤ q || (s.sbOf q).isSome then s
  else
    match s.takeDown q bad with
    | (none, s) => s
    | (some p, s) =>
      if s.fld (HMQ_Q_CFG.BIND q) = 0 then s.emit (.core 14) (packetBytes 0 p)
      else if bad || p.any (·.poison) then s
      else s.hmqToSwitch q p

/-- Words are stored whole in an up queue, with the DATA notice (R321, R322); nothing where there is no room. -/
def State.hmqStore (s : State) (q : Nat) (l : List HWord) : Option State :=
  let h := s.hq q
  if h.room < l.length || !s.bit (HMQ_Q_CFG.EN q) then none
  else
    let was := h.words.isEmpty
    let h := { h.woken s.clk with buf := h.buf ++ l, wp := (h.wp + l.length) % 2048 }
    let s := (s.setHq q h.refill).countEnd q
    some (if was && bitOf (s.rd HMQ_DATA_EN.adr) q then s.raise HMQ_IRQ_STAT.DATA else s)

/-- The words SP15 sends to an up queue: the header and the packet (R316). -/
def upWords (d : Desc) : List HWord :=
  let b := match d.body with
    | .raw l => l
    | _ => []
  wordsOf (leBytes 4 (d.ingress + d.len * 65536) ++ b)

/-- HMQ_UP_DELIVER: SP15's next packet, once its up queue has room for all of its words (R321). One for a queue that
is not the switch's waits at the head (R316, assumption 142). -/
def hmqUpDeliver (s : State) : State :=
  if !s.up .hmq then s
  else
    let r := s.schedule 15
    match r.1 with
    | none => s
    | some d =>
      if s.fld (HMQ_Q_CFG.BIND d.hmq) = 0 || d.hmq < 16 || (s.sbOf (d.hmq - 16)).isSome then s
      else
        match r.2.hmqStore d.hmq (upWords d) with
        | none => s
        | some t => t.dropDesc d

/-- HMQ_STALE: the stale notice, once (R323). -/
def hmqStale (q : Nat) (s : State) : State :=
  let h := s.hq q
  let us := min 1000000 (s.cf (HMQ_Q_CFG.STALE_US q))
  if s.up .hmq && us != 0 && !h.words.isEmpty && !h.stale && h.popAt + us * usec ≤ s.clk then
    (({ s with hmq := updAt s.hmq q fun h => { h with stale := true } }).put ⟨HMQ_STALE.adr, q, 1⟩ 1).raise
      HMQ_IRQ_STAT.STALE
  else s

/-- FLUSH: RP := WP, banks empty, the discarding state ended, PKTS 0 (R324). -/
def hmqFlushBody (s : State) : Nat × State :=
  let q := s.fld HMQ_CMD_ARG.INDEX
  let h := s.hq q
  (stDone, s.setHq q { h with rp := h.wp, buf := [], active := [], idle := [], discard := false })

def hmqFlush (s : State) : State := runCmd .hmq 1 hmqFlushBody s

/-- Every start leaves every queue empty, pointers at 0 (R324). -/
def hmqStart (s : State) : State :=
  { s with hmq := List.replicate 32 { wp := 0, rp := 0, buf := [], active := [], idle := [], discard := false, pushAt := 0
                                      popAt := 0, stale := false } }

end Sys2Proof.Machine
end

