-- ==== Sys2Proof/Machine/Civil.lean ====
section
/-! DEFINITION. Civil dates: days since 2000-01-01, calendar dates and weekdays (R86, R132 to R134). -/

namespace Sys2Proof.Machine

/-- A leap year of the Gregorian calendar. -/
def isLeap (y : Nat) : Bool := (y % 4 == 0 && y % 100 != 0) || y % 400 == 0

/-- Days of month `m` (1 to 12) of year `y`; 0 where there is no such month. -/
def monthDays (y m : Nat) : Nat :=
  if m = 2 ∧ isLeap y then 29 else [0, 31, 28, 31, 30, 31, 30, 31, 31, 30, 31, 30, 31].getD m 0

/-- Days from 2000-01-01 to 1 January of year `y`, for years from 2000. -/
def yearStart (y : Nat) : Nat :=
  let n := y - 2000
  365 * n + (n + 3) / 4 - (n + 99) / 100 + (n + 399) / 400

/-- Days from 1 January to the first of month `m`. -/
def monthStart (y m : Nat) : Nat := ((List.range (m - 1)).map fun k => monthDays y (k + 1)).foldl (· + ·) 0

/-- Days since 2000-01-01 of a date. -/
def dayOf (y m d : Nat) : Nat := yearStart y + monthStart y m + (d - 1)

/-- The year of a day number: searched from an estimate. -/
def yearOf (n : Nat) : Nat :=
  let y := 2000 + n / 366
  if n < yearStart (y + 1) then y else if n < yearStart (y + 2) then y + 1 else y + 2

/-- Month and day within a year, from the day of the year. -/
def monthOf (y : Nat) : Nat → Nat → Nat → Nat × Nat
  | 0, m, d => (m, d + 1)
  | f + 1, m, d => if d < monthDays y m then (m, d + 1) else monthOf y f (m + 1) (d - monthDays y m)

/-- The date of a day number: year, month, day. -/
def dateOf (n : Nat) : Nat × Nat × Nat :=
  let y := yearOf n
  let r := monthOf y 12 1 (n - yearStart y)
  (y, r.1, r.2)

/-- The weekday of a day number: 0 Monday to 6 Sunday; 2000-01-01 was a Saturday. -/
def weekday (n : Nat) : Nat := (n + 5) % 7

/-- A date exists. -/
def dateOk (y m d : Nat) : Bool := 1 ≤ m && m ≤ 12 && 1 ≤ d && d ≤ monthDays y m

/-- Seconds from 1970-01-01 to 2000-01-01. -/
def epochSecs : Nat := 946684800

/-- The layout of EMB_RTC_TIME for a second of the day. -/
def timeWord (n : Nat) : Nat := n / 3600 % 24 * 65536 + n / 60 % 60 * 256 + n % 60

/-- The layout of EMB_RTC_DATE for a day number. -/
def dateWord (n : Nat) : Nat :=
  let d := dateOf n
  weekday n * 2 ^ 28 + (d.1 - 2000) * 65536 + d.2.1 * 256 + d.2.2

/-! ### Local dates

Numbered from 1999-01-01, since a time zone puts the first hours of UTC's year 2000 into 1999 (R132, R140). -/

/-- Local date 0 in seconds since 1970: 1999-01-01. -/
def localEpoch : Nat := epochSecs - 365 * 86400

/-- The year of a local date. -/
def localYear (n : Nat) : Nat := if n < 365 then 1999 else yearOf (n - 365)

/-- Year, month and day of a local date. -/
def ymdOf (n : Nat) : Nat × Nat × Nat :=
  if n < 365 then (1999, (monthOf 1999 12 1 n).1, (monthOf 1999 12 1 n).2) else dateOf (n - 365)

/-- The local date of a year, month and day. -/
def localDayOf (y m d : Nat) : Nat := if y < 2000 then monthStart 1999 m + (d - 1) else 365 + dayOf y m d

/-- The weekday of a local date; 1999-01-01 was a Friday. -/
def localWeekday (n : Nat) : Nat := (n + 4) % 7

/-- YEAR of a local date as a word holds it: the year less 2000, in 8 bits (assumption 127). -/
def yearByte (y : Nat) : Nat := (y + 48) % 256

/-- The layout of EMB_RTC_DATE for a local date. -/
def localDateWord (n : Nat) : Nat :=
  let d := ymdOf n
  localWeekday n * 2 ^ 28 + yearByte d.1 * 65536 + d.2.1 * 256 + d.2.2

end Sys2Proof.Machine
end

