-- ==== Sys2Proof/Machine/Key.lean ====
section
/-! DEFINITION. The key store: slots and their uses, key blobs, derivations, sessions and the life cycle
(chapter 15, R405 to R419). -/

namespace Sys2Proof.Machine

/-- The bytes of an ASCII string without terminator. -/
def ascii (t : String) : List Byte := t.toList.map fun c => BitVec.ofNat 8 c.toNat

/-! ### Slots (R405) -/

/-- The key bytes of a slot. -/
def KeyBytes.get : KeyBytes → List Byte
  | .factory n => Config.factoryKey n
  | .bytes l => l

/-- KCV: the first 4 bytes of SHA-256 over "TLX-KCV" and the key, as the word holds them (R405, R420). -/
def KeySlot.kcv (k : KeySlot) : Nat := leAt (Config.sha256 (ascii "TLX-KCV" ++ k.key.get)) 0 4

/-- The filled slot of a number. -/
def State.slot (s : State) (n : Nat) : Option KeySlot := s.key.slots.find? (·.idx == n)

/-- A slot takes a content; the slots stand in rising order. -/
def slotIns (k : KeySlot) (l : List KeySlot) : List KeySlot :=
  l.filter (·.idx < k.idx) ++ [k] ++ l.filter (k.idx < ·.idx)

/-- The slots replaced. -/
def State.withSlots (s : State) (l : List KeySlot) : State := { s with key := { s.key with slots := l } }

/-- A refused use: counted, flagged and logged (R405). -/
def State.misuse (s : State) (n st src : Nat) : State :=
  ((s.bump KEY_CNT.MISUSE).raise KEY_IRQ_STAT.MISUSE).logEv 6 1 (leBytes 1 n ++ leBytes 1 st ++ leBytes 1 src)

/-- Bits of USAGE (Table 15.3). -/
def useCfgVerify : Nat := 0
def useFwVerify : Nat := 1
def useAuth : Nat := 2
def useRaf : Nat := 3
def useAttest : Nat := 4
def useRadioRoot : Nat := 5
def useWrap : Nat := 6
def useKeyAgree : Nat := 7
def useReturn : Nat := 8
def useEpFw : Nat := 9

/-- The key bytes of a slot for a purpose, or the status that refuses it: REFUSED_ARG for an empty slot or the wrong
type or usage, REFUSED_STATE outside the life-cycle mask or when exhausted (R405). -/
def State.slotFor (s : State) (n purpose : Nat) (typ : Nat → Bool) : KeySlot ⊕ Nat :=
  match s.slot n with
  | none => .inr stRefusedArg
  | some k =>
    if !bitOf k.usage purpose || !typ k.typ then .inr stRefusedArg
    else if !bitOf k.lc s.key.lc || k.exhausted then .inr stRefusedState
    else .inl k

/-- One use: USES falls by one unless unlimited, and the use that reaches 0 exhausts the slot (Table 15.2). -/
def KeySlot.spend (k : KeySlot) : KeySlot :=
  if k.uses = 0xFFFFFFFF then k
  else { k with uses := k.uses - 1, exhausted := k.uses ≤ 1 }

/-- A use of a slot: the key bytes, or the refusal, which is recorded. -/
def State.useSlot (s : State) (n purpose : Nat) (typ : Nat → Bool) (src : Nat) : State × (List Byte ⊕ Nat) :=
  match s.slotFor n purpose typ with
  | .inr st => (s.misuse n st src, .inr st)
  | .inl k => (s.withSlots (slotIns k.spend s.key.slots), .inl k.key.get)

/-! ### Key blobs (R407, R408) -/

/-- Key length of a type (Table 15.3); 0 for a type that does not exist. -/
def typeLen (t : Nat) : Nat := [0, 16, 32, 32, 64, 96, 32].getD t 0

/-- USAGE names only bits its type allows (Table 15.3). -/
def usageOk (t u : Nat) : Bool :=
  u < 1024 && (List.range 10).all fun b =>
    !bitOf u b || (([[3, 4, 5], [5], [3], [3], [3], [3], [2], [6], [5], [1]] : List (List Nat)).getD b []).contains t

/-- The fields of a blob are in rule, apart from its tag (R407). -/
def blobOk (b : List Byte) (lo hi : Nat) : Bool :=
  b.length == 160 && lo ≤ leAt b 0 1 && leAt b 0 1 ≤ hi && typeLen (leAt b 1 1) != 0 &&
    leAt b 0x0A 2 == typeLen (leAt b 1 1) && usageOk (leAt b 1 1) (leAt b 2 2) && leAt b 8 1 / 32 % 4 == 0 &&
    leAt b 0x0C 4 == 0 && leAt b 0x1C 4 == 0 && leAt b 0x90 16 == 0

/-- The slot a blob fills, from its plaintext (R407). -/
def blobSlot (b p : List Byte) : KeySlot :=
  { idx := leAt b 0 1, exhausted := leAt b 4 4 == 0, typ := leAt b 1 1, usage := leAt b 2 2, lc := leAt b 8 1 % 32
    expireReset := leAt b 8 1 ≥ 128, uses := leAt b 4 4, key := .bytes (p.take (leAt b 0x0A 2)) }

/-- The wrapping key of a blob: slot WRAP_SLOT, or ECDH transport where `eph` gives the peer's point (R407, R408). -/
def State.wrapKey (s : State) (w : Nat) (eph : Option (List Byte)) (src : Nat) : State × (List Byte ⊕ Nat) :=
  match w, eph with
  | 0xFE, none => (s, .inr stRefusedArg)
  | 0xFE, some q =>
    match s.useSlot 1 useKeyAgree (· == 6) src with
    | (s, .inr st) => (s, .inr st)
    | (s, .inl d) =>
      match Config.ecdhX d q with
      | none => (s, .inr stCheckFailed)
      | some x => (s, .inl (Config.hkdf x serialBytes (ascii "TLX-PROV") 32))
  | w, _ => s.useSlot w useWrap (· == 2) src

/-- A blob is opened with its wrapping key, and fills its slot (R407). The answer is a status. -/
def State.fillSlot (s : State) (b key : List Byte) : Nat × State :=
  match Config.gcmOpen key ((b.drop 0x10).take 12) (b.take 32) ((b.drop 0x20).take 96) ((b.drop 0x80).take 16) with
  | none => (stCheckFailed, s)
  | some p =>
    if (p.drop (leAt b 0x0A 2)).any (· != 0) then (stRefusedArg, s)
    else (stDone, s.withSlots (slotIns (blobSlot b p) s.key.slots))

/-- A blob is unwrapped into a slot between `lo` and `hi` (R407). The answer is a status. -/
def State.unwrap (s : State) (b : List Byte) (lo hi : Nat) (eph : Option (List Byte)) (src : Nat) : Nat × State :=
  if !blobOk b lo hi then (stRefusedArg, s)
  else
    match s.wrapKey (leAt b 9 1) eph src with
    | (s, .inr st) => (st, s)
    | (s, .inl key) => s.fillSlot b key

/-! ### Derivations (Table 15.8) -/

/-- ROOT_SLOT 0xFF names no root (Table 15.11). -/
def State.noRoot (s : State) : Bool := s.fld KEY_RADIO_CFG.ROOT_SLOT == 0xFF

/-- The slot that KEY_RADIO_CFG.ROOT_SLOT names, where it is filled. -/
def State.rootKey (s : State) : Option KeySlot := if s.noRoot then none else s.slot (s.fld KEY_RADIO_CFG.ROOT_SLOT)

/-- RR: a use of the slot KEY_RADIO_CFG.ROOT_SLOT names (R412). -/
def State.radioRoot (s : State) : State × (List Byte ⊕ Nat) :=
  if s.noRoot then (s, .inr stRefusedArg) else s.useSlot (s.fld KEY_RADIO_CFG.ROOT_SLOT) useRadioRoot (· == 3) 4

/-- RR without a use: for keys already derived from it (R405). -/
def State.rootBytes (s : State) : Option (List Byte) :=
  if s.noRoot then none
  else
    match s.slotFor (s.fld KEY_RADIO_CFG.ROOT_SLOT) useRadioRoot (· == 3) with
    | .inl k => some k.key.get
    | .inr _ => none

/-- SEG of the accepted image: 2 bytes. -/
def State.seg (s : State) : Nat := s.fld SYS_ID_SEG.SEG

/-- JK, the join key. -/
def joinKey (rr : List Byte) (seg : Nat) : List Byte := Config.hkdf rr (leBytes 2 seg) (ascii "TLX-JK") 16

/-- GK, the group key. -/
def groupKey (rr : List Byte) (seg : Nat) : List Byte := Config.hkdf (joinKey rr seg) (leBytes 2 seg) (ascii "TLX-GK") 16

/-- EUI ‖ EPA ‖ KEY_GEN. -/
def linkInfo (eui epa gen : Nat) : List Byte := leBytes 8 eui ++ leBytes 2 epa ++ leBytes 1 gen

/-- M_NONCE. -/
def mNonce (rr : List Byte) (eui epa gen : Nat) : List Byte :=
  (Config.hmac256 rr (ascii "TLX-MN" ++ linkInfo eui epa gen)).take 8

/-- LK, the link key of an endpoint at a KEY_GEN. -/
def linkKey (rr : List Byte) (seg eui epa gen : Nat) : List Byte :=
  Config.hkdf (joinKey rr seg) (mNonce rr eui epa gen) (ascii "TLX-LK" ++ linkInfo eui epa gen) 16

/-- The EUI-64 of a context. -/
def State.euiOf (s : State) (epa : Nat) : Nat := s.fld (EPC_EUI_LO.EUI_LO epa) + 2 ^ 32 * s.fld (EPC_EUI_HI.EUI_HI epa)

/-- The link key table's entry for an endpoint. -/
def State.tableKey (s : State) (epa : Nat) : Option (List Byte) := (s.key.linkKeys.find? (·.1 == epa)).map (·.2)

/-- The link key table replaced. -/
def State.withLinkKeys (s : State) (l : List (Nat × List Byte)) : State := { s with key := { s.key with linkKeys := l } }

/-- The link key table gives an entry up. -/
def State.dropLinkKey (s : State) (epa : Nat) : State := s.withLinkKeys (s.key.linkKeys.filter (·.1 != epa))

/-- One derivation into the link key table: a use of RR (R405, R413). Without RR the entry goes. -/
def State.deriveLink (s : State) (epa : Nat) : State :=
  match s.radioRoot with
  | (s, .inr _) => s.dropLinkKey epa
  | (s, .inl rr) =>
    let k := linkKey rr s.seg (s.euiOf epa) epa (s.fld (EPC_SEC.KEY_GEN epa))
    s.withLinkKeys ((s.key.linkKeys.filter (·.1 != epa)) ++ [(epa, k)])

/-- The endpoints whose link key the table keeps: joined radio endpoints (R413). -/
def State.joinedEpas (s : State) : List Nat :=
  (s.regs.filterMap fun x =>
    if 0x100000 ≤ x.1 && x.1 < 0x300000 && x.1 % 512 == 0x150 then some ((x.1 - 0x100000) / 512) else none).filter
    fun n => s.bit (EPC_SEC.JOINED n)

/-- The table is built again from the root (R413): every joined radio endpoint, in EPA order. -/
def State.rebuildLinks (s : State) : State :=
  let s := s.withLinkKeys []
  let s := s.joinedEpas.foldl State.deriveLink s
  { s with key := { s.key with rootKcv := s.rootKey.map KeySlot.kcv } }

/-- ROOT_SLOT_CHANGE: ROOT_SLOT names a key with another KCV, so the table is built anew and EPC_GTX_CTR becomes 0.
A first root, where none was in use before, keeps the counter (R413, assumption 30). -/
def rootSlotChange (s : State) : State :=
  if !s.up .key then s
  else
    match s.rootKey.map KeySlot.kcv, s.key.rootKcv with
    | none, _ => s
    | some k, old =>
      if old == some k then s
      else
        let s := s.rebuildLinks
        if old.isSome then (s.put EPC_GTX_CTR.CTR 0).put PAIR_STAT.STALE 0 else s

/-! ### Commands (R418) -/

/-- A source's own copy of the banked registers (R418). -/
def State.bank (s : State) (src : Nat) : KeyBank :=
  (s.key.banks.find? (·.src == src)).getD
    { src := src, code := 0, cmd := 0, status := 0, slot := 0, arg := 0, sessId := 0, nonce := none, proof := []
      eph := [], sig := [], blob := [], attNonce := [], attResp := [], fails := [], lockUntil := none }

/-- A source's copy takes a value. -/
def State.setBank (s : State) (b : KeyBank) : State :=
  { s with key := { s.key with banks := s.key.banks.filter (·.src != b.src) ++ [b] } }

/-- The bytes of a multi-word register: byte 4n in bits [7:0] of word n (R420). -/
def wordBytes (n : Nat) (l : List Word) : List Byte := (List.range n).flatMap fun k => leBytes 4 (l.getD k 0).toNat

/-- A source's last command reports its code and a status. -/
def State.keyStatus (s : State) (src code st : Nat) : State := s.setBank { s.bank src with cmd := code, status := st }

/-- A KEY command of a source: R15 in its own bank; while another's transition runs it waits its turn (R418). -/
def keyCmd (src : Src) (code : Nat) (f : State → Nat × State) (s : State) : State :=
  if !s.up .key || (s.bank src.code).status == stPending then s
  else
    let s := s.setBank { s.bank src.code with code := code }
    if s.key.intent.isSome then
      ({ s with key := { s.key with waiting := s.key.waiting ++ [(src, code)] } }).keyStatus src.code code stPending
    else
      let p := f s
      p.2.keyStatus src.code code p.1

/-- PROVISION: the blob goes to a persistent slot (R407, R408); privileged except in BLANK (Table 15.10). -/
def provisionBody (src : Src) (s : State) : Nat × State :=
  let f := fun (s : State) =>
    let b := s.bank src.code
    s.unwrap (wordBytes 40 b.blob) 4 63 (some (wordBytes 16 b.eph)) src.code
  if s.key.lc = 0 then f s else privileged src f s

/-- LOAD: the blob goes to a volatile slot (Table 15.10). -/
def loadBody (src : Src) (s : State) : Nat × State :=
  privileged src (fun s => s.unwrap (wordBytes 40 (s.bank src.code).blob) 64 255 none src.code) s

/-- The slot a configuration names: BBN_RAF_CFG.KEY_SLOT, ROOT_SLOT or the accepted image's SIG_KEY (R418). -/
def State.slotNamed (s : State) (n : Nat) : Bool :=
  s.fld BBN_RAF_CFG.KEY_SLOT == n || (!s.noRoot && s.fld KEY_RADIO_CFG.ROOT_SLOT == n) ||
    (match s.cfg.image with
     | some (_, _, k, _) => k == n
     | none => false)

/-- DESTROY: slot 4 to 255, unless the configuration names it (R418). -/
def destroyBody (src : Src) (s : State) : Nat × State :=
  privileged src (fun s =>
    let n := (s.bank src.code).slot
    if n < 4 then (stRefusedArg, s)
    else if s.slotNamed n then (stRefusedState, s)
    else (stDone, s.withSlots (s.key.slots.filter (·.idx != n)))) s

/-- OPEN_SESSION: a fresh nonce for a slot with AUTH usage (R416). -/
def openBody (src : Src) (s : State) : Nat × State :=
  let b := s.bank src.code
  match b.lockUntil with
  | some t => if s.clk < t then (stRefusedState, s) else openNonce b s
  | none => openNonce b s
where
  openNonce (b : KeyBank) (s : State) : Nat × State :=
    match s.slotFor b.slot useAuth (· == 3) with
    | .inr st => (st, s.misuse b.slot st src.code)
    | .inl _ => (stDone, (s.setBank { b with nonce := some (s.random 32, b.slot, s.clk) }).useFree)

/-- The proof a source must give (R416). -/
def proofOf (key nonce : List Byte) (src : Nat) : List Byte :=
  Config.hmac256 key (ascii "TLX-SESS" ++ nonce ++ serialBytes ++ leBytes 1 src)

/-- The IP address and UDP port of a RAF source; 0 for the others. -/
def srcPeer : Src → Nat × Nat
  | .raf ip port _ => (ip, port)
  | _ => (0, 0)

/-- A wrong proof: counted, logged, and the third within 60 s locks OPEN_SESSION for 60 s (R416). -/
def State.authFail (s : State) (src slot : Nat) : State :=
  let s := ((s.bump KEY_CNT.AUTH_FAIL).raise KEY_IRQ_STAT.AUTH_FAIL).logEv 6 4 (leBytes 1 slot ++ leBytes 1 src)
  let b := s.bank src
  let f := s.clk :: b.fails.filter fun t => s.clk < t + 60 * secs
  s.setBank { b with fails := if f.length ≥ 3 then [] else f
                     lockUntil := if f.length ≥ 3 then some (s.clk + 60 * secs) else b.lockUntil }

/-- A session opens for a source, in place of any it had (R416, R417). -/
def State.openSession (s : State) (src : Src) : State :=
  let id := max 1 (leVal (s.random 4))
  let x : Session := { src := src.code, id := id, ip := (srcPeer src).1, port := (srcPeer src).2, last := s.clk }
  let s := { s with key := { s.key with sessions := s.key.sessions.filter (fun (y : Session) => y.src != src.code) ++ [x] } }
  (s.setBank { s.bank src.code with sessId := id }).useFree

/-- PROVE: the proof is checked and the nonce is used up, whatever the outcome (R416). -/
def proveBody (src : Src) (s : State) : Nat × State :=
  let b := s.bank src.code
  let s := s.setBank { b with nonce := none }
  match b.nonce with
  | none => (stRefusedState, s)
  | some (nonce, slot, t) =>
    if t + 10 * secs < s.clk then (stTimeout, s)
    else
      match s.useSlot slot useAuth (· == 3) src.code with
      | (s, .inr st) => (st, s)
      | (s, .inl key) =>
        if wordBytes 8 b.proof == proofOf key nonce src.code then (stDone, s.openSession src)
        else (stCheckFailed, s.authFail src.code slot)

/-- CLOSE_SESSION ends the source's own session (R417). -/
def closeBody (src : Src) (s : State) : Nat × State :=
  if s.key.sessions.any (·.fits src) then
    (stDone, ({ s with key := { s.key with sessions := s.key.sessions.filter (!·.fits src) } }).setBank
      { s.bank src.code with sessId := 0 })
  else (stRefusedState, s)

/-! ### Attestation (R419) -/

/-- The digest of the running bundle (R424). -/
def State.runningDigest (s : State) : List Byte :=
  match s.upd.running with
  | 2 => Config.bundleDigest 2
  | n => ((s.upd.banks[n]?).map (·.digest)).getD []

/-- The digest of the other bank's verified bundle; nothing where none (Table 15.9). -/
def State.otherDigest (s : State) : List Byte :=
  match s.upd.banks[if s.upd.running = 0 then 1 else 0]? with
  | some b => if b.st = 3 ∨ b.st = 5 then b.digest else []
  | none => []

/-- Bytes to a fixed length, filled with 0. -/
def padTo (n : Nat) (l : List Byte) : List Byte := (l ++ List.replicate n 0).take n

/-- CFG_DIGEST as 32 bytes, in the order of R66. -/
def State.cfgDigest (s : State) : List Byte := (List.range 8).flatMap fun k => leBytes 4 (s.fld (CFG_DIGEST.WORD k))

/-- The first 208 bytes of an attestation response (Table 15.9). -/
def State.attestBody (s : State) (challenge : List Byte) : List Byte :=
  let flag := fun (b : Bool) (n : Nat) => if b then n else 0
  ascii "TLAT" ++ leBytes 2 1 ++
    leBytes 2 (flag s.digestBusy 1 + flag s.upd.glaze 2 + flag (s.bit SYS_STAT.SEG_DUP) 4 +
      flag (s.bit CFG_STAT.CONFLICT) 8) ++
    serialBytes ++ leBytes 2 s.seg ++ leBytes 1 (s.fld SYS_ID_SEG.POS) ++ leBytes 1 s.key.lc ++
    leBytes 4 (s.fld CFG_EPOCH.EPOCH) ++ padTo 32 challenge ++ s.cfgDigest ++ padTo 48 s.runningDigest ++
    padTo 48 s.otherDigest ++ leBytes 4 s.log.pcycle ++ leBytes 4 s.log.optime ++ leBytes 4 (s.fld BBN_RAF_EPOCH.EPOCH) ++
    leBytes 4 s.key.attCtr ++ leBytes 4 (if s.ntValid then s.ntSec else 0) ++ [0, 0, 0, 0]

/-- ATTEST: a use of a slot with ATTEST usage, and the response with its tag (R419). -/
def attestBody (src : Src) (s : State) : Nat × State :=
  let b := s.bank src.code
  match s.useSlot b.slot useAttest (· == 3) src.code with
  | (s, .inr st) => (st, s)
  | (s, .inl key) =>
    let s := { s with key := { s.key with attCtr := s.key.attCtr + 1 } }
    let r := s.attestBody (wordBytes 8 b.attNonce)
    (stDone, s.setBank { b with attResp := r ++ Config.hmac256 key r })

/-! ### Life cycle (R409 to R411) -/

/-- A fresh KEY_LC_NONCE (R410). -/
def State.freshLcNonce (s : State) : State := ({ s with key := { s.key with lcNonce := s.random 32 } }).useFree

/-- Every slot from 4 up that `f` names goes. -/
def State.destroySlots (s : State) (f : KeySlot → Bool) : State :=
  s.withSlots (s.key.slots.filter fun k => k.idx < 4 || !f k)

/-- What a transition destroys (Table 15.7). -/
def lcDestroy (old new : Nat) (s : State) : State :=
  if new = 2 then s.destroySlots fun k => !bitOf k.lc 2
  else if new = 3 ∨ new = 4 then
    let s := (s.destroySlots fun _ => true).withLinkKeys []
    let s := { s with cfg := { s.cfg with areas := [.blank, .blank, .blank] } }
    if new = 4 ∧ old ≠ 4 then { s with nvm := none } else s
  else s

/-- Steps 2 and 3 of a transition: destruction, then the new state (R411). -/
def lcComplete (i : LcIntent) (s : State) : State :=
  let s := lcDestroy i.old i.new s
  { s with key := { s.key with lc := i.new, intent := none } }

/-- A transition begins: the intent record (R411). A fresh nonce follows every life-cycle command (R410). -/
def lcBegin (src : Src) (new : Nat) (s : State) : Nat × State :=
  (stPending, { s with key := { s.key with intent := some { old := s.key.lc, new := new, src := src.code } } })

/-- A filled slot with a usage is present. -/
def State.hasUsage (s : State) (u : Nat) : Bool := s.key.slots.any fun k => bitOf k.usage u

/-- LC_ADVANCE to the state in ARG (Table 15.7). -/
def lcAdvanceBody (src : Src) (s : State) : Nat × State :=
  let target := (s.bank src.code).arg
  let p : Nat × State :=
    match s.key.lc, target with
    | 0, 1 => if s.hasUsage useAuth && s.hasUsage useCfgVerify then lcBegin src 1 s else (stRefusedState, s)
    | 1, 2 => privileged src (lcBegin src 2) s
    | 2, 3 => privileged src (lcBegin src 3) s
    | 0, _ => (stRefusedArg, s)
    | _, _ => privileged src (fun s => (if target > 4 then stRefusedArg else stRefusedState, s)) s
  (p.1, p.2.freshLcNonce)

/-- The bytes an authority signature covers (R410). -/
def State.lcMessage (s : State) (target : Nat) : List Byte :=
  ascii "TLX-LC" ++ serialBytes ++ leBytes 1 target ++ padTo 32 s.key.lcNonce

/-- A transition under an authority signature, verified with slot 3 (R410). -/
def lcSigned (src : Src) (target : Nat) (from_ : Nat → Bool) (s : State) : Nat × State :=
  let p : Nat × State :=
    if !from_ s.key.lc then (stRefusedState, s)
    else
      match s.useSlot 3 useReturn (· == 5) src.code with
      | (s, .inr st) => (st, s)
      | (s, .inl pub) =>
        let sig := wordBytes 24 (s.bank src.code).sig
        if Config.ecdsaP384 pub (Config.sha384 (s.lcMessage target)) (sig.take 48) (sig.drop 48) then lcBegin src target s
        else (stCheckFailed, s)
  (p.1, p.2.freshLcNonce)

/-- The body of a KEY command code (Table 15.10). -/
def keyBody (src : Src) (code : Nat) : State → Nat × State :=
  match code with
  | 1 => provisionBody src
  | 2 => loadBody src
  | 3 => destroyBody src
  | 4 => openBody src
  | 5 => proveBody src
  | 6 => closeBody src
  | 7 => attestBody src
  | 8 => lcAdvanceBody src
  | 9 => lcSigned src 4 fun l => l == 1 || l == 2 || l == 3
  | 10 => lcSigned src 0 (· == 4)
  | _ => fun s => (stRefusedArg, s)

/-- A write of a code to KEY_CMD by a source. -/
def keyWrite (src : Src) (code : Nat) (s : State) : State := keyCmd src code (keyBody src code) s

/-- A command that waited its turn is carried out, and leaves PENDING (R418). -/
def keyResume (x : Src × Nat) (s : State) : State :=
  let p := keyBody x.1 x.2 s
  (p.2.keyStatus x.1.code x.2 p.1).raise KEY_IRQ_STAT.CMD_DONE

/-- Waiting commands run in order until one begins a transition. -/
def keyDrain : List (Src × Nat) → State → State
  | [], s => s
  | x :: t, s =>
    let s := keyResume x s
    if s.key.intent.isSome then { s with key := { s.key with waiting := t } } else keyDrain t s

/-- LC_TRANSITION_DONE: the transition completes, is flagged and logged, and waiting commands follow (R411). -/
def lcTransitionDone (s : State) : State :=
  match s.key.intent with
  | none => s
  | some i =>
    if !s.up .key then s
    else
      let s := ((lcComplete i s).raise KEY_IRQ_STAT.LC_CHANGE).logEv 6 2 (leBytes 1 i.old ++ leBytes 1 i.new)
      let s := (s.setBank { s.bank i.src with status := stDone }).raise KEY_IRQ_STAT.CMD_DONE
      let w := s.key.waiting
      keyDrain w { s with key := { s.key with waiting := [] } }

/-- SESSION_LAPSE: the sessions of a source unused for TTL_S end (R417). -/
def sessionLapse (src : Nat) (s : State) : State :=
  if s.key.sessions.any (fun x => x.src == src && x.last + s.sessTtl ≤ s.clk) then
    let s := { s with key := { s.key with sessions := s.key.sessions.filter (·.src != src) } }
    (s.setBank { s.bank src with sessId := 0 }).raise KEY_IRQ_STAT.SESS_LAPSED
  else s

/-- AUTH_LOCKOUT_END: the refusal of OPEN_SESSION ends after 60 s (R416). -/
def authLockoutEnd (src : Nat) (s : State) : State :=
  let b := s.bank src
  match b.lockUntil with
  | some t => if t ≤ s.clk then s.setBank { b with lockUntil := none } else s
  | none => s

/-- A start ends every session and proof, loses volatile and expiring slots, completes a transition it finds, and
draws a new KEY_LC_NONCE (R405, R406, R410, R411, R417). -/
def keyStart (s : State) : State :=
  let s := match s.key.intent with
    | none => s
    | some i => (lcComplete i s).logEv 6 3 (leBytes 1 i.old ++ leBytes 1 i.new)
  let s := { s with key := { s.key with sessions := [], banks := [], waiting := [] } }
  (s.withSlots (s.key.slots.filter fun k => k.idx < 4 || (k.idx < 64 && !k.expireReset))).freshLcNonce

end Sys2Proof.Machine
end

