-- ==== Sys2Proof/Machine/Tep.lean ====
section
/-! DEFINITION. TEP messages, frame counters and the securing of frames (R112 to R114, R117, R272, R273). -/

namespace Sys2Proof.Machine

/-! ### What is kept of an endpoint -/

/-- An endpoint's record. -/
def State.run (s : State) (epa : Nat) : EpRun :=
  (s.epc.runs.find? (·.epa == epa)).getD
    { epa := epa, join := none, grp := none, cfg1 := none, cfg2 := none, resync := none, resyncLow := 0
      tsn := if epa = 4096 then 1 else 0, mismatches := 0, baseline := true, energyAt := none, energyNt := none
      launchAt := none, launchFade := 0, heardAt := s.epc.coldAt, replays := [], rekeyAt := none }

/-- An endpoint's record replaced. -/
def State.setRun (s : State) (r : EpRun) : State :=
  { s with epc := { s.epc with runs := s.epc.runs.filter (·.epa != r.epa) ++ [r] } }

/-- An endpoint's record forgotten. -/
def State.dropRun (s : State) (epa : Nat) : State :=
  { s with epc := { s.epc with runs := s.epc.runs.filter (·.epa != epa) } }

/-- States of a context (Table 4.2). -/
def stEmpty : Nat := 0
def stReserved : Nat := 1
def stActive : Nat := 2
def stSuspended : Nat := 3
def stUnavailable : Nat := 7

/-- STATE of a context. -/
def State.epState (s : State) (epa : Nat) : Nat := s.fld (EPC_STATE.STATE epa)

/-- The context is RESERVED, ACTIVE or SUSPENDED. -/
def State.epLive (s : State) (epa : Nat) : Bool := [1, 2, 3].contains (s.epState epa)

/-- REACH of a context (Table 4.3). -/
def State.reach (s : State) (epa : Nat) : Nat := s.fld (EPC_REACH.REACH epa)

/-- A radio endpoint. -/
def State.isRadio (s : State) (epa : Nat) : Bool := s.reach epa == 1

/-- Contexts that hold anything: those with a word listed in the register store. -/
def State.knownEpas (s : State) : List Nat :=
  ((s.regs.filter fun x => 0x100000 ≤ x.1 && x.1 < 0x300000).map fun x => (x.1 - 0x100000) / 512).eraseDups

/-- The EPAs of endpoints in service that `f` accepts, lowest first. -/
def State.epas (s : State) (f : Nat → Bool) : List Nat := s.knownEpas.filter fun n => s.epLive n && f n

/-- Membership of a segment group (EPC_GRP). -/
def State.inGroup (s : State) (epa g : Nat) : Bool := bitOf (s.fld (EPC_GRP.MEMBER epa (g / 32))) (g % 32)

/-! ### Messages (R114) -/

/-- A TEP message: TYPE, TSN, fields. -/
def tepMsg (typ tsn : Nat) (fields : List Byte) : List Byte := leBytes 1 typ ++ leBytes 1 tsn ++ fields

/-- The next TSN to an endpoint, or of group frames (EPA 4096): assumption 35. -/
def State.takeTsn (s : State) (epa : Nat) : Nat × State :=
  let r := s.run epa
  (r.tsn, s.setRun { r with tsn := (r.tsn + 1) % 256 })

/-- A frame to one endpoint under its link key, and its TSN. -/
def State.mkUnicast (s : State) (epa typ : Nat) (fields : List Byte) (o : Owner) : Frame × Nat × State :=
  let r := s.takeTsn epa
  ({ typ := typ, msg := tepMsg typ r.1 fields, dst := .ep epa, key := 1, launch := none, persist := none, owner := o
     psdu := none }, r.1, r.2)

/-- A frame to a group or the segment under the group key. -/
def State.mkGroup (s : State) (typ : Nat) (fields : List Byte) (o : Owner) : Frame × State :=
  let r := s.takeTsn 4096
  ({ typ := typ, msg := tepMsg typ r.1 fields, dst := .all, key := 2, launch := none, persist := none, owner := o
     psdu := none }, r.2)

/-- A unicast frame is made and queued to its endpoint; the TSN is answered. -/
def State.sendUnicast (s : State) (epa typ : Nat) (fields : List Byte) (o : Owner) : Nat × State :=
  let r := s.mkUnicast epa typ fields o
  (r.2.1, (r.2.2.sendEp epa r.1).2)

/-! ### Counters and securing (R113, R117, R120, R273) -/

/-- The counter of a key: EPC_GTX_CTR for the group and join keys, TX_CTR for a link key (R117). -/
def ctrField (f : Frame) : Fld :=
  match f.dst, f.key with
  | .ep epa, 1 => EPC_TX_CTR.CTR epa
  | _, _ => EPC_GTX_CTR.CTR

/-- The link key that an endpoint's unicast frames are secured under: while a rejoin or rekey is not yet proven, the one of the
previous KEY_GEN (R107, R413). -/
def State.unicastKey (s : State) (epa : Nat) : Option (List Byte) :=
  match (s.run epa).join with
  | some j =>
    if s.bit (EPC_SEC.JOINED epa) then s.rootBytes.map fun rr => linkKey rr s.seg (s.euiOf epa) epa j.oldGen else s.tableKey epa
  | none => s.tableKey epa

/-- The key bytes a frame is secured under; nothing where there is none. -/
def State.frameKey (s : State) (f : Frame) : Option (List Byte) :=
  match f.dst, f.key with
  | .ep epa, 1 => s.unicastKey epa
  | _, 2 => s.rootBytes.map fun rr => groupKey rr s.seg
  | _, 3 => s.rootBytes.map fun rr => joinKey rr s.seg
  | _, _ => none

/-- The module's radio EUI-64, RAD_EUI (R273). -/
def State.radEui (s : State) : Nat := s.fld RAD_EUI_LO.EUI_LO + 2 ^ 32 * s.fld RAD_EUI_HI.EUI_HI

/-- Frame control of the frames the module sends, as IEEE 802.15.4 prescribes for Table 10.3: frame version 2, sequence
number suppressed; secured data frames, short or extended addressing, acknowledgements (assumption 36). -/
def fcData (ar ext : Bool) : Nat :=
  1 + 8 + (if ar then 32 else 0) + (if ext then 0 else 64) + 256 + 0x2000 + (if ext then 0xCC00 else 0x8800)

def fcAck (ext : Bool) : Nat := 2 + 64 + 256 + 512 + 0x2000 + (if ext then 0x0C00 else 0x0800)

/-- The MAC header of a frame: frame control, addressing and auxiliary security header (Table 10.3). -/
def State.frameHeader (s : State) (f : Frame) (level ctr : Nat) : List Byte :=
  let aux := leBytes 1 (level + 8) ++ leBytes 4 ctr ++ leBytes 1 f.key
  match f.dst with
  | .ep epa => leBytes 2 (fcData true false) ++ leBytes 2 s.seg ++ leBytes 2 epa ++ leBytes 2 0xF000 ++ aux
  | .all => leBytes 2 (fcData false false) ++ leBytes 2 s.seg ++ leBytes 2 0xFFFF ++ leBytes 2 0xF000 ++ aux
  | .eui _ eui => leBytes 2 (fcData true true) ++ leBytes 2 s.seg ++ leBytes 8 eui ++ leBytes 8 s.radEui ++ aux

/-- The CCM* nonce: sender's EUI-64, frame counter, security level (R113). -/
def ccmNonce (eui ctr level : Nat) : List Byte := beBytes 8 eui ++ beBytes 4 ctr ++ leBytes 1 level

/-- One bit through the 2-octet FCS of IEEE 802.15.4. -/
def fcsBit (c : Nat) : Nat := if c % 2 == 1 then (c / 2) ^^^ 0x8408 else c / 2

/-- The FCS of a frame: 2 octets (ITU-T CRC-16) or 4 (CRC-32), as IEEE 802.15.4 defines them. -/
def fcsOf (n : Nat) (l : List Byte) : List Byte :=
  if n = 4 then leBytes 4 (crc32 l)
  else leBytes 2 (l.foldl (fun c b => fcsBit (fcsBit (fcsBit (fcsBit (fcsBit (fcsBit (fcsBit (fcsBit
    (c ^^^ b.toNat))))))))) 0)

/-- A frame secured with a counter it has taken (R273); nothing where the counter is exhausted (R120) or the key is
missing. An exhausted unicast counter is reported by `State.ctrSpent`. -/
def State.secure (s : State) (ch : Nat) (f : Frame) : Option (Frame × State) :=
  if f.psdu.isSome then some (f, s)
  else
    let c := ctrField f
    let ctr := s.fld c
    match s.frameKey f with
    | none => none
    | some key =>
      if ctr = 0xFFFFFFFF then none
      else
        let level := s.txLevel f.typ
        let h := s.frameHeader f level ctr
        let b := h ++ Config.ccmSeal key (ccmNonce s.radEui ctr level) h f.msg (micLen level)
        some ({ f with psdu := some (b ++ fcsOf (s.fcsLen ch) b) }, s.put c (ctr + 1))

end Sys2Proof.Machine
end

