-- ==== Sys2Proof/Machine/Epc.lean ====
section
/-! DEFINITION. Endpoint contexts: their commands, joining, configuration frames, reports and the snapshot
(chapter 04, R96 to R131). -/

namespace Sys2Proof.Machine

/-! ### Accumulators (R12) -/

/-- A 64-bit accumulator in two words. -/
def State.acc (s : State) (lo hi : Nat) : Nat := s.rd lo + 2 ^ 32 * s.rd hi

/-- The accumulator takes a value. -/
def State.setAcc (s : State) (lo hi v : Nat) : State := (s.wr lo v).wr hi (v / 2 ^ 32)

/-- The accumulator grows. -/
def State.addAcc (s : State) (lo hi n : Nat) : State := s.setAcc lo hi (s.acc lo hi + n)

/-- The pending snapshot of an accumulator, by its low word's offset; 0 where none. -/
def State.rarShadow (s : State) (lo : Nat) : Nat := ((s.rar.find? (·.1 == lo)).map (·.2)).getD 0

/-- The shadow of an accumulator replaced. -/
def State.setRar (s : State) (lo v : Nat) : State := { s with rar := s.rar.filter (·.1 != lo) ++ [(lo, v)] }

/-- Energy is added to a context's EPC_EN, and to the reconciliation windows of the feeders whose group holds it
(R401). -/
def State.addEn (s : State) (epa n : Nat) : State :=
  let s := s.addAcc (EPC_EN_LO.adr epa) (EPC_EN_HI.adr epa) n
  let f := fun (r : RecRun) => if s.inGroup epa (s.cf (MTR_FDR_REC_CFG.GROUP r.feeder)) then { r with ep := r.ep + n } else r
  { s with mtr := { s.mtr with recs := s.mtr.recs.map f } }

/-- An endpoint has reported energy (R402). -/
def State.energyHeard (s : State) (epa : Nat) : State :=
  let f := fun (r : RecRun) => if r.heard.contains epa then r else { r with heard := epa :: r.heard }
  { s with mtr := { s.mtr with recs := s.mtr.recs.map f } }

/-! ### States and counts (R104) -/

/-- A context takes a state, and EPC_STAT counts with it. Gear that becomes RESERVED or ACTIVE is to be commissioned
(R246). -/
def State.setEpState (s : State) (epa st : Nat) : State :=
  let was := s.epState epa
  let s := s.put (EPC_STATE.STATE epa) st
  let gear := s.fld (EPC_STATE.CLASS epa) == 4 && (st == stReserved || st == stActive)
  let s := if gear && was != st then { s with epc := { s.epc with toCommission := s.epc.toCommission ++ [epa] } } else s
  let adj := fun (s : State) (f : Fld) (k : Nat) =>
    s.put f (s.fld f + (if st = k then 1 else 0) - (if was = k then 1 else 0))
  adj (adj s EPC_STAT.ACTIVE stActive) EPC_STAT.RESERVED stReserved

/-- The first offset of a context's words. -/
def ctxBase (epa : Nat) : Nat := 0x100000 + 0x200 * epa

/-- Every word of a context at its reset value: EMPTY (R99, R110). -/
def State.clearCtx (s : State) (epa : Nat) : State :=
  let s := (s.setEpState epa stEmpty).resetRange (ctxBase epa) (ctxBase epa + 0x200)
  let lfe := { s.lfe with mem := s.lfe.mem.filter fun (m : LvlMem) => m.epa != epa }
  ({ s with rar := s.rar.filter (·.1 != EPC_EN_LO.adr epa), lfe := lfe }).dropRun epa

/-- The words that identify a context: 0x000 to 0x00F. -/
def State.identity (s : State) (epa : Nat) : List Word := (List.range 4).map fun k => s.word (ctxBase epa + 4 * k)

/-- A join, REPLACE or REMOVE leaves a join record until the next STORE (R128). -/
def State.joinRecord (s : State) (epa : Nat) : State :=
  { s with epc := { s.epc with joins := s.epc.joins.filter (·.1 != epa) ++ [(epa, s.identity epa)] } }

/-! ### Faults (R125, R127) -/

/-- The bit of a fault code (Table 4.7). -/
def faultBit (code : Nat) : Nat :=
  if 1 ≤ code ∧ code ≤ 15 then code else if 0x80 ≤ code ∧ code ≤ 0x86 then code - 0x80 + 16 else 15

/-- The effects of a fault raised (R125). -/
def State.faultUp (s : State) (epa code detail : Nat) : State :=
  let s := s.put (EPC_FAULT_ACT.ACTIVE epa) (s.fld (EPC_FAULT_ACT.ACTIVE epa) ||| 2 ^ faultBit code)
  let s := ((s.put (EPC_FAULT_LAST.CODE epa) code).bump (EPC_FAULT_LAST.COUNT epa)).put (EPC_FAULT_DETAIL.DETAIL epa) detail
  (s.raise EPC_IRQ_STAT.FAULT).logEv 10 2 (leBytes 2 epa ++ leBytes 1 code ++ leBytes 4 detail)

/-- A fault the module raises: it acts only when the bit changes from 0 to 1 (R127). -/
def State.raiseFault (s : State) (epa code detail : Nat) : State :=
  if bitOf (s.fld (EPC_FAULT_ACT.ACTIVE epa)) (faultBit code) then s else s.faultUp epa code detail

/-- A fault code clears. -/
def State.clearFault (s : State) (epa code : Nat) : State :=
  let a := s.fld (EPC_FAULT_ACT.ACTIVE epa)
  if bitOf a (faultBit code) then s.put (EPC_FAULT_ACT.ACTIVE epa) (a - 2 ^ faultBit code) else s

/-! ### Snapshot (R128, R396) -/

/-- Words of MTR that the snapshot holds: accumulators with their flags, pulse configuration and backlog (R396). -/
def isMeterWord (a : Nat) : Bool :=
  (0x483000 ≤ a && a < 0x483C00 && 0x60 ≤ (a - 0x483000) % 0x100 && (a - 0x483000) % 0x100 ≤ 0x98) ||
    (0x486000 ≤ a && a < 0x486100)

/-- A context's part of the snapshot. -/
def State.snapCtx (s : State) (epa : Nat) : SnapCtx :=
  { epa := epa, ident := s.identity epa
    energy := [s.word (EPC_EN_LO.adr epa), s.word (EPC_EN_HI.adr epa), s.word (EPC_EN_RAW.adr epa),
               s.word (EPC_EN_STAT.adr epa)]
    shadow := s.rarShadow (EPC_EN_LO.adr epa), txCtr := s.fld (EPC_TX_CTR.CTR epa), rxHigh := s.fld (EPC_RX_HIGH.CTR epa)
    keyGen := s.fld (EPC_SEC.KEY_GEN epa), joined := s.bit (EPC_SEC.JOINED epa), baseline := (s.run epa).baseline }

/-- GENERATION of the image in force; 0 where none. -/
def State.imageGen (s : State) : Nat :=
  match s.cfg.image with
  | some (g, _) => g
  | none => 0

/-- The NVM context snapshot is written (R83, R117, R128). -/
def State.snapshot (s : State) : State :=
  let n : Snapshot :=
    { gen := s.imageGen, nt := if s.ntValid then some s.nt else none, ctxs := s.knownEpas.map s.snapCtx
      gtx := s.fld EPC_GTX_CTR.CTR
      removed := [s.word EPC_REMOVED_EN_LO.adr, s.word EPC_REMOVED_EN_HI.adr, s.word EPC_REMOVED_EN_STAT.adr]
      removedShadow := s.rarShadow EPC_REMOVED_EN_LO.adr, joins := s.epc.joins
      meter := s.regs.filter fun x => isMeterWord x.1
      meterShadow := s.rar.filter fun x => 0x480000 ≤ x.1, residues := s.mtr.pulses.map (·.residue), rems := s.mtr.rems
      optime := s.log.optime, pcycle := s.log.pcycle, slots := [] }
  let ctrs := (4096, s.fld EPC_GTX_CTR.CTR) :: s.knownEpas.map fun e => (e, s.fld (EPC_TX_CTR.CTR e))
  { s with nvm := some n, epc := { s.epc with snapCtr := ctrs } }

/-- A counter has advanced 32,768 or more beyond its last snapshotted value: the snapshot is written early (R117). -/
def State.earlySnapshot (s : State) (key ctr : Nat) : State :=
  let last := ((s.epc.snapCtr.find? (·.1 == key)).map (·.2)).getD 0
  if last + 32768 ≤ ctr then s.snapshot else s

/-! ### Joining and rekeying (R106, R107, R120, R413 to R415) -/

/-- The fields of JOIN_ACC (Table 4.5). -/
def joinAccFields (rr : List Byte) (seg eui epa gen : Nat) (nonce : List Byte) : List Byte :=
  leBytes 2 seg ++ leBytes 2 epa ++ leBytes 1 gen ++ [0] ++ mNonce rr eui epa gen ++ padTo 8 nonce

/-- A JOIN_ACC is queued to an endpoint under the join key (R106, R414). -/
def State.sendJoinAcc (s : State) (epa : Nat) (nonce : List Byte) : State :=
  match s.rootBytes with
  | none => s
  | some rr =>
    let t := s.takeTsn epa
    let fields := joinAccFields rr s.seg (s.euiOf epa) epa (s.fld (EPC_SEC.KEY_GEN epa)) nonce
    (t.2.sendEp epa
      { typ := 0x0A, msg := tepMsg 0x0A t.1 fields, dst := .eui epa (s.euiOf epa), key := 3, launch := none
        persist := none, owner := .none, psdu := none }).2

/-- A join attempt begins or restarts: KEY_GEN rises when none was pending, JOIN_ACC is queued, 60 s run (R106). -/
def State.beginJoin (s : State) (epa kind oldState : Nat) (nonce : List Byte) : State :=
  let r := s.run epa
  match r.join with
  | some j => (s.setRun { r with join := some { j with deadline := s.clk + 60 * secs } }).sendJoinAcc epa nonce
  | none =>
    let g := s.fld (EPC_SEC.KEY_GEN epa)
    let j : JoinPend := { kind := kind, oldState := oldState, oldGen := g, deadline := s.clk + 60 * secs }
    let s := ((s.setRun { r with join := some j, rekeyAt := none }).put (EPC_SEC.KEY_GEN epa) (g + 1)).deriveLink epa
    (s.put (EPC_RPT_FLAGS.JOIN_PENDING epa) 1).sendJoinAcc epa nonce

/-- A rekey of a joined endpoint (R414). -/
def State.rekey (s : State) (epa : Nat) : State :=
  if (s.run epa).join.isSome || !s.bit (EPC_SEC.JOINED epa) then s else s.beginJoin epa 4 (s.epState epa) []

/-- What an endpoint's counter asks for where it now stands: at its end the endpoint is sent nothing further, with fault 0x86, and
from 0xFFFF_0000 on it is rekeyed, at once unless a lapsed rekey waits to start again (R120, R414). -/
def State.ctrWorn (s : State) (epa : Nat) : State :=
  let c := s.fld (EPC_TX_CTR.CTR epa)
  let s := if c = 0xFFFFFFFF then s.raiseFault epa 0x86 0 else s
  if 0xFFFF0000 ≤ c && (s.run epa).rekeyAt.isNone then s.rekey epa else s

/-- What follows a counter's advance: the rekeys and the fault of R120, KEY_GTX_LOW (R415) and the early snapshot (R117). -/
def State.ctrTaken (s : State) (f : Frame) : State :=
  match f.dst, f.key with
  | .ep epa, 1 => (s.earlySnapshot epa (s.fld (EPC_TX_CTR.CTR epa))).ctrWorn epa
  | _, _ =>
    let c := s.fld EPC_GTX_CTR.CTR
    let s := s.earlySnapshot 4096 c
    if c = 0xFFFF0000 then ((s.put KEY_STAT.GTX_LOW 1).raise KEY_IRQ_STAT.GTX_LOW).logEv 6 5 (leBytes 4 c) else s

/-- FRAME_SECURE: a frame takes its counter and is secured, or is discarded: the frame, or nothing (R120, R273). -/
def State.takeSecure (s : State) (ch : Nat) (f : Frame) : Option Frame × State :=
  if f.psdu.isSome then (some f, s)
  else
    match s.secure ch f with
    | some (g, s) => (some g, s.ctrTaken g)
    | none =>
      match f.dst, f.key with
      | .ep epa, 1 => (none, if s.fld (EPC_TX_CTR.CTR epa) = 0xFFFFFFFF then s.raiseFault epa 0x86 0 else s)
      | _, _ => (none, s)

/-- The context that holds an EUI-64 with a radio reach. -/
def State.holder (s : State) (eui : Nat) : Option Nat := (s.epas fun n => s.isRadio n && s.euiOf n == eui).head?

/-- The lowest-numbered EMPTY context. -/
def State.firstEmpty (s : State) : Option Nat := (List.range 4096).find? fun n => s.epState n == stEmpty

/-- A radio class (Table 4.3). -/
def radioClass (c : Nat) : Bool := c == 1 || c == 2 || c == 3

/-- A JOIN_REQ from an unknown EUI while joining is open (R106, case 3). -/
def State.openJoin (s : State) (ch eui cls : Nat) (nonce : List Byte) : State :=
  match s.firstEmpty with
  | none => s.bump EPC_RX_DROP.UNKNOWN_SRC
  | some n =>
    let s := (s.clearCtx n).setEpState n stReserved
    let s := (((s.put (EPC_STATE.CLASS n) cls).put (EPC_REACH.REACH n) 1).put (EPC_REACH.PORT n) ch).put
      (EPC_REACH.ADDR n) 0xFFF
    let s := ((s.put (EPC_PARAMS.PROGRAM n) (s.fld EPC_JOIN_CTL.DEF_PROGRAM)).put (EPC_EUI_LO.EUI_LO n) eui).put
      (EPC_EUI_HI.EUI_HI n) (eui / 2 ^ 32)
    (s.beginJoin n 3 stEmpty nonce).idleRestart

/-- JOIN_REQ on channel `ch`, with an extended source where `ext` (R106). -/
def joinReq (ch : Nat) (ext : Bool) (eui cls : Nat) (nonce : List Byte) (s : State) : State :=
  if !s.up .epc then s
  else if !ext then s.bump EPC_RX_DROP.UNKNOWN_SRC
  else
    match s.holder eui with
    | some n => (s.beginJoin n (if s.epState n = stReserved then 1 else 2) (s.epState n) nonce).idleRestart
    | none =>
      if s.bit EPC_JOIN_CTL.OPEN && radioClass cls then s.openJoin ch eui cls nonce else s.bump EPC_RX_DROP.UNKNOWN_SRC

/-- JOIN_LAPSE: a join not proven within 60 s lapses (R107); a lapsed rekey starts again after 60 s (R414). -/
def joinLapse (epa : Nat) (s : State) : State :=
  let r := s.run epa
  match r.join with
  | none => s
  | some j =>
    if s.clk < j.deadline || !s.up .epc || s.standby then s
    else if j.kind = 3 then (s.clearCtx epa).dropLinkKey epa
    else
      let s := (s.setRun { r with join := none, rekeyAt := if j.kind = 4 then some (s.clk + 60 * secs) else none }).put
        (EPC_RPT_FLAGS.JOIN_PENDING epa) 0
      let s := (s.put (EPC_SEC.KEY_GEN epa) j.oldGen).setEpState epa j.oldState
      let s := if s.bit (EPC_SEC.JOINED epa) then s.deriveLink epa else s.dropLinkKey epa
      s.raiseFault epa 0x85 0

/-- REKEY_RETRY (R414). -/
def rekeyRetry (epa : Nat) (s : State) : State :=
  match (s.run epa).rekeyAt with
  | some t => if t ≤ s.clk && s.up .epc && s.mayCommand then (s.setRun { s.run epa with rekeyAt := none }).rekey epa else s
  | none => s

/-- JOIN_OPEN_EXPIRY: OPEN clears OPEN_MIN minutes after it was set (R108). -/
def joinOpenExpiry (s : State) : State :=
  let m := clampN 1 1440 (s.fld EPC_JOIN_CTL.OPEN_MIN)
  if s.up .epc && s.bit EPC_JOIN_CTL.OPEN && s.epc.openAt + m * 60 * secs ≤ s.clk then s.put EPC_JOIN_CTL.OPEN 0 else s

/-! ### Groups, reporting intervals and their acknowledgement (R111, R119, R497) -/

/-- A GROUPS frame with the endpoint's whole membership is queued, and GRP_PENDING set (R111). -/
def State.sendGroups (s : State) (epa : Nat) : State :=
  let m := (List.range 8).flatMap fun w => leBytes 4 (s.fld (EPC_GRP.MEMBER epa w))
  let r := s.sendUnicast epa 9 m .none
  let s := r.2.put (EPC_RPT_FLAGS.GRP_PENDING epa) 1
  s.setRun { s.run epa with grp := some { tsn := r.1, at_ := s.clk } }

/-- EPC_GRP_WRITE (R111). -/
def epcGrpWrite (epa w v : Nat) (s : State) : State :=
  if !s.up .epc || s.epState epa = stUnavailable then s
  else
    let same := s.fld (EPC_GRP.MEMBER epa w) == v % 2 ^ 32
    let s := s.put (EPC_GRP.MEMBER epa w) v
    if !same && s.epLive epa && s.isRadio epa then s.sendGroups epa else s

/-- A frame that waits for its acknowledgement was last sent 30 s ago, or at no time that the module still knows. -/
def State.repeatDue (s : State) (w : Option AckWait) : Bool := (w.map fun a => decide (a.at_ + 30 * secs ≤ s.clk)).getD true

/-- GROUPS_REPEAT (R111). -/
def groupsRepeat (epa : Nat) (s : State) : State :=
  if s.up .swc && s.mayCommand && s.bit (EPC_RPT_FLAGS.GRP_PENDING epa) && s.repeatDue (s.run epa).grp then s.sendGroups epa else s

/-- A CONFIG frame of a reporting interval is queued: parameter 1 STATUS_S, 2 ENERGY_S (R497). -/
def State.sendConfig (s : State) (epa param : Nat) : State :=
  let v := if param = 1 then s.fld (EPC_REPORT_CFG.STATUS_S epa) else s.fld (EPC_REPORT_CFG.ENERGY_S epa)
  let r := s.sendUnicast epa 8 (leBytes 2 param ++ leBytes 4 v) .none
  let w : Option AckWait := some { tsn := r.1, at_ := r.2.clk }
  let run := r.2.run epa
  r.2.setRun (if param = 1 then { run with cfg1 := w } else { run with cfg2 := w })

/-- REPORT_CFG_WRITE (R497). -/
def reportCfgWrite (epa v : Nat) (s : State) : State :=
  if !s.up .epc || s.epState epa = stUnavailable then s
  else
    let a := s.fld (EPC_REPORT_CFG.STATUS_S epa)
    let b := s.fld (EPC_REPORT_CFG.ENERGY_S epa)
    let s := s.wr (EPC_REPORT_CFG.adr epa) v
    if !(s.epLive epa && s.isRadio epa && s.bit (EPC_SEC.JOINED epa)) then s
    else
      let s := if s.fld (EPC_REPORT_CFG.STATUS_S epa) = a then s else s.sendConfig epa 1
      if s.fld (EPC_REPORT_CFG.ENERGY_S epa) = b then s else s.sendConfig epa 2

/-- CONFIG_REPEAT (R497). -/
def configRepeat (epa param : Nat) (s : State) : State :=
  let r := s.run epa
  match if param = 1 then r.cfg1 else r.cfg2 with
  | some a => if s.up .swc && s.mayCommand && a.at_ + 30 * secs ≤ s.clk then s.sendConfig epa param else s
  | none => s

/-- A RESYNC frame carrying RX_FLOOR is queued (R119). -/
def State.sendResync (s : State) (epa : Nat) : State :=
  let r := s.sendUnicast epa 0x0D (leBytes 4 (s.fld (EPC_RX_FLOOR.CTR epa))) .none
  r.2.setRun { r.2.run epa with resync := some { tsn := r.1, at_ := r.2.clk } }

/-- RESYNC_REPEAT (R119). -/
def resyncRepeat (epa : Nat) (s : State) : State :=
  match (s.run epa).resync with
  | some a =>
    if s.up .swc && s.mayCommand && s.bit (EPC_RPT_FLAGS.RESYNC epa) && a.at_ + 30 * secs ≤ s.clk then s.sendResync epa else s
  | none => s

/-- Whether a wait is for a TSN. -/
def waitsFor (w : Option AckWait) (tsn : Nat) : Bool :=
  match w with
  | some a => a.tsn == tsn
  | none => false

/-- What a CFG_ACK acknowledges is no longer pending (R111, R119, R497). -/
def State.acked (s : State) (epa typ tsn : Nat) : State :=
  let r := s.run epa
  if typ = 9 ∧ waitsFor r.grp tsn then (s.setRun { r with grp := none }).put (EPC_RPT_FLAGS.GRP_PENDING epa) 0
  else if typ = 0x0D then (s.setRun { r with resync := none }).put (EPC_RPT_FLAGS.RESYNC epa) 0
  else if typ = 8 ∧ waitsFor r.cfg1 tsn then s.setRun { r with cfg1 := none }
  else if typ = 8 ∧ waitsFor r.cfg2 tsn then s.setRun { r with cfg2 := none }
  else s

/-- The first frame that authenticates under the new key completes a join or rekey (R107). -/
def State.completeJoin (s : State) (epa : Nat) : State :=
  let r := s.run epa
  match r.join with
  | none => s
  | some j =>
    let s := s.setRun { r with join := none, resync := none, baseline := true, grp := none
                               cfg1 := none, cfg2 := none }
    let s := ((s.put (EPC_RPT_FLAGS.JOIN_PENDING epa) 0).put (EPC_RPT_FLAGS.RESYNC epa) 0).put (EPC_SEC.JOINED epa) 1
    let s := (((s.put (EPC_TX_CTR.CTR epa) 0).put (EPC_RX_HIGH.CTR epa) 0).put (EPC_RX_WIN.MAP epa) 0).put
      (EPC_RX_FLOOR.CTR epa) 0
    let s := if s.epState epa = stReserved then s.setEpState epa stActive else s
    let s := (s.put EPC_JOIN_EPA.EPA epa).put EPC_JOIN_EPA.VALID 1
    let s := (s.raise EPC_IRQ_STAT.JOIN).logEv 10 1
      (leBytes 2 epa ++ leBytes 1 (s.fld (EPC_SEC.KEY_GEN epa)) ++ leBytes 1 j.kind)
    let s := (if j.kind = 4 then s else s.joinRecord epa).sendGroups epa
    let s := if s.fld (EPC_REPORT_CFG.STATUS_S epa) = 0 then s else s.sendConfig epa 1
    if s.fld (EPC_REPORT_CFG.ENERGY_S epa) = 0 then s else s.sendConfig epa 2

/-! ### Reports (R121 to R126) -/

/-- An accepted frame clears SILENT and its fault (R126). -/
def State.heard (s : State) (epa : Nat) : State :=
  (((s.setRun { s.run epa with heardAt := s.clk }).put (EPC_RPT_FLAGS.SILENT epa) 0).clearFault epa 0x80).idleRestart

/-- What every accepted uplink frame leaves in its context (R121). -/
def State.linkUpdate (s : State) (epa : Nat) (l : LinkInfo) : State :=
  let s := ((s.putI (EPC_RPT_LINK.RSSI epa) l.rssi).put (EPC_RPT_LINK.LQI epa) l.lqi).put (EPC_RPT_LINK.RC epa) l.ch
  (s.put (EPC_RPT_NT.SEC epa) (s.ntSec % 2 ^ 32)).heard epa

/-- The module ingests frames of this context: it is in service and its domain is up. -/
def State.ingests (s : State) (epa : Nat) : Bool := s.up .epc && s.epLive epa

/-- The report is compared with the command: more than its fade time plus 1 s after its launch, and the endpoint has
neither fault 0x01 nor 0x02 (R122). -/
def State.judged (s : State) (epa : Nat) : Bool :=
  let r := s.run epa
  (match r.launchAt with
   | some t => t + r.launchFade * 10 * msec + secs < s.clk
   | none => false) && (s.fld (EPC_FAULT_ACT.ACTIVE epa) &&& 6) == 0

/-- MISMATCH of a reported level (R122). -/
def State.judgeLevel (s : State) (epa level : Nat) : State :=
  if !s.judged epa then s
  else
    let cmd := s.fld (EPC_LVL_CMD.LEVEL epa)
    let r := s.run epa
    if s.fld EPC_MISMATCH_CFG.TOL < max cmd level - min cmd level then
      let s := s.setRun { r with mismatches := r.mismatches + 1 }
      if max 1 (s.fld EPC_MISMATCH_CFG.COUNT) ≤ r.mismatches + 1 then
        let s := if s.bit (EPC_RPT_FLAGS.MISMATCH epa) then s
          else (s.put (EPC_RPT_FLAGS.MISMATCH epa) 1).raise EPC_IRQ_STAT.MISMATCH
        s.raiseFault epa 0x81 0
      else s
    else ((s.setRun { r with mismatches := 0 }).put (EPC_RPT_FLAGS.MISMATCH epa) 0).clearFault epa 0x81

/-- STATUS sets what the endpoint reports and is judged (R122, R125). -/
def epcStatus (epa : Nat) (m : StatusMsg) (l : LinkInfo) (s : State) : State :=
  if !s.ingests epa then s
  else
    let s := s.linkUpdate epa l
    let s := ((s.put (EPC_LVL_RPT.LEVEL epa) m.level).put (EPC_LVL_RPT.CCT epa) m.cct).put (EPC_RPT_FLAGS.EP_FLAGS epa) m.flags
    let s := (s.putI (EPC_RPT_ENV.TEMP epa) m.temp).put (EPC_RPT_ENV.SUPPLY epa) m.supply
    let s := s.judgeLevel epa m.level
    if bitOf m.flags 5 then s
    else s.put (EPC_FAULT_ACT.ACTIVE epa) (s.fld (EPC_FAULT_ACT.ACTIVE epa) / 2 ^ 16 * 2 ^ 16)

/-- The energy of a delta exceeds EPC_EN_MAXW over an interval of counts of 2 ns (R124). -/
def State.implausible (s : State) (delta dt : Nat) : Bool := s.fld EPC_EN_MAXW.W * dt < delta * 36 * secs

/-- The interval since the previous ENERGY frame, where it is known (R124). -/
def State.energyGap (s : State) (r : EpRun) : Option Nat :=
  match r.energyAt, r.energyNt with
  | some t, _ => some (s.clk - t)
  | none, some n => if s.ntValid then some ((s.nt - n) / 2) else none
  | none, none => none

/-- CUM and EPOCH are the new baseline. -/
def State.setBaseline (s : State) (epa epoch cum power : Nat) : State :=
  let s := ((s.put (EPC_EN_RAW.CUM epa) cum).put (EPC_EN_STAT.EPOCH epa) epoch).put (EPC_POWER.DW epa) power
  (s.setRun { s.run epa with baseline := false, energyAt := some s.clk, energyNt := none }).energyHeard epa

/-- ENERGY: a baseline, an implausible delta, or an addition (R123, R124). -/
def State.addEnergy (s : State) (epa epoch cum power : Nat) : State :=
  let r := s.run epa
  if r.baseline then s.setBaseline epa epoch cum power
  else
    let delta := if epoch = s.fld (EPC_EN_STAT.EPOCH epa) then (cum + 2 ^ 32 - s.fld (EPC_EN_RAW.CUM epa)) % 2 ^ 32 else cum
    let bad := ((s.energyGap r).map fun dt => s.implausible delta dt).getD false
    let s := s.setBaseline epa epoch cum power
    if bad then (s.put (EPC_EN_STAT.IMPLAUSIBLE epa) 1).raiseFault epa 0x83 0
    else s.addEn epa (delta * 10)

def epcEnergy (epa epoch cum power : Nat) (l : LinkInfo) (s : State) : State :=
  if s.ingests epa then (s.linkUpdate epa l).addEnergy epa epoch cum power else s

/-- FAULT, frame by frame (R125). -/
def epcFault (epa code raised detail : Nat) (l : LinkInfo) (s : State) : State :=
  if !s.ingests epa then s
  else
    let s := s.linkUpdate epa l
    if raised = 1 then s.faultUp epa code detail
    else if raised = 0 then s.clearFault epa code
    else s

/-- INFO (R121). -/
def epcInfo (epa fw model hours : Nat) (l : LinkInfo) (s : State) : State :=
  if !s.ingests epa then s
  else
    let s := ((s.linkUpdate epa l).put (EPC_INFO_FW.FW epa) fw).put (EPC_INFO_HOURS.HOURS epa) hours
    (s.put (EPC_INFO_MODEL.MODEL epa 0) model).put (EPC_INFO_MODEL.MODEL epa 1) (model / 2 ^ 32)

/-- CFG_ACK (R111, R119, R497). -/
def cfgAck (epa typ tsn : Nat) (l : LinkInfo) (s : State) : State :=
  if s.ingests epa then (s.linkUpdate epa l).acked epa typ tsn else s

/-- SILENT_CHECK of one endpoint (R126). -/
def State.silentEp (s : State) (epa : Nat) : State :=
  let t := clampN 60 86400 (s.fld EPC_SILENT_TIME.SEC) * secs
  if s.epState epa = stActive && s.isRadio epa && (s.run epa).heardAt + t ≤ s.clk then
    let s := if s.bit (EPC_RPT_FLAGS.SILENT epa) then s else (s.put (EPC_RPT_FLAGS.SILENT epa) 1).raise EPC_IRQ_STAT.SILENT
    s.raiseFault epa 0x80 0
  else s

/-- SILENT_CHECK (R126). -/
def silentCheck (s : State) : State :=
  if s.up .epc && !s.standby then (s.epas fun _ => true).foldl State.silentEp s else s

/-! ### Commands (R104, R109, R110, Table 4.9) -/

/-- The reach of a class, and the ranges of its PORT and ADDR (Table 4.3). -/
def classOk (cls reach port addr : Nat) : Bool :=
  if cls = 1 ∨ cls = 2 ∨ cls = 3 then reach == 1 && port ≤ 7
  else if cls = 4 ∨ cls = 5 then reach == 2 && port ≤ 15 && addr ≤ 63
  else if cls = 6 then reach == 3 && (if addr = 0xFFF then port ≤ 63 else addr ≤ 15)
  else if cls = 7 then reach == 4 && port ≤ 11 && addr == 0xFFF
  else if cls = 8 then reach == 5 && port ≤ 11 && addr == 0xFFF
  else if cls = 9 then reach == 6 && port ≤ 71 && addr == 0xFFF
  else false

/-- What R101 lets only one context hold: EUI-64 of a radio reach, or the reach itself. -/
def State.claimKey (s : State) (epa eui : Nat) : Nat × Nat :=
  let port := s.fld (EPC_REACH.PORT epa)
  let addr := s.fld (EPC_REACH.ADDR epa)
  match s.reach epa with
  | 1 => (1, eui)
  | 2 => (2, port * 4096 + addr)
  | 3 => if addr = 0xFFF then (3, port) else (3, 4096 + addr)
  | r => (r, port)

/-- A context other than `epa` holds the same (R101). -/
def State.duplicate (s : State) (epa eui : Nat) : Bool :=
  let k := s.claimKey epa eui
  s.knownEpas.any fun n => n != epa && s.epLive n && s.claimKey n (s.euiOf n) == k

/-- The channel of colour `j` of set `k`. -/
def State.setChan (s : State) (k j : Nat) : Nat :=
  if j = 0 then s.fld (DRV_SET_CFG.CH0 k) else if j = 1 then s.fld (DRV_SET_CFG.CH1 k)
  else if j = 2 then s.fld (DRV_SET_CFG.CH2 k) else s.fld (DRV_SET_CFG.CH3 k)

/-- Colours of a set. -/
def State.setCols (s : State) (k : Nat) : Nat := s.fld (DRV_SET_CFG.NCOL k) + 1

/-- The enabled set and colour that a channel serves. -/
def State.colourOf (s : State) (n : Nat) : Option (Nat × Nat) :=
  (List.range 16).findSome? fun k =>
    if s.bit (DRV_SET_CFG.EN k) then
      ((List.range (s.setCols k)).find? fun j => s.setChan k j == n).map fun j => (k, j)
    else none

/-- A reach that its chapter refuses: a channel that is a colour of an enabled set (R217), or a CURVE out of range (R218,
R244, R256). -/
def State.reachRefused (s : State) (epa : Nat) : Bool :=
  let curve := s.fld (EPC_PARAMS.CURVE epa)
  match s.reach epa with
  | 2 => s.fld (EPC_STATE.CLASS epa) == 4 && 15 < curve
  | 3 => 15 < curve || (s.fld (EPC_REACH.ADDR epa) == 0xFFF && (s.colourOf (s.fld (EPC_REACH.PORT epa))).isSome)
  | 4 => 7 < curve
  | _ => false

/-- ACTIVATE (R100, R101, R217, R218, R244, R256). -/
def activateBody (epa : Nat) (s : State) : Nat × State :=
  if s.epState epa ≠ stEmpty then (stRefusedState, s)
  else if !classOk (s.fld (EPC_STATE.CLASS epa)) (s.reach epa) (s.fld (EPC_REACH.PORT epa)) (s.fld (EPC_REACH.ADDR epa)) ||
      s.duplicate epa (s.euiOf epa) || s.reachRefused epa then (stRefusedArg, s)
  else
    let s := s.setRun { s.run epa with heardAt := s.clk }
    (stDone, s.setEpState epa (if s.isRadio epa then stReserved else stActive))

/-- SUSPEND (R105). -/
def suspendBody (epa : Nat) (s : State) : Nat × State :=
  if s.epState epa = stReserved ∨ s.epState epa = stActive then (stDone, s.setEpState epa stSuspended)
  else (stRefusedState, s)

/-- RESUME (Table 4.4). -/
def resumeBody (epa : Nat) (s : State) : Nat × State :=
  if s.epState epa ≠ stSuspended then (stRefusedState, s)
  else (stDone, s.setEpState epa (if s.bit (EPC_SEC.JOINED epa) || !s.isRadio epa then stActive else stReserved))

/-- Reported state, active faults, SILENT and MISMATCH cleared by REPLACE (R109). -/
def State.clearReports (s : State) (epa : Nat) : State :=
  let s := [EPC_LVL_RPT.adr epa, EPC_RPT_ENV.adr epa, EPC_RPT_LINK.adr epa, EPC_RPT_NT.adr epa, EPC_INFO_FW.adr epa,
    EPC_INFO_MODEL.adr epa 0, EPC_INFO_MODEL.adr epa 1, EPC_INFO_HOURS.adr epa, EPC_FAULT_ACT.adr epa].foldl
    (fun s a => s.wr a 0) s
  ((s.put (EPC_RPT_FLAGS.EP_FLAGS epa) 0).put (EPC_RPT_FLAGS.SILENT epa) 0).put (EPC_RPT_FLAGS.MISMATCH epa) 0

/-- A radio endpoint replaced: KEY_GEN rises, JOINED and the counters clear (R109). A join pending for the old endpoint
is over. -/
def State.replaceRadio (s : State) (epa : Nat) : State :=
  let s := (s.put (EPC_SEC.KEY_GEN epa) (s.fld (EPC_SEC.KEY_GEN epa) + 1)).put (EPC_SEC.JOINED epa) 0
  let s := (((s.put (EPC_TX_CTR.CTR epa) 0).put (EPC_RX_HIGH.CTR epa) 0).put (EPC_RX_WIN.MAP epa) 0).put
    (EPC_RX_FLOOR.CTR epa) 0
  let s := s.setRun { s.run epa with join := none, rekeyAt := none, resync := none, grp := none, cfg1 := none, cfg2 := none }
  ((((s.put (EPC_RPT_FLAGS.JOIN_PENDING epa) 0).put (EPC_RPT_FLAGS.RESYNC epa) 0).put (EPC_RPT_FLAGS.GRP_PENDING epa)
    0).deriveLink epa).setEpState epa stReserved

/-- REPLACE (R109). -/
def replaceBody (epa : Nat) (s : State) : Nat × State :=
  let eui := s.fld EPC_CMD_ARG1.EUI_LO + 2 ^ 32 * s.fld EPC_CMD_ARG2.EUI_HI
  if !s.epLive epa then (stRefusedState, s)
  else if s.isRadio epa && s.duplicate epa eui then (stRefusedArg, s)
  else
    let s := (s.put (EPC_EUI_LO.EUI_LO epa) eui).put (EPC_EUI_HI.EUI_HI epa) (eui / 2 ^ 32)
    let s := s.clearReports epa
    let s := s.setRun { s.run epa with baseline := true, mismatches := 0, energyAt := none, energyNt := none
                                       heardAt := s.clk }
    let s := if s.isRadio epa then s.replaceRadio epa else s.setEpState epa stActive
    (stDone, s.joinRecord epa)

/-- The LEAVE of REMOVE, secured at once under the key and counter held, goes to the channel's port-class queue
(R110). -/
def State.sendLeave (s : State) (epa : Nat) : State :=
  if !(s.isRadio epa && s.bit (EPC_SEC.JOINED epa)) then s
  else
    let ch := s.fld (EPC_REACH.PORT epa) % 8
    let m := s.mkUnicast epa 0x0B [1, 0] .none
    match m.2.2.takeSecure ch m.1 with
    | (some f, s) =>
      let c := s.fld (SWC_PORT_CFG.EQ_CLASS ch)
      (s.enq (4096 + 8 * ch + c) 14 c (s.psduLen ch f) (.tep f)).2
    | (none, s) => s

/-- A context's energy, with any pending snapshot, moves to EPC_REMOVED_EN (R110). -/
def State.saveEnergy (s : State) (epa : Nat) : State :=
  let e := s.acc (EPC_EN_LO.adr epa) (EPC_EN_HI.adr epa) +
    (if s.bit (EPC_EN_STAT.PENDING epa) then s.rarShadow (EPC_EN_LO.adr epa) else 0)
  s.addAcc EPC_REMOVED_EN_LO.adr EPC_REMOVED_EN_HI.adr e

/-- REMOVE (R110). -/
def removeBody (epa : Nat) (s : State) : Nat × State :=
  if !s.epLive epa then (stRefusedState, s)
  else (stDone, ((((s.sendLeave epa).saveEnergy epa).clearCtx epa).dropLinkKey epa).joinRecord epa)

/-- CLEAR_FAULT (R125): every fault of a context in service. -/
def clearFaultBody (epa : Nat) (s : State) : Nat × State :=
  if !s.epLive epa then (stRefusedState, s) else (stDone, s.put (EPC_FAULT_ACT.ACTIVE epa) 0)

/-- SNAPSHOT: PENDING until the write completes (Table 4.9). -/
def snapshotBody (s : State) : Nat × State :=
  let s := s.snapshot
  (stPending, { s with epc := { s.epc with snapping := true } })

/-- SNAPSHOT_DONE (R83, Table 4.9). -/
def snapshotDone (s : State) : State :=
  if s.epc.snapping then
    let s := { s with epc := { s.epc with snapping := false } }
    if s.isPending .epc 7 then finishCmd .epc stDone s else s
  else s

/-- A command on the context EPC_CMD_ARG0 names. -/
def epcCmd (code : Nat) (f : Nat → State → Nat × State) (s : State) : State :=
  runCmd .epc code (fun s => f (s.fld EPC_CMD_ARG0.EPA) s) s

/-- A read of EPC_JOIN_EPA: the word, and VALID cleared (R131). -/
def joinEpaRead (s : State) : Nat × State := (s.rd EPC_JOIN_EPA.adr, s.put EPC_JOIN_EPA.VALID 0)

end Sys2Proof.Machine
end

