-- ==== Sys2Proof/Machine/Sch.lean ====
section
/-! DEFINITION. Schedules: local civil time, day types, solar events, programs, scenes and the evaluation second
(chapter 05, R132 to R148). -/

namespace Sys2Proof.Machine

/-! ### Local time (R132, R133) -/

/-- UTC seconds since 1970 (R341). -/
def State.utc (s : State) : Int := (s.ntSec : Int) - s.sfld NTU_UTC.OFS

/-- Local civil time is valid (R132). -/
def State.localValid (s : State) : Bool :=
  s.ntValid && decide ((epochSecs : Int) ≤ s.utc) && decide (s.utc < epochSecs + 86400 * yearStart 2200)

/-- SCH_TZ and the daylight saving delta, s. -/
def State.tz (s : State) : Int := s.cfI SCH_TZ.MIN * 60
def State.dstDelta (s : State) : Int := min 120 (s.cf SCH_DST_CTL.DELTA) * 60

/-- A daylight saving rule register: its fields in force. -/
structure DstRule where
  basis : Bool
  month : Nat
  week : Nat
  wday : Nat
  minute : Nat
deriving DecidableEq, Repr

def State.dstStart (s : State) : DstRule :=
  { basis := s.cfB SCH_DST_START.BASIS, month := s.cf SCH_DST_START.MONTH, week := s.cf SCH_DST_START.WEEK
    wday := s.cf SCH_DST_START.WDAY, minute := s.cf SCH_DST_START.MINUTE }

def State.dstEnd (s : State) : DstRule :=
  { basis := s.cfB SCH_DST_END.BASIS, month := s.cf SCH_DST_END.MONTH, week := s.cf SCH_DST_END.WEEK
    wday := s.cf SCH_DST_END.WDAY, minute := s.cf SCH_DST_END.MINUTE }

/-- A rule's values lie in range (R133). -/
def DstRule.ok (r : DstRule) : Bool :=
  1 ≤ r.month && r.month ≤ 12 && 1 ≤ r.week && r.week ≤ 5 && r.wday ≤ 6 && r.minute ≤ 1439

/-- The day a rule names in a year (R133). -/
def DstRule.day (r : DstRule) (y : Nat) : Nat :=
  let first := localDayOf y r.month 1
  let d := first + (r.wday + 7 - localWeekday first) % 7
  let len := monthDays y r.month
  if r.week = 5 then (if d + 28 < first + len then d + 28 else d + 21) else d + 7 * (r.week - 1)

/-- The UTC instant a rule names in a year; `shift` is the local offset from UTC just before the change. -/
def DstRule.instant (r : DstRule) (y : Nat) (shift : Int) : Int :=
  let t : Int := localEpoch + 86400 * r.day y + 60 * r.minute
  if r.basis then t else t - shift

/-- START and END of a year, UTC. -/
def State.dstInstants (s : State) (y : Nat) : Int × Int :=
  (s.dstStart.instant y s.tz, s.dstEnd.instant y (s.tz + s.dstDelta))

/-- A rule register holds a value out of range (R133). -/
def State.dstOut (s : State) : Bool := !s.dstStart.ok || !s.dstEnd.ok

/-- The rule is bad in a year: out of range, or with START and END the same instant, whether in use or not (R133). -/
def State.dstBad (s : State) (y : Nat) : Bool := s.dstOut || (s.dstInstants y).1 == (s.dstInstants y).2

/-- The local date of an instant shifted by an offset. -/
def localDay (u shift : Int) : Nat := ((u + shift - localEpoch) / 86400).toNat

/-- Daylight saving is in force at a UTC instant (R133). -/
def State.dstAt (s : State) (u : Int) : Bool :=
  let y := localYear (localDay u s.tz)
  if !s.cfB SCH_DST_CTL.EN || s.dstBad y then false
  else
    let p := s.dstInstants y
    if p.1 < p.2 then decide (p.1 ≤ u) && decide (u < p.2) else decide (u < p.2) || decide (p.1 ≤ u)

/-- Local offset from UTC at an instant. -/
def State.localShift (s : State) (u : Int) : Int := if s.dstAt u then s.tz + s.dstDelta else s.tz

/-- The local date of an instant, and the second of its day. -/
def State.localDate (s : State) (u : Int) : Nat := localDay u (s.localShift u)
def State.localSec (s : State) (u : Int) : Nat := ((u + s.localShift u) % 86400).toNat

/-! ### Day types (R134) -/

/-- An exception entry names a date that exists; an ANNUAL 29 February does (R134). -/
def excOk (annual : Bool) (y m d : Nat) : Bool := if annual then dateOk 2000 m d else dateOk y m d

/-- Entry `i` covers a date. -/
def State.excCovers (s : State) (i day : Nat) : Bool :=
  let annual := s.cfB (SCH_EXC_W0.ANNUAL i)
  let m := s.cf (SCH_EXC_W0.MONTH i)
  let d := s.cf (SCH_EXC_W0.DAY i)
  let len := max 1 (s.cf (SCH_EXC_W1.LENGTH i))
  let from_ := fun (y : Nat) => dateOk y m d && localDayOf y m d ≤ day && day < localDayOf y m d + len
  s.cfB (SCH_EXC_W0.EN i) &&
    (if annual then (let y := localYear day; from_ y || (1999 < y && from_ (y - 1)))
     else from_ (2000 + s.cf (SCH_EXC_W0.YEAR i)))

/-- The exception that decides a date: the lowest index. -/
def State.excOf (s : State) (day : Nat) : Option Nat := (List.range 128).find? fun i => s.excCovers i day

/-- The day type of a date. -/
def State.dayType (s : State) (day : Nat) : Nat :=
  match s.excOf day with
  | some i => s.cf (SCH_EXC_W1.DAYTYPE i)
  | none => bitsOf (s.cf SCH_WEEK.MAP) (4 * localWeekday day) 4

/-- Some enabled entry names a date that does not exist. -/
def State.badExc (s : State) : Bool :=
  (List.range 128).any fun i => s.cfB (SCH_EXC_W0.EN i) &&
    !excOk (s.cfB (SCH_EXC_W0.ANNUAL i)) (2000 + s.cf (SCH_EXC_W0.YEAR i)) (s.cf (SCH_EXC_W0.MONTH i)) (s.cf (SCH_EXC_W0.DAY i))

/-! ### Solar events (R137) -/

/-- The standard-time seconds of event `e` on date `day`, given today's date: nothing where it is absent; and whether
the fallback was used. `published` is false for NEXT_LIT's later dates (R146). -/
def State.solarSec (s : State) (today day e : Nat) : Option Int × Bool :=
  let ofs := s.cfI (SCH_SOLAR_OFS.SEC e)
  let fb := ((some ((s.cf (SCH_SOLAR_FB.SEC e) : Int) + ofs)), true)
  if day + 1 < today ∨ today + 1 < day then fb
  else
    let d := day + 1 - today
    if !s.bit (SCH_SOLAR.VALID d e) then fb
    else if s.bit (SCH_SOLAR.ABSENT d e) then (none, false)
    else (some ((s.fld (SCH_SOLAR.SEC d e) : Int) + ofs), false)

/-! ### Steps (R138, R139) -/

/-- A step as it is in force (Table 5.3). -/
structure Step where
  k : Nat
  anchor : Nat
  scene : Bool
  offset : Int
  time : Nat
  days : Nat
  level : Nat
  fade : Nat
  cct : Nat
deriving DecidableEq, Repr

def State.schStep (s : State) (p k : Nat) : Step :=
  { k := k, anchor := s.cf (SCH_STEP_W0.ANCHOR p k), scene := s.cfB (SCH_STEP_W0.ACTION p k)
    offset := s.cfI (SCH_STEP_W0.OFFSET p k), time := s.cf (SCH_STEP_W0.TIME p k), days := s.cf (SCH_STEP_W1.DAYS p k)
    level := s.cf (SCH_STEP_W1.LEVEL p k), fade := s.cf (SCH_STEP_W2.FADE p k), cct := s.cf (SCH_STEP_W2.CCT p k) }

/-- A step breaks R138, used or not. -/
def Step.bad (t : Step) : Bool :=
  8 < t.anchor || (t.anchor == 1 && (86399 < t.time || t.offset != 0)) || (1 < t.anchor && t.time != 0) ||
    (t.scene && 63 < t.level) || (t.cct != 0 && (t.cct < 1000 || 10000 < t.cct))

/-- Midnight in local standard time of a date, UTC. -/
def State.midnight (s : State) (day : Nat) : Int := (localEpoch : Int) + 86400 * day - s.tz

/-- The instants at which daylight saving may begin or end about a date: START and END of the year and its neighbours, and the
changes of the year themselves (R133). -/
def State.dstChanges (s : State) (day : Nat) : List Int :=
  let y := localYear day
  [y - 1, y, y + 1].flatMap fun y => [(s.dstInstants y).1, (s.dstInstants y).2, s.midnight (localDayOf y 1 1)]

/-- The instant of a wall clock time on a date, UTC (R139): its first occurrence, or the first instant after the gap. -/
def State.wallInstant (s : State) (day sec : Nat) : Int :=
  let std := s.midnight day + sec
  let dst := std - s.dstDelta
  if s.dstAt dst then dst
  else if !s.dstAt std then std
  else ((s.dstChanges day).filter fun u => decide (dst < u) && decide (u < std) && s.dstAt u).foldl min std

/-- The instant of a step on a date where it applies; and the event whose fallback it used. -/
def State.stepInstant (s : State) (today day : Nat) (t : Step) : Option Int × Option Nat :=
  if t.anchor = 0 ∨ t.bad ∨ !bitOf t.days (s.dayType day) then (none, none)
  else if t.anchor = 1 then (some (s.wallInstant day t.time), none)
  else
    let r := s.solarSec today day (t.anchor - 2)
    (r.1.map fun x => s.midnight day + clampI 0 86399 (x + 60 * t.offset),
     if r.2 then some (t.anchor - 2) else none)

/-! ### The step in force (R140) -/

/-- A candidate and its instant replace a worse one. -/
def better (b : Option (Step × Int)) (t : Step) (u : Int) : Option (Step × Int) :=
  match b with
  | none => some (t, u)
  | some (x, v) => if v < u ∨ (u = v ∧ (x.time < t.time ∨ (x.time = t.time ∧ x.k < t.k))) then some (t, u) else b

/-- The best step of a date not after `now`, and the first event whose fallback was used. -/
def State.bestOn (s : State) (p today day : Nat) (now : Int) : Option (Step × Int) × Option Nat :=
  (List.range 32).foldl (fun acc k =>
    let t := s.schStep p k
    let r := s.stepInstant today day t
    let b := match r.1 with
      | some u => if u ≤ now then better acc.1 t u else acc.1
      | none => acc.1
    (b, acc.2.or r.2)) (none, none)

/-- The fallback used on a date joins those of other dates. -/
def noteFallback (l : List (Nat × Nat)) (day : Nat) (e : Option Nat) : List (Nat × Nat) :=
  match e with
  | some e => if l.any (·.1 == day) then l else l ++ [(day, e)]
  | none => l

/-- The step in force of program `p` at a UTC instant: today's, or else yesterday's; and the fallbacks used, by date. -/
def State.inForce (s : State) (p ref : Nat) (now : Int) : Option Step × List (Nat × Nat) :=
  let today := s.localDate now
  let a := s.bestOn p ref today now
  match a.1 with
  | some (t, _) => (some t, noteFallback [] today a.2)
  | none =>
    let b := s.bestOn p ref (today - 1) now
    (b.1.map (·.1), noteFallback (noteFallback [] today a.2) (today - 1) b.2)

/-- The output of a program (Table 5.8, SCH_PROG_OUT). -/
structure ProgOut where
  level : Nat
  scene : Bool
  cct : Nat
  fade : Nat
  none_ : Bool
  noTime : Bool
  step : Nat
deriving DecidableEq, Repr

/-- The output of a program under a step in force, or without one (R140). -/
def State.progOut (s : State) (p : Nat) (valid : Bool) (t : Option Step) : ProgOut :=
  if !valid then
    { level := s.cf (SCH_PROG_ATTR.NO_TIME p), scene := false, cct := 0, fade := 0, none_ := false, noTime := true, step := 0 }
  else
    match t with
    | none => { level := s.cf (SCH_PROG_ATTR.DEFAULT p), scene := false, cct := 0, fade := 0, none_ := true
                noTime := false, step := 0 }
    | some t => { level := t.level, scene := t.scene, cct := t.cct, fade := t.fade, none_ := false, noTime := false
                  step := t.k }

/-- SCH_PROG_OUT[p] takes an output. -/
def State.setProgOut (s : State) (p : Nat) (o : ProgOut) : State :=
  let b := fun (x : Bool) (n : Nat) => if x then n else 0
  (s.wr (SCH_PROG_OUT_W0.adr p) (o.cct * 65536 + o.level)).wr (SCH_PROG_OUT_W1.adr p)
    (o.fade * 65536 + b o.scene 128 + b o.none_ 64 + b o.noTime 32 + o.step)

/-- SCH_PROG_OUT[p] as it stands. -/
def State.getProgOut (s : State) (p : Nat) : ProgOut :=
  { level := s.fld (SCH_PROG_OUT_W0.LEVEL p), scene := s.bit (SCH_PROG_OUT_W1.SCENE p)
    cct := s.fld (SCH_PROG_OUT_W0.CCT p), fade := s.fld (SCH_PROG_OUT_W1.FADE p), none_ := s.bit (SCH_PROG_OUT_W1.NONE p)
    noTime := s.bit (SCH_PROG_OUT_W1.NO_TIME p), step := s.fld (SCH_PROG_OUT_W1.STEP p) }

/-! ### Scenes and base levels (R141, R142) -/

/-- Level and CCT of an endpoint under a scene (R142). -/
def State.sceneFor (s : State) (epa sc : Nat) : Nat × Nat :=
  match (List.range 256).find? fun g => s.inGroup epa g && s.cfB (SCH_SCENE.DEF sc g) with
  | some g => (s.cf (SCH_SCENE.LEVEL sc g), s.cf (SCH_SCENE.CCT sc g))
  | none => (s.cf (SCH_SCENE_DEF.LEVEL sc), s.cf (SCH_SCENE_DEF.CCT sc))

/-- Level and CCT of an endpoint under a program's output. -/
def State.outFor (s : State) (epa : Nat) (o : ProgOut) : Nat × Nat :=
  if o.scene then s.sceneFor epa (o.level % 64) else (o.level, o.cct)

/-- One endpoint's base level, with its CCT and fade for arbitration (R141). -/
def State.setBase (s : State) (epa : Nat) : State :=
  let o := s.getProgOut (s.fld (EPC_PARAMS.PROGRAM epa))
  let r := s.outFor epa o
  let s := s.put (EPC_LVL_BASE.BASE epa) r.1
  { s with sch := { s.sch with base := s.sch.base.filter (fun (x : Nat × Nat × Nat) => x.1 != epa) ++ [(epa, r.2, o.fade)] } }

/-- CCT and fade of an endpoint's base level. -/
def State.baseOf (s : State) (epa : Nat) : Nat × Nat :=
  ((s.sch.base.find? fun x => x.1 == epa).map fun x => x.2).getD (0, 0)

/-! ### NEXT_LIT (R146) -/

/-- An output is above level 0; a scene counts by any of its levels. -/
def State.outLit (s : State) (o : ProgOut) : Bool :=
  if o.scene then
    s.cf (SCH_SCENE_DEF.LEVEL (o.level % 64)) != 0 ||
      (List.range 256).any fun g => s.cfB (SCH_SCENE.DEF (o.level % 64) g) && s.cf (SCH_SCENE.LEVEL (o.level % 64) g) != 0
  else o.level != 0

/-- Programs used by a context in service. -/
def State.usedProgs (s : State) : List Nat := ((s.epas fun _ => true).map fun n => s.fld (EPC_PARAMS.PROGRAM n)).eraseDups

/-- Instants at which a program's output can change within 48 h: its steps, also of yesterday, and the instants at which the local
date can change: midnights, and the changes of the clocks. -/
def State.changes (s : State) (p today : Nat) (now : Int) : List Int :=
  let days := (List.range 5).map fun d => today + d - 1
  ((s.dstChanges today ++ days.flatMap fun d => s.wallInstant d 0 :: s.midnight d :: (List.range 32).filterMap fun k =>
    (s.stepInstant today d (s.schStep p k)).1).filter fun u => decide (now < u) && decide (u ≤ now + 172800))

/-- The first instant up to 48 h ahead at which a used program is lit (R146), UTC. -/
def State.nextLit (s : State) (today : Nat) (now : Int) : Int :=
  (s.usedProgs.flatMap fun p =>
    (now :: s.changes p today now).filter fun u => s.outLit (s.progOut p true (s.inForce p today u).1)).foldl min (now + 172800)

/-- SCH_NEXT_LIT takes an instant, as NT seconds. -/
def State.setNextLit (s : State) (u : Int) : State :=
  let n := (u + s.sfld NTU_UTC.OFS).toNat
  ((s.put SCH_NEXT_LIT_LO.SEC_LO n).put SCH_NEXT_LIT_HI.SEC_HI (n / 2 ^ 32)).put SCH_NEXT_LIT_HI.VALID 1

/-- SCH_NEXT_LIT, NT seconds, where it is valid. -/
def State.nextLitSec (s : State) : Option Nat :=
  if s.bit SCH_NEXT_LIT_HI.VALID then some (s.fld SCH_NEXT_LIT_LO.SEC_LO + 2 ^ 32 * s.fld SCH_NEXT_LIT_HI.SEC_HI) else none

/-! ### The evaluation second (R136, R143 to R145) -/

/-- The solar slots on a new local date: moved by one, or all cleared, which makes the cores recompute (R136). -/
def State.newDate (s : State) (today : Nat) : State :=
  let next := s.sch.prevDate.map (· + 1) == some today
  let s := if next then
      (List.range 7).foldl (fun s e =>
        ((s.wr (SCH_SOLAR.adr 0 e) (s.rd (SCH_SOLAR.adr 1 e))).wr (SCH_SOLAR.adr 1 e) (s.rd (SCH_SOLAR.adr 2 e))).put
          (SCH_SOLAR.VALID 2 e) 0) s
    else
      let s := (List.range 7).foldl (fun s e =>
        ((s.put (SCH_SOLAR.VALID 0 e) 0).put (SCH_SOLAR.VALID 1 e) 0).put (SCH_SOLAR.VALID 2 e) 0) s
      { s with sch := { s.sch with solarBusy := s.cf SCH_SOLAR_CTL.HOST == 0 } }
  s.raise SCH_IRQ_STAT.DAY

/-- The day type fields of SCH_STAT (R134). -/
def State.pubDayType (s : State) (today : Nat) : State :=
  let e := s.excOf today
  ((s.putB SCH_STAT.EXC_VALID e.isSome).put SCH_STAT.EXC (e.getD 0)).put SCH_STAT.DAYTYPE (s.dayType today)

/-- The fallback of a date is flagged and logged, once for the date (R137). -/
def State.fallbackDate (s : State) (x : Nat × Nat) : State :=
  if s.sch.fbDates.contains x.1 then s
  else
    let d := ymdOf x.1
    (({ s with sch := { s.sch with fbDates := (x.1 :: s.sch.fbDates).take 4 } }).raise SCH_IRQ_STAT.SOLAR_FB).logEv 11 1
      (leBytes 1 (yearByte d.1) ++ leBytes 1 d.2.1 ++ leBytes 1 d.2.2 ++ leBytes 1 x.2)

/-- Fallback times in use, by date: shown and flagged, but not while the cores recompute all three slots (R136, R137). -/
def State.solarFallback (s : State) (fb : List (Nat × Nat)) : State :=
  if fb.isEmpty || s.sch.solarBusy then s.put SCH_STAT.SOLAR_FB 0
  else fb.foldl State.fallbackDate (s.put SCH_STAT.SOLAR_FB 1)

/-- Step 1 of Table 5.7: local time and date as the evaluation sees them. -/
def State.pubLocal (s : State) (valid : Bool) (u : Int) : State :=
  let s := s.putB SCH_STAT.TIME_VALID valid
  if valid then
    ((s.wr SCH_LOCAL_TIME.adr (timeWord (s.localSec u))).wr SCH_LOCAL_DATE.adr (localDateWord (s.localDate u))).putB SCH_STAT.DST
      (s.dstAt u)
  else (s.wr SCH_LOCAL_TIME.adr 0).wr SCH_LOCAL_DATE.adr 0

/-- Steps 3 to 5 of Table 5.7. -/
def State.runPrograms (s : State) (valid : Bool) (u : Int) : State :=
  let today := if valid then s.localDate u else 0
  let r := (List.range 256).foldl (fun (acc : State × List (Nat × Nat)) p =>
    let f := if valid then s.inForce p today u else (none, [])
    (acc.1.setProgOut p (s.progOut p valid f.1), f.2.foldl (fun l x => noteFallback l x.1 (some x.2)) acc.2)) (s, [])
  let s := if valid then r.1.solarFallback r.2 else r.1
  let s := (s.epas fun _ => true).foldl State.setBase s
  if valid then s.setNextLit (s.nextLit today u) else s.put SCH_NEXT_LIT_HI.VALID 0

/-- One evaluation at the present time (Table 5.7). -/
def State.evaluate (s : State) : State :=
  let s := s.boundary 0x300000 0x340000
  let s := if s.cf SCH_SOLAR_CTL.HOST = 1 then { s with sch := { s.sch with solarBusy := false } } else s
  let valid := s.localValid
  let u := s.utc
  let s := (s.pubLocal valid u).putB SCH_STAT.DST_RULE_BAD (s.dstOut || (valid && s.dstBad (localYear (localDay u s.tz))))
  let s := s.putB SCH_STAT.BAD_EXC s.badExc
  let s := if (List.range 256).any fun p => (List.range 32).any fun k => (s.schStep p k).bad then s.put SCH_STAT.BAD_STEP 1 else s
  let s := if valid then
      let today := s.localDate u
      let s := if s.sch.prevDate == some today then s else s.newDate today
      { s.pubDayType today with sch := { s.sch with prevDate := some today, wasValid := true } }
    else if s.sch.wasValid then
      (({ s with sch := { s.sch with prevDate := none, wasValid := false } }).raise SCH_IRQ_STAT.TIME_LOST)
    else s
  s.runPrograms valid u

/-- SCHEDULE_SECOND: the NT seconds value has changed (R143). `late` where the evaluation overran 5 ms. -/
def scheduleSecond (late : Bool) (s : State) : State :=
  if !s.up .sch || s.pwr.mode == .kindling || s.sch.lastSec == some s.ntSec then s
  else
    let s := { s with sch := { s.sch with lastSec := some s.ntSec } }
    if s.bit SCH_CTL.HOLD then s
    else
      let s := s.quiet State.evaluate
      if late then (s.put SCH_STAT.LATE 1).raise SCH_IRQ_STAT.LATE else s

/-- HOLD_EXPIRY: HOLD set for 10 s is cleared (R144). -/
def holdExpiry (s : State) : State :=
  match s.sch.holdAt with
  | some t =>
    if s.up .sch && s.bit SCH_CTL.HOLD && t + 10 * secs ≤ s.clk then
      ((({ s with sch := { s.sch with holdAt := none } }).put SCH_CTL.HOLD 0).put SCH_STAT.HOLD_EXPIRED 1).raise
        SCH_IRQ_STAT.HOLD_EXPIRED
    else s
  | none => s

/-- SOLAR_NOW: the cores recompute all three slots (R136). -/
def solarNow (s : State) : State :=
  runCmd .sch 1 (fun s =>
    if s.cf SCH_SOLAR_CTL.HOST = 1 || !s.localValid then (stRefusedState, s)
    else (stDone, { s with sch := { s.sch with solarBusy := true } })) s

/-- A published event: absent, or its standard-time second; one outside its date is absent (R135). -/
def State.publishEvent (s : State) (d e : Nat) (ev : Option Nat) : State :=
  let sec := ev.getD 86400
  ((s.put (SCH_SOLAR.VALID d e) 1).putB (SCH_SOLAR.ABSENT d e) (86400 ≤ sec)).put (SCH_SOLAR.SEC d e)
    (if 86400 ≤ sec then 0 else sec)

/-- SOLAR_PUBLISH: the cores publish the seven events of slot `d` (R135). -/
def solarPublish (d : Nat) (evs : List (Option Nat)) (s : State) : State :=
  if !s.up .sch || s.cf SCH_SOLAR_CTL.HOST = 1 then s
  else
    let s := (List.range 7).foldl (fun s e => s.publishEvent d e ((evs[e]?).getD none)) s
    if (List.range 21).all fun k => s.bit (SCH_SOLAR.VALID (k / 7) (k % 7)) then
      { s with sch := { s.sch with solarBusy := false } }
    else s

/-- A word that a read of another word latches (R492). -/
def State.setLatch (s : State) (a v : Nat) : State :=
  { s with latch := s.latch.filter (·.1 != a) ++ [(a, BitVec.ofNat 32 v)] }

/-- The latched value of a word; 0 before the first latching read after a start. -/
def State.latched (s : State) (a : Nat) : Nat := ((s.latch.find? (·.1 == a)).map fun x => x.2.toNat).getD 0

/-- A read of SCH_LOCAL_TIME latches SCH_LOCAL_DATE and SCH_STAT.DST (R148). -/
def schLocalRead (s : State) : Nat × State :=
  (s.rd SCH_LOCAL_TIME.adr, (s.setLatch SCH_LOCAL_DATE.adr (s.rd SCH_LOCAL_DATE.adr)).setLatch SCH_STAT.adr
    (s.fld SCH_STAT.DST))

/-- A read of SCH_NEXT_LIT_LO latches SCH_NEXT_LIT_HI (R148). -/
def schNextLitRead (s : State) : Nat × State :=
  (s.rd SCH_NEXT_LIT_LO.adr, s.setLatch SCH_NEXT_LIT_HI.adr (s.rd SCH_NEXT_LIT_HI.adr))

/-- Every start: the next evaluation is the first (R136). -/
def schStart (s : State) : State :=
  { s with sch := { lastSec := none, prevDate := none, wasValid := false, holdAt := none, solarBusy := false
                    fbDates := s.sch.fbDates, base := [] } }

end Sys2Proof.Machine
end

