-- ==== Sys2Proof/Machine/Drv.lean ====
section
/-! DEFINITION. Fade units and direct drive channels (R183 to R185, R216 to R240). -/

namespace Sys2Proof.Machine

/-! ### Fade units (R183 to R185) -/

/-- The value of a ramp after step `i` (R184): rounded toward its start. -/
def Ramp.at_ (r : Ramp) (i : Nat) : Nat :=
  if r.n = 0 ∨ r.n ≤ i then r.dst
  else if r.src ≤ r.dst then r.src + (r.dst - r.src) * i / r.n else r.src - (r.src - r.dst) * i / r.n

/-- One step of a fade: the value, and the rest of the fade. -/
def stepRamp (v : Nat) (r : Option Ramp) : Nat × Option Ramp :=
  match r with
  | none => (v, none)
  | some r => (r.at_ (r.i + 1), if r.i + 1 < r.n then some { r with i := r.i + 1 } else none)

/-- A fade unit advances one step of its level, of its CCT, or of both. -/
def FadeUnit.advance (u : FadeUnit) (lv ct : Bool) : FadeUnit :=
  let l := if lv then stepRamp u.level u.lv else (u.level, u.lv)
  let c := if ct then stepRamp u.cct u.ct else (u.cct, u.ct)
  { u with level := l.1, lv := l.2, cct := c.1, ct := c.2
           origin := if l.2.isNone then none else u.origin
           cOrigin := if c.2.isNone then none else u.cOrigin }

/-- A millisecond passes for the fades that are not timed (R184). -/
def FadeUnit.tick (u : FadeUnit) : FadeUnit := u.advance u.origin.isNone u.cOrigin.isNone

/-- The instant of the next step of a timed ramp: step i at its origin + i ms (R223). -/
def nextStep (r : Option Ramp) (o : Option Nat) : Option Nat :=
  match r, o with
  | some r, some t => some (t + (r.i + 1) * 1000000)
  | _, _ => none

/-- The next instant at which a timed fade of the unit steps. -/
def FadeUnit.nextTimed (u : FadeUnit) : Option Nat :=
  match nextStep u.lv u.origin, nextStep u.ct u.cOrigin with
  | some a, some b => some (min a b)
  | some a, none => some a
  | none, b => b

/-- The steps of timed fades that fall on instant `t`. -/
def FadeUnit.stepTimed (u : FadeUnit) (t : Nat) : FadeUnit :=
  u.advance (nextStep u.lv u.origin == some t) (nextStep u.ct u.cOrigin == some t)

/-- A command reaches a fade unit (R184, R185): a new fade from the value output at this moment; a CCT of 0 leaves a
running CCT fade, with its own origin. `base` is the CCT output where none has been applied. -/
def FadeUnit.command (u : FadeUnit) (level cct fade base : Nat) : FadeUnit :=
  let n := max 1 (fade * 10)
  let from_ := if u.cct = 0 then base else u.cct
  { u with lv := some { src := u.level, dst := level, n := n, i := 0 }
           cct := from_
           ct := if cct = 0 then u.ct else some { src := from_, dst := cct, n := n, i := 0 }
           origin := none, cOrigin := if cct = 0 then u.cOrigin else none, driven := true }

/-- A timed command acts at its instant `t` (R223): the origin of its fade, and with no fade the level itself. -/
def FadeUnit.fire (u : FadeUnit) (level cct fade base t : Nat) : FadeUnit :=
  if fade = 0 then
    { u with level := level, cct := if cct = 0 then (if u.cct = 0 then base else u.cct) else cct, lv := none
             ct := if cct = 0 then u.ct else none, origin := none, cOrigin := if cct = 0 then u.cOrigin else none
             driven := true }
  else
    let v := u.command level cct fade base
    { v with origin := some t, cOrigin := if cct = 0 then u.cOrigin else some t }

/-- The fade unit at a place. -/
def State.unit (s : State) (u : Nat) : FadeUnit :=
  (s.drv.units[u]?).getD { level := 0, cct := 0, lv := none, ct := none, origin := none, cOrigin := none, driven := false }

def State.updUnit (s : State) (u : Nat) (f : FadeUnit → FadeUnit) : State :=
  { s with drv := { s.drv with units := updAt s.drv.units u f } }

/-! ### What stands behind a channel (R217, R221) -/

/-- The endpoint in service of a reach, port and address. -/
def State.epAt (s : State) (reach : Nat) (f : Nat → Nat → Bool) : Option Nat :=
  (s.epas fun n => s.reach n == reach && f (s.fld (EPC_REACH.PORT n)) (s.fld (EPC_REACH.ADDR n))).head?

/-- The DIRECT endpoint that covers a channel. -/
def State.coverOf (s : State) (n : Nat) : Option Nat :=
  match s.colourOf n with
  | some (k, _) => s.epAt 3 fun _ a => a == k
  | none => s.epAt 3 fun p a => a == 0xFFF && p == n

/-- The fade unit of an endpoint that the module fades itself. -/
def State.unitOf (s : State) (epa : Nat) : Option Nat :=
  let a := s.fld (EPC_REACH.ADDR epa)
  let p := s.fld (EPC_REACH.PORT epa)
  if s.reach epa = 3 then some (if a = 0xFFF then p % 64 else 64 + a % 16)
  else if s.reach epa = 4 then some (80 + p % 12) else none

/-- The CCT at which a unit starts: the lowest of a set (R221). -/
def State.unitBase (s : State) (u : Nat) : Nat := if 64 ≤ u ∧ u < 80 then s.fld (DRV_SET_COL.CCT (u - 64) 0) else 0

/-- The level of colour `j` of set `k` at the set's level and CCT (R221). -/
def State.colourLevel (s : State) (k j : Nat) : Nat :=
  let u := s.unit (64 + k)
  let n := s.setCols k
  let cc := fun i => s.fld (DRV_SET_COL.CCT k i)
  if n = 1 then (if j = 0 then u.level else 0)
  else
    let c := clampN (cc 0) (cc (n - 1)) (if u.cct = 0 then cc 0 else u.cct)
    match (List.range (n - 1)).find? fun i => cc i ≤ c && c ≤ cc (i + 1) with
    | none => 0
    | some i =>
      let hi := divRound (u.level * ((c - cc i) * cc (i + 1))) ((cc (i + 1) - cc i) * c)
      if j = i + 1 then hi else if j = i then u.level - hi else 0

/-- The level of a channel from the first source that applies (R217). -/
def State.chLevel (s : State) (n : Nat) : Nat :=
  match s.colourOf n, s.coverOf n with
  | some (k, j), some _ => s.colourLevel k j
  | none, some _ => (s.unit n).level
  | _, none => if s.bit (DRV_CH_HOST.VALID n) then s.fld (DRV_CH_HOST.LEVEL n) else s.fld (DRV_CH_OUT.LEVEL n)

/-- The curve of a channel (R218). -/
def State.chCurve (s : State) (n : Nat) : Nat :=
  match s.colourOf n, s.coverOf n with
  | some (k, j), some _ => s.fld (DRV_SET_COL.CURVE k j) % 16
  | none, some epa => s.fld (EPC_PARAMS.CURVE epa) % 16
  | _, none => 0

/-- A curve of 17 points at a level (R218): points at 4,096 k, the last at 65,535; rounded to the nearest. -/
def interp17 (pts : List Nat) (level : Nat) : Nat :=
  let k := min 15 (level / 4096)
  let span := if k = 15 then 4095 else 4096
  let x := level - 4096 * k
  divRound (pts.getD k 0 * (span - x) + pts.getD (k + 1) 0 * x) span

def curveAt (pts : List Nat) (level : Nat) : Nat := if level = 0 then 0 else interp17 pts level

/-! ### Drive values (R218, R219, R222) -/

def State.chRun (s : State) (n : Nat) : ChRun :=
  (s.drv.chs[n]?).getD { it := 0, peak := 0, rampAt := 0, inrushAt := 0, stoppedAt := 0, runAt := 0, byGroup := false
                         pts := [], comp := [], tStart := 0, tStep := 0, tFail := 0, p0 := 0, toff := 0, phase := 0
                         used := 0, pEnd := 0, stopWin := false }

def State.updCh (s : State) (n : Nat) (f : ChRun → ChRun) : State :=
  { s with drv := { s.drv with chs := updAt s.drv.chs n f } }

def State.grpRun (s : State) (g : Nat) : GrpRun :=
  (s.drv.grps[g]?).getD { uv := false, ocAt := 0, rem := 0 }

def State.updGrp (s : State) (g : Nat) (f : GrpRun → GrpRun) : State :=
  { s with drv := { s.drv with grps := updAt s.drv.grps g f } }

/-- The PWM period of a group in force, 2 ns (R227). -/
def State.pwmPeriod (s : State) (g : Nat) : Nat := clampN 10000 1048575 (s.cf (DRV_GRP_PWM.PERIOD g))

/-- The points of the curve a channel uses, in force (R216). -/
def State.chPts (s : State) (n : Nat) : List Nat :=
  let r := s.chRun n
  if r.pts.isEmpty then (List.range 17).map fun k => s.fld (DRV_CURVE.D (s.chCurve n) k) else r.pts

/-- A channel takes over the curve, set and compensation words it uses (R216). -/
def State.takeCopies (s : State) (n : Nat) : State :=
  let c := s.chCurve n
  s.updCh n fun r => { r with
    pts := (List.range 17).map fun k => s.fld (DRV_CURVE.D c k)
    comp := match s.colourOf n with
      | some (k, j) => (List.range 16).map fun i => s.fld (DRV_COMP.GAIN k j i)
      | none => []
    tStart := match s.colourOf n with
      | some (k, _) => s.sfld (DRV_SET_COMP.T_START k)
      | none => r.tStart
    tStep := match s.colourOf n with
      | some (k, _) => max 1 (s.fld (DRV_SET_COMP.T_STEP k))
      | none => r.tStep
    tFail := match s.colourOf n with
      | some (k, _) => s.sfld (DRV_SET_FAIL.T_FAIL k)
      | none => r.tFail }

/-- The drive value D of a channel at a level, and whether it was clamped (R218, R222). -/
def State.driveValue (s : State) (n level : Nat) : Nat × Bool :=
  let d := curveAt (s.chPts n) level
  match s.colourOf n with
  | some (k, j) =>
    let v := divRound (d * s.fld (DRV_SET_GAIN.GAIN k j)) 32768
    if 65535 < v then (65535, true) else (v, false)
  | none => (d, false)

/-- Current target, mA, and on-width, 2 ns, of a drive value (R219). -/
def State.split (s : State) (n d : Nat) : Nat × Nat :=
  let per := s.pwmPeriod (n / 8)
  let iset := s.fld (DRV_CH_ISET.ISET_MA n)
  let knee := max 1 (s.cf (DRV_CH_LOOP.KNEE n))
  let mode := s.fld (DRV_CH_CTL.MODE n)
  if d = 0 then (0, 0)
  else
    let p := if mode = 0 then (iset * d / 65535, per)
      else if mode = 1 then (iset, divRound (per * d) 65535)
      else (iset * max d knee / 65535, if knee ≤ d then per else divRound (per * d) knee)
    (p.1, if 0 < p.2 ∧ p.2 < s.fld (DRV_CH_SCALE.MIN_ON n) then s.fld (DRV_CH_SCALE.MIN_ON n) else p.2)

/-! ### States and what they publish -/

def State.chState (s : State) (n : Nat) : Nat := s.fld (DRV_CH_STAT.STATE n)

/-- A channel gates: SOFT_START or RUN. -/
def State.gating (s : State) (n : Nat) : Bool := s.chState n == 2 || s.chState n == 3

/-- Pad neighbours (R236). -/
def padNext (n m : Nat) : Bool := n / 16 == m / 16 && (n + 1 == m || m + 1 == n)

/-- The allowance of a group (R234). -/
def State.allowance (s : State) (g : Nat) : Nat :=
  (List.range 8).foldl (fun a k =>
    if s.bit (DRV_CH_STAT.IN_INRUSH (8 * g + k)) then a + s.cf (DRV_CH_SS.INRUSH_ALLOW_MA (8 * g + k)) else a) 0

/-- The scan is suspended on a channel: its window, or a neighbour's, is open (R229). -/
def State.scanSusp (s : State) (n : Nat) : Bool :=
  s.bit (DRV_CH_STAT.IN_INRUSH n) || (List.range 64).any fun m => padNext n m && s.bit (DRV_CH_STAT.IN_INRUSH m)

/-- Channels in a state, as bits. -/
def chMap (f : Nat → Bool) : Nat := (List.range 64).foldl (fun m n => if f n then m + 2 ^ n else m) 0

/-- The group current: the measured mean currents of the channels that gate; a stopped channel leaves the sum (R234). -/
def State.groupMa (s : State) (g : Nat) : Nat :=
  (List.range 8).foldl (fun a k => if s.gating (8 * g + k) then a + s.fld (DRV_CH_MEAS.I_MA (8 * g + k)) else a) 0

/-- A channel's bit in the fault map: HICCUP, LATCHED, or stopped by SUPPLY_UV (R235; assumption 130). -/
def State.inFaultMap (s : State) (n : Nat) : Bool :=
  s.chState n == 4 || s.chState n == 5 || (s.chState n == 6 && s.fld (DRV_CH_STAT.FCODE n) == 7)

/-- What follows from the channels' states: SCAN_SUSP, the allowances and group currents, the fault map and the counts
(Tables 8.8 and 8.9). -/
def State.pubDrv (s : State) : State :=
  let m := chMap s.inFaultMap
  let s := (List.range 64).foldl (fun s n => s.putB (DRV_CH_STAT.SCAN_SUSP n) (s.scanSusp n)) s
  let s := (List.range 8).foldl (fun s g => s.put (DRV_GRP_STAT.ALLOW_MA g) (min 65535 (s.allowance g))) s
  let s := (List.range 8).foldl (fun s g => s.put (DRV_GRP_MEAS.MA g) (min 65535 (s.groupMa g))) s
  let s := (s.put DRV_FAULT_MAP_LO.MAP m).put DRV_FAULT_MAP_HI.MAP (m / 2 ^ 32)
  let s := s.put DRV_STAT.LATCHED (((List.range 64).filter fun n => s.chState n == 5).length)
  let f := fun (p : Nat → Bool) => (List.range 8).foldl (fun m g => if p g then m + 2 ^ g else m) 0
  (s.put DRV_STAT.UV_GROUPS (f fun g => (s.grpRun g).uv)).put DRV_STAT.OC_GROUPS
    (f fun g => 2 ≤ s.fld (DRV_GRP_STAT.STATE g))

/-- A soft start begins (R229): the ramp and the inrush window open; under supply under-voltage the channel waits. -/
def State.softStart (s : State) (n : Nat) : State :=
  if (s.grpRun (n / 8)).uv then s.put (DRV_CH_STAT.STATE n) 6
  else
    let s := (s.put (DRV_CH_STAT.STATE n) 2).put (DRV_CH_STAT.IN_INRUSH n) 1
    (s.updCh n fun r => { r with rampAt := s.clk, inrushAt := s.clk, byGroup := false, peak := 0 }).put (DRV_CH_PK.PEAK n) 0

/-- Ramp and window of a channel, in counts of 2 ns (R229). -/
def State.ssTime (s : State) (n : Nat) : Nat := max 1 (s.cf (DRV_CH_SS.SS_MS n)) * msec
def State.inrushTime (s : State) (n : Nat) : Nat := max (s.cf (DRV_CH_SS.INRUSH_MS n) * msec) (s.ssTime n)

/-- The current reference now: the target, or its part in a ramp (R229). -/
def State.itNow (s : State) (n it : Nat) : Nat :=
  let e := s.clk - (s.chRun n).rampAt
  if s.chState n = 2 ∧ e < s.ssTime n then it * e / s.ssTime n else it

/-- The peak reference starts at I_t × RSENSE (R225), µV, within its range. -/
def State.peakOf (s : State) (n it : Nat) : Nat := min 255750 (s.itNow n it * s.fld (DRV_CH_ISET.RSENSE_MOHM n))

/-- HICCUP_MS and HICCUP_N of a channel's group, in force (R232). -/
def State.hiccupTime (s : State) (g : Nat) : Nat := clampN 10 60000 (s.cf (DRV_GRP_CTL.HICCUP_MS g)) * msec

/-- A channel takes its retry (R232). -/
def State.retry (s : State) (n : Nat) : State := (s.bump (DRV_CH_STAT.RETRIES n)).softStart n

/-- A channel's retry is due: stopped by a fault of its own, for HICCUP_MS, and the supply there. -/
def State.retryDue (s : State) (n : Nat) : Bool :=
  s.chState n == 4 && !(s.chRun n).byGroup && (s.chRun n).stoppedAt + s.hiccupTime (n / 8) ≤ s.clk &&
    !(s.grpRun (n / 8)).uv

/-- A drive value reaches a channel: the state follows it (R219, R229, R232). -/
def State.followD (s : State) (n d : Nat) : State :=
  if d = 0 then (if s.gating n then s.put (DRV_CH_STAT.STATE n) 1 else s)
  else if s.chState n = 1 then s.softStart n
  else if s.retryDue n then s.retry n
  else s

/-- A channel applies a level: D, I_t and W change together (R220). -/
def State.applyLevel (s : State) (n level : Nat) : State :=
  let v := s.driveValue n level
  let w := s.split n v.1
  let s := ((s.put (DRV_CH_OUT.LEVEL n) level).put (DRV_CH_OUT.D n) v.1).putB (DRV_CH_STAT.COMP_SAT n) v.2
  let s := match s.colourOf n with
    | some (k, j) =>
      let m := s.fld (DRV_SET_STAT.COMP_SAT k)
      let s := s.put (DRV_SET_STAT.COMP_SAT k) (putBits m j 1 (if v.2 then 1 else 0))
      if v.2 then s.raise DRV_IRQ_STAT.COMP_SAT else s
    | none => s
  let s := s.followD n v.1
  let s := if (s.chRun n).it = w.1 && s.chState n != 2 then s
    else (s.updCh n fun r => { r with it := w.1, peak := s.peakOf n w.1 }).put (DRV_CH_PK.PEAK n) (s.peakOf n w.1 / 250)
  s.put (DRV_CH_PWM_OUT.WIDTH n) (if s.gating n then w.2 else 0)

/-! ### Enable (R226, R230, R239) -/

/-- A channel may be enabled (R226). -/
def State.chOk (s : State) (n : Nat) : Bool :=
  1 ≤ s.fld (DRV_CH_ISET.ISET_MA n) &&
    s.fld (DRV_CH_ISET.ISET_MA n) * s.fld (DRV_CH_ISET.RSENSE_MOHM n) ≤ 200000

/-- A channel enabled: IDLE, or a soft start where D > 0 (R229). -/
def State.enableCh (s : State) (n : Nat) : State :=
  let s := ((s.put (DRV_CH_CTL.EN n) 1).put (DRV_CH_STAT.STATE n) 1).takeCopies n
  (s.applyLevel n (s.chLevel n)).pubDrv

/-- A channel turned OFF (R230). -/
def State.disableCh (s : State) (n : Nat) : State :=
  let s := (((s.put (DRV_CH_CTL.EN n) 0).put (DRV_CH_STAT.STATE n) 0).put (DRV_CH_STAT.RETRIES n) 0).put (DRV_CH_STAT.FCODE n) 0
  ((s.put (DRV_CH_STAT.IN_INRUSH n) 0).put (DRV_CH_PWM_OUT.WIDTH n) 0).pubDrv

/-- DRV_CH_EN_WRITE: a write of DRV_CH_CTL.EN (R226, R230). -/
def drvChEn (n : Nat) (on : Bool) (s : State) : State :=
  if !s.up .drv then s
  else if !on then s.disableCh n
  else if s.bit (DRV_CH_CTL.EN n) then s
  else if s.chOk n && s.standby then s.put (DRV_CH_CTL.EN n) 1
  else if s.chOk n then s.enableCh n
  else s.raise DRV_IRQ_STAT.BAD_CFG

/-- A set's channels are distinct, and its CCTs rise strictly within 1,000 to 10,000 (R239). -/
def State.setOk (s : State) (k : Nat) : Bool :=
  let js := List.range (s.setCols k)
  let cc := fun j => s.fld (DRV_SET_COL.CCT k j)
  js.all (fun j => 1000 ≤ cc j && cc j ≤ 10000 && js.all fun i => !(i < j) || (s.setChan k i != s.setChan k j && cc i < cc j))

/-- A set enabled: its channels take its words over (R216). -/
def State.setEnabled (s : State) (k : Nat) : State :=
  let s := s.put (DRV_SET_CFG.EN k) 1
  (List.range (s.setCols k)).foldl (fun s j => s.takeCopies (s.setChan k j)) s

/-- DRV_SET_EN_WRITE: a write of DRV_SET_CFG.EN (R239). -/
def drvSetEn (k : Nat) (on : Bool) (s : State) : State :=
  if !s.up .drv then s
  else if !on then s.put (DRV_SET_CFG.EN k) 0
  else if s.bit (DRV_SET_CFG.EN k) then s
  else if s.setOk k then s.setEnabled k
  else s.raise DRV_IRQ_STAT.BAD_CFG

/-! ### Fades and timed changes (R183, R184, R220, R223) -/

/-- The channels of a fade unit. -/
def State.unitChans (s : State) (u : Nat) : List Nat :=
  if u < 64 then [u] else if u < 80 then (List.range (s.setCols (u - 64))).map fun j => s.setChan (u - 64) j else []

/-! ### Analogue outputs (R255, R256) -/

/-- The ANALOGUE endpoint that names an output. -/
def State.aoEp (s : State) (a : Nat) : Option Nat := s.epAt 4 fun p _ => p == a

/-- Limits of a RANGE, mV. -/
def aoRange (r : Nat) : Nat × Nat := if r = 0 then (0, 10000) else if r = 2 then (0, 5000) else (1000, 10000)

/-- Level and curve of an output from the first source that applies (R255); whether any source supplies a value. -/
def State.aoSource (s : State) (a : Nat) : Option (Nat × Nat) :=
  match s.aoEp a with
  | some epa => if (s.unit (80 + a)).driven then some ((s.unit (80 + a)).level, s.fld (EPC_PARAMS.CURVE epa)) else none
  | none => if s.bit (LBUS_AO_HOST.VALID a) then some (s.fld (LBUS_AO_HOST.LEVEL a), 0) else none

/-- V of a level under a curve and a range, mV (R256). -/
def State.aoVolts (s : State) (r c level : Nat) : Nat :=
  let f := interp17 ((List.range 17).map fun k => s.fld (LBUS_AO_CURVE.F (if c ≤ 7 then c else 0) k)) level
  let v := aoRange r
  v.1 + divRound ((v.2 - v.1) * f) 65535

/-- An output drives a voltage (Table 3.4). -/
def State.aoDrive (s : State) (a mv : Nat) : State :=
  let s := (s.put (LBUS_AO_OUT.DRIVEN a) 1).put (LBUS_AO_OUT.SET_MV a) mv
  { s with lbus := { s.lbus with aoPads := updAt s.lbus.aoPads a fun _ => .driven mv } }

/-- The curve that an output's endpoint names, or 0 for a host level (R256). -/
def State.aoCurveOf (s : State) (a : Nat) : Nat := ((s.aoEp a).map fun epa => s.fld (EPC_PARAMS.CURVE epa)).getD 0

/-- One output is updated (R255, R256); a clamp of R257 ends. -/
def State.aoUpdate (s : State) (a : Nat) : State :=
  if !s.drives then s else
  let s := (s.put (LBUS_AO_OUT.CLAMP a) 0).putB (LBUS_AO_OUT.CURVE_BAD a) (7 < s.aoCurveOf a)
  let r := s.fld (LBUS_AO_CFG.RANGE a)
  match s.aoSource a with
  | some (l, c) => (s.put (LBUS_AO_LVL.LEVEL a) l).aoDrive a (s.aoVolts r c l)
  | none =>
    if s.bit (LBUS_AO_OUT.DRIVEN a) then s.aoDrive a (s.aoVolts r 0 (s.fld (LBUS_AO_LVL.LEVEL a))) else s

/-- A level command to a fade unit; an AO updates at once (R255). -/
def State.commandUnit (s : State) (u level cct fade : Nat) : State :=
  let s := s.updUnit u fun x => x.command level cct fade (s.unitBase u)
  if 80 ≤ u then s.aoUpdate (u - 80) else s

/-- FADE_UNIT_UPDATE: each 1 ms, every fade that is not timed advances one step (R184), and the AOs follow (R256). -/
def fadeUnitUpdate (s : State) : State :=
  if !s.up .drv || !s.drives then s
  else
    (List.range 12).foldl State.aoUpdate
      { s with drv := { s.drv with units := s.drv.units.map FadeUnit.tick } }

/-- A timed change recomputes the running period (Table 8.2), `t` in ns of network time, `w` in 2 ns. -/
def ChRun.reWidth (r : ChRun) (t w : Nat) : ChRun :=
  let e := t - r.p0
  if e < r.toff then { r with toff := max e (2 * w) }
  else if e < 2 * w then { r with toff := 2 * w } else r

/-- A channel applies a level at an instant within its running period (R223). -/
def State.applyTimed (s : State) (t n level : Nat) : State :=
  let s := s.applyLevel n level
  if s.gating n then s.updCh n fun r => r.reWidth t (s.split n (s.fld (DRV_CH_OUT.D n))).2 else s

/-- A unit's channels, or its AO, apply its value at an instant. -/
def State.applyUnit (s : State) (t u : Nat) : State :=
  if 80 ≤ u then s.aoUpdate (u - 80)
  else ((s.unitChans u).foldl (fun s n => s.applyTimed t n (s.chLevel n)) s).pubDrv

/-- DRIVE_COMPARATOR_FIRE: the comparator of unit `u` reaches its instant, or the next step of one of its timed fades does
(R223). A comparator fires through a warm start (R22). -/
def driveComparatorFire (u : Nat) (s : State) : State :=
  if !s.up .drv || !s.drives then s
  else
    match s.drv.loads.find? fun (l : Load) => l.unit == u && l.at_ ≤ s.nt with
    | some l =>
      let s := { s with drv := { s.drv with loads := s.drv.loads.filter fun (x : Load) => x != l } }
      (s.updUnit u fun x => x.fire l.level l.cct l.fade (s.unitBase u) l.at_).applyUnit l.at_ u
    | none =>
      match (s.unit u).nextTimed with
      | some t => if t ≤ s.nt then (s.updUnit u fun x => x.stepTimed t).applyUnit t u else s
      | none => s

/-! ### PWM periods (R216, R227, R228) -/

/-- The automatic phase of a channel: its rank among the group's enabled channels of automatic phase (R228). -/
def State.autoPhase (s : State) (n : Nat) : Nat :=
  let g := n / 8
  let l := ((List.range 8).map fun k => 8 * g + k).filter fun m => s.cfB (DRV_CH_CTL.PHASE_AUTO m) && s.bit (DRV_CH_CTL.EN m)
  if l.contains n then (l.filter (· < n)).length * s.pwmPeriod g / l.length else (s.chRun n).phase

/-- A period that NT_ALIGN cannot align (R227). -/
def State.badAlign (s : State) (g : Nat) : Bool :=
  s.bit (DRV_GRP_CTL.NT_ALIGN g) && 500000000 % s.pwmPeriod g != 0

/-- A write of NT_ALIGN asks for an alignment that PERIOD cannot give (R227). -/
def State.alignWritten (s : State) (g : Nat) : State := if s.badAlign g then s.raise DRV_IRQ_STAT.BAD_CFG else s

/-- The start of a group period that would begin at count `c` of `clk`: there, or with NT_ALIGN in force at the nearest instant
of network time that is a multiple of PERIOD (R227, assumption 139). -/
def State.groupStart (s : State) (g c : Nat) : Nat :=
  let p := s.pwmPeriod g
  if s.bit (DRV_GRP_CTL.NT_ALIGN g) && !s.badAlign g then
    let t := s.nt + 2 * c - 2 * s.clk
    let u := (t + p) / (2 * p) * (2 * p)
    c + u / 2 - t / 2
  else c

/-- The offset in force of a channel's fixed or automatic phase (R228). -/
def State.fixedPhase (s : State) (n : Nat) : Nat :=
  if s.cfB (DRV_CH_CTL.PHASE_AUTO n) then (s.chRun n).phase else s.cf (DRV_CH_CTL.PHASE n) * s.pwmPeriod (n / 8) / 65536

/-- A period of channel `n` begins at count `e`, the end of the one before: the next one begins its offset after the next group
period, so a channel that moves runs one period of another length (R228). -/
def State.nextPeriod (s : State) (n e : Nat) : State :=
  let r := s.chRun n
  let c := s.groupStart (n / 8) (e - r.used + s.pwmPeriod (n / 8))
  s.updCh n fun r => { r with p0 := s.nt - 2 * (s.clk - e), toff := 2 * s.fld (DRV_CH_PWM_OUT.WIDTH n)
                              used := r.phase, pEnd := c + r.phase }

/-- The automatic offsets of a group are computed anew at its boundary (R228). -/
def State.groupPhases (s : State) (g : Nat) : State :=
  (List.range 8).foldl (fun s k => if s.cfB (DRV_CH_CTL.PHASE_AUTO (8 * g + k)) then
    s.updCh (8 * g + k) fun r => { r with phase := s.autoPhase (8 * g + k) } else s) s

/-- A PWM period of a channel has ended (R216, R227, R228). -/
def State.pwmEnd (s : State) (n : Nat) : State :=
  let s := s.swapEngines [12]
  let g := n / 8
  let grp := n % 8 == 0
  let e := (s.chRun n).pEnd + (s.clk - (s.chRun n).pEnd) / s.pwmPeriod g * s.pwmPeriod g
  let pend := (regFind s.shadow (DRV_GRP_PWM.adr g)).isSome
  let s := s.boundary (DRV_CH_CTL.adr n) (DRV_CH_CTL.adr n + 64)
  let s := if grp then s.boundary (DRV_GRP_CTL.adr g) (DRV_GRP_CTL.adr g + 64) else s
  let s := if grp && pend then s.alignWritten g else s
  let s := (s.takeCopies n).updCh n fun r => { r with phase := s.fixedPhase n }
  let s := if grp then s.groupPhases g else s
  ((s.applyLevel n (s.chLevel n)).nextPeriod n e).pubDrv

/-- PWM_PERIOD_END of a channel: pending H writes take effect, phases and widths change, and the next period begins. -/
def pwmPeriodEnd (n : Nat) (s : State) : State :=
  if !s.up .drv || !s.drives || s.clk < (s.chRun n).pEnd then s else s.pwmEnd n

/-- The group timebases start at the block enable, whether or not a channel is enabled (R227). -/
def State.startPeriods (s : State) : State :=
  (List.range 64).foldl (fun s n =>
    let s := s.updCh n fun r => { r with phase := s.fixedPhase n }
    let s := if s.cfB (DRV_CH_CTL.PHASE_AUTO n) then s.updCh n fun r => { r with phase := s.autoPhase n } else s
    let c := s.groupStart (n / 8) s.clk
    s.updCh n fun r => { r with used := r.phase, pEnd := c + r.phase }) s

/-! ### Switching cycles (R224) -/

/-- CLK_FAB cycles in a switching cycle of a group. -/
def State.swDiv (s : State) (g : Nat) : Nat := clampN 250 5000 (s.fld (DRV_GRP_FSW.DIV g))

/-- CLK_FAB cycles by which a channel's switching cycles follow the group's cycle start. -/
def State.swOffset (s : State) (n : Nat) : Nat := n % 8 * s.swDiv (n / 8) / 8

/-- The reference of a cycle after `k` CLK_FAB cycles of on-time, in µV: the peak reference less SLOPE, which is mV/µs. -/
def State.swRef (s : State) (n k : Nat) : Nat := (s.chRun n).peak - s.fld (DRV_CH_LOOP.SLOPE n) * 2 * k

/-- The on-time of one switching cycle, in CLK_FAB cycles: until the sense voltage, in µV after each cycle of on-time, reaches the
reference past BLANK, and 90 % of the cycle at most. DRVn is then low for the rest of it, at least 10 %. -/
def State.swOn (s : State) (n : Nat) (sense : Nat → Nat) : Nat :=
  let most := s.swDiv (n / 8) * 9 / 10
  ((List.range most).find? fun k => s.fld (DRV_CH_LOOP.BLANK n) ≤ k && s.swRef n k ≤ sense k).getD most

/-- DRVn is high `c` CLK_FAB cycles after the start of a group cycle, `on` being the on-time of the channel's switching cycle;
outside the on-window it stays low. -/
def State.swHigh (s : State) (n c on : Nat) (window : Bool) : Bool :=
  window && s.gating n && (c + s.swDiv (n / 8) - s.swOffset n) % s.swDiv (n / 8) < on

/-- One step of a channel's current loop (R225). -/
def State.loopStep (s : State) (n sense vo : Nat) : State :=
  let r := s.chRun n
  let rs := s.fld (DRV_CH_ISET.RSENSE_MOHM n)
  let diff : Int := ((s.itNow n r.it * rs : Nat) : Int) - ((min 4095 sense * 125 / 2 : Nat) : Int)
  let peak := (clampI 0 255750 ((r.peak : Int) + diff / 4)).toNat
  let s := (s.updCh n fun r => { r with peak := peak }).put (DRV_CH_PK.PEAK n) (peak / 250)
  let s := (s.put (DRV_CH_MEAS.I_MA n) (if rs = 0 then 0 else min 65535 (min 4095 sense * 125 / 2 / rs))).put
    (DRV_CH_MEAS.VO_MV n) (min 4095 vo)
  s.put (DRV_GRP_MEAS.MA (n / 8)) (min 65535 (s.groupMa (n / 8)))

/-- CURRENT_LOOP_UPDATE: 100 µs of on-time have passed with a measured mean sense voltage, in 1/16 mV (256 mV over 12
bits), and VOn in mV (R225). -/
def currentLoopUpdate (n sense vo : Nat) (s : State) : State :=
  if !s.up .drv || !s.gating n then s else s.loopStep n sense vo

/-! ### Soft start and inrush (R229) -/

/-- The endpoint code of a fault (Table 8.4). -/
def faultEp (code : Nat) : Nat := [0, 4, 2, 1, 2, 4, 4, 5].getD code 4

/-- Channels of an endpoint. -/
def State.epChans (s : State) (epa : Nat) : List Nat :=
  match s.unitOf epa with
  | some u => s.unitChans u
  | none => []

/-- The endpoint codes of channel `n` clear as it returns to RUN; another colour keeps its own (R235). -/
def State.clearDrvFaults (s : State) (n : Nat) : State :=
  match s.coverOf n with
  | none => s
  | some epa =>
    [1, 2, 4, 5].foldl (fun s c =>
      if (s.epChans epa).any (fun m => s.fld (DRV_CH_STAT.FCODE m) != 0 && faultEp (s.fld (DRV_CH_STAT.FCODE m)) == c) then s
      else s.clearFault epa c) s

/-- A channel enters RUN (R230). -/
def State.softStartDone (s : State) (n : Nat) : State :=
  let s := (s.put (DRV_CH_STAT.STATE n) 3).put (DRV_CH_STAT.FCODE n) 0
  let s := s.updCh n fun r => { r with runAt := s.clk, peak := min 255750 (r.it * s.fld (DRV_CH_ISET.RSENSE_MOHM n)) }
  ((s.put (DRV_CH_PK.PEAK n) ((s.chRun n).peak / 250)).clearDrvFaults n).pubDrv

/-- SOFT_START_END: the ramp reaches its target and the channel enters RUN. -/
def softStartEnd (n : Nat) (s : State) : State :=
  if s.up .drv && s.chState n == 2 && (s.chRun n).rampAt + s.ssTime n ≤ s.clk then s.softStartDone n else s

/-- INRUSH_END: the inrush window closes. -/
def inrushEnd (n : Nat) (s : State) : State :=
  if s.up .drv && s.bit (DRV_CH_STAT.IN_INRUSH n) && (s.chRun n).inrushAt + s.inrushTime n ≤ s.clk then
    (s.put (DRV_CH_STAT.IN_INRUSH n) 0).pubDrv
  else s

/-! ### Faults (R231 to R235) -/

/-- What every fault writes and raises (R235). The inrush window of the channel closes as it stops (Table 8.7). -/
def State.drvFault (s : State) (n code : Nat) (latch : Bool) : State :=
  let s := ((s.put (DRV_CH_FAULT.CODE n) code).bump (DRV_CH_FAULT.COUNT n)).put (DRV_CH_STAT.FCODE n) code
  let s := s.updCh n fun r => { r with stoppedAt := s.clk, stopWin := s.bit (DRV_CH_STAT.IN_INRUSH n) }
  let s := (s.put (DRV_CH_PWM_OUT.WIDTH n) 0).put (DRV_CH_STAT.IN_INRUSH n) 0
  let s := s.raise (if latch then DRV_IRQ_STAT.CH_LATCH else DRV_IRQ_STAT.CH_FAULT)
  let s := s.logEv 14 1 (leBytes 1 n ++ leBytes 1 code ++ leBytes 2 (s.fld (DRV_CH_FAULT.COUNT n)))
  let s := if latch then s.logEv 14 2 (leBytes 1 n ++ leBytes 1 code ++ leBytes 1 (s.fld (DRV_CH_STAT.RETRIES n))) else s
  match s.coverOf n with
  | some epa => s.raiseFault epa (faultEp code) 0
  | none => s

/-- A channel has stopped in this cycle of CLK_FAB, by a fault of a higher code (R233). -/
def State.sameCycle (s : State) (n code : Nat) : Bool :=
  4 ≤ s.chState n && (s.chRun n).stoppedAt == s.clk && code < s.fld (DRV_CH_STAT.FCODE n)

/-- The lower code of two faults in one cycle is recorded in place of the higher, without another count (R233, assumption 138). -/
def State.recode (s : State) (n code : Nat) : State :=
  let s := ((s.put (DRV_CH_FAULT.CODE n) code).put (DRV_CH_STAT.FCODE n) code).clearDrvFaults n
  match s.coverOf n with
  | some epa => s.raiseFault epa (faultEp code) 0
  | none => s

/-- The channel's inrush window is open, or was as it stopped in this cycle. -/
def State.inWindow (s : State) (n : Nat) : Bool := if s.gating n then s.bit (DRV_CH_STAT.IN_INRUSH n) else (s.chRun n).stopWin

/-- A fault of this code can be detected: the channel gates, or it has stopped in this cycle by a higher one. -/
def State.sees (s : State) (n code : Nat) : Bool := s.gating n || s.sameCycle n code

/-- A channel stops by a fault of its own: HICCUP, or LATCHED once its retries are used (R232). -/
def State.ownFault (s : State) (n code : Nat) : State :=
  if !s.gating n then s.recode n code
  else
    let latch := s.cf (DRV_GRP_CTL.HICCUP_N (n / 8)) ≤ s.fld (DRV_CH_STAT.RETRIES n)
    let s := s.updCh n fun r => { r with byGroup := false }
    ((s.put (DRV_CH_STAT.STATE n) (if latch then 5 else 4)).drvFault n code latch).pubDrv

/-- The fast-trip threshold in force, 0.5 mV (R229). -/
def State.tripAt (s : State) (n : Nat) : Nat :=
  if s.inWindow n then s.fld (DRV_CH_PROT.TRIP_INRUSH n) else s.fld (DRV_CH_PROT.TRIP n)

/-- FAST_TRIP (R231): ISPn − ISNn, in 0.5 mV, above the threshold in a gating channel. -/
def fastTrip (n sense : Nat) (s : State) : State :=
  if s.up .drv && s.sees n 1 && s.tripAt n < sense then s.ownFault n 1 else s

/-- STRING_SHORT: in RUN outside the window, VOn in mV below SHORT_MV for so many µs of gating. -/
def stringShort (n vo us : Nat) (s : State) : State :=
  if s.up .drv && s.sees n 2 && s.chState n != 2 && !s.inWindow n && vo < s.cf (DRV_CH_VTH.SHORT_MV n) &&
      max 1 (s.cf (DRV_CH_VTIME.SHORT_10US n)) * 10 ≤ us then s.ownFault n 2
  else s

/-- STRING_OPEN: in SOFT_START or RUN, VOn in mV above OPEN_MV for so many µs. -/
def stringOpen (n vo us : Nat) (s : State) : State :=
  if s.up .drv && s.sees n 3 && s.cf (DRV_CH_VTH.OPEN_MV n) < vo && max 1 (s.cf (DRV_CH_VTIME.OPEN_US n)) ≤ us then
    s.ownFault n 3
  else s

/-- START_SHORT: VOn, at most this many mV through SS_SHORT_MS from the start of the ramp, below SHORT_MV, in the window. -/
def startShort (n vo : Nat) (s : State) : State :=
  if s.up .drv && s.sees n 4 && s.inWindow n && vo < s.cf (DRV_CH_VTH.SHORT_MV n) &&
      (s.chRun n).rampAt + clampN 1 50 (s.cf (DRV_CH_VTIME.SS_SHORT_MS n)) * msec ≤ s.clk then s.ownFault n 4
  else s

/-- The channels of a group that gate. -/
def State.gatingOf (s : State) (g : Nat) : List Nat := ((List.range 8).map fun k => 8 * g + k).filter s.gating

/-- The group's current limit with the allowance of the open windows (R229, R234). -/
def State.groupLimit (s : State) (g : Nat) : Nat := s.cf (DRV_GRP_LIMIT.LIMIT_MA g) + s.allowance g

/-- The group current has been above its limit for so many µs (R231). -/
def State.overCurrent (s : State) (g us : Nat) : Bool :=
  s.groupLimit g < s.groupMa g && clampN 10 10000 (s.cf (DRV_GRP_LIMIT.GOC_US g)) ≤ us

/-- GROUP_OC (R231, R234): the group's gating channels stop; once the group's retries are used, they latch. -/
def groupOc (g us : Nat) (s : State) : State :=
  let l := s.gatingOf g
  if !s.up .drv || !s.overCurrent g us then s
  else
    let latch := s.cf (DRV_GRP_CTL.HICCUP_N g) ≤ s.fld (DRV_GRP_STAT.RETRIES g)
    let s := l.foldl (fun s n =>
      ((s.put (DRV_CH_STAT.STATE n) (if latch then 5 else 4)).drvFault n 6 latch).updCh n fun r => { r with byGroup := true }) s
    let s := (s.put (DRV_GRP_STAT.STATE g) (if latch then 3 else 2)).updGrp g fun r => { r with ocAt := s.clk }
    (s.raise DRV_IRQ_STAT.GROUP_OC).pubDrv

/-- A group's supply has failed (R233). -/
def State.uvTrip (s : State) (g vdrv : Nat) : State :=
  let s := (s.put (DRV_GRP_MEAS.VDRV_10MV g) vdrv).updGrp g fun r => { r with uv := true }
  let s := (s.gatingOf g).foldl (fun s n => (s.put (DRV_CH_STAT.STATE n) 6).drvFault n 7 false) s
  let s := if s.fld (DRV_GRP_STAT.STATE g) = 0 then s.put (DRV_GRP_STAT.STATE g) 1 else s
  (s.raise DRV_IRQ_STAT.SUPPLY_UV).pubDrv

/-- SUPPLY_UV: VDRV of a group, in 10 mV, has been below UV_10MV for 2 µs (R231, R233). -/
def supplyUv (g vdrv : Nat) (s : State) : State :=
  if !s.up .drv || s.cf (DRV_GRP_UV.UV_10MV g) ≤ vdrv then s else s.uvTrip g vdrv

/-- A group's supply is back (R233). -/
def State.uvClear (s : State) (g vdrv : Nat) : State :=
  let s := (s.put (DRV_GRP_MEAS.VDRV_10MV g) vdrv).updGrp g fun r => { r with uv := false }
  let s := if s.fld (DRV_GRP_STAT.STATE g) = 1 then s.put (DRV_GRP_STAT.STATE g) 0 else s
  let s := ((List.range 8).map fun k => 8 * g + k).foldl (fun s n =>
    if s.chState n = 6 then
      (if s.fld (DRV_CH_OUT.D n) = 0 then s.put (DRV_CH_STAT.STATE n) 1 else s.softStart n)
    else s) s
  s.pubDrv

/-- SUPPLY_RECOVERED: VDRV of a group has been back in range for 10 ms (R233). -/
def supplyRecovered (g vdrv : Nat) (s : State) : State :=
  if !s.up .drv || !(s.grpRun g).uv || vdrv < s.cf (DRV_GRP_UV.UV_10MV g) + s.cf (DRV_GRP_UV.HYST_10MV g) then s
  else s.uvClear g vdrv

/-- HICCUP_RETRY: a stopped channel's retry falls due (R232). -/
def hiccupRetry (n : Nat) (s : State) : State :=
  if s.up .drv && s.retryDue n && s.fld (DRV_CH_OUT.D n) != 0 then (s.retry n).pubDrv else s

/-- The group's retries return to 0 once every channel that gates has run 60 s (R232, R234). -/
def State.groupRested (s : State) (g : Nat) : Bool :=
  ((List.range 8).map fun k => 8 * g + k).all fun n => s.chState n != 3 || (s.chRun n).runAt + 60 * secs ≤ s.clk

/-- RETRIES_RESET: 60 s in RUN without a fault (R232). -/
def retriesReset (n : Nat) (s : State) : State :=
  if s.up .drv && s.chState n == 3 && (s.chRun n).runAt + 60 * secs ≤ s.clk then
    let s := s.put (DRV_CH_STAT.RETRIES n) 0
    if s.groupRested (n / 8) then s.put (DRV_GRP_STAT.RETRIES (n / 8)) 0 else s
  else s

/-- The channels that GROUP_OC stopped restart (R234). -/
def State.groupRestart (s : State) (g : Nat) : State :=
  let s := (s.bump (DRV_GRP_STAT.RETRIES g)).put (DRV_GRP_STAT.STATE g) 0
  let s := ((List.range 8).map fun k => 8 * g + k).foldl (fun s n =>
    if s.chState n = 4 && (s.chRun n).byGroup then
      (if s.fld (DRV_CH_OUT.D n) = 0 then s.updCh n fun r => { r with byGroup := false } else s.softStart n)
    else s) s
  s.pubDrv

/-- GROUP_HICCUP_RETRY: every channel a GROUP_OC stopped restarts at one instant (R234). -/
def groupHiccupRetry (g : Nat) (s : State) : State :=
  if s.up .drv && s.fld (DRV_GRP_STAT.STATE g) == 2 && (s.grpRun g).ocAt + s.hiccupTime g ≤ s.clk && !(s.grpRun g).uv then
    s.groupRestart g
  else s

/-! ### Pad scan (R236) -/

/-- Second channel of a pair. -/
def pairB (kind ch : Nat) : Nat := if kind = 3 then ch + 1 else ch

/-- A pair exists (Table 8.6). -/
def pairOk (kind ch : Nat) : Bool := kind < 4 && ch < 64 && !(kind == 3 && ch % 16 == 15)

/-- A pair is visited: no inrush window on its channels or their pad neighbours. -/
def State.pairFree (s : State) (kind ch : Nat) : Bool := !s.scanSusp ch && !s.scanSusp (pairB kind ch)

/-- PAD_SHORT of a pair: both channels LATCHED (R231, R236). A channel that had stopped is not counted again (R233). -/
def State.padShort (s : State) (kind ch : Nat) : State :=
  let s := [ch, pairB kind ch].eraseDups.foldl (fun s n =>
    if 1 ≤ s.chState n && s.chState n ≤ 3 then (s.put (DRV_CH_STAT.STATE n) 5).drvFault n 5 true
    else if s.chState n = 0 ∨ s.chState n = 5 then s else s.put (DRV_CH_STAT.STATE n) 5) s
  ((((s.put DRV_SCAN_STAT.VALID 1).put DRV_SCAN_STAT.PAIR kind).put DRV_SCAN_STAT.CH_B (pairB kind ch)).put
    DRV_SCAN_STAT.CH_A ch).raise DRV_IRQ_STAT.PAD_SHORT

/-- The condition of a pair's check (Table 8.6): DRVn high, gating on, VOn above 200 mV, DRV(n+1) high. -/
def State.padTests (s : State) (v : PadProbe) : Bool :=
  if v.kind = 2 then 200 < v.x else if v.kind = 3 then s.gating (v.ch + 1) else s.gating v.ch

/-- The check of a pair fails (Table 8.6): ISPn above 1.0 V; 64 cycles to 90 % on-time below 5 mV; |VOn − ISNn| below 20 mV; VOn at
1,790 mV or more, and below at the last sample with DRV(n+1) low. -/
def padFails (v : PadProbe) : Bool :=
  if v.kind = 0 then 1000 < v.x
  else if v.kind = 1 then 64 ≤ v.x
  else if v.kind = 2 then max v.x v.y - min v.x v.y < 20
  else 1790 ≤ v.x && v.y < 1790

/-- One visit of a pair: where its condition holds, the check fails or passes; a visit that cannot test changes nothing. -/
def State.padVisit (s : State) (v : PadProbe) : State :=
  if !pairOk v.kind v.ch || !s.pairFree v.kind v.ch || !s.padTests v then s
  else
    let old := ((s.drv.pads.find? fun (p : PadRun) => p.kind == v.kind && p.ch == v.ch).map (·.fails)).getD 0
    let rest := s.drv.pads.filter fun (p : PadRun) => !(p.kind == v.kind && p.ch == v.ch)
    if !padFails v then { s with drv := { s.drv with pads := rest } }
    else if old + 1 < 3 then { s with drv := { s.drv with pads := rest ++ [PadRun.mk v.kind v.ch (old + 1)] } }
    else ({ s with drv := { s.drv with pads := rest } }).padShort v.kind v.ch

/-- Each pair once, in ascending channel order. -/
def padOrder (visits : List PadProbe) : List PadProbe :=
  (List.range 256).filterMap fun k => visits.find? fun (v : PadProbe) => v.kind == k % 4 && v.ch == k / 4

/-- One pass of the scan. -/
def State.padPass (s : State) (visits : List PadProbe) : State := ((padOrder visits).foldl State.padVisit s).pubDrv

/-- A pass is due: MS ms after the last, or at once where SCAN_NOW ordered it (R236, R240). -/
def State.padDue (s : State) : Bool :=
  s.drv.scanDue || (s.bit DRV_SCAN_CTL.EN && s.drv.scanAt + clampN 1 1000 (s.fld DRV_SCAN_CTL.MS) * msec ≤ s.clk)

/-- PAD_SCAN: the pairs as probed at their visits, each tested where its condition holds. -/
def padScan (visits : List PadProbe) (s : State) : State :=
  if s.up .drv && s.padDue then
    ({ s with drv := { s.drv with scanAt := if s.drv.scanDue then s.drv.scanAt else s.clk, scanDue := false } }).padPass visits
  else s

/-- SCAN_NOW (R240): one full pass at once. -/
def scanNow (visits : List PadProbe) (s : State) : State := runCmd .drv 2 (fun s => (stDone, s.padPass visits)) s

/-- SCAN_NOW by a write of DRV_CMD: the next pass is due at once. -/
def scanSoon (s : State) : State :=
  runCmd .drv 2 (fun s => (stDone, { s with drv := { s.drv with scanDue := true } })) s

/-- CLEAR_FAULT on one channel: HICCUP or LATCHED ends, and a soft start where D > 0. -/
def State.clearCh (s : State) (n : Nat) : State :=
  if s.chState n = 4 ∨ s.chState n = 5 then
    let s := (s.put (DRV_CH_STAT.RETRIES n) 0).put (DRV_CH_STAT.STATE n) 1
    if s.fld (DRV_CH_OUT.D n) = 0 then s else s.softStart n
  else s

/-- CLEAR_FAULT (R240). -/
def drvClearFault (s : State) : State :=
  runCmd .drv 1 (fun s =>
    let i := s.fld DRV_CMD_ARG.INDEX
    if s.bit DRV_CMD_ARG.GROUP && 8 ≤ i then (stRefusedArg, s)
    else if s.bit DRV_CMD_ARG.GROUP then
      let g := i
      let s := ((List.range 8).map fun k => 8 * g + k).foldl State.clearCh s
      (stDone, ((s.put (DRV_GRP_STAT.RETRIES g) 0).put (DRV_GRP_STAT.STATE g) (if (s.grpRun g).uv then 1 else 0)).pubDrv)
    else (stDone, (s.clearCh i).pubDrv)) s

/-! ### Energy and compensation (R222, R237) -/

/-- Units of the energy of 10 ms in 1 mWh: mV × VO_SCALE × mA, over 64, in µW for 10 ms. -/
def mwhUnits : Nat := 360000000 * 64

/-- A channel's energy of 10 ms. -/
def State.chEnergy (s : State) (n : Nat) : Nat :=
  if s.gating n then s.fld (DRV_CH_MEAS.VO_MV n) * s.fld (DRV_CH_SCALE.VO_SCALE n) * s.fld (DRV_CH_MEAS.I_MA n) else 0

/-- An endpoint's remainder and sum. -/
def State.epEnergy (s : State) (epa : Nat) : Nat × Nat :=
  ((s.drv.energy.find? fun (x : Nat × Nat × Nat) => x.1 == epa).map fun (x : Nat × Nat × Nat) => x.2).getD (0, 0)

def State.setEpEnergy (s : State) (epa rem sum : Nat) : State :=
  { s with drv := { s.drv with energy := s.drv.energy.filter (fun (x : Nat × Nat × Nat) => x.1 != epa) ++ [(epa, rem, sum)] } }

/-- A channel's energy is added to its endpoint and its group; remainders below 1 mWh are carried. -/
def State.addDrvEnergy (s : State) (n : Nat) : State :=
  let e := s.chEnergy n
  let g := n / 8
  let r := (s.grpRun g).rem + e
  let s := (s.addAcc (DRV_GRP_EN_LO.adr g) (DRV_GRP_EN_HI.adr g) (r / mwhUnits)).updGrp g fun x => { x with rem := r % mwhUnits }
  match s.coverOf n with
  | none => s
  | some epa =>
    let p := s.epEnergy epa
    (s.addEn epa ((p.1 + e) / mwhUnits)).setEpEnergy epa ((p.1 + e) % mwhUnits) (p.2 + e)

/-- DRV_ENERGY_UPDATE: every 10 ms (R237). -/
def drvEnergyUpdate (s : State) : State :=
  if s.up .drv then ((List.range 64).filter fun n => s.chEnergy n != 0).foldl State.addDrvEnergy s else s

/-- POWER_REPORT: the mean power of the last second, in 0.1 W (R237). -/
def powerReport (s : State) : State :=
  if !s.up .drv || s.standby then s
  else (s.epas fun n => s.reach n == 3).foldl (fun s epa =>
    let p := s.epEnergy epa
    (s.put (EPC_POWER.DW epa) (min 65535 (divRound p.2 (100 * 64 * 100000)))).setEpEnergy epa p.1 0) s

/-- A compensation table at a temperature, 0.1 °C (R222). -/
def compAt (g : List Nat) (start : Int) (step : Nat) (t : Int) : Nat :=
  if t ≤ start then g.getD 0 32768
  else
    let x := (t - start).toNat
    let k := x / step
    if 15 ≤ k then g.getD 15 32768
    else divRound (g.getD k 32768 * (step - x % step) + g.getD (k + 1) 32768 * (x % step)) step

/-- The gain in force moves towards the evaluated one by at most 128. -/
def slewGain (old new : Nat) : Nat := if old < new then min new (old + 128) else max new (old - 128)

/-- A colour's channel, with the words it has taken over or the present ones where it has none yet (R216). -/
def State.colourRun (s : State) (k j : Nat) : ChRun :=
  let n := s.setChan k j
  if (s.chRun n).comp.isEmpty then (s.takeCopies n).chRun n else s.chRun n

/-- The gains of a set follow its temperature (R222). -/
def State.compStep (s : State) (k : Nat) : State :=
  let ts := s.fld (DRV_SET_CFG.TS_SEL k)
  let bad := s.bit (LBUS_TS_VAL.FAULT ts)
  let s := s.putB (DRV_SET_STAT.TS_FAIL k) bad
  (List.range (s.setCols k)).foldl (fun s j =>
    let r := s.colourRun k j
    let t := if bad then r.tFail else s.sfld (LBUS_TS_VAL.TEMP ts)
    s.put (DRV_SET_GAIN.GAIN k j) (slewGain (s.fld (DRV_SET_GAIN.GAIN k j)) (compAt r.comp r.tStart (max 1 r.tStep) t))) s

/-- COMP_EVAL: every 100 ms, the gains of a set (R222). -/
def compEval (k : Nat) (s : State) : State :=
  if !s.up .drv || !s.bit (DRV_SET_CFG.EN k) then s else s.compStep k

/-! ### Starts (R226, R238) -/

/-- A cold start clears every channel, latch and count of DRIVE (R238). -/
def drvCold (s : State) : State :=
  { s with drv := State.reset.drv }

/-- The block enable in KINDLING (Table 2.3): enabled channels that break R226, and alignment that R227 cannot give, are
reported; the others start. -/
def drvEnable (s : State) : State :=
  let s := if s.drv.chs.all fun (r : ChRun) => r.pEnd == 0 then s.startPeriods else s
  let s := (List.range 64).foldl (fun s n =>
    if !s.bit (DRV_CH_CTL.EN n) then s
    else if s.chState n != 0 then s
    else if s.chOk n then (if s.standby then s else s.enableCh n)
    else (s.put (DRV_CH_CTL.EN n) 0).raise DRV_IRQ_STAT.BAD_CFG) s
  let s := (List.range 16).foldl (fun s k =>
    if s.bit (DRV_SET_CFG.EN k) && !s.setOk k then (s.put (DRV_SET_CFG.EN k) 0).raise DRV_IRQ_STAT.BAD_CFG else s) s
  (List.range 8).foldl (fun s g => if s.badAlign g then s.raise DRV_IRQ_STAT.BAD_CFG else s) s

end Sys2Proof.Machine
end

