-- ==== Sys2Proof/Machine/Air.lean ====
section
/-! DEFINITION. Airtime, wake-up trains and the duty ledgers (R274, R283 to R287). -/

namespace Sys2Proof.Machine

/-! ### Airtime (R274) -/

/-- Data rate of an MR-FSK RATE, kb/s; 0 for a RATE not in Table 10.1. -/
def fskRate (r : Nat) : Nat := [50, 100, 150, 200, 300].getD r 0

/-- The PHY of a channel is listed in Table 10.1. -/
def State.phyOk (s : State) (ch : Nat) : Bool :=
  if s.bit (RAD_CH_PHY.OFDM ch) then
    let o := s.fld (RAD_CH_PHY.OPTION ch)
    let m := s.fld (RAD_CH_PHY.MCS ch)
    (o == 3 && 1 ≤ m && m ≤ 5) || (o == 4 && 2 ≤ m && m ≤ 5)
  else s.fld (RAD_CH_PHY.RATE ch) ≤ 4

/-- Channel spacing, kHz (Table 10.1). -/
def State.spacing (s : State) (ch : Nat) : Nat :=
  if s.bit (RAD_CH_PHY.OFDM ch) then (if s.fld (RAD_CH_PHY.OPTION ch) = 3 then 400 else 200)
  else [200, 400, 400, 400, 600].getD (s.fld (RAD_CH_PHY.RATE ch)) 0

/-- Airtime of a frame of `n` PSDU octets on a channel, µs, rounded up (R274). -/
def State.airtime (s : State) (ch n : Nat) : Nat :=
  if s.bit (RAD_CH_PHY.OFDM ch) then
    Config.ofdmSymbols (s.fld (RAD_CH_PHY.OPTION ch)) (s.fld (RAD_CH_PHY.MCS ch)) n * 120
  else divUp (8 * (s.fld (RAD_CH_PHY.PREAMBLE ch) + 4 + n) * 1000) (fskRate (s.fld (RAD_CH_PHY.RATE ch)))

/-- Airtime of a wake-up frame (Table 10.3). -/
def State.wakeTime (s : State) (ch : Nat) : Nat := s.airtime ch (10 + s.fcsLen ch)

/-- Symbol period of a channel, ns: 4-FSK carries 2 bits a symbol; an OFDM symbol lasts 120 µs. -/
def State.symbolNs (s : State) (ch : Nat) : Nat :=
  if s.bit (RAD_CH_PHY.OFDM ch) then 120000
  else [20000, 10000, 6667, 10000, 3333].getD (s.fld (RAD_CH_PHY.RATE ch)) 0

/-- The longest train, µs (R283). -/
def State.trainMax (s : State) (ch : Nat) : Nat := min 4000000 (65535 * 10 * s.symbolNs ch / 1000)

/-- What is known of an endpoint's sampling phase: learned within the last 600 s (R284). -/
def State.phaseOf (s : State) (epa : Nat) : Option Phase :=
  s.rad.phases.find? fun (p : Phase) => p.epa == epa && s.clk ≤ p.at_ + 600 * secs

/-- Length of the train before a unicast frame to an endpoint, µs; 0 for one that always listens (R283, R284). -/
def State.trainTime (s : State) (ch epa : Nat) : Nat :=
  let csl := s.fld (EPC_TIMING.CSL_MS epa)
  if csl = 0 then 0
  else
    let tw := s.wakeTime ch
    let full := min (csl * 1000 + 2 * tw) (s.trainMax ch)
    match s.phaseOf epa with
    | none => full
    | some p =>
      let u2 := 500 + divUp ((s.clk - p.at_) * 120) (usec * 1000000)
      if u2 + 2 * tw < p.period * 1000 then u2 + 2 * tw else min (p.period * 1000 + 2 * tw) (s.trainMax ch)

/-- Airtime of a frame with its train, µs. -/
def State.frameTime (s : State) (ch : Nat) (f : Frame) : Nat :=
  s.airtime ch (s.psduLen ch f) +
    (match f.dst with
     | .ep epa => s.trainTime ch epa
     | _ => 0)

/-! ### Ledgers (R285 to R287) -/

def State.chan (s : State) (ch : Nat) : Chan :=
  (s.rad.chans[ch]?).getD { cur := none, again := [], tx := none, timed := [], ack := none, window := none
                            rxFrom := none, rxLost := false, swap := false, share := [], noise := [] }

def State.updChan (s : State) (ch : Nat) (f : Chan → Chan) : State :=
  { s with rad := { s.rad with chans := updAt s.rad.chans ch f } }

/-- The sub-band of a channel. -/
def State.sbOfCh (s : State) (ch : Nat) : Nat := s.fld (RAD_CH_CTL.SB ch)

/-- USED_US of a sub-band. -/
def State.usedUs (s : State) (k : Nat) : Nat := ((s.rad.ledger[k]?).getD []).foldl (· + ·) 0

/-- Airtime that a channel's prepared timed frames have reserved, µs (R281). -/
def Chan.booked (c : Chan) : Nat := c.timed.foldl (fun n (t : Timed) => n + t.ready.getD 0) 0

/-- Airtime reserved in a sub-band. -/
def State.sbBooked (s : State) (k : Nat) : Nat :=
  ((List.range 8).filter fun ch => s.sbOfCh ch == k).foldl (fun n ch => n + (s.chan ch).booked) 0

/-- Credit of a sub-band, with or without the reserve (R285). -/
def State.sbCredit (s : State) (k : Nat) (ack : Bool) : Nat :=
  if !s.bit (RAD_SB_LO.EN k) then 0
  else if s.bit (RAD_SB_LO.UNLIMITED k) then 0xFFFFFFFF
  else s.fld (RAD_SB_LIMIT.LIMIT_MS k) * 1000 - s.usedUs k - s.sbBooked k -
    (if ack then 0 else s.fld (RAD_SB_RESERVE.RESERVE_US k))

/-- Credit of a channel: the lower of its sub-band's and its own (R286); 0 on a FAILED channel (R293). -/
def State.chCredit (s : State) (ch : Nat) (ack : Bool) : Nat :=
  if s.rad.failed.contains ch then 0
  else
    let a := s.sbCredit (s.sbOfCh ch) ack
    let lim := s.fld (RAD_CH_SHARE.SHARE_MS ch)
    if lim = 0 then a else min a (lim * 1000 - (s.chan ch).share.foldl (· + ·) 0 - (s.chan ch).booked)

/-- The ledger registers read what the windows hold. -/
def State.pubLedger (s : State) : State :=
  let s := (List.range 8).foldl (fun s k =>
    (s.put (RAD_SB_USED.USED_US k) (s.usedUs k)).put (RAD_SB_AVAIL.AVAIL_US k) (s.sbCredit k false)) s
  (List.range 8).foldl (fun s ch => s.put (RAD_CH_AVAIL.AVAIL_US ch) (s.chCredit ch false)) s

/-- The newest bucket of a window grows. -/
def addBucket (us : Nat) : List Nat → List Nat
  | [] => [us]
  | x :: t => (x + us) :: t

/-- A transmission that starts now is charged (R285, R286). -/
def State.charge (s : State) (ch us : Nat) : State :=
  let k := s.sbOfCh ch
  let s := { s with pair := { s.pair with aired := updAt s.pair.aired k (· + us) } }
  let s := if s.bit (RAD_SB_LO.UNLIMITED k) then s
    else { s with rad := { s.rad with ledger := updAt s.rad.ledger k (addBucket us) } }
  let s := if s.fld (RAD_CH_SHARE.SHARE_MS ch) = 0 then s
    else s.updChan ch fun c => { c with share := addBucket us c.share }
  s.pubLedger

/-- A window seeded at the RAD enable (R287). -/
def seeded (limitMs : Nat) : List Nat := List.replicate 3600 (limitMs * 1000 / 3600)

/-- Every window is seeded (R287). -/
def State.seedLedgers (s : State) : State :=
  let s := { s with rad := { s.rad with
    ledger := (List.range 8).map fun k => if s.bit (RAD_SB_LO.EN k) then seeded (s.fld (RAD_SB_LIMIT.LIMIT_MS k)) else []
    secAt := s.clk } }
  let s := (List.range 8).foldl (fun s ch => s.updChan ch fun c => { c with
    share := if s.fld (RAD_CH_SHARE.SHARE_MS ch) = 0 then [] else seeded (s.fld (RAD_CH_SHARE.SHARE_MS ch)) }) s
  s.pubLedger

/-- A window moves on by one second. -/
def nextBucket (l : List Nat) : List Nat := if l.isEmpty then [] else 0 :: l.take 3599

/-- LEDGER_SECOND: a ledger second ends (R285). -/
def ledgerSecond (s : State) : State :=
  if s.up .rad && s.bit RAD_CTL.EN && s.rad.secAt + secs ≤ s.clk then
    ({ s with rad := { s.rad with ledger := s.rad.ledger.map nextBucket, secAt := s.rad.secAt + secs
                                  chans := s.rad.chans.map fun (c : Chan) => { c with share := nextBucket c.share } },
               pair := { s.pair with ledger := s.pair.ledger.map nextBucket } }).pubLedger
  else s

/-- Airtime of the frames queued for a channel, with its timed frames not yet reserved (R175, R192). -/
def State.queuedTime (s : State) (ch : Nat) : Nat :=
  (s.swc.q.filter fun (d : Desc) => d.port == ch).foldl (fun a d =>
    match d.body with
    | .tep f => a + s.frameTime ch f
    | _ => a) 0 +
  ((s.chan ch).timed.filter fun (t : Timed) => t.ready.isNone).foldl (fun a t => a + s.frameTime ch t.frame) 0

end Sys2Proof.Machine
end

