-- ==== Sys2Proof/Machine/Fixed.lean ====
section
/-! DEFINITION. Sine, logarithm and powers of ten as the manual's waveforms and conversions need them, in integers. -/

namespace Sys2Proof.Machine

/-- π × 2⁶⁴. -/
def pi64 : Nat := 57952155664616982739

/-- The terms of the sine series from `t` on, alternating: `y2` is y² in 2⁻⁶⁴, `k` the next factor. -/
def sinTerms : Nat → Nat → Nat → Nat → Int
  | 0, _, _, _ => 0
  | n + 1, y2, t, k => (t : Int) - sinTerms n y2 (t * y2 / 2 ^ 64 / (k * (k + 1))) (k + 2)

/-- sin(π x / p) in 2⁻⁶⁴ for 0 ≤ x ≤ p. -/
def sinPi (x p : Nat) : Nat :=
  let x := min x (p - x)
  let y := pi64 * x / p
  (sinTerms 16 (y * y / 2 ^ 64) y 2).toNat

/-- `a × sin²(π x / p)`, rounded to the nearest. -/
def sinSq (a x p : Nat) : Nat := if p = 0 then 0 else divRound (a * (sinPi x p * sinPi x p)) (2 ^ 128)

/-- A ratio brought into [1, 2) × 2⁶⁰, with the power of two taken out. -/
def norm60 : Nat → Nat → Int → Nat × Int
  | 0, m, k => (m, k)
  | n + 1, m, k =>
    if 2 ^ 61 ≤ m then norm60 n (m / 2) (k + 1) else if m < 2 ^ 60 then norm60 n (2 * m) (k - 1) else (m, k)

/-- The fraction bits of log₂ of a number in [1, 2) × 2⁶⁰. -/
def log2Bits : Nat → Nat → Nat → Nat
  | 0, _, a => a
  | n + 1, m, a =>
    let q := m * m / 2 ^ 60
    if 2 ^ 61 ≤ q then log2Bits n (q / 2) (2 * a + 1) else log2Bits n q (2 * a)

/-- ln(a / b) in 2⁻⁴⁸. -/
def lnQ (a b : Nat) : Int :=
  let r := norm60 128 (a * 2 ^ 60 / b) 0
  (r.2 * 2 ^ 48 + (log2Bits 48 r.1 0 : Nat)) * 195103586505167 / 2 ^ 48

end Sys2Proof.Machine
end

