-- ==== Sys2Proof/Machine/Pat.lean ====
section
/-! DEFINITION. Claims on the PATTERN layer: pattern engines, the fast chase, and the claims of slots (R169, R206 to
R213). -/

namespace Sys2Proof.Machine

/-- The tick period in force, ms and ns (R149, R176). -/
def State.tickMs (s : State) : Nat := max 1 (s.fld LFE_STAT.TICK_MS)
def State.tickNs (s : State) : Nat := s.tickMs * 1000000

/-- The next tick boundary after now. -/
def State.nextTick (s : State) : Nat := (s.nt / s.tickNs + 1) * s.tickNs

/-- A claim on the PATTERN layer (R169). -/
structure Claim where
  num : Nat
  prio : Nat
  start : Nat
  level : Nat
  cct : Nat
  fade : Nat
deriving DecidableEq, Repr

/-- Claim `a` wins over `b` (R169). -/
def Claim.beats (a b : Claim) : Bool :=
  b.prio < a.prio || (a.prio == b.prio && (b.start < a.start || (a.start == b.start && a.num < b.num)))

/-- The winner among claims. -/
def winner (l : List Claim) : Option Claim :=
  l.foldl (fun w c => match w with
    | none => some c
    | some x => if c.beats x then some c else some x) none

/-! ### Pattern engines (R206 to R208) -/

/-- Members of an engine's list, in list order. -/
def State.patList (s : State) (e : Nat) : List Nat :=
  (List.range (min 256 (s.cf (TRN_PAT_LIST.LEN e)))).map fun j =>
    if j % 2 = 0 then s.cf (TRN_PAT_MEM.MEMBER_EVEN e (j / 2)) else s.cf (TRN_PAT_MEM.MEMBER_ODD e (j / 2))

/-- An engine's claim covers an endpoint (R206). -/
def State.patCovers (s : State) (e epa : Nat) : Bool :=
  match s.cf (TRN_PAT_CTL.SCOPE e) with
  | 1 => s.inGroup epa (s.cf (TRN_PAT_CTL.GROUP e))
  | 2 => true
  | 3 => (s.patList e).contains epa
  | _ => false

/-- Entries of a SEQUENCE: level, CCT, fade and duration in ns. -/
def State.patSeq (s : State) (e : Nat) : List (Nat × Nat × Nat × Nat) :=
  (List.range (min 16 (s.cf (TRN_PAT_LIST.SEQ_LEN e)))).map fun j =>
    (s.cf (TRN_PAT_SEQ_W0.LEVEL e j), s.cf (TRN_PAT_SEQ_W0.CCT e j), s.cf (TRN_PAT_SEQ_W1.FADE e j),
     s.cf (TRN_PAT_SEQ_W1.DUR e j) * 10000000)

/-- The sum of the durations. -/
def seqTotal (l : List (Nat × Nat × Nat × Nat)) : Nat := l.foldl (fun a x => a + x.2.2.2) 0

/-- The entry whose span contains a time. -/
def seqAt : List (Nat × Nat × Nat × Nat) → Nat → Nat × Nat × Nat
  | [], _ => (0, 0, 0)
  | x :: t, d => if d < x.2.2.2 then (x.1, x.2.1, x.2.2.1) else seqAt t (d - x.2.2.2)

/-- P in ns. -/
def State.patP (s : State) (e : Nat) : Nat := s.cf (TRN_PAT_TIME.PERIOD e) * 1000000

/-- The cycle of an engine, ns (Table 7.5). -/
def State.patCycle (s : State) (e : Nat) : Nat :=
  match s.cf (TRN_PAT_CTL.TYPE e) with
  | 3 => s.cf (TRN_PAT_LIST.LEN e) * s.patP e
  | 4 => seqTotal (s.patSeq e)
  | _ => s.patP e

/-- The index of a member, from the end with DIR = 1 (R208). -/
def State.patIdx (s : State) (e epa : Nat) : Nat :=
  let l := s.patList e
  let i := l.findIdx (· == epa)
  if s.cfB (TRN_PAT_CTL.DIR e) then l.length - 1 - i else i

/-- A CHASE is HIGH at member `i` in step `k` (Table 7.5). -/
def chaseHigh (k i len width : Nat) : Bool := len != 0 && (k + len - i % len) % len < max 1 width

/-- The level, CCT and fade of an engine at time `d` (ns) after S, for an endpoint (Table 7.5). -/
def State.patWave (s : State) (e epa d : Nat) : Nat × Nat × Nat :=
  let p := s.patP e
  let hl := fun (h : Bool) => if h then (s.cf (TRN_PAT_LVL.HIGH e), s.cf (TRN_PAT_CCT.CCT_HIGH e), 0)
    else (s.cf (TRN_PAT_LVL.LOW e), s.cf (TRN_PAT_CCT.CCT_LOW e), 0)
  match s.cf (TRN_PAT_CTL.TYPE e) with
  | 1 => hl ((d % p) * 256 < s.cf (TRN_PAT_SHAPE.DUTY e) * p)
  | 2 =>
    let hi := s.cf (TRN_PAT_LVL.HIGH e)
    let lo := s.cf (TRN_PAT_LVL.LOW e)
    let step := s.cf (TRN_PAT_TIME.STEP e)
    (if lo ≤ hi then lo + sinSq (hi - lo) (d % p) p else lo - sinSq (lo - hi) (d % p) p,
     s.cf (TRN_PAT_CCT.CCT_HIGH e), divUp (if step = 0 then s.tickMs else step) 10)
  | 3 => hl (chaseHigh (d / p) (s.patIdx e epa) (s.cf (TRN_PAT_LIST.LEN e)) (s.cf (TRN_PAT_SHAPE.WIDTH e)))
  | 4 => seqAt (s.patSeq e) (d % max 1 (seqTotal (s.patSeq e)))
  | _ => (0, 0, 0)

/-- The latest sample instant at or before `b`, as time after S (R207). -/
def State.patSample (s : State) (e start b : Nat) : Nat :=
  let step := s.cf (TRN_PAT_TIME.STEP e) * 1000000
  if step = 0 then b - start else (b - start) / step * step

/-- The claims of the running engines on an endpoint at boundary `b`. -/
def State.patClaims (s : State) (epa b : Nat) : List Claim :=
  (s.trn.pats.filter fun (r : PatRun) => r.start ≤ b && s.patCovers r.engine epa).map fun r =>
    let w := s.patWave r.engine epa (s.patSample r.engine r.start b)
    { num := r.engine, prio := s.cf (TRN_PAT_CTL.PRIORITY r.engine), start := r.start, level := w.1, cct := w.2.1, fade := w.2.2 }

/-! ### Slots' claims -/

/-- T of a slot, ns. -/
def State.slotT (s : State) (n : Nat) : Nat :=
  (s.fld (TRN_SLOT_T_SEC_LO.SEC_LO n) + 2 ^ 32 * s.fld (TRN_SLOT_T_SEC_HI.SEC_HI n)) * 1000000000 + s.fld (TRN_SLOT_T_NS.NS n)

def State.slotState (s : State) (n : Nat) : Nat := s.fld (TRN_SLOT_CTL.STATE n)

/-- An endpoint lies in a slot's scope. -/
def State.inScope (s : State) (n epa : Nat) : Bool :=
  match s.fld (TRN_SLOT_CTL.SCOPE n) with
  | 0 => s.fld (TRN_SLOT_CTL.TARGET n) == epa
  | 1 => s.inGroup epa (s.fld (TRN_SLOT_CTL.TARGET n) % 256)
  | _ => true

/-- The claim of a slot. -/
def State.slotClaim (s : State) (n : Nat) : Claim :=
  { num := 0x40 + n, prio := s.fld (TRN_SLOT_CTL.PRIORITY n), start := s.slotT n, level := s.fld (TRN_SLOT_LVL.LEVEL n)
    cct := s.fld (TRN_SLOT_LVL.CCT n), fade := s.fld (TRN_SLOT_FADE.FADE n) }

/-- The claims of the HELD slots on an endpoint, and of the slots of `extra` as if they were in force (R192). -/
def State.slotClaims (s : State) (epa : Nat) (extra : List Nat) : List Claim :=
  ((List.range 64).filter fun n => (s.slotState n == 3 || extra.contains n) && s.inScope n epa).map s.slotClaim

/-- The claim that wins on an endpoint at boundary `b`. -/
def State.claimOn (s : State) (epa b : Nat) (extra : List Nat) : Option Claim :=
  winner (s.patClaims epa b ++ s.slotClaims epa extra)

/-- The run of a slot. -/
def State.slotRun (s : State) (n : Nat) : SlotRun :=
  (s.trn.slots.find? fun (r : SlotRun) => r.slot == n).getD
    { slot := n, round := 0, armed := [], uni := [], chans := [], caught := [], release := false }

def State.setSlotRun (s : State) (r : SlotRun) : State :=
  { s with trn := { s.trn with slots := s.trn.slots.filter (fun (x : SlotRun) => x.slot != r.slot) ++ [r] } }

/-! ### Commands as issued (R171) -/

/-- What the engine keeps of an endpoint. -/
def State.lvlMem (s : State) (epa : Nat) : LvlMem :=
  (s.lfe.mem.find? fun (m : LvlMem) => m.epa == epa).getD { epa := epa, byLfe := false, cct := 0, deferred := false }

def State.setLvlMem (s : State) (m : LvlMem) : State :=
  { s with lfe := { s.lfe with mem := (s.lfe.mem.filter fun (x : LvlMem) => x.epa != m.epa) ++ [m] } }

/-- An endpoint is no longer as a HELD slot left it: another command has reached it (R197). -/
def State.disarm (s : State) (epa : Nat) : State :=
  let out := fun (r : SlotRun) => if s.slotState r.slot == 3 then { r with armed := r.armed.filter (· != epa) } else r
  { s with trn := { s.trn with slots := s.trn.slots.map out } }

/-- EPC_LVL_CMD and the engine's memory take a command as issued (R171). -/
def State.recordCmd (s : State) (epa level cct : Nat) (byLfe : Bool) : State :=
  let s := (s.put (EPC_LVL_CMD.LEVEL epa) level).put (EPC_LVL_CMD.CCT epa) cct
  (s.setLvlMem { epa := epa, byLfe := byLfe, cct := if cct = 0 then (s.lvlMem epa).cct else cct, deferred := false }).disarm epa

/-! ### Starting and stopping engines (R209 to R213) -/

/-- TRN_STAT.RUNNING counts the engines. -/
def State.pubPats (s : State) : State := s.put TRN_STAT.RUNNING s.trn.pats.length

/-- An engine runs from S. -/
def State.patRunFrom (s : State) (e start : Nat) (emerg : Bool) : State :=
  let pats := s.trn.pats.filter (fun (r : PatRun) => r.engine != e) ++
    [{ engine := e, start := start, emerg := emerg, stop := false }]
  let s := { s with trn := { s.trn with pats := pats } }
  let s := { s with drv := { s.drv with chases := s.drv.chases.filter fun (c : Chase) => c.engine != e } }
  (((s.put (TRN_PAT_CTL.RUN e) 1).put (TRN_PAT_START_SEC.SEC_LO e) (start / 1000000000)).put (TRN_PAT_START_NS.NS e)
    (start % 1000000000)).pubPats

/-- An engine stops: it releases its claim and clears RUN (R210). -/
def State.patStopNow (s : State) (e : Nat) : State :=
  let s := { s with trn := { s.trn with pats := s.trn.pats.filter fun (r : PatRun) => r.engine != e } }
  let s := { s with drv := { s.drv with chases := s.drv.chases.filter fun (c : Chase) => c.engine != e } }
  ((s.put (TRN_PAT_CTL.RUN e) 0).raise TRN_IRQ_STAT.ENG_END).pubPats

/-- The endpoints an engine covers. -/
def State.patMembers (s : State) (e : Nat) : List Nat :=
  if s.cf (TRN_PAT_CTL.SCOPE e) = 3 then s.patList e else s.epas (s.patCovers e)

/-- The fast chase is allowed (R212). -/
def State.fastOk (s : State) (e : Nat) : Bool :=
  !s.cfB (TRN_PAT_CTL.DIRECT_FAST e) ||
    ((s.cf (TRN_PAT_CTL.TYPE e) == 3 || s.cf (TRN_PAT_CTL.TYPE e) == 1) &&
      (s.patMembers e).all fun n => s.epLive n && s.reach n == 3)

/-- PAT_START's arguments are in order (R209). -/
def State.patOk (s : State) (e : Nat) : Bool :=
  let t := s.cf (TRN_PAT_CTL.TYPE e)
  let sc := s.cf (TRN_PAT_CTL.SCOPE e)
  e < 32 && 1 ≤ t && t ≤ 4 && sc != 0 && (t != 3 || sc == 3) && (t == 4 || s.cf (TRN_PAT_TIME.PERIOD e) != 0) &&
    (sc != 3 || s.cf (TRN_PAT_LIST.LEN e) != 0) && (t != 4 || seqTotal (s.patSeq e) != 0) && s.fastOk e

/-- The instant in TRN_CMD_T. -/
def State.trnCmdT (s : State) : Nat :=
  (s.fld TRN_CMD_T_SEC_LO.SEC_LO + 2 ^ 32 * s.fld TRN_CMD_T_SEC_HI.SEC_HI) * 1000000000 + s.fld TRN_CMD_T_NS.NS

/-- PAT_START (R209). -/
def patStart (s : State) : State :=
  runCmd .trn 4 (fun s =>
    let e := s.fld TRN_CMD_ARG.INDEX
    let at_ := s.bit TRN_CMD_ARG.AT
    if !s.patOk e || (at_ && (s.trnCmdT < s.nt || s.nt + 549000000000 < s.trnCmdT)) then (stRefusedArg, s)
    else (stDone, s.patRunFrom e (if at_ then s.trnCmdT else s.nextTick) false)) s

/-- PAT_STOP (R210, R211): the engine stops at the next tick. -/
def patStop (s : State) : State :=
  runCmd .trn 5 (fun s =>
    let e := s.fld TRN_CMD_ARG.INDEX
    if 32 ≤ e then (stRefusedArg, s)
    else
      (stDone, { s with trn := { s.trn with
        pats := s.trn.pats.map (fun (r : PatRun) => if r.engine == e then { r with stop := true } else r)
        blocked := if s.lfe.emerg && s.cfB (TRN_PAT_CTL.START_ON_EMERG e) then e :: s.trn.blocked else s.trn.blocked } })) s

/-- An engine's COUNT cycles have passed at boundary `b` (R210). -/
def State.patOver (s : State) (r : PatRun) (b : Nat) : Bool :=
  let n := s.cf (TRN_PAT_SHAPE.COUNT r.engine)
  n != 0 && r.start + n * s.patCycle r.engine < b

/-- PATTERN_COUNT_END: at the first tick boundary after its COUNT cycles an engine stops. -/
def patternCountEnd (e : Nat) (s : State) : State :=
  match s.trn.pats.find? fun (r : PatRun) => r.engine == e with
  | some r => if s.up .trn && s.mayCommand && s.patOver r (s.nt / s.tickNs * s.tickNs) then s.patStopNow e else s
  | none => s

/-- The first boundary at which the emergency is in force starts every engine with START_ON_EMERG, with S there; a fast chase that
a warm start has left running keeps its S (R211, R213). -/
def State.emergStart (s : State) (b : Nat) : State :=
  ((List.range 32).filter fun e => s.cfB (TRN_PAT_CTL.START_ON_EMERG e) && !s.trn.blocked.contains e && s.patOk e &&
      !(s.trn.pats.any fun (r : PatRun) => r.engine == e && r.emerg)).foldl (fun s e => s.patRunFrom e b true) s

/-- The first boundary at which it is no longer in force stops them. -/
def State.emergStop (s : State) : State :=
  let s := (s.trn.pats.filter fun (r : PatRun) => r.emerg || s.cfB (TRN_PAT_CTL.START_ON_EMERG r.engine)).foldl
    (fun s r => s.patStopNow r.engine) s
  { s with trn := { s.trn with blocked := [] } }

/-- What engines do at boundary `b` (R210, R211): PAT_STOP and COUNT take effect, and the emergency starts and stops. -/
def State.patTick (s : State) (b : Nat) : State :=
  let s := (s.trn.pats.filter fun (r : PatRun) => r.stop || s.patOver r b).foldl (fun s r => s.patStopNow r.engine) s
  let seen := s.trn.emergSeen
  let s := { s with trn := { s.trn with emergSeen := s.lfe.emerg } }
  if s.lfe.emerg && !seen then s.emergStart b
  else if seen && !s.lfe.emerg then s.emergStop
  else s

/-! ### The fast chase (R212) -/

/-- The instant of edge `k`: S + k P for a CHASE; a BLINK has two edges a period. -/
def Chase.edge (c : Chase) (k : Nat) : Nat :=
  if c.chase then c.start + k * c.period else c.start + k / 2 * c.period + (if k % 2 = 1 then c.period * c.duty / 256 else 0)

/-- Member `i` is HIGH from edge `k` on. -/
def Chase.isHigh (c : Chase) (k i : Nat) : Bool := if c.chase then chaseHigh k i c.units.length c.width else k % 2 == 0

/-- The level and the CCT of member `i` from edge `k` on (Table 7.5). -/
def Chase.level (c : Chase) (k i : Nat) : Nat := if c.isHigh k i then c.high else c.low
def Chase.cct (c : Chase) (k i : Nat) : Nat := if c.isHigh k i then c.cctHigh else c.cctLow

/-- The first edge at least 1 ms after a boundary. -/
def Chase.first (c : Chase) (b : Nat) : Nat :=
  if c.period = 0 then 0
  else
    let k := (b + 1000000 - c.start) / c.period
    ((List.range 6).map fun i => (if c.chase then k + i else 2 * k + i)).find? (fun j => b + 1000000 ≤ c.edge j) |>.getD k

/-- The drive sequencer takes the fast engines up that have started at boundary `b`. -/
def State.takeChases (s : State) (b : Nat) : State :=
  (s.trn.pats.filter fun (r : PatRun) => r.start ≤ b && s.cfB (TRN_PAT_CTL.DIRECT_FAST r.engine) &&
      !(s.drv.chases.any fun (c : Chase) => c.engine == r.engine)).foldl (fun s r =>
    let e := r.engine
    let l := s.patMembers e
    let l := if s.cfB (TRN_PAT_CTL.DIR e) then l.reverse else l
    let c : Chase := { engine := e, start := r.start, k := 0, chase := s.cf (TRN_PAT_CTL.TYPE e) == 3, period := s.patP e
                       duty := s.cf (TRN_PAT_SHAPE.DUTY e), width := s.cf (TRN_PAT_SHAPE.WIDTH e)
                       high := s.cf (TRN_PAT_LVL.HIGH e), low := s.cf (TRN_PAT_LVL.LOW e)
                       cctHigh := s.cf (TRN_PAT_CCT.CCT_HIGH e), cctLow := s.cf (TRN_PAT_CCT.CCT_LOW e), units := l, out := []
                       live := false }
    { s with drv := { s.drv with chases := s.drv.chases ++ [{ c with k := c.first b }] } }) s

/-- Member `i` of a chase takes its level at the chase's next edge, unless it has left the chase. -/
def State.chaseStep (s : State) (c : Chase) (i : Nat) : State :=
  let epa := c.units.getD i 0
  match s.unitOf epa with
  | none => s
  | some u =>
    if c.out.contains epa then s
    else
      let s := (s.updUnit u fun x => x.fire (c.level c.k i) (c.cct c.k i) 0 (s.unitBase u) (c.edge c.k)).applyUnit (c.edge c.k) u
      s.recordCmd epa (c.level c.k i) (c.cct c.k i) false

/-- FAST_CHASE_EDGE: the drive sequencer makes the next step edge of an engine's chase, through a warm start too (R212,
R213). The commanded level of each member follows (assumption 38). In SERVICE it keeps its time and switches nothing (R75,
R210). -/
def fastChaseEdge (e : Nat) (s : State) : State :=
  match s.drv.chases.find? fun (c : Chase) => c.engine == e with
  | none => s
  | some c =>
    if !s.up .drv || !s.drives || s.nt < c.edge c.k then s
    else
      let act := s.pwr.mode != .service
      let s := if act then (List.range c.units.length).foldl (fun s i => s.chaseStep c i) s else s
      { s with drv := { s.drv with chases := s.drv.chases.map fun (x : Chase) =>
        if x.engine == e then { x with k := x.k + 1, live := x.live || act } else x } }

/-- An endpoint is switched by the drive sequencer at this tick: the chase has taken over from the command path. -/
def State.inChase (s : State) (epa e : Nat) : Bool :=
  s.drv.chases.any fun (c : Chase) => c.engine == e && c.units.contains epa && !c.out.contains epa && c.live

/-- A member leaves the fast chase, or rejoins it (R212). -/
def State.chaseMember (s : State) (epa e : Nat) (wins : Bool) : State :=
  { s with drv := { s.drv with chases := s.drv.chases.map fun (c : Chase) =>
      if c.engine == e && c.units.contains epa then
        { c with out := if wins then c.out.filter (· != epa) else if c.out.contains epa then c.out else epa :: c.out }
      else c } }

end Sys2Proof.Machine
end

