-- ==== Sys2Proof/Machine/Slots.lean ====
section
/-! DEFINITION. Scheduled transition slots up to their commit: arming, ARM rounds, cancelling, releasing and what a tick
does to them (R187 to R191, R200 to R205). -/

namespace Sys2Proof.Machine

/-- TRN_STAT.ARMED counts the slots ARMED, COMMITTED or HELD. -/
def State.pubSlots (s : State) : State :=
  s.put TRN_STAT.ARMED (((List.range 64).filter fun n => 1 ≤ s.slotState n && s.slotState n ≤ 3).length)

/-- A slot takes a state. -/
def State.setSlot (s : State) (n st : Nat) : State := (s.put (TRN_SLOT_CTL.STATE n) st).pubSlots

def State.slotArmId (s : State) (n : Nat) : Nat := s.fld (TRN_SLOT_ARM.ARM_ID n)
def State.slotLog (s : State) (e n : Nat) : State := s.logEv 13 e (leBytes 1 n ++ leBytes 2 (s.slotArmId n))

/-- ARM_REPEAT in force (Table 7.7). -/
def State.armRepeat (s : State) : Nat := clampN 1 8 (s.cf TRN_CFG.ARM_REPEAT)

/-- The instant of ARM round `r`, ns (R190). -/
def State.roundAt (s : State) (n r : Nat) : Nat :=
  s.slotT n - s.fld (TRN_SLOT_ARM.LEAD_S n) * 1000000000 * (s.armRepeat - r) / s.armRepeat

/-- The ACTIVE radio endpoints of a slot's scope. -/
def State.scopeRadio (s : State) (n : Nat) : List Nat :=
  s.epas fun e => s.epState e == stActive && s.isRadio e && s.inScope n e

/-- The channel an endpoint is heard on. -/
def State.heardOn (s : State) (epa : Nat) : Nat := s.fld (EPC_REACH.PORT epa) % 8

/-- The fields of ARM (Table 4.5). -/
def State.armFields (s : State) (n scope : Nat) : List Byte :=
  leBytes 1 n ++ leBytes 1 scope ++ leBytes 1 (s.fld (TRN_SLOT_CTL.TARGET n)) ++ [0] ++ leBytes 2 (s.slotArmId n) ++
    leBytes 6 (s.slotT n / 1000000000) ++ leBytes 4 (s.slotT n % 1000000000) ++ leBytes 2 (s.fld (TRN_SLOT_LVL.LEVEL n)) ++
    leBytes 2 (s.fld (TRN_SLOT_LVL.CCT n)) ++ leBytes 2 (s.fld (TRN_SLOT_FADE.FADE n))

/-- The fields of FIRE and CANCEL (Table 4.5). -/
def State.fireFields (s : State) (n : Nat) : List Byte := leBytes 1 n ++ [0] ++ leBytes 2 (s.slotArmId n)

/-- One frame of a slot to an endpoint; `persist` where it is retried until its instant (R277). -/
def State.slotUnicast (s : State) (n epa typ : Nat) (fields : List Byte) (persist launch : Option Nat) : State :=
  let r := s.mkUnicast epa typ fields (.slot n (s.slotArmId n))
  (r.2.2.sendEpFrom 12 epa { r.1 with persist := persist, launch := launch }).2

/-- One frame of a slot on a channel, under the group key. -/
def State.slotGroup (s : State) (n ch typ : Nat) (fields : List Byte) (launch : Option Nat) : State :=
  let r := s.mkGroup typ fields (.slot n (s.slotArmId n))
  (r.2.sendGrpFrom 12 ch { r.1 with launch := launch }).2

/-- The channels of a slot's group frames (R191): none for scope ENDPOINT. -/
def State.slotChans (s : State) (n : Nat) : List Nat :=
  if s.fld (TRN_SLOT_CTL.SCOPE n) = 0 then [] else sortBy id ((s.scopeRadio n).map s.heardOn).eraseDups

/-- The endpoints a round reaches by unicast (R191); those that sample, in round 0 only. -/
def State.slotUni (s : State) (n : Nat) (first : Bool) : List Nat :=
  (s.scopeRadio n).filter fun e =>
    if s.fld (EPC_TIMING.CSL_MS e) != 0 then first
    else s.fld (TRN_SLOT_CTL.SCOPE n) == 0 || s.bit (EPC_RPT_FLAGS.GRP_PENDING e)

/-- A unicast frame of a round: with a wake-up train it is persistent (R191, R277). -/
def State.roundUnicast (s : State) (n typ : Nat) (fields : List Byte) (epa : Nat) : State :=
  s.slotUnicast n epa typ fields (if s.fld (EPC_TIMING.CSL_MS epa) = 0 then none else some (s.slotT n)) none

/-- One ARM round (R190, R191). -/
def State.sendArmRound (s : State) (n : Nat) (first : Bool) : State :=
  let sc := s.fld (TRN_SLOT_CTL.SCOPE n)
  let chans := s.slotChans n
  let uni := s.slotUni n first
  let s := chans.foldl (fun s ch => s.slotGroup n ch 4 (s.armFields n sc) none) s
  let s := uni.foldl (fun s e => s.roundUnicast n 4 (s.armFields n 0) e) s
  let r := s.slotRun n
  let byGroup := (s.scopeRadio n).filter fun e => chans.contains (s.heardOn e)
  s.setSlotRun { r with
    chans := (r.chans ++ chans).eraseDups
    armed := (r.armed ++ byGroup ++ uni).eraseDups
    uni := r.uni ++ (uni.filter fun e => !(r.uni.any fun (x : Nat × Bool) => x.1 == e)).map fun e => (e, false) }

/-- ARM_ROUND: rounds that have fallen due are sent, several as one (R190). -/
def armRound (n : Nat) (s : State) : State :=
  if !s.up .trn || !s.mayCommand || s.slotState n != 1 then s
  else
    let r := s.slotRun n
    let due := (List.range s.armRepeat).filter fun k => r.round ≤ k && s.roundAt n k ≤ s.nt
    if due.isEmpty then s
    else (s.setSlotRun { r with round := r.round + due.length }).sendArmRound n (r.round == 0)

/-- A slot becomes ARMED: its flags clear and its rounds begin. -/
def State.armSlot (s : State) (n : Nat) : State :=
  let s := s.setSlotRun { slot := n, round := 0, armed := [], uni := [], chans := [], caught := [], release := false }
  (s.wr (TRN_SLOT_STAT.adr n) 0).setSlot n 1

/-- A slot's words are in order for ARM (R188). -/
def State.armArgOk (s : State) (n : Nat) : Bool :=
  let lead := s.fld (TRN_SLOT_ARM.LEAD_S n)
  let sc := s.fld (TRN_SLOT_CTL.SCOPE n)
  let t := s.slotT n
  let cct := s.fld (TRN_SLOT_LVL.CCT n)
  s.nt + 2000000000 ≤ t && t ≤ s.nt + 549000000000 && 2 ≤ lead && lead ≤ 540 && sc != 3 &&
    (sc != 0 || s.epLive (s.fld (TRN_SLOT_CTL.TARGET n))) && (cct == 0 || (1000 ≤ cct && cct ≤ 10000))

/-- The slot is IDLE, DONE or CANCELLED. -/
def State.slotFree (s : State) (n : Nat) : Bool := s.slotState n == 0 || s.slotState n == 4 || s.slotState n == 5

/-- ARM (R188). -/
def trnArm (s : State) : State :=
  runCmd .trn 1 (fun s =>
    let n := s.fld TRN_CMD_ARG.INDEX
    if 64 ≤ n then (stRefusedArg, s)
    else if !s.ntValid || s.pwr.mode == .service || !s.slotFree n then (stRefusedState, s)
    else if !s.armArgOk n then (stRefusedArg, s)
    else (stDone, armRound n (s.armSlot n))) s

/-- A slot is disarmed and one CANCEL round is sent (R200). -/
def State.cancelSlot (s : State) (n : Nat) : State :=
  let s := (s.slotChans n).foldl (fun s ch => s.slotGroup n ch 6 (s.fireFields n) none) s
  let s := (s.slotUni n true).foldl (fun s e => s.roundUnicast n 6 (s.fireFields n) e) s
  (s.setSlotRun { s.slotRun n with caught := [] }).setSlot n 5

/-- CANCEL (R200). -/
def trnCancel (s : State) : State :=
  runCmd .trn 2 (fun s =>
    let n := s.fld TRN_CMD_ARG.INDEX
    if 64 ≤ n then (stRefusedArg, s)
    else if s.slotState n != 1 then (stRefusedState, s)
    else (stDone, s.cancelSlot n)) s

/-- RELEASE (R201): the claim ends at the next tick boundary. -/
def trnRelease (s : State) : State :=
  runCmd .trn 3 (fun s =>
    let n := s.fld TRN_CMD_ARG.INDEX
    if 64 ≤ n then (stRefusedArg, s)
    else if s.slotState n != 3 then (stRefusedState, s)
    else (stDone, s.setSlotRun { s.slotRun n with release := true })) s

/-- T of a slot moves by a day, and its ARM_ID by one (R205). -/
def State.nextDay (s : State) (n : Nat) : State :=
  let t := s.slotT n + 86400 * 1000000000
  let s := (s.put (TRN_SLOT_T_SEC_LO.SEC_LO n) (t / 1000000000)).put (TRN_SLOT_T_SEC_HI.SEC_HI n) (t / 1000000000 / 2 ^ 32)
  s.put (TRN_SLOT_ARM.ARM_ID n) (s.slotArmId n + 1)

/-- A claim ends: DONE, and a DAILY slot arms itself again (R197, R205). -/
def State.endSlot (s : State) (n : Nat) : State :=
  let s := ((s.setSlotRun { s.slotRun n with release := false }).setSlot n 4).raise TRN_IRQ_STAT.SLOT_DONE
  if s.bit (TRN_SLOT_CTL.DAILY n) then (s.nextDay n).armSlot n else s

/-- SLOT_HOLD_END: T + HOLD_S (R197). -/
def slotHoldEnd (n : Nat) (s : State) : State :=
  let h := s.fld (TRN_SLOT_FADE.HOLD_S n)
  if s.up .trn && s.mayCommand && s.slotState n == 3 && h != 0 && s.slotT n + h * 1000000000 ≤ s.nt then s.endSlot n else s

/-- A slot enters HELD (Table 7.2). -/
def State.holdSlot (s : State) (n : Nat) : State := (s.setSlot n 3).raise TRN_IRQ_STAT.SLOT_FIRED

end Sys2Proof.Machine
end

