-- ==== Sys2Proof/Machine/Lfe.lean ====
section
/-! DEFINITION. The light field engine: ticks, presence sources, propagation, arbitration and the command generator
(chapter 06, R149 to R182, R498). -/

namespace Sys2Proof.Machine

/-! ### Tick periods (R149, R176) -/

/-- The periods of R149, ms. -/
def tickSet : List Nat := [1, 2, 4, 5, 8, 10, 20, 25, 40, 50, 100]

/-- The smallest period of R149 not below a value; 100 above all. -/
def tickFor (ms : Nat) : Nat := (tickSet.find? fun p => ms ≤ p).getD 100

/-- Half the configured period is shorter than C(L) (R176), with `l` lanes. -/
def tooShort (ms l : Nat) : Bool := ms * 500 * l < 350 * l + 640

/-- The period in force with a configured period and lanes in service (R176). -/
def tickInForce (ms l : Nat) : Nat :=
  if l = 0 ∨ !tooShort ms l then ms else (tickSet.find? fun p => !tooShort p l).getD 100

/-- The period in force follows TICK_MS and the lanes in service (R176). -/
def State.setTick (s : State) : State :=
  let ms := tickFor (s.fld LFE_CTL.TICK_MS)
  let l := s.fld LFE_STAT.LANES
  let p := tickInForce ms l
  let old := s.fld LFE_STAT.TICK_MS
  let was := s.bit LFE_STAT.STRETCHED
  let s := (s.put LFE_STAT.TICK_MS p).putB LFE_STAT.STRETCHED (p != ms)
  if p != ms && (p != old || !was) then (s.raise LFE_IRQ_STAT.STRETCHED).logEv 12 2 (leBytes 1 p ++ leBytes 1 l) else s

/-! ### The intake (R151 to R155, R181) -/

/-- Records go in: LFE runs and its intake is open. -/
def State.intakeOpen (s : State) : Bool := s.bit LFE_CTL.EN && !s.lfe.closed

/-- A record in the intake, with the time at which it reached it, falls to the tick whose intake is open (R151). -/
def State.forOpen (s : State) (x : Nat × DetRec) : Bool :=
  match s.lfe.opened with
  | some o => x.2.tEnd < o.at_ && x.1 ≤ o.at_ + 150000
  | none => false

/-- The tick to which a record that arrives now would fall has its 1,024 (R152). -/
def State.intakeFull (s : State) (r : DetRec) : Bool :=
  let c := s.forOpen (s.nt, r)
  1024 ≤ (s.lfe.intake.filter fun x => s.forOpen x == c).length

/-- A record reaches the intake (R151, R152, R181). -/
def State.takeRecord (s : State) (r : DetRec) : State :=
  if !s.intakeOpen then s.bump LFE_CNT_F.CLOSED
  else
    let s := if r.tEnd < s.lfe.lastTick ∧ s.lfe.lastTick + 150000 < s.nt then s.bump LFE_CNT_D.LATE_IN else s
    if s.intakeFull r then (s.bump LFE_CNT_C.INTAKE_DROP).raise LFE_IRQ_STAT.INTAKE_DROP
    else { s with lfe := { s.lfe with intake := s.lfe.intake ++ [(s.nt, r)] } }

/-- DETECTION_RECORD: a record from any path reaches the intake. -/
def detectionRecord (r : DetRec) (s : State) : State := if s.up .lfe then s.takeRecord r else s

/-- The record of the INJECT words. -/
def State.injectRec (s : State) : DetRec :=
  { origin := s.fld LFE_INJ_0.ORIGIN, cls := s.fld LFE_INJ_0.CLASS, heading := s.fld LFE_INJ_0.HEADING
    speed := s.fld LFE_INJ_1.SPEED, conf := s.fld LFE_INJ_1.CONF, count := s.fld LFE_INJ_1.COUNT
    age := s.fld LFE_INJ_1.AGE, tEnd := s.nt, injected := true }

/-- INJECT (R182). -/
def lfeInject (s : State) : State :=
  runCmd .lfe 1 (fun s =>
    if !s.intakeOpen || s.pwr.mode == .soak then (stRefusedState, s)
    else if s.intakeFull s.injectRec then (stNoResource, s)
    else (stDone, s.takeRecord s.injectRec)) s

/-- DETECT: an accepted radio frame becomes a record whose end time is the end of the frame (R121, R151); a SUSPENDED
origin creates none (R105). -/
def epcDetect (epa cls heading speed conf count age tEnd : Nat) (l : LinkInfo) (s : State) : State :=
  if !s.ingests epa then s
  else
    let s := s.linkUpdate epa l
    if s.up .lfe then
      s.takeRecord { origin := epa, cls := cls, heading := heading, speed := speed, conf := conf, count := count, age := age
                     tEnd := tEnd, injected := false }
    else s

/-! ### Profiles (R156, R163, R498) -/

/-- The profile of a context: its own, 0 to 31. -/
def State.ownProfile (s : State) (epa : Nat) : Option Nat :=
  let p := s.fld (EPC_PARAMS.PROFILE epa)
  if p < 32 then some p else none

/-- The profile of an origin: its own, or DEF_PROFILE (R498). -/
def State.originProfile (s : State) (epa : Nat) : Option Nat :=
  (s.ownProfile epa).or (if s.cf LFE_CTL.DEF_PROFILE < 32 then some (s.cf LFE_CTL.DEF_PROFILE) else none)

/-- A speed in 0.25 m/s held in the range of R156. -/
def State.clampV (s : State) (c v : Nat) : Nat := clampN (max 1 (s.cf (LFE_CLASS_CFG.MIN_SPEED c))) 255 v

/-- A rational speed held in the range of R156. -/
def State.clampR (s : State) (c : Nat) (v : Nat × Nat) : Nat × Nat :=
  let lo := max 1 (s.cf (LFE_CLASS_CFG.MIN_SPEED c))
  if v.1 < lo * v.2 then (lo, 1) else if 255 * v.2 < v.1 then (255, 1) else v

/-- A source at the speed the module uses (R156): what it holds, in the range of the present MIN_SPEED. -/
def State.atSpeed (s : State) (x : PSource) : PSource :=
  let v := s.clampR x.cls (x.vn, x.vd)
  { x with vn := v.1, vd := v.2 }

/-! ### Sources (R158 to R160) -/

/-- A rational rounded to the nearest, ties to even. -/
def roundEven (a b : Nat) : Nat :=
  if b = 0 then 0
  else if a % b * 2 < b then a / b else if b < a % b * 2 then a / b + 1 else a / b + a / b % 2

/-- Speed of a source as it reads, 0.25 m/s. -/
def PSource.speed (x : PSource) : Nat := roundEven x.vn x.vd

/-- A source passes its horizon or its lifetime at boundary `b` (R160). Without a profile for its origin it cannot go on. -/
def State.expired (s : State) (x : PSource) (b : Nat) : Bool :=
  let x := s.atSpeed x
  match s.originProfile x.origin with
  | none => true
  | some p =>
    s.cf (LFE_PROF_W3.LIFE p) * 1000000000 < b - x.refresh ||
      s.cf (LFE_PROF_W4.HORIZON p) * 4 * 1000000000 * x.vd < x.vn * (b - x.t0)

/-- Distance of a node settled beyond the origin, 0.1 m. -/
def PSource.dist (x : PSource) (n : Nat) : Option Nat :=
  (x.settled.find? fun y => y.1 == n && y.2 != 0).map (·.2)

/-- |r.t0 − eta| and its bound, both times `vn` × 100, where a record can track a source (R158, case 2). -/
def State.trackFit (s : State) (x : PSource) (o t0 : Nat) : Option (Nat × Nat) :=
  let x := s.atSpeed x
  match x.dist o with
  | none => none
  | some d =>
    let num := d * 400000000 * x.vd
    let a := (t0 + x.t0) * x.vn
    let e := num + 2 * x.t0 * x.vn
    let diff := max a e - min a e
    if diff * 100 ≤ max (s.cf LFE_SRC_CFG.TRACK_MIN * 10000000000 * x.vn) (s.cf LFE_SRC_CFG.TRACK_PCT * num) then some (diff, x.vn)
    else none

/-- The best match among sources: the smallest difference, then the lowest slot. -/
def State.bestTrack (s : State) (c o t0 : Nat) : Option PSource :=
  ((s.lfe.sources.foldl (fun (b : Option (PSource × Nat × Nat)) x =>
    if x.cls != c then b
    else match s.trackFit x o t0, b with
      | none, _ => b
      | some f, none => some (x, f)
      | some f, some (y, g) =>
        if f.1 * g.2 < g.1 * f.2 ∨ (f.1 * g.2 = g.1 * f.2 ∧ x.slot < y.slot) then some (x, f) else b) none)).map (·.1)

/-- A source replaced in its slot. -/
def State.setSource (s : State) (x : PSource) : State :=
  { s with lfe := { s.lfe with sources := (s.lfe.sources.filter fun (y : PSource) => y.slot != x.slot) ++ [x] } }

/-- Merge (R158, case 1). -/
def State.mergeInto (s : State) (x : PSource) (r : DetRec) : State :=
  let s := s.bump LFE_CNT_A.MERGED
  let x := s.atSpeed x
  if r.speed = 0 then s.setSource { x with refresh := r.tEnd }
  else s.setSource { x with vn := x.vn + s.clampV x.cls r.speed * x.vd, vd := 2 * x.vd, refresh := r.tEnd }

/-- Re-anchor (R158, case 2); the nodes of its last propagation stay. -/
def State.reAnchor (s : State) (x : PSource) (r : DetRec) (t0 : Nat) : State :=
  let x := s.atSpeed x
  let d := (x.dist r.origin).getD 0
  let m := if r.speed != 0 then (s.clampV x.cls r.speed, 1)
    else if x.t0 < t0 then s.clampR x.cls (d * 400000000, t0 - x.t0) else (x.vn, x.vd)
  let v := s.clampV x.cls (roundEven (x.vn * m.2 + m.1 * x.vd) (2 * x.vd * m.2))
  (s.bump LFE_CNT_B.TRACKED).setSource
    { x with vn := v, vd := 1, origin := r.origin, t0 := t0, heading := r.heading, refresh := r.tEnd }

/-- The lowest free slot, or the one evicted (R159). -/
def State.freeSlot (s : State) : Nat × State :=
  match (List.range 512).find? fun k => !(s.lfe.sources.any fun (x : PSource) => x.slot == k) with
  | some k => (k, s)
  | none =>
    let v := s.lfe.sources.foldl (fun (b : Option PSource) x => match b with
      | none => some x
      | some y => if x.refresh < y.refresh ∨ (x.refresh = y.refresh ∧ x.slot < y.slot) then some x else b) none
    let k := (v.map (·.slot)).getD 0
    (k, ((({ s with lfe := { s.lfe with sources := s.lfe.sources.filter fun (x : PSource) => x.slot != k } }).bump
      LFE_CNT_B.EVICTED).raise LFE_IRQ_STAT.EVICT))

/-- Create (R158, case 3). -/
def State.createSource (s : State) (r : DetRec) (c t0 : Nat) : State :=
  let f := s.freeSlot
  let v := s.clampV c (if r.speed = 0 then s.cf (LFE_CLASS_CFG.DEF_SPEED c) else r.speed)
  (f.2.bump LFE_CNT_A.CREATED).idleRestart.setSource
    { slot := f.1, origin := r.origin, cls := c, heading := r.heading, vn := v, vd := 1, t0 := t0, refresh := r.tEnd, settled := [] }

/-- Start time of a record (R155) and its class (R157). -/
def DetRec.t0 (r : DetRec) : Nat := r.tEnd - r.age * 10000000
def DetRec.klass (r : DetRec) : Nat := if 6 ≤ r.cls then 5 else r.cls

/-- One admitted record (R154, R158, R498). -/
def State.takeIn (s : State) (r : DetRec) : State :=
  if !(s.epState r.origin == stReserved || s.epState r.origin == stActive) then s
  else if r.conf < s.cf LFE_SRC_CFG.MIN_CONF then s.bump LFE_CNT_E.LOW_CONF
  else if r.injected && s.pwr.mode == .soak then s
  else if (s.originProfile r.origin).isNone then s.bump LFE_CNT_F.NO_PROFILE
  else
    let c := r.klass
    let t0 := r.t0
    let m := s.lfe.sources.foldl (fun (b : Option PSource) x =>
      if x.origin == r.origin && x.cls == c && x.t0 ≤ t0 && t0 ≤ x.t0 + 2000000000 then
        (match b with
         | none => some x
         | some y => if y.t0 < x.t0 ∨ (y.t0 = x.t0 ∧ x.slot < y.slot) then some x else b)
      else b) none
    match m, s.bestTrack c r.origin t0 with
    | some x, _ => s.mergeInto x r
    | none, some x => s.reAnchor x r t0
    | none, none => s.createSource r c t0

/-! ### Propagation (R161, R164, R165) -/

/-- An edge word (Table 6.4). -/
structure Edge where
  dst : Nat
  len : Nat
  road : Bool
  foot : Bool
  bearing : Nat
deriving DecidableEq, Repr

def State.edge (s : State) (n k : Nat) : Edge :=
  let w := s.fld (EPC_LINK.LINK n k)
  { dst := bitsOf w 20 12, len := bitsOf w 8 12, road := bitOf w 7, foot := bitOf w 6, bearing := bitsOf w 0 6 }

/-- The edges of a node, up to its first word with LEN 0. -/
def State.edges (s : State) (n : Nat) : List Edge := ((List.range 8).map (s.edge n)).takeWhile fun e => e.len != 0

/-- angle() exceeds ANGLE degrees, in units of 0.375°: heading 1.5°, bearing 5.625°. -/
def angleOver (heading bearing angle : Nat) : Bool :=
  let d := (heading * 4 + 960 - bearing * 15) % 960
  angle * 8 < min d (960 - d) * 3

/-- An entry of the frontier: node, distance in 0.1 m, hops, order of adding. -/
structure Front where
  n : Nat
  d : Nat
  h : Nat
  k : Nat
deriving DecidableEq, Repr

/-- `a` is taken before `b`. -/
def Front.before (a b : Front) : Bool :=
  a.d < b.d || (a.d == b.d && (a.n < b.n || (a.n == b.n && a.k < b.k)))

/-- The entry to take next. -/
def Front.least (l : List Front) : Option Front :=
  l.foldl (fun b x => match b with
    | none => some x
    | some y => if x.before y then some x else some y) none

/-- The edges a source may take from an entry (R164). -/
def State.outEdges (s : State) (p : Nat) (x : PSource) (f : Front) : List Edge :=
  if f.h = s.cf (LFE_PROF_W4.HOPS p) then []
  else (s.edges f.n).filter fun e =>
    let m := s.cf (LFE_PROF_W5.EDGE_MASK p)
    ((e.road && bitOf m (2 * x.cls)) || (e.foot && bitOf m (2 * x.cls + 1))) &&
      !(f.h == 0 && x.heading < 240 && angleOver x.heading e.bearing (s.cf (LFE_PROF_W3.ANGLE p))) &&
      f.d + e.len ≤ s.cf (LFE_PROF_W4.HORIZON p) * 10

/-- New frontier entries numbered from `k`. -/
def addFront (f : Front) : Nat → List Edge → List Front
  | _, [] => []
  | k, e :: t => { n := e.dst, d := f.d + e.len, h := f.h + 1, k := k } :: addFront f (k + 1) t

/-- The settled nodes of a source in order, and whether the walk was cut at 64 (R164). The walk takes at most 513 entries. -/
def State.walk (s : State) (p : Nat) (x : PSource) : Nat → List Front → Nat → List (Nat × Nat) → List (Nat × Nat) × Bool
  | 0, l, _, done => (done, !l.isEmpty)
  | fuel + 1, l, k, done =>
    if 64 ≤ done.length then (done, !l.isEmpty)
    else
      match Front.least l with
      | none => (done, false)
      | some f =>
        let l := l.filter (· != f)
        if done.any (·.1 == f.n) then s.walk p x fuel l k done
        else
          let new := addFront f k (s.outEdges p x f)
          s.walk p x fuel (l ++ new) (k + new.length) (done ++ [(f.n, f.d)])

/-- on_until of an endpoint, ns. -/
def State.onUntil (s : State) (n : Nat) : Nat := ((s.lfe.onUntil.find? (·.1 == n)).map (·.2)).getD 0

/-- Predicted arrival at a distance, ns, rounded up: a boundary is a whole number of ns. -/
def PSource.eta (x : PSource) (d : Nat) : Nat := x.t0 + divUp (d * 400000000 * x.vd) x.vn

/-- mark() of R164. The predicted arrivals that raise light at this boundary are collected for R173. -/
def State.markNode (b : Nat) (x : PSource) (acc : State × List (Nat × Nat)) (y : Nat × Nat) : State × List (Nat × Nat) :=
  let s := acc.1
  match s.ownProfile y.1 with
  | none => acc
  | some p =>
    let eta := x.eta y.2
    if bitOf (s.cf (LFE_PROF_W3.CLASS_EN p)) x.cls && eta ≤ b + s.cf (LFE_PROF_W1.LEAD p) * 100000000 then
      let v := max (s.onUntil y.1) (eta + s.cf (LFE_PROF_W1.HOLD p) * 100000000)
      ({ s with lfe := { s.lfe with onUntil := s.lfe.onUntil.filter (·.1 != y.1) ++ [(y.1, v)] } },
        if b < eta + s.cf (LFE_PROF_W1.HOLD p) * 100000000 then (y.1, eta) :: acc.2 else acc.2)
    else acc

/-- One live source propagated at boundary `b`. -/
def State.propagate (b : Nat) (acc : State × List (Nat × Nat)) (x : PSource) : State × List (Nat × Nat) :=
  match acc.1.originProfile x.origin with
  | none => acc
  | some p =>
    let w := acc.1.walk p x 513 [{ n := x.origin, d := 0, h := 0, k := 0 }] 1 []
    let s := acc.1.setSource { x with settled := w.1 }
    let s := if w.2 then s.bump LFE_CNT_C.TRUNCATED else s
    w.1.foldl (State.markNode b (s.atSpeed x)) (s, acc.2)

/-- LFE_SRC and LFE_STAT.SOURCES read the sources (Table 6.10). -/
def State.pubSources (s : State) (b : Nat) (old : List Nat) : State :=
  let s := (old.filter fun k => !(s.lfe.sources.any fun (x : PSource) => x.slot == k)).foldl (fun s k =>
    (((s.wr (LFE_SRC_W0.adr k) 0).wr (LFE_SRC_W1.adr k) 0).wr (LFE_SRC_W2.adr k) 0).wr (LFE_SRC_W3.adr k) 0) s
  let s := s.lfe.sources.foldl (fun s x =>
    let k := x.slot
    let s := (((s.put (LFE_SRC_W0.LIVE k) 1).put (LFE_SRC_W0.ORIGIN k) x.origin).put (LFE_SRC_W0.CLASS k) x.cls).put
      (LFE_SRC_W0.SPEED k) (s.atSpeed x).speed
    let s := (s.put (LFE_SRC_W1.T0_SEC k) (x.t0 / 1000000000)).put (LFE_SRC_W2.T0_NS k) (x.t0 % 1000000000)
    ((s.put (LFE_SRC_W3.REFRESH_AGE k) (min 65535 ((b - x.refresh) / 10000000))).put (LFE_SRC_W3.HEADING k) x.heading).put
      (LFE_SRC_W3.SETTLED k) x.settled.length) s
  s.put LFE_STAT.SOURCES s.lfe.sources.length

/-- Slots in use. -/
def State.slotsUsed (s : State) : List Nat := s.lfe.sources.map (·.slot)

/-- Every source is discarded. -/
def State.noSources (s : State) : State :=
  ({ s with lfe := { s.lfe with sources := [] } }).pubSources 0 s.slotsUsed

/-- SOURCE_EXPIRY: sources past LIFE or HORIZON at boundary `b` free their slots (R160). -/
def State.expire (s : State) (b : Nat) : State :=
  { s with lfe := { s.lfe with sources := s.lfe.sources.filter fun x => !s.expired x b } }

/-- The order of R153: start time, origin and CLASS, and then the record's other fields, so that no order of arrival shows
(assumption 129). -/
def DetRec.key (r : DetRec) : Nat :=
  [r.cls, r.age, r.heading, r.speed, r.conf, r.count, if r.injected then 1 else 0].foldl (fun k x => k * 256 + x)
    (r.t0 * 4096 + r.origin)

/-- Step 3 of Table 6.1: expiry, the records admitted, propagation. The arrivals that raise light come back with it. -/
def State.sourceStep (s : State) (b : Nat) (adm : List DetRec) : State × List (Nat × Nat) :=
  let old := s.slotsUsed
  let s := (sortBy DetRec.key adm).foldl State.takeIn (s.expire b)
  let r := (sortBy (fun (x : PSource) => x.slot) s.lfe.sources).foldl (State.propagate b) (s, [])
  (r.1.pubSources b old, r.2)

/-- The LFE demand of an endpoint at boundary `b` (R165, R177). -/
def State.demand (s : State) (epa b : Nat) : Nat :=
  match s.ownProfile epa with
  | none => 0
  | some p => if s.bit LFE_STAT.NO_LANES ∨ b < s.onUntil epa then s.cf (LFE_PROF_W0.BOOST p) else 0

/-! ### Arbitration (R167 to R170) -/

/-- The FIO input of the emergency is active. -/
def State.fioEmerg (s : State) : Bool :=
  s.cfB LFE_EMERG_CTL.FIO_EN && s.cf LFE_EMERG_CTL.FIO ≤ 71 && s.bit (LBUS_FIO_STAT.LEVEL (s.cf LFE_EMERG_CTL.FIO))

/-- The emergency is in force (R168). -/
def State.emergNow (s : State) : Bool := s.bit LFE_EMERG_CTL.HOST || s.fioEmerg

/-- An endpoint lies in the emergency's scope (R168). -/
def State.emergScope (s : State) (epa : Nat) : Bool :=
  s.cfB LFE_EMERG_CTL.ALL ||
    (List.range 8).any fun w => (s.cf (LFE_EMERG_GRP.MEMBER w) &&& s.fld (EPC_GRP.MEMBER epa w)) != 0

/-- The emergency state is sampled at a boundary (R168). -/
def State.sampleEmerg (s : State) : State :=
  let now := s.emergNow
  if now = s.lfe.emerg then s
  else
    let s := ({ s with lfe := { s.lfe with emerg := now } }).putB LFE_EMERG_CTL.ACTIVE now
    (s.raise LFE_IRQ_STAT.EMERG).logEv 12 1 (leBytes 1 (if now then 1 else 0) ++
      leBytes 1 ((if s.bit LFE_EMERG_CTL.HOST then 1 else 0) + (if s.fioEmerg then 2 else 0)))

/-- The outcome of arbitration (R167). -/
structure Arb where
  layer : Nat
  level : Nat
  cct : Nat
  fade : Nat
  /-- The winning claim's number, or 0xFF. -/
  pat : Nat
  /-- Layer 1 with LFE above BASE. -/
  byLfe : Bool
deriving DecidableEq, Repr

/-- The fade of layer 1 (R170). -/
def State.fade1 (s : State) (epa level : Nat) : Nat :=
  let lc := s.fld (EPC_LVL_CMD.LEVEL epa)
  let base := s.fld (EPC_LVL_BASE.BASE epa)
  let lfe := s.fld (EPC_LVL_BASE.LFE epa)
  match s.ownProfile epa with
  | some p =>
    if lc < level ∧ base ≤ lfe then divUp (s.cf (LFE_PROF_W2.RISE p) * (level - lc)) 65535
    else if level < lc ∧ (s.lvlMem epa).byLfe then divUp (s.cf (LFE_PROF_W2.DECAY p) * (lc - level)) 65535
    else (s.baseOf epa).2
  | none => (s.baseOf epa).2

/-- Arbitration of one endpoint at boundary `b`, with the slots of `extra` as if held (R167). -/
def State.arbitrate (s : State) (epa b : Nat) (extra : List Nat) : Arb :=
  let mx := s.fld (EPC_LIMITS.MAX_LEVEL epa)
  let base := s.fld (EPC_LVL_BASE.BASE epa)
  let lfe := s.fld (EPC_LVL_BASE.LFE epa)
  let w := s.claimOn epa b extra
  let pat := (w.map (·.num)).getD 0xFF
  if s.lfe.emerg && s.emergScope epa then
    { layer := 4, level := s.fld (EPC_LAYER.EMERG epa), cct := 0, fade := 0, pat := pat, byLfe := false }
  else if s.bit (EPC_LVL_MANUAL.VALID epa) then
    { layer := 3, level := min (s.fld (EPC_LVL_MANUAL.LEVEL epa)) mx, cct := s.fld (EPC_LVL_MANUAL2.CCT epa)
      fade := s.fld (EPC_LVL_MANUAL2.FADE epa), pat := pat, byLfe := false }
  else match w with
    | some c => { layer := 2, level := min c.level mx, cct := c.cct, fade := c.fade, pat := pat, byLfe := false }
    | none =>
      if s.fld (EPC_LAYER.FLOOR epa) ≤ max base lfe then
        let l := min (max base lfe) mx
        let boost := ((s.ownProfile epa).map fun p => s.cf (LFE_PROF_W0.BOOST_CCT p)).getD 0
        { layer := 1, level := l, cct := if base < lfe ∧ boost ≠ 0 then boost else (s.baseOf epa).1
          fade := s.fade1 epa l, pat := 0xFF, byLfe := base < lfe }
      else
        { layer := 0, level := min (s.fld (EPC_LAYER.FLOOR epa)) mx, cct := 0, fade := s.cf LFE_FLOOR_CFG.FLOOR_FADE
          pat := 0xFF, byLfe := false }

/-! ### From level to command (R171 to R174) -/

/-- A command the generator issues. -/
structure LvlCmd where
  epa : Nat
  level : Nat
  cct : Nat
  fade : Nat
  byLfe : Bool
  /-- Order within its channel (R173). -/
  order : Nat
  /-- A decrease, which a short channel defers (R175). -/
  down : Bool
deriving DecidableEq, Repr

/-- R171: a command is issued. `prev` is the layer of the previous tick. -/
def State.issues (s : State) (epa prev : Nat) (a : Arb) : Bool :=
  let lc := s.fld (EPC_LVL_CMD.LEVEL epa)
  let m := s.lvlMem epa
  let ne := a.level != lc
  s.fld (EPC_LIMITS.HYST epa) < max a.level lc - min a.level lc ||
    (ne && (a.level == 0 || a.level == s.fld (EPC_LIMITS.MAX_LEVEL epa) || 2 ≤ a.layer || a.layer != prev || m.deferred)) ||
    (a.cct != 0 && a.cct != m.cct)

/-- The class of endpoint takes commands (Table 6.7). -/
def State.takesCmds (s : State) (epa : Nat) : Bool := [1, 4, 6, 7].contains (s.fld (EPC_STATE.CLASS epa))

/-- Nothing is issued where the winning slot has armed the endpoint (R169), or the drive sequencer switches it (R212). -/
def State.heldBack (s : State) (epa : Nat) (a : Arb) : Bool :=
  a.layer == 2 && ((0x40 ≤ a.pat && a.pat != 0xFF && (s.slotRun (a.pat - 0x40)).armed.contains epa) ||
    (a.pat < 32 && s.inChase epa a.pat))

/-- The order of R173: emergency, LFE rises by arrival, other rises, decreases; then the EPA. -/
def orderKey (a : Arb) (lc eta epa : Nat) : Nat :=
  let g := if a.layer = 4 then 0 else if a.level < lc then 3 else if a.byLfe ∧ lc < a.level then 1 else 2
  (g * 2 ^ 72 + (if g = 1 then eta else 0)) * 4096 + epa

/-- In SERVICE, only layers 3 and 4 act; with POLICY = LEVELS the lower layers give the scene's level (R75). -/
def State.serviceArb (s : State) (epa : Nat) (a : Arb) : Option Arb :=
  if s.pwr.mode != .service ∨ 3 ≤ a.layer then some a
  else if s.bit PWR_SVC_CTL.POLICY then
    let sc := s.sceneFor epa (s.fld PWR_SVC_CTL.SCENE)
    some { a with level := min sc.1 (s.fld (EPC_LIMITS.MAX_LEVEL epa)), cct := sc.2, fade := 0, byLfe := false, layer := 2 }
  else none

/-- The command of one endpoint at a boundary, where one is issued. -/
def State.cmdFor (s : State) (b : Nat) (etas : List (Nat × Nat)) (epa : Nat) : Option LvlCmd :=
  if !(s.epState epa == stActive && s.takesCmds epa) then none
  else
    let a0 := s.arbitrate epa b []
    match s.serviceArb epa a0 with
    | none => none
    | some a =>
      if s.heldBack epa a0 && s.pwr.mode != .service then none
      else if s.issues epa (s.fld (EPC_LVL_SRC.LAYER epa)) a then
        let lc := s.fld (EPC_LVL_CMD.LEVEL epa)
        let eta := ((etas.filter (·.1 == epa)).map (·.2)).foldl min (2 ^ 72 - 1)
        some { epa := epa, level := a.level, cct := a.cct, fade := a.fade, byLfe := a.byLfe
               order := orderKey a lc eta epa, down := a.level < lc }
      else none

/-- A queued command to the endpoint that has not left its queue. -/
def isOldCmd (epa : Nat) (d : Desc) : Bool :=
  d.queue == epa && (match d.body with
    | .tep f => f.owner == .cmd epa && f.psdu.isNone
    | .bus n _ _ _ => n == epa
    | .raw _ => false)

/-- The new command replaces the one still queued, in its place (R174); otherwise it is queued. -/
def State.queueCmd (s : State) (epa len : Nat) (b : Body) (send : State → State) : State :=
  match s.swc.q.find? (isOldCmd epa) with
  | some d =>
    let q := s.swc.q.map fun (x : Desc) => if x == d then { x with body := b, len := len } else x
    ({ s with swc := { s.swc with q := q } }).bump LFE_CNT_D.SUPERSEDED
  | none => send s

/-- A command to a radio lantern (Table 6.7). -/
def State.sendRadioCmd (s : State) (c : LvlCmd) : State :=
  let base := leBytes 2 c.level ++ leBytes 2 c.cct
  let r := if c.fade = 0 then s.mkUnicast c.epa 1 base (.cmd c.epa) else s.mkUnicast c.epa 2 (base ++ leBytes 2 c.fade) (.cmd c.epa)
  r.2.2.queueCmd c.epa (r.2.2.psduLen (s.heardOn c.epa) r.1) (.tep r.1) fun s => (s.sendEpFrom 12 c.epa r.1).2

/-- A command to bus gear: a packet to its DL port (R247). -/
def State.sendBusCmd (s : State) (c : LvlCmd) : State :=
  let b := Body.bus c.epa c.level c.cct c.fade
  s.queueCmd c.epa 8 b fun s => (s.enq c.epa 12 (s.fld (SWC_PORT_CFG.EQ_CLASS 13)) 8 b).2

/-- A command is launched: for the comparison of R122 and EPC_LAUNCH_NT. -/
def State.launched (s : State) (epa fade : Nat) : State :=
  (s.setRun { s.run epa with launchAt := some s.clk, launchFade := fade }).put (EPC_LAUNCH_NT.SEC epa) s.ntSec

/-- One command placed by its reach (R172). -/
def State.placeCmd (s : State) (c : LvlCmd) : State :=
  let s := s.recordCmd c.epa c.level c.cct c.byLfe
  match s.reach c.epa with
  | 1 => s.sendRadioCmd c
  | 2 => s.sendBusCmd c
  | _ =>
    match s.unitOf c.epa with
    | some u => (s.commandUnit u c.level c.cct c.fade).launched c.epa c.fade
    | none => s

/-! ### Coalescing (R175) -/

/-- Airtime of a command, with its train. -/
def State.cmdTime (s : State) (ch : Nat) (c : LvlCmd) : Nat :=
  s.airtime ch (({ typ := 2, msg := List.replicate (if c.fade = 0 then 6 else 8) 0, dst := .ep c.epa, key := 1, launch := none
                   persist := none, owner := .none, psdu := none } : Frame).len (micLen (s.txLevel 2)) (s.fcsLen ch)) +
    s.trainTime ch c.epa

/-- A channel is short (R175). -/
def State.short (s : State) (ch : Nat) (l : List LvlCmd) : Bool :=
  let q := s.queuedTime ch
  s.cfB LFE_COAL_CFG.EN &&
    (s.chCredit ch false - q < l.foldl (fun a c => a + s.cmdTime ch c) 0 || s.cf LFE_COAL_CFG.BACKLOG_MS * 1000 < q)

/-- The members of a group that a GROUP_FADE on a channel reaches. -/
def State.fadeMembers (s : State) (ch g : Nat) : List Nat :=
  s.epas fun n => s.epState n == stActive && s.fld (EPC_STATE.CLASS n) == 1 && s.heardOn n == ch && s.inGroup n g &&
    !s.bit (EPC_RPT_FLAGS.GRP_PENDING n)

/-- A place in a short channel's order: a unicast command, or a GROUP_FADE. -/
inductive Slotted where
  | one (c : LvlCmd)
  | grp (g : Nat) (c : LvlCmd) (members : List Nat) (replaced : Nat)
deriving DecidableEq, Repr

/-- The commands of the list that fall to a group are replaced by one GROUP_FADE at the first one's place. -/
def replaceBy (f : LvlCmd → Bool) (x : Slotted) : Bool → List Slotted → List Slotted
  | _, [] => []
  | done, .one c :: t =>
    if f c then (if done then replaceBy f x true t else x :: replaceBy f x true t) else .one c :: replaceBy f x done t
  | done, y :: t => y :: replaceBy f x done t

/-- One group of LFE_COAL_GRP on a short channel (R175, step 1). -/
def State.coalesce (s : State) (b ch : Nat) (l : List Slotted) (g : Nat) : List Slotted :=
  let mem := s.fadeMembers ch g
  let mine := l.filterMap fun x => match x with
    | .one c => if mem.contains c.epa then some c else none
    | .grp _ _ _ _ => none
  if mine.length < 2 then l
  else
    let arbs := mem.map fun n => (n, (s.serviceArb n (s.arbitrate n b [])).getD (s.arbitrate n b []))
    let lg := arbs.foldl (fun m x => max m x.2.level) 0
    match arbs.find? fun x => x.2.level == lg with
    | none => l
    | some (n, a) =>
      let c : LvlCmd := { epa := n, level := lg, cct := a.cct, fade := a.fade, byLfe := a.byLfe, order := 0, down := false }
      replaceBy (fun c => mem.contains c.epa) (.grp g c mem mine.length) false l

/-- A queued command that a group frame stands in for is never sent (R174). -/
def State.supersede (s : State) (epa : Nat) : State :=
  match s.swc.q.find? (isOldCmd epa) with
  | some d => (s.dropDesc d).bump LFE_CNT_D.SUPERSEDED
  | none => s

/-- A GROUP_FADE is queued, and its members take its level. -/
def State.sendGroupFade (s : State) (ch g : Nat) (c : LvlCmd) (mem : List Nat) (replaced : Nat) : State :=
  let s := mem.foldl State.supersede s
  let r := s.mkGroup 3 (leBytes 1 g ++ [0] ++ leBytes 2 c.level ++ leBytes 2 c.cct ++ leBytes 2 c.fade) (.group mem)
  let s := (r.2.sendGrpFrom 12 ch r.1).2
  let s := mem.foldl (fun s n => s.recordCmd n c.level c.cct ((s.arbitrate n s.lfe.lastTick []).byLfe)) s
  (s.bump (LFE_COAL_CNT.GROUP_FRAMES ch)).bumpBy (LFE_COAL_CNT.REPLACED ch) replaced

/-- A command on a short channel: a decrease waits for the next tick (R175, step 2). -/
def State.placeShort (s : State) (ch : Nat) (x : Slotted) : State :=
  match x with
  | .grp g c mem n => s.sendGroupFade ch g c mem n
  | .one c => if c.down then s.setLvlMem { s.lvlMem c.epa with deferred := true } else s.placeCmd c

/-- The commands of a radio channel (R173, R175). -/
def State.placeChannel (s : State) (b ch : Nat) (l : List LvlCmd) : State :=
  if l.isEmpty then s
  else if s.short ch l then
    let gs := (List.range 256).filter fun g => bitOf (s.cf (LFE_COAL_GRP.MEMBER (g / 32))) (g % 32)
    (gs.foldl (s.coalesce b ch) (l.map Slotted.one)).foldl (fun s x => s.placeShort ch x) s
  else l.foldl State.placeCmd s

/-- Arbitration and the command generator at boundary `b` (steps 4 and 5 of Table 6.1). A module that may not command arbitrates all
the same (R167, R452). -/
def State.generate (s : State) (b : Nat) (etas : List (Nat × Nat)) : State :=
  let cmds := if s.mayCommand then sortBy (fun (c : LvlCmd) => c.order) ((s.epas fun _ => true).filterMap (s.cmdFor b etas))
    else []
  let s := (s.epas fun _ => true).foldl (fun s n =>
    let a := s.arbitrate n b []
    let s := if a.layer = 2 && a.pat < 32 then s.chaseMember n a.pat true
      else (s.patClaims n b).foldl (fun s c => s.chaseMember n c.num false) s
    (s.put (EPC_LVL_SRC.LAYER n) a.layer).put (EPC_LVL_SRC.PATTERN n) a.pat) s
  let s := (List.range 8).foldl (fun s ch =>
    s.placeChannel b ch (cmds.filter fun c => s.reach c.epa == 1 && s.heardOn c.epa == ch)) s
  (cmds.filter fun c => s.reach c.epa != 1).foldl State.placeCmd s

/-! ### The tick (R150) -/

/-- CLEAR_SOURCES ends at a boundary (R182). -/
def State.clearAt (s : State) : State :=
  if s.lfe.clearing then finishCmd .lfe stDone (({ s with lfe := { s.lfe with clearing := false } }).noSources) else s

/-- PROP_EN = 0 discards the sources and closes the intake at a boundary (R181). -/
def State.propGate (s : State) : State :=
  if s.bit LFE_CTL.PROP_EN then s
  else ({ s with lfe := { s.lfe with closed := true } }).noSources

/-- The levels of a late slot as immediate commands, with its fade, to every ACTIVE endpoint of its scope (R202). -/
def State.lateLevels (s : State) (n : Nat) : State :=
  if !s.mayCommand then s
  else (s.epas fun e => s.epState e == stActive && s.takesCmds e && s.inScope n e).foldl (fun s e =>
    s.placeCmd { epa := e, level := min (s.fld (TRN_SLOT_LVL.LEVEL n)) (s.fld (EPC_LIMITS.MAX_LEVEL e)), cct := s.fld (TRN_SLOT_LVL.CCT n)
                 fade := s.fld (TRN_SLOT_FADE.FADE n), byLfe := false, order := 0, down := false }) s

/-- A slot found ARMED after T (R202): its levels go out at once; in SERVICE it is cancelled (R203). -/
def State.lateSlot (s : State) (n : Nat) : State :=
  if s.pwr.mode == .service then (s.cancelSlot n).slotLog 5 n
  else
    let s := (s.setSlotRun { s.slotRun n with armed := [] }).holdSlot n
    (((s.put (TRN_SLOT_STAT.LATE n) 1).raise TRN_IRQ_STAT.LATE).slotLog 1 n).lateLevels n

/-- What slots do at boundary `b` (R201, R202). -/
def State.slotTick (s : State) (b : Nat) : State :=
  (List.range 64).foldl (fun s n =>
    if s.slotState n = 3 ∧ (s.slotRun n).release then s.endSlot n
    else if s.slotState n = 1 ∧ s.slotT n ≤ b then s.lateSlot n
    else s) s

/-- Words that step 1 of Table 6.1 samples: the configuration, MANUAL and base levels of contexts, and the slots. STATE and what
the module itself keeps of an endpoint are as they stand (assumption 131). -/
def sampledWord (a : Nat) : Bool :=
  (0x100000 ≤ a && a < 0x300000 && ((0xC ≤ a % 512 && a % 512 < 0x28) || (0x40 ≤ a % 512 && a % 512 < 0xAC))) ||
    (0x381000 ≤ a && a < 0x382000)

/-- Step 1 of Table 6.1 at boundary `b`: the inputs are sampled, and what slots and engines do at a boundary happens. -/
def State.openTick (s : State) (b : Nat) : State :=
  let s := s.boundary 0x340000 0x400000
  let s := s.wr LFE_TICK_NT_LO.adr (b % 1000000000)
  let s := s.put LFE_TICK_NT_HI.SEC (b / 1000000000)
  let s := (((s.sampleEmerg.clearAt.propGate).slotTick b).patTick b).takeChases b
  { s with lfe := { s.lfe with
      lastTick := b, ticked := true
      opened := some { at_ := b, words := s.regs.filter fun x => sampledWord x.1, pats := s.trn.pats, base := s.sch.base } } }

/-- The word at an offset in a list of words. -/
def wordIn (l : List (Nat × Word)) (a : Nat) : Word := (regFind l a).getD (resetWord a)

/-- A word as it stands, but for the bits in which `new` differs from `old`. -/
def mixWord (live old new : Word) : Word := (live &&& ~~~(old ^^^ new)) ||| (new &&& (old ^^^ new))

/-- An operation on the state as sampled. Of the sampled words only the bits it changes change; everything else is as it stands. -/
def State.withSample (s : State) (o : TickOpen) (f : State → State) : State :=
  let live := s.regs.filter fun x => sampledWord x.1
  let lay := fun (w l : List (Nat × Word)) => w.foldl (fun l x => regIns l x.1 x.2) (l.filter fun x => !sampledWord x.1)
  let t := f { s with regs := lay o.words s.regs, trn := { s.trn with pats := o.pats }, sch := { s.sch with base := o.base } }
  let new := t.regs.filter fun x => sampledWord x.1
  let u := { t with regs := lay live t.regs, trn := { t.trn with pats := s.trn.pats }, sch := { t.sch with base := s.sch.base } }
  (((o.words ++ new).map (·.1)).eraseDups).foldl (fun u a =>
    u.setWord a (mixWord (wordIn live a) (wordIn o.words a) (wordIn new a))) u

/-- Steps 3 to 5 of Table 6.1 with the records admitted. Where propagation is off or no lane is in service they raise no source
(R177, R181; assumption 128). -/
def State.tickBody (s : State) (b : Nat) (adm : List DetRec) : State :=
  let r := if s.bit LFE_STAT.NO_LANES || s.lfe.closed then (s.noSources, []) else s.sourceStep b adm
  let s := (r.1.epas fun _ => true).foldl (fun s n => s.put (EPC_LVL_BASE.LFE n) (s.demand n b)) r.1
  s.generate b r.2

/-- The intake of a tick closes, and the rest of it runs. -/
def State.closeTick (s : State) (o : TickOpen) : State :=
  let adm := (s.lfe.intake.filter s.forOpen).map (·.2)
  let s := { s with lfe := { s.lfe with
    intake := s.lfe.intake.filter fun x => !s.forOpen x, opened := none, ticks := s.lfe.ticks + 1 } }
  s.withSample o fun s => s.tickBody o.at_ adm

/-- The open tick, where there is one, runs to its end. -/
def State.endTick (s : State) : State :=
  match s.lfe.opened with
  | some o => s.quiet fun s => s.closeTick o
  | none => s

/-- 150 µs have passed since the boundary of an open tick. -/
def State.tickDue (s : State) : Bool :=
  s.up .lfe && (match s.lfe.opened with
    | some o => o.at_ + 150000 ≤ s.nt
    | none => false)

/-- An open tick whose 150 µs have passed runs to its end. -/
def State.tickOn (s : State) : State := if s.tickDue then s.endTick else s

/-- LFE_TICK: the tick of the boundary at or before now, where it has not run yet: at once where its intake has closed, or as
soon as it does (R149, R150, R151). -/
def lfeTick (s : State) : State :=
  let b := s.nt / s.tickNs * s.tickNs
  if !s.up .lfe || !s.bit LFE_CTL.EN then s
  else if s.lfe.ticked && b ≤ s.lfe.lastTick then s.tickOn
  else (s.endTick.quiet fun s => s.openTick b).tickOn

/-- SOURCE_EXPIRY: the sources past LIFE or HORIZON at the present boundary. -/
def sourceExpiry (s : State) : State :=
  if s.up .lfe && s.bit LFE_CTL.EN then (s.expire (s.nt / s.tickNs * s.tickNs)).pubSources (s.nt / s.tickNs * s.tickNs) s.slotsUsed else s

/-- LFE_HOLD_EXPIRY: the boundary reaches on_until and the demand falls to 0 (R165). -/
def lfeHoldExpiry (epa : Nat) (s : State) : State :=
  let b := s.nt / s.tickNs * s.tickNs
  if s.up .lfe && s.bit LFE_CTL.EN && s.onUntil epa ≤ b && !s.bit LFE_STAT.NO_LANES then
    s.quiet fun s => ({ s with lfe := { s.lfe with onUntil := s.lfe.onUntil.filter (·.1 != epa) } }).put (EPC_LVL_BASE.LFE epa) 0
  else s

/-- CLEAR_SOURCES (R182). -/
def clearSources (s : State) : State :=
  runCmd .lfe 2 (fun s =>
    if s.bit LFE_CTL.EN then (stPending, { s with lfe := { s.lfe with clearing := true } }) else (stDone, s.noSources)) s

/-- LFE_CTL_WRITE: PROP_EN and EN take values (R181). -/
def lfeCtlWrite (en prop : Bool) (s : State) : State :=
  if !s.up .lfe then s
  else
    let s := (s.putB LFE_CTL.EN en).putB LFE_CTL.PROP_EN prop
    let s := if prop then { s with lfe := { s.lfe with closed := false } } else s
    let s := if en then s else { s with lfe := { s.lfe with opened := none } }
    if !en && s.lfe.clearing then s.clearAt else s

/-- The policy of SERVICE is applied at entry and at a write of PWR_SVC_CTL (R75). -/
def servicePolicy (s : State) : State :=
  if s.up .lfe && s.pwr.mode == .service then s.generate s.lfe.lastTick [] else s

/-- Lanes in service changed (R176, R177). -/
def lanesChanged (l : Nat) (s : State) : State :=
  let s := s.put LFE_STAT.LANES l
  if l = 0 then
    if s.bit LFE_STAT.NO_LANES then s
    else (((s.put LFE_STAT.NO_LANES 1).noSources).raise LFE_IRQ_STAT.NO_LANES).logEv 12 3 []
  else (s.put LFE_STAT.NO_LANES 0).setTick

/-- Network time has taken a step of `d` ns: sources and holds move with it (R180). -/
def lfeTimeStep (d : Int) (s : State) : State :=
  let f := fun (t : Nat) => ((t : Int) + d).toNat
  { s with lfe := { s.lfe with
      sources := s.lfe.sources.map fun (x : PSource) => { x with t0 := f x.t0, refresh := f x.refresh }
      onUntil := s.lfe.onUntil.map fun x => (x.1, f x.2)
      intake := s.lfe.intake.map fun x => (f x.1, x.2)
      opened := s.lfe.opened.map fun (o : TickOpen) => { o with at_ := f o.at_ }
      lastTick := min s.lfe.lastTick s.nt } }

/-- Every start: no sources, every on_until 0 (R179). -/
def lfeStart (s : State) : State :=
  { s with lfe := { s.lfe with sources := [], onUntil := [], intake := [], emerg := false, clearing := false, closed := false
                               lastTick := 0, ticked := false, opened := none } }

/-- A read of LFE_TICK_NT_LO latches LFE_TICK_NT_HI (R182). -/
def lfeTickNtRead (s : State) : Nat × State :=
  (s.rd LFE_TICK_NT_LO.adr, s.setLatch LFE_TICK_NT_HI.adr (s.rd LFE_TICK_NT_HI.adr))

end Sys2Proof.Machine
end

