-- ==== Sys2Proof/Machine/Lbus.lean ====
section
/-! DEFINITION. Luminaire buses, analogue outputs, field I/O, serial buses and thermistors (chapter 09, R241 to R269). -/

namespace Sys2Proof.Machine

/-! ### Levels and fades on a luminaire bus (R244, R245) -/

/-- log₁₀(1000 L / 65,535) × 253/3 reaches `m` − ½, compared exactly (R244). -/
def logReaches (level m : Nat) : Bool := 65535 ^ 506 * 10 ^ (3 * (2 * m - 1)) ≤ (1000 * level) ^ 506

/-- The logarithmic arc code of a level above 0: the highest `m` + 1 that the law reaches, at least 1. -/
def logArc (level : Nat) : Nat :=
  let step := fun (m bit : Nat) => if m + bit ≤ 253 ∧ logReaches level (m + bit) then m + bit else m
  min 254 (1 + [128, 64, 32, 16, 8, 4, 2, 1].foldl step 0)

/-- Points of LBUS_ARC[c]. -/
def State.arcPts (s : State) (c : Nat) : List Nat := (List.range 17).map fun k => s.fld (LBUS_ARC.ARC (c - 2) k)

/-- The arc code of a level under a CURVE (R244). -/
def State.arcOf (s : State) (c level : Nat) : Nat :=
  if c = 0 ∨ 15 < c then (if level = 0 then 0 else logArc level)
  else if c = 1 then (if level = 0 then 0 else max 1 (divRound (254 * level) 65535))
  else interp17 (s.arcPts c) level

/-- 65,535 × 10^(3(n − 1)/253 − 3) reaches level − ½, compared exactly. -/
def levelReaches (n level : Nat) : Bool := ((2 * level - 1) * 1000) ^ 253 ≤ 131070 ^ 253 * 10 ^ (3 * (n - 1))

/-- The highest value below 2^`k`, built bit by bit, that `ok` accepts. -/
def highest (ok : Nat → Bool) : Nat → Nat → Nat
  | 0, v => v
  | k + 1, v => highest ok k (if ok (v + 2 ^ k) then v + 2 ^ k else v)

/-- The level of an arc answer (R244). The logarithmic formula gives 64 at n = 0. -/
def State.levelOf (s : State) (c n : Nat) : Nat :=
  if c = 0 ∨ 15 < c then (if n = 0 then 64 else highest (fun v => v ≤ 65535 && levelReaches n v) 16 0)
  else if c = 1 then min 65535 (divRound (65535 * n) 254)
  else
    let p := s.arcPts c
    let v := highest (fun v => interp17 p v < n) 16 0
    if n ≤ interp17 p 0 then 0 else min 65535 (v + 1)

/-- The fade times a gear can hold, in 10 ms, with their codes, shortest first; of equal times the lower multiplier. -/
def fadeCodes : List (Nat × Nat) :=
  (0, 0) :: [(1, 10), (2, 100), (3, 1000), (4, 6000)].flatMap fun m =>
    (List.range 16).map fun b => ((b + 1) * m.2, m.1 * 16 + b)

/-- The fade code nearest a fade; the longer of two equally near (R245). -/
def fadeCode (f : Nat) : Nat :=
  (fadeCodes.foldl (fun (best : Nat × Nat) x =>
    let db := max best.1 f - min best.1 f
    let dx := max x.1 f - min x.1 f
    if dx < db ∨ (dx = db ∧ best.1 < x.1) then x else best) (0, 0)).2

/-! ### Gear of a port -/

def State.dlPort (s : State) (p : Nat) : DlPort :=
  (s.lbus.ports[p]?).getD { levels := [], queue := [], cur := [], tx := none, slot := false, last := none, attempts := 0
                            waiting := false, committed := [], levelAt := 0, energyAt := 0, diagAt := 0, answered := 0, cycle := [] }

/-- A transaction that carries levels. -/
def DlTx.isLevel (t : DlTx) : Bool :=
  t.frames.any fun f => match f.kind with
    | .level _ _ _ => true
    | _ => false

/-- The gear whose level a transaction carries. -/
def DlTx.gear (t : DlTx) : List Nat :=
  t.frames.flatMap fun f => match f.kind with
    | .level epas _ _ => epas
    | _ => []

/-- The waiting levels of a port have their transactions (R247). -/
def DlPort.planned (d : DlPort) : Bool := d.queue.any DlTx.isLevel

/-- LBUS_DL_STAT reads the port: STATE and QUEUED. -/
def State.pubDl (s : State) (p : Nat) : State :=
  let d := s.dlPort p
  let n := (if d.planned then 0 else d.levels.length) + d.cur.length + (d.queue.map fun t => t.frames.length).foldl (· + ·) 0 +
    (d.committed.map fun t => t.2.frames.length).foldl (· + ·) 0
  let st := s.fld (LBUS_DL_STAT.STATE p)
  let s := s.put (LBUS_DL_STAT.QUEUED p) (min 255 n)
  if st = 0 ∨ st = 3 then s else s.put (LBUS_DL_STAT.STATE p) (if d.waiting || !d.cur.isEmpty then 2 else 1)

def State.updDl (s : State) (p : Nat) (f : DlPort → DlPort) : State :=
  ({ s with lbus := { s.lbus with ports := updAt s.lbus.ports p f } }).pubDl p

def State.gear (s : State) (epa : Nat) : GearRec :=
  (s.lbus.gear.find? fun (g : GearRec) => g.epa == epa).getD
    { epa := epa, fade := none, missed := 0, status := 0, failure := 0, mem := [], baseline := true, rem := 0, groups := 0 }

def State.setGear (s : State) (g : GearRec) : State :=
  { s with lbus := { s.lbus with gear := (s.lbus.gear.filter fun (x : GearRec) => x.epa != g.epa) ++ [g] } }

/-- Endpoints in service of a class on a port, by ascending short address. -/
def State.onPort (s : State) (p cls : Nat) : List Nat :=
  sortBy (fun n => s.fld (EPC_REACH.ADDR n))
    (s.epas fun n => s.fld (EPC_STATE.CLASS n) == cls && s.reach n == 2 && s.fld (EPC_REACH.PORT n) == p)

def State.dlAddr (s : State) (epa : Nat) : Nat := s.fld (EPC_REACH.ADDR epa) % 64
def State.dlOf (s : State) (epa : Nat) : Nat := s.fld (EPC_REACH.PORT epa) % 16

/-- The port is enabled and not DOWN. -/
def State.dlUp (s : State) (p : Nat) : Bool := s.bit (LBUS_DL_CFG.EN p) && s.fld (LBUS_DL_STAT.STATE p) != 3

/-! ### Frames (Table 9.1; the address and special codes are those of IEC 62386, assumption 39) -/

/-- A 16-bit frame. -/
def fr16 (a b : Nat) (k : DlKind) : DlFrame := { bits := a % 256 * 256 + b % 256, len := 16, kind := k }

def dtr0 (v : Nat) : DlFrame := fr16 0xA3 v .config
def dtr1 (v : Nat) : DlFrame := fr16 0xC3 v .config
def deviceType6 : DlFrame := fr16 0xC1 6 .config

/-- Address bytes: a short address, a bus group, all gear. -/
def aShort (a : Nat) : Nat := a * 2
def aGroup (k : Nat) : Nat := 0x80 + k * 2
def aAll : Nat := 0xFE

/-- A command with its opcode to an address byte, and the same sent twice. -/
def cmd1 (a op : Nat) (k : DlKind) : DlFrame := fr16 (a + 1) op k
def cmd2 (a op : Nat) : List DlFrame := [cmd1 a op .config, cmd1 a op .config]

/-- A transaction enters a port's queue. -/
def State.dlPush (s : State) (p prio : Nat) (l : List DlFrame) : State :=
  if l.isEmpty then s else s.updDl p fun d => { d with queue := d.queue ++ [{ prio := prio, frames := l }] }

/-- The frames of a level to an address: fade frames where a gear's record differs, then DAPC (R245). -/
def State.levelFrames (s : State) (a arc fade : Nat) (epas : List Nat) : List DlFrame :=
  let code := fadeCode fade
  let pre := if epas.all fun n => (s.gear n).fade == some code then [] else dtr0 code :: cmd2 a 48
  pre ++ [fr16 a arc (.level epas code fade)]

/-- The arc code of gear at a level. -/
def State.gearArc (s : State) (epa level : Nat) : Nat := s.arcOf (s.fld (EPC_PARAMS.CURVE epa)) level

/-- What a level becomes on the bus: arc code and fade code. -/
def State.wireLevel (s : State) (l : DlLevel) : Nat × Nat := (s.gearArc l.epa l.level, fadeCode l.fade)

/-- The bus group `k` of a port is mapped, and to which segment group (Table 9.6). -/
def State.busGroup (s : State) (p k : Nat) : Option Nat :=
  if k % 2 = 0 then (if s.cfB (LBUS_DL_GMAP.EN_EVEN p (k / 2)) then some (s.cf (LBUS_DL_GMAP.SEG_GRP_EVEN p (k / 2))) else none)
  else if s.cfB (LBUS_DL_GMAP.EN_ODD p (k / 2)) then some (s.cf (LBUS_DL_GMAP.SEG_GRP_ODD p (k / 2))) else none

/-- Gear of a port that knows its groups. -/
def State.settled (s : State) (p : Nat) : List Nat := (s.onPort p 4).filter fun n => !s.bit (EPC_RPT_FLAGS.GRP_PENDING n)

/-- Bus group frames, in ascending order (R247, step 2): frames so far, and gear covered. `least` is the fewest gear. -/
def State.groupFrames (s : State) (p least : Nat) (l : List DlLevel) : List (List DlFrame) × List Nat :=
  (List.range 16).foldl (fun (acc : List (List DlFrame) × List Nat) k =>
    match s.busGroup p k with
    | none => acc
    | some g =>
      let mem := (s.settled p).filter fun n => s.inGroup n g
      let mine := l.filter fun x => mem.contains x.epa && !acc.2.contains x.epa
      match mine with
      | [] => acc
      | x :: _ =>
        let w := s.wireLevel x
        if least ≤ mine.length && mem.all (fun n => l.any fun y => y.epa == n && s.wireLevel y == w) then
          (acc.1 ++ [s.levelFrames (aGroup k) w.1 x.fade mem], acc.2 ++ mem)
        else acc) ([], [])

/-- The transactions that carry a set of levels. With COAL: a broadcast where one arc code and fade serve all the gear `all`, then
bus groups, then short addresses, ascending (R192, R247). Without: one for each gear, in the order of the commands (R173). -/
def State.levelTxs (s : State) (p : Nat) (coal : Bool) (least : Nat) (all : List Nat) (cmds : List DlLevel) : List (List DlFrame) :=
  let l := sortBy (fun x => s.dlAddr x.epa) cmds
  let uni := fun (l : List DlLevel) => l.map fun x => s.levelFrames (aShort (s.dlAddr x.epa)) (s.wireLevel x).1 x.fade [x.epa]
  match l with
  | [] => []
  | x :: _ =>
    if !coal then uni cmds
    else if !all.isEmpty && all.all (fun n => l.any fun y => y.epa == n && s.wireLevel y == s.wireLevel x) then
      s.levelFrames aAll (s.wireLevel x).1 x.fade (l.map (·.epa)) :: uni (l.filter fun y => !all.contains y.epa)
    else
      let g := s.groupFrames p least l
      g.1 ++ uni (l.filter fun y => !g.2.contains y.epa)

/-- A level command reaches its port; a newer one replaces one whose frame has not started, in its place, and is counted. What was
planned for the waiting levels is planned anew (R174, R247). -/
def State.dlLevel (s : State) (epa level fade : Nat) : State :=
  let s := if (s.dlPort (s.dlOf epa)).levels.any fun x => x.epa == epa then s.bump LFE_CNT_D.SUPERSEDED else s
  s.updDl (s.dlOf epa) fun d => { d with
    queue := d.queue.filter fun t => !t.isLevel
    levels := if d.levels.any fun x => x.epa == epa then
        d.levels.map fun x => if x.epa == epa then { x with level := level, fade := fade } else x
      else d.levels ++ [{ epa := epa, level := level, fade := fade }] }

/-! ### Commissioning and queries (R246, R248) -/

/-- The commissioning of one gear (R246). -/
def State.commissionFrames (s : State) (p epa : Nat) : List DlFrame :=
  let a := aShort (s.dlAddr epa)
  let set := fun (v op : Nat) => dtr0 v :: cmd2 a op
  let groups := (List.range 16).flatMap fun k => match s.busGroup p k with
    | some g => cmd2 a (if s.inGroup epa g then 96 + k else 112 + k)
    | none => []
  set (s.fld (LBUS_DL_SAFE.SYS_FAIL p)) 44 ++ set (s.fld (LBUS_DL_SAFE.POWER_ON p)) 45 ++ set 0 46 ++
    (dtr0 (if s.fld (EPC_PARAMS.CURVE epa) = 1 then 1 else 0) :: deviceType6 :: cmd2 a 227) ++ groups ++
    [cmd1 a 192 (.queryGroups epa false), cmd1 a 193 (.queryGroups epa true)]

/-- A reading of a memory bank: `n` bytes from a location. -/
def memFrames (a epa bank loc n : Nat) : List DlFrame :=
  dtr1 bank :: dtr0 loc :: (List.range n).map fun k => cmd1 a 197 (.readMem epa bank (k + 1 == n))

/-- Locations and lengths read from each bank (assumption 40). -/
def bankRead (bank : Nat) : Nat × Nat :=
  if bank = 1 then (3, 8) else if bank = 202 then (4, 12) else if bank = 205 then (4, 4) else (5, 4)

def State.readBank (s : State) (epa bank : Nat) : List DlFrame :=
  memFrames (aShort (s.dlAddr epa)) epa bank (bankRead bank).1 (bankRead bank).2

/-- One gear is commissioned, with its identity read (R246, R248). GRP_PENDING is set where groups are written. Its next energy
reading sets the baseline, but at the port enable of a warm start, through which no energy is lost (R250). -/
def State.commission (s : State) (p epa : Nat) (fresh : Bool) : State :=
  let s := s.setGear { s.gear epa with baseline := fresh || (s.gear epa).baseline }
  let s := if (List.range 16).any fun k => (s.busGroup p k).isSome then s.put (EPC_RPT_FLAGS.GRP_PENDING epa) 1 else s
  (s.dlPush p 3 (s.commissionFrames p epa)).dlPush p 4 (s.readBank epa 1)

/-- Gear that became RESERVED or ACTIVE is commissioned where its port is enabled; a port that is DOWN sends the frames once it is up
(R246). -/
def State.commissionNew (s : State) : State :=
  let l := s.epc.toCommission
  let s := { s with epc := { s.epc with toCommission := [] } }
  l.foldl (fun s n => if s.bit (LBUS_DL_CFG.EN (s.dlOf n)) && s.epLive n && s.up .lbus then s.commission (s.dlOf n) n true
    else s) s

/-- The level and status queries of one gear. -/
def State.levelQuery (s : State) (epa : Nat) : List DlFrame :=
  let a := aShort (s.dlAddr epa)
  [cmd1 a 160 (.queryLevel epa), cmd1 a 144 (.queryStatus epa)]

/-- QUERY DEVICE STATUS of part 103. -/
def State.deviceQuery (s : State) (epa : Nat) : List DlFrame :=
  [{ bits := (s.dlAddr epa * 2 + 1) * 65536 + 0xFE * 256 + 0x30, len := 24, kind := .queryDevice epa }]

/-- The level cycle of a port runs: gear has still its turn to come (R248). -/
def DlPort.querying (d : DlPort) : Bool := !d.cycle.isEmpty

/-- Gear has had its turn in the level cycle. -/
def State.cycleTook (s : State) (p epa : Nat) : State := s.updDl p fun d => { d with cycle := d.cycle.filter (· != epa) }

/-- The cycles of a port that have fallen due are queued (R248). -/
def State.dlCycles (s : State) (p : Nat) : State :=
  let d := s.dlPort p
  let lv := clampN 5 65535 (s.fld (LBUS_DL_QCYC.LEVEL_S p)) * secs
  let en := clampN 60 65535 (s.fld (LBUS_DL_QCYC.ENERGY_S p)) * secs
  let s := if d.levelAt + lv ≤ s.clk then
      (if d.querying then (s.put (LBUS_DL_STAT.LATE p) 1).raise LBUS_IRQ_STAT.DL_LATE
       else
         let s := (s.put (LBUS_DL_STAT.LATE p) 0).put (LBUS_DL_STAT.ANSWERING p) (min 255 d.answered)
         let s := s.updDl p fun x => { x with levelAt := s.clk, answered := 0, cycle := s.onPort p 4 ++ s.onPort p 5 }
         let s := ((s.onPort p 4).filter fun n => s.bit (EPC_RPT_FLAGS.GRP_PENDING n)).foldl
           (fun s n => s.dlPush p 3 (s.commissionFrames p n)) s
         let s := (s.onPort p 4).foldl (fun s n => s.dlPush p 4 (s.levelQuery n)) s
         (s.onPort p 5).foldl (fun s n => s.dlPush p 4 (s.deviceQuery n)) s)
    else s
  let s := if d.energyAt + en ≤ s.clk then
      (s.onPort p 4).foldl (fun s n => s.dlPush p 4 (s.readBank n 202)) (s.updDl p fun x => { x with energyAt := s.clk })
    else s
  if d.diagAt + 3600 * secs ≤ s.clk then
    (s.onPort p 4).foldl (fun s n => (s.dlPush p 4 (s.readBank n 205)).dlPush p 4 (s.readBank n 206))
      (s.updDl p fun x => { x with diagAt := s.clk })
  else s

/-- DL_QUERY_CYCLE: the cycles of a port that have fallen due (R248). -/
def dlQueryCycle (p : Nat) (s : State) : State :=
  if !s.up .lbus || !s.dlUp p then s else s.dlCycles p

/-! ### Sending (R242, R247, R251, R252) -/

/-- Highest priority waiting: the first transaction of the least PRIO. -/
def bestTx (l : List DlTx) : Option DlTx :=
  l.foldl (fun b x => match b with
    | none => some x
    | some y => if x.prio < y.prio then some x else some y) none

/-- A query awaits an answer. -/
def DlFrame.asks (f : DlFrame) : Bool :=
  match f.kind with
  | .config | .level _ _ _ => false
  | .raw a => a
  | _ => true

/-- DL_RAW ends with an outcome: 0 answer, 1 no answer, 2 collision. -/
def State.rawDone (s : State) (valid : Bool) (result data : Nat) : State :=
  let s := ((s.putB LBUS_RAW_RX.VALID valid).put LBUS_RAW_RX.RESULT result).put LBUS_RAW_RX.DATA data
  let s := { s with lbus := { s.lbus with rawPort := none } }
  if s.isPending .lbus 3 then finishCmd .lbus stDone s else s

/-- What sending a frame does. -/
def State.dlSent (s : State) (f : DlFrame) : State :=
  match f.kind with
  | .level epas code fade => epas.foldl (fun s n => (s.setGear { s.gear n with fade := some code }).launched n fade) s
  | .raw false => s.rawDone false 0 0
  | _ => s

/-- The boundary of a DL port's H words: the frame in progress has ended (Table 2.14). -/
def State.dlBound (s : State) (p : Nat) : State := s.boundary (LBUS_DL_CFG.adr p) (LBUS_DL_CFG.adr p + 64)

/-- One frame goes out on port `p`, with what follows it in its transaction. -/
def State.dlSend (s : State) (p : Nat) (f : DlFrame) (rest : List DlFrame) : State :=
  let d := s.dlPort p
  let s := s.emit (.dl p) (beBytes (f.len / 8) f.bits)
  (s.updDl p fun x => { x with cur := rest, last := some f, waiting := f.asks
                               attempts := if d.last == some f then d.attempts + 1 else 1 }).dlSent f

/-- The last moment at which an uncommitted frame may start, 30 ms before the first committed one (R252). -/
def DlPort.holdOff (d : DlPort) (now : Nat) : Bool := d.committed.any fun t => t.1 < now + 30000000

/-- A transaction starts: the levels it carries are no longer waiting. -/
def State.dlStart (s : State) (p : Nat) (tx : DlTx) (slot : Bool) : State :=
  let s := s.updDl p fun x => { x with
    queue := x.queue.erase tx, tx := some tx, slot := slot
    levels := if slot then x.levels else x.levels.filter fun l => !tx.gear.contains l.epa }
  match tx.frames with
  | f :: t => s.dlSend p f t
  | [] => s

/-- The waiting levels get their transactions, where they have none. -/
def State.dlPlan (s : State) (p : Nat) : State :=
  let d := s.dlPort p
  if d.levels.isEmpty || d.planned then s
  else
    s.updDl p fun x => { x with
      queue := (s.levelTxs p (s.cfB (LBUS_DL_CFG.COAL p)) 2 (s.settled p) d.levels).map (fun l => DlTx.mk 2 l) ++ x.queue }

/-- The next transaction of priority order: levels before queries. -/
def State.dlNext (s : State) (p : Nat) : State :=
  let s := s.dlPlan p
  match bestTx (s.dlPort p).queue with
  | some tx => s.dlStart p tx false
  | none => s

/-- A transaction that the hold-off of R252 stops waits, and begins again once the committed frames have ended (assumption 133). -/
def State.dlSuspend (s : State) (p : Nat) : State :=
  let d := s.dlPort p
  let s := (d.tx.map (·.frames)).getD [] |>.foldl (fun s f => match f.kind with
    | .readMem e _ _ => s.setGear { s.gear e with mem := [] }
    | _ => s) s
  s.updDl p fun x => { x with cur := [], tx := none, queue := (match x.tx with
    | some t => t :: x.queue
    | none => x.queue) }

/-- DL_FORWARD_FRAME: port `p` sends its next forward frame: the rest of a transaction, a committed transaction at its
instant, then by priority; levels before queries (R242, R247). From 30 ms before a committed frame no other starts (R252). -/
def dlForwardFrame (p : Nat) (s : State) : State :=
  let d := s.dlPort p
  if !s.up .lbus || !s.mayCommand || !s.dlUp p || d.waiting then s
  else
    let s := s.dlBound p
    if d.holdOff s.nt && !d.cur.isEmpty && !d.slot then s.dlSuspend p
    else
      match d.cur with
      | f :: t => s.dlSend p f t
      | [] =>
        match d.committed with
        | (at_, tx) :: more =>
          if at_ ≤ s.nt then (s.updDl p fun x => { x with committed := more }).dlStart p tx true
          else if d.holdOff s.nt then s
          else s.dlNext p
        | [] => s.dlNext p

/-- The endpoint a query went to, by a short address. -/
def DlKind.asked : DlKind → Option Nat
  | .queryLevel e | .queryStatus e | .queryFailure e | .queryGroups e _ | .readMem e _ _ | .queryDevice e => some e
  | .config | .level _ _ _ | .raw _ => none

/-- A query ends without its answer: the rest of its transaction is dropped, nothing is ingested (R251), and the gear has had its
turn. -/
def State.dlAbandon (s : State) (p : Nat) (f : DlFrame) : State :=
  let s := s.updDl p fun x => { x with cur := [], last := none, waiting := false }
  match f.kind.asked with
  | some epa => (s.setGear { s.gear epa with mem := [] }).cycleTook p epa
  | none => s

/-- DL_FRAME_CORRUPTED: the frame just sent is sent again; a query is abandoned after three attempts (R251). -/
def dlFrameCorrupted (p : Nat) (s : State) : State :=
  let d := s.dlPort p
  match d.last with
  | none => s
  | some f =>
    if !s.up .lbus || !s.dlUp p then s
    else
      let s := s.bump (LBUS_DL_CNT.COLL p)
      if f.asks && 3 ≤ d.attempts then
        let s := s.dlAbandon p f
        (match f.kind with
         | .raw _ => s.rawDone true 1 0
         | _ => s)
      else s.updDl p fun x => { x with cur := f :: x.cur, waiting := false }

/-! ### Answers (R249 to R251) -/

/-- A fault of a gear follows a bit. -/
def State.gearFault (s : State) (epa code : Nat) (b : Bool) : State :=
  if b then s.raiseFault epa code 0 else s.clearFault epa code

/-- The faults of Table 9.2 from the last status and failure bytes. -/
def State.gearFaults (s : State) (epa : Nat) : State :=
  let g := s.gear epa
  let st := bitOf g.status
  let f := bitOf g.failure
  let s := (s.gearFault epa 0x02 (f 0)).gearFault epa 0x01 ((st 1 && !f 0) || f 1)
  ((s.gearFault epa 0x0F (f 2 || f 3)).gearFault epa 0x04 (st 0 || f 5)).gearFault epa 0x03 (f 6)

/-- Any answer clears SILENT (R249). -/
def State.gearHeard (s : State) (p epa : Nat) : State :=
  let s := (s.setGear { s.gear epa with missed := 0 }).updDl p fun x => x
  (s.put (EPC_RPT_FLAGS.SILENT epa) 0).clearFault epa 0x80

/-- QUERY ACTUAL LEVEL answered. -/
def State.levelAnswer (s : State) (p epa n : Nat) : State :=
  let l := s.levelOf (s.fld (EPC_PARAMS.CURVE epa)) n
  let s := s.updDl p fun x => { x with answered := x.answered + 1 }
  (((s.put (EPC_LVL_RPT.LEVEL epa) l).put (EPC_LVL_RPT.CCT epa) 0).put (EPC_RPT_NT.SEC epa) s.ntSec).judgeLevel epa l

/-- QUERY STATUS answered: with a failure shown, QUERY FAILURE STATUS follows (R248). -/
def State.statusAnswer (s : State) (p epa n : Nat) : State :=
  if n % 4 = 0 then (s.setGear { s.gear epa with status := n, failure := 0 }).gearFaults epa
  else
    let a := aShort (s.dlAddr epa)
    ((s.setGear { s.gear epa with status := n }).gearFaults epa).dlPush p 4 [deviceType6, cmd1 a 241 (.queryFailure epa)]

/-- The check of the bus groups (R246): GRP_PENDING clears when every mapped group matches. -/
def State.groupsAnswer (s : State) (p epa : Nat) (high : Bool) (n : Nat) : State :=
  if !high then s.setGear { s.gear epa with groups := n }
  else
    let have_ := (s.gear epa).groups + 256 * n
    let ok := (List.range 16).all fun k => match s.busGroup p k with
      | some g => bitOf have_ k == s.inGroup epa g
      | none => true
    if ok then s.put (EPC_RPT_FLAGS.GRP_PENDING epa) 0 else s

/-- A signed byte. -/
def sbyte (b : Byte) : Int := toSigned 8 b.toNat

/-- A value times 10^`e`, rounded down. -/
def scale10 (v : Nat) (e : Int) : Nat := if e < 0 then v / 10 ^ e.natAbs else v * 10 ^ e.natAbs

/-- Bank 202: energy and power (R250). -/
def State.gearEnergy (s : State) (epa : Nat) (l : List Byte) : State :=
  let sc := l.getD 0 0
  let cum := beVal ((l.drop 1).take 6) % 2 ^ 32
  let watts := beVal ((l.drop 8).take 4)
  let g := s.gear epa
  let base := g.baseline || s.fld (EPC_EN_STAT.EPOCH epa) != sc.toNat
  let delta := (cum + 2 ^ 32 - s.fld (EPC_EN_RAW.CUM epa)) % 2 ^ 32
  let amt := g.rem + scale10 delta (sbyte sc + 6)
  let bad := !base && ((s.energyGap (s.run epa)).map fun dt => s.implausible (amt / 10000) dt).getD false
  let s := s.setBaseline epa sc.toNat cum (min 65535 (scale10 watts (sbyte (l.getD 7 0) + 1)))
  if base then s.setGear { g with baseline := false, mem := [] }
  else if bad then ((s.setGear { g with mem := [] }).put (EPC_EN_STAT.IMPLAUSIBLE epa) 1).raiseFault epa 0x83 0
  else (s.addEn epa (amt / 1000)).setGear { g with rem := amt % 1000, mem := [] }

/-- A bank has been read (R250). -/
def State.bankAnswer (s : State) (epa bank : Nat) (l : List Byte) : State :=
  if bank = 202 then s.gearEnergy epa l
  else if bank = 205 then
    (s.setGear { s.gear epa with mem := [] }).put (EPC_INFO_HOURS.HOURS epa) (beVal (l.take 4) / 3600)
  else if bank = 1 then
    let s := s.setGear { s.gear epa with mem := [] }
    let s := (s.put (EPC_INFO_MODEL.MODEL epa 0) (leVal (l.take 4))).put (EPC_INFO_MODEL.MODEL epa 1) (leVal ((l.drop 4).take 2))
    s.put (EPC_INFO_FW.FW epa) (beVal ((l.drop 6).take 2))
  else s.setGear { s.gear epa with mem := [] }

/-- What an answer means. -/
def State.dlAnswer (s : State) (p : Nat) (k : DlKind) (n : Nat) : State :=
  match k with
  | .queryLevel epa => (s.gearHeard p epa).levelAnswer p epa n
  | .queryStatus epa => ((s.gearHeard p epa).statusAnswer p epa n).cycleTook p epa
  | .queryFailure epa =>
    let s := s.gearHeard p epa
    (s.setGear { s.gear epa with failure := n }).gearFaults epa
  | .queryGroups epa high => (s.gearHeard p epa).groupsAnswer p epa high n
  | .readMem epa bank last =>
    let s := s.gearHeard p epa
    let s := s.setGear { s.gear epa with mem := (s.gear epa).mem ++ [BitVec.ofNat 8 n] }
    if last then s.bankAnswer epa bank (s.gear epa).mem else s
  | .queryDevice epa => (s.put (EPC_RPT_NT.SEC epa) s.ntSec).cycleTook p epa
  | .raw _ => s.rawDone true 0 n
  | .config | .level _ _ _ => s

/-- A collision answer: two gear share the address (R251). -/
def State.dlCollision (s : State) (p epa : Nat) : State :=
  let a := s.dlAddr epa
  let f := LBUS_DL_DUP.MAP p (a / 32)
  let s := s.put f (s.fld f ||| 2 ^ (a % 32))
  (s.raise LBUS_IRQ_STAT.DL_DUP).logEv 15 1 (leBytes 1 p ++ leBytes 1 a)

/-- A backward frame with a framing violation (R251). -/
def State.dlBad (s : State) (p : Nat) (f : DlFrame) : State :=
  match f.kind.asked with
  | some epa => (s.dlAbandon p f).dlCollision p epa
  | none => s.rawDone true 2 0

/-- DL_BACKWARD_FRAME: the answer of port `p`, with a framing violation where `bad` (R249, R251); a frame received from an endpoint
restarts the idle timer (R77). -/
def dlBackwardFrame (p n : Nat) (bad : Bool) (s : State) : State :=
  let d := s.dlPort p
  match d.last with
  | none => s
  | some f =>
    if !s.up .lbus || !s.dlUp p || !d.waiting then s
    else
      let s := (s.updDl p fun x => { x with waiting := false, last := none }).idleRestart
      (if bad then s.dlBad p f else s.dlAnswer p f.kind n).dlBound p

/-- QUERY ACTUAL LEVEL unanswered on three consecutive cycles: SILENT (R249). -/
def State.gearMissed (s : State) (epa : Nat) : State :=
  let m := (s.gear epa).missed + 1
  let s := s.setGear { s.gear epa with missed := m }
  if m < 3 then s
  else (if s.bit (EPC_RPT_FLAGS.SILENT epa) then s else (s.put (EPC_RPT_FLAGS.SILENT epa) 1).raise EPC_IRQ_STAT.SILENT).raiseFault
    epa 0x80 0

/-- What the answer NO means (R249, R251). -/
def State.dlNo (s : State) (p : Nat) (k : DlKind) : State :=
  match k with
  | .queryLevel epa => s.gearMissed epa
  | .readMem epa _ _ => (s.setGear { s.gear epa with mem := [] }).updDl p fun x => { x with cur := [] }
  | .queryStatus epa | .queryDevice epa => s.cycleTook p epa
  | .raw _ => s.rawDone true 1 0
  | .config | .level _ _ _ | .queryFailure _ | .queryGroups _ _ => s

/-- DL_NO_ANSWER: no start bit within 22 ms (R249, R251). -/
def dlNoAnswer (p : Nat) (s : State) : State :=
  let d := s.dlPort p
  match d.last with
  | none => s
  | some f =>
    if !s.up .lbus || !s.dlUp p || !d.waiting then s
    else
      let s := (s.updDl p fun x => { x with waiting := false, last := none }).bump (LBUS_DL_CNT.NOANSWER p)
      (s.dlNo p f.kind).dlBound p

/-- What a port was sending is dropped. -/
def State.dlDrop (s : State) (p : Nat) : State :=
  let d := s.dlPort p
  let s := (d.last.toList ++ d.cur).foldl (fun s f => s.dlAbandon p f) s
  (s.updDl p fun x => { x with cur := [], waiting := false, last := none }).dlBound p

/-- DL_BUS_DOWN: RX held low for 45 ms (R251). -/
def dlBusDown (p : Nat) (s : State) : State :=
  if !s.up .lbus || !s.dlUp p then s
  else
    let s := (s.dlDrop p).put (LBUS_DL_STAT.STATE p) 3
    let s := (s.raise LBUS_IRQ_STAT.DL_DOWN).logEv 15 2 (leBytes 1 p)
    if s.lbus.rawPort = some p then s.rawDone true 1 0 else s

/-- DL_BUS_UP: RX high for 100 ms: every ACTIVE gear is sent its commanded level again, with fade 0 (R251). -/
def dlBusUp (p : Nat) (s : State) : State :=
  if !s.up .lbus || s.fld (LBUS_DL_STAT.STATE p) != 3 then s
  else
    let s := (s.put (LBUS_DL_STAT.STATE p) 1).pubDl p
    ((s.onPort p 4).filter fun n => s.epState n == stActive).foldl (fun s n =>
      s.dlLevel n (s.fld (EPC_LVL_CMD.LEVEL n)) 0) s

/-- LBUS_EVT reads the oldest event. -/
def State.pubEvt (s : State) : State :=
  match s.lbus.events with
  | [] => s.wr LBUS_EVT.adr 0
  | (p, f) :: _ => ((s.put LBUS_EVT.VALID 1).put LBUS_EVT.PORT p).put LBUS_EVT.FRAME f

/-- DL_EVENT_FRAME: a 24-bit event frame (R253). -/
def dlEventFrame (p f : Nat) (s : State) : State :=
  if !s.up .lbus || !s.dlUp p then s
  else if 16 ≤ s.lbus.events.length then s.bump (LBUS_DL_CNT.EVT_LOST p)
  else (({ s with lbus := { s.lbus with events := s.lbus.events ++ [(p, f % 2 ^ 24)] } }).pubEvt).raise LBUS_IRQ_STAT.DL_EVENT

/-- LBUS_EVT_READ: the read removes the event (R253). -/
def lbusEvtRead (s : State) : Nat × State :=
  (s.rd LBUS_EVT.adr, ({ s with lbus := { s.lbus with events := s.lbus.events.drop 1 } }).pubEvt)

/-- A port's enable: its gear is commissioned (R246). -/
def State.dlPortOn (s : State) (p : Nat) (fresh : Bool) : State :=
  if s.fld (LBUS_DL_STAT.STATE p) != 0 then s
  else
    let s := ((s.put (LBUS_DL_CFG.EN p) 1).put (LBUS_DL_STAT.STATE p) 1).updDl p fun x =>
      { x with levelAt := s.clk, energyAt := s.clk, diagAt := s.clk }
    (s.onPort p 4).foldl (fun s n => s.commission p n fresh) s

/-- A write of a port's enable. -/
def dlEnable (p : Nat) (on : Bool) (s : State) : State :=
  if !s.up .lbus then s
  else if !on then
    ((s.put (LBUS_DL_CFG.EN p) 0).updDl p fun x => { x with levels := [], queue := [], cur := [], last := none, waiting := false
                                                            tx := none, slot := false, cycle := [], committed := [] }).put
      (LBUS_DL_STAT.STATE p) 0
  else s.dlPortOn p true

/-- DL_COMMISSION (R269). -/
def dlCommission (s : State) : State :=
  runCmd .lbus 1 (fun s =>
    let p := s.fld LBUS_CMD_ARG.INDEX
    if 16 ≤ p then (stRefusedArg, s)
    else (stDone, if s.bit (LBUS_DL_CFG.EN p) then (s.onPort p 4).foldl (fun s n => s.commission p n true) s else s)) s

/-- DL_REQUERY (R269). -/
def dlRequery (s : State) : State :=
  runCmd .lbus 2 (fun s =>
    let p := s.fld LBUS_CMD_ARG.INDEX
    let a := s.fld LBUS_CMD_ARG.ADDR
    if 16 ≤ p then (stRefusedArg, s)
    else
      (stDone, if s.bit (LBUS_DL_CFG.EN p) then
          ((s.onPort p 4).filter fun n => s.dlAddr n == a).foldl (fun s n => s.dlPush p 4 (s.levelQuery n)) s
        else s)) s

/-- DL_RAW (R253, R269). -/
def dlRaw (s : State) : State :=
  runCmd .lbus 3 (fun s =>
    let p := s.fld LBUS_CMD_ARG.INDEX
    if 16 ≤ p then (stRefusedArg, s)
    else if !s.dlUp p then (stRefusedState, s)
    else
      let f : DlFrame := { bits := s.fld LBUS_RAW_TX.FRAME, len := if s.bit LBUS_RAW_TX.LONG then 24 else 16
                           kind := .raw (s.bit LBUS_RAW_TX.ANSWER) }
      let s := { s with lbus := { s.lbus with rawPort := some p } }
      (stPending, (s.put LBUS_RAW_RX.VALID 0).dlPush p 3 [f])) s

/-! ### Analogue outputs (R255 to R258) -/

/-- All outputs are updated, and the clamps of R257 end. -/
def aoRefresh (s : State) : State :=
  if s.up .drv then (List.range 12).foldl State.aoUpdate s else s

/-- RANGE changes while the output is driven: it is clamped to the lower of the two voltages, then settles (R257). -/
def aoRangeWrite (a old : Nat) (s : State) : State :=
  let new := s.cf (LBUS_AO_CFG.RANGE a)
  if new = old ∨ !s.bit (LBUS_AO_OUT.DRIVEN a) ∨ !s.drives then s.aoUpdate a
  else
    let l := s.fld (LBUS_AO_LVL.LEVEL a)
    let c := ((s.aoSource a).map (·.2)).getD 0
    let s := { s with lbus := { s.lbus with clampAt := s.clk } }
    (s.aoDrive a (min (s.aoVolts old c l) (s.aoVolts new c l))).put (LBUS_AO_OUT.CLAMP a) 1

/-- A clamp of R257 has lasted 20 µs. -/
def State.clampDue (s : State) : Bool :=
  s.up .drv && s.drives && s.lbus.clampAt + 20 * usec ≤ s.clk && (List.range 12).any fun a => s.bit (LBUS_AO_OUT.CLAMP a)

/-- A measurement of an output is taken and judged (R258). -/
def State.aoJudge (s : State) (a mv : Nat) : State :=
  let m := min 16383 mv
  let s := (s.put (LBUS_AO_OUT.MEAS_MV a) m).aoUpdate a
  let set := s.fld (LBUS_AO_OUT.SET_MV a)
  let off := 250 < max m set - min m set
  let bad := if off then s.lbus.aoBad.getD a 0 + 1 else 0
  let good := if off then 0 else s.lbus.aoGood.getD a 0 + 1
  let s := { s with lbus := { s.lbus with aoBad := updAt s.lbus.aoBad a fun _ => min bad 100
                                          aoGood := updAt s.lbus.aoGood a fun _ => min good 100 } }
  if 100 ≤ bad && !s.bit (LBUS_AO_OUT.FAULT a) then
    let s := (s.put (LBUS_AO_OUT.FAULT a) 1).raise LBUS_IRQ_STAT.AO_FAULT
    (match s.aoEp a with
     | some epa => s.raiseFault epa 4 0
     | none => s)
  else if 100 ≤ good && s.bit (LBUS_AO_OUT.FAULT a) then
    let s := s.put (LBUS_AO_OUT.FAULT a) 0
    (match s.aoEp a with
     | some epa => s.clearFault epa 4
     | none => s)
  else s

/-- AO_MEASURE: a driven output is measured, mV (R258). -/
def aoMeasure (a mv : Nat) (s : State) : State :=
  if !s.up .drv || !s.bit (LBUS_AO_OUT.DRIVEN a) then s else s.aoJudge a mv

/-! ### Field inputs (R259, R260) -/

def State.fioMode (s : State) (i : Nat) : Nat := if s.bit (LBUS_FIO_CFG.EN i) then s.fld (LBUS_FIO_CFG.MODE i) else 0
def State.fioIn (s : State) (i : Nat) : Bool := s.fioMode i == 1 || s.fioMode i == 2

/-- An input is active. -/
def State.fioActive (s : State) (i : Nat) : Bool := s.bit (LBUS_FIO_STAT.LEVEL i)

/-- A detection record of an input (R260). -/
def State.fioRecord (s : State) (i speed age tEnd : Nat) : State :=
  detectionRecord { origin := s.cf (LBUS_FIO_DET.ORIGIN i), cls := s.cf (LBUS_FIO_DET.CLASS i), heading := s.cf (LBUS_FIO_DET.HEADING i)
                    speed := speed, conf := 100, count := 1, age := age, tEnd := tEnd, injected := false } s

/-- DEB in force, in samples of 100 µs; 0 acts as 1. -/
def State.fioDeb (s : State) (i : Nat) : Nat := max 1 (s.cf (LBUS_FIO_CFG.DEB i))

/-- PAIR of an input; FIO 71 has no loop B. -/
def State.fioPair (s : State) (i : Nat) : Bool := i < 71 && s.cfB (LBUS_FIO_DET.PAIR i)

/-- A DETECT input becomes active (R260). Each activation of a loop A waits for its own record. -/
def State.detectRise (s : State) (i : Nat) : State :=
  if s.fioPair i then { s with lbus := { s.lbus with loops := s.lbus.loops ++ [(i, s.nt)] } }
  else s.fioRecord i 0 (divRound (s.fioDeb i) 100) s.nt

/-- Loop B of a pair becomes active within 2.55 s of A (R260): it ends the earliest activation that still waits. -/
def State.loopB (s : State) (a : Nat) : State :=
  match s.lbus.loops.find? fun (x : Nat × Nat) => x.1 == a && s.nt ≤ x.2 + 2550000000 with
  | none => s
  | some x =>
    let dt := s.nt - x.2
    let v := divRound (s.cf (LBUS_FIO_DIST.DIST_DM a) * 1000000000 * 2) (5 * dt)
    let s := { s with lbus := { s.lbus with loops := s.lbus.loops.erase x } }
    s.fioRecord a (if 255 < v then 0 else v) (min 255 (divRound dt 10000000)) s.nt

/-- FIO_INPUT_CHANGE: an input has taken a new level after its debounce (R259). -/
def fioInputChange (i : Nat) (level : Bool) (s : State) : State :=
  if !s.up .drv || 72 ≤ i || s.fioMode i == 0 || 6 ≤ s.fioMode i then s
  else
    let act := level != s.cfB (LBUS_FIO_CFG.INV i)
    let was := s.fioActive i
    if !s.fioIn i then
      (if act && 0 < i && s.fioMode (i - 1) == 2 && s.fioPair (i - 1) then s.loopB (i - 1) else s)
    else if act = was then s
    else
      let s := (s.putB (LBUS_FIO_STAT.LEVEL i) act).putB ⟨LBUS_FIO_IN.adr (i / 32), i % 32, 1⟩ act
      let s := s.idleRestart
      if !act then s
      else
        let s := s.bump (LBUS_FIO_STAT.EDGES i)
        let s := if s.fioMode i = 2 then s.detectRise i else s
        if 0 < i && s.fioMode (i - 1) == 2 && s.fioPair (i - 1) then s.loopB (i - 1) else s

/-- INV of an enabled input changes: its level stays, and what counts as active follows (R259; assumption 132). -/
def fioInvert (i : Nat) (old : Bool) (s : State) : State :=
  if s.fioIn i && s.cfB (LBUS_FIO_CFG.INV i) != old then fioInputChange i (s.fioActive i != old) s else s

/-- LOOP_PAIR_TIMEOUT: loop B has not followed within 2.55 s (R260). -/
def loopPairTimeout (i : Nat) (s : State) : State :=
  match s.lbus.loops.find? (·.1 == i) with
  | none => s
  | some (_, t) =>
    if s.up .drv && t + 2550000000 ≤ s.nt then
      ({ s with lbus := { s.lbus with loops := s.lbus.loops.erase (i, t) } }).fioRecord i 0 255 (t + 2550000000)
    else s

/-! ### Outputs and contactors (R259, R261 to R263) -/

/-- `clk` of an output's last switching. -/
def State.outAt (s : State) (i : Nat) : Option Nat := (s.lbus.outs.find? fun (o : OutRun) => o.fio == i).map (·.at_)

/-- Fewer than `t` counts of 2 ns have passed since an output switched. -/
def State.sinceOut (s : State) (i t : Nat) : Bool :=
  match s.outAt i with
  | some a => decide (s.clk < a + t)
  | none => false

/-- An output switches. -/
def State.switchOut (s : State) (i : Nat) (on : Bool) : State :=
  if s.bit (LBUS_FIO_STAT.OUT i) = on then s
  else
    ({ s with lbus := { s.lbus with outs := (s.lbus.outs.filter fun (o : OutRun) => o.fio != i) ++ [OutRun.mk i s.clk] } }).putB
      (LBUS_FIO_STAT.OUT i) on

/-- The LBUS_FIO_OUT bit of an FIO. -/
def State.fioReq (s : State) (i : Nat) : Bool := bitOf (s.fld (LBUS_FIO_OUT.REQ (i / 32))) (i % 32)

/-- LBUS_FIO_OUT is written: OUTPUT pads follow their bits (Table 9.3). -/
def fioOutWritten (s : State) : State :=
  if s.up .drv && s.mayCommand then
    ((List.range 72).filter fun i => s.fioMode i == 3).foldl (fun s i => s.switchOut i (s.fioReq i)) s
  else s

/-- The source of a contactor asks for on (R261). -/
def State.contSource (s : State) (i : Nat) : Bool :=
  let x := s.cf (LBUS_FIO_CONT.SRC_IDX i)
  match s.cf (LBUS_FIO_CONT.SRC i) with
  | 1 => (s.epas fun n => s.inGroup n x).any fun n => s.fld (EPC_LVL_CMD.LEVEL n) != 0
  | 2 => x < 12 && s.fld (LBUS_AO_LVL.LEVEL x) != 0
  | _ => s.fioReq i

/-- The emergency requests a contactor on (R261). -/
def State.contEmerg (s : State) (i : Nat) : Bool := s.cfB (LBUS_FIO_CONT.EMERG_ON i) && s.emergNow

/-- An interlock holds a contactor off (R262). -/
def State.contIlk (s : State) (i : Nat) : Bool :=
  let k := s.cf (LBUS_FIO_CONT.ILK i)
  s.cfB (LBUS_FIO_CONT.ILK_EN i) && k ≤ 71 &&
    ((s.fioIn k && s.fioActive k) ||
      (s.fioMode k == 4 && (s.bit (LBUS_FIO_STAT.OUT k) ||
        s.sinceOut k (s.cf (LBUS_FIO_CTIME.DEAD_10MS i) * 10 * msec))))

/-- One contactor evaluated (R261, R262). -/
def State.contEval (s : State) (i : Nat) : State :=
  let emerg := s.contEmerg i
  let want := emerg || s.contSource i
  let on := s.bit (LBUS_FIO_STAT.OUT i)
  let ilk := s.contIlk i
  let held := fun (x : Nat) => s.sinceOut i (x * secs)
  let s := s.putB (LBUS_FIO_STAT.ILK_HOLD i) (want && ilk)
  if on then (if ilk || (!want && !held (s.cf (LBUS_FIO_CTIME.MIN_ON_S i))) then s.switchOut i false else s)
  else if want && !ilk && (emerg || !held (s.cf (LBUS_FIO_CTIME.MIN_OFF_S i))) then s.switchOut i true
  else s

/-- CONTACTOR_EVAL: every 100 µs, lowest number first (R261, R262). -/
def contactorEval (s : State) : State :=
  if s.up .drv && s.mayCommand then ((List.range 72).filter fun i => s.fioMode i == 4).foldl State.contEval s else s

/-- CONTACTOR_FB_CHECK (R263). -/
def contactorFbCheck (i : Nat) (s : State) : State :=
  let fb := s.cf (LBUS_FIO_CONT.FB i)
  if !s.up .drv || s.fioMode i != 4 || !s.cfB (LBUS_FIO_CONT.FB_EN i) || 71 < fb ||
      s.sinceOut i (s.cf (LBUS_FIO_CTIME.FB_10MS i) * 10 * msec) then s
  else
    let on := s.bit (LBUS_FIO_STAT.OUT i)
    let act := s.fioActive fb
    let c := if on = act then 0 else if on then 1 else 2
    if c = s.fld (LBUS_FIO_STAT.CFAULT i) then s
    else
      let s := s.put (LBUS_FIO_STAT.CFAULT i) c
      if c = 0 then s else (s.raise LBUS_IRQ_STAT.CONT_FAULT).logEv 15 3 (leBytes 1 i ++ leBytes 1 c)

/-- FIO_CLEAR (R263, R269). -/
def fioClear (s : State) : State :=
  runCmd .lbus 4 (fun s =>
    let i := s.fld LBUS_CMD_ARG.INDEX
    if 72 ≤ i then (stRefusedArg, s) else (stDone, s.put (LBUS_FIO_STAT.CFAULT i) 0)) s

/-- An FIO's enable (R259): a pad turned off makes its output inactive. -/
def fioEnable (i : Nat) (on : Bool) (s : State) : State :=
  if !s.up .drv then s
  else
    let s := s.putB (LBUS_FIO_CFG.EN i) on
    if on then s
    else
      let s := { s with lbus := { s.lbus with loops := s.lbus.loops.filter (·.1 != i) } }
      ((s.switchOut i false).put (LBUS_FIO_STAT.LEVEL i) 0).putB ⟨LBUS_FIO_IN.adr (i / 32), i % 32, 1⟩ false

/-! ### Serial buses (R264 to R266) -/

/-- MODE of an enabled port: 1 HOST, 2 POLL. -/
def State.sbMode (s : State) (p : Nat) : Nat := if s.bit (LBUS_SB_CFG.EN p) then s.fld (LBUS_SB_CFG.MODE p) else 0

/-- The boundary of an SB port's H words: no frame in progress (Table 2.14). -/
def State.sbBound (s : State) (p : Nat) : State := s.boundary (LBUS_SB_CFG.adr p) (LBUS_SB_CFG.adr p + 64)

/-- One piece of a received frame goes to its up queue, or is dropped whole for want of room (R321). -/
def State.sbUp (s : State) (q : Nat) (b : List Byte) : State :=
  match s.hmqStore (16 + q) (wordsOf b) with
  | some t => t
  | none => (s.bump (HMQ_Q_CNT.OVF_DROP (16 + q))).raise HMQ_IRQ_STAT.OVF

/-- A frame split at 256 bytes (R265). -/
def split256 : Nat → List Byte → List (List Byte)
  | 0, _ => []
  | n + 1, l => if l.isEmpty then [] else l.take 256 :: split256 n (l.drop 256)

/-- SB_FRAME_RX: a frame ended on an SB port; `bad` with a framing or parity error (R264, R265). -/
def sbFrameRx (p : Nat) (b : List Byte) (bad : Bool) (s : State) : State :=
  if !s.up .lbus || s.sbMode p == 0 || s.sbMode p == 3 then s
  else
    let s := s.sbBound p
    if bad then s.bump (LBUS_SB_STAT.CRC_ERR p)
    else if s.sbMode p = 1 then (split256 b.length b).foldl (fun s x => s.sbUp (s.cf (LBUS_SB_HOST.HMQ p)) x) s
    else s

/-- SB_FRAME_TX: an SB port in HOST mode sends the next packet of its down queue (R265, R316). `bad` where a word's
parity fails as it leaves the buffer: the packet is corrupt and is not sent (R319). -/
def sbFrameTx (p : Nat) (bad : Bool) (s : State) : State :=
  if !s.up .lbus || !s.mayCommand || s.sbMode p != 1 then s
  else
    let q := s.cf (LBUS_SB_HOST.HMQ p)
    if s.sbOf q != some p then s
    else
      match (s.sbBound p).takeDown q bad with
      | (none, s) => s
      | (some ws, s) => if bad || ws.any (·.poison) then s else s.emit (.sb p) (packetBytes (s.fld (HMQ_Q_CFG.TAIL q)) ws)

/-- A poll entry's run. -/
def State.pollRun (s : State) (p k : Nat) : PollRun :=
  (s.lbus.polls.find? fun (x : PollRun) => x.port == p && x.entry == k).getD
    { port := p, entry := k, count := none, bad := 0, at_ := 0, waiting := false }

def State.setPoll (s : State) (r : PollRun) : State :=
  { s with lbus := { s.lbus with
    polls := (s.lbus.polls.filter fun (x : PollRun) => !(x.port == r.port && x.entry == r.entry)) ++ [r] } }

/-- CRC-16 of Modbus RTU. -/
def crc16Bit (c : Nat) : Nat := if c % 2 == 1 then (c / 2) ^^^ 0xA001 else c / 2
def crc16 (l : List Byte) : Nat :=
  l.foldl (fun c b => crc16Bit (crc16Bit (crc16Bit (crc16Bit (crc16Bit (crc16Bit (crc16Bit (crc16Bit (c ^^^ b.toNat)))))))))
    0xFFFF

/-- The request of an entry: function 0x04, four registers from 0 (R266). -/
def pollRequest (unit : Nat) : List Byte :=
  let b : List Byte := leBytes 1 unit ++ [4, 0, 0, 0, 4]
  b ++ leBytes 2 (crc16 b)

/-- SB_POLL: an enabled entry's poll is due (R266). -/
def sbPoll (p k : Nat) (s : State) : State :=
  let s' := s.sbBound p
  let r := s'.pollRun p k
  if !s'.up .lbus || !s'.mayCommand || s'.sbMode p != 2 || !s'.cfB (LBUS_SB_POLL_W0.EN p k) || r.waiting ||
      (r.at_ != 0 && s'.clk < r.at_ + clampN 100 60000 (s'.cf (LBUS_SB_POLL_W1.POLL_MS p k)) * msec) then s
  else (s'.setPoll { r with at_ := max 1 s'.clk, waiting := true }).emit (.sb p) (pollRequest (s'.cf (LBUS_SB_POLL_W0.UNIT p k)))

/-- A failed poll; the third in a row is a fault (R266). -/
def State.pollBad (s : State) (p k : Nat) : State :=
  let r := s.pollRun p k
  let s := s.setPoll { r with bad := r.bad + 1, waiting := false, count := if 3 ≤ r.bad + 1 then none else r.count }
  if r.bad + 1 = 3 then
    let s := s.put (LBUS_SB_STAT.ENT_FAULT p) (s.fld (LBUS_SB_STAT.ENT_FAULT p) ||| 2 ^ k)
    (s.raise LBUS_IRQ_STAT.SB_FAULT).raiseFault (s.cf (LBUS_SB_POLL_W0.ORIGIN p k)) 7 0
  else s

/-- What the answer to a poll brings (R266). -/
def State.pollGood (s : State) (p k count kind speed age : Nat) : State :=
  let r := s.pollRun p k
  let fault := bitOf (s.fld (LBUS_SB_STAT.ENT_FAULT p)) k
  let org := s.cf (LBUS_SB_POLL_W0.ORIGIN p k)
  let s := s.setPoll { r with count := some (count % 65536), bad := 0, waiting := false }
  let s := if fault then
      (s.put (LBUS_SB_STAT.ENT_FAULT p) (s.fld (LBUS_SB_STAT.ENT_FAULT p) - 2 ^ k)).clearFault org 7
    else s
  match r.count with
  | none => s
  | some c =>
    let d := (count + 65536 - c) % 65536
    if d = 0 then s
    else detectionRecord { origin := org, cls := kind % 256, heading := kind / 256 % 256, speed := speed % 256, conf := 100
                           count := min 255 d, age := min 255 age, tEnd := s.nt, injected := false } s

/-- SB_POLL_ANSWER: registers 0 to 3, or a wrong CRC or exception response where `bad` (R266). The frame ends with it (Table 2.14). -/
def sbPollAnswer (p k count kind speed age : Nat) (bad : Bool) (s : State) : State :=
  if !s.up .lbus || s.sbMode p != 2 || !(s.pollRun p k).waiting then s
  else
    (if bad then (s.bump (LBUS_SB_STAT.CRC_ERR p)).pollBad p k else s.pollGood p k count kind speed age).sbBound p

/-- SB_POLL_TIMEOUT: no answer within 100 ms (R266). -/
def sbPollTimeout (p k : Nat) (s : State) : State :=
  let r := s.pollRun p k
  if s.up .lbus && s.sbMode p == 2 && r.waiting && r.at_ + 100 * msec ≤ s.clk then
    ((s.bump (LBUS_SB_STAT.TIMEOUT p)).pollBad p k).sbBound p
  else s

/-- An SB port's enable. -/
def sbEnable (p : Nat) (on : Bool) (s : State) : State :=
  if !s.up .lbus then s
  else
    let s := s.putB (LBUS_SB_CFG.EN p) on
    if on then s
    else { s with lbus := { s.lbus with polls := s.lbus.polls.filter fun (x : PollRun) => x.port != p } }

/-! ### Thermistors (R267) -/

/-- TEMP of a resistance, 0.1 °C. -/
def tsTemp (r r25 beta : Nat) : Int :=
  let x := lnQ r r25
  let den : Int := (beta * 2 ^ 48 * 100 : Nat) + x * 29815
  if den ≤ 0 then 32767
  else divRoundI (2 * 10 * (29815 * beta * 2 ^ 48 : Nat) - 5463 * den) (2 * den.toNat)

/-- TS_MEASURE: the resistance of input `t`, Ω (R267). -/
def tsMeasure (t r : Nat) (s : State) : State :=
  if !s.up .drv then s
  else if 1500000 < r ∨ r < 50 then
    let s := ((s.put (LBUS_TS_VAL.FAULT t) 1).putB (LBUS_TS_VAL.SHORT t) (r < 50)).put (LBUS_TS_VAL.TEMP t) 0x8000
    s.raise LBUS_IRQ_STAT.TS_FAULT
  else
    ((s.put (LBUS_TS_VAL.FAULT t) 0).put (LBUS_TS_VAL.SHORT t) 0).putI (LBUS_TS_VAL.TEMP t)
      (tsTemp r (10 * s.fld (LBUS_TS_CFG.R25 t)) (s.fld (LBUS_TS_CFG.BETA t)))

/-! ### Starts -/

/-- Every start empties the ports of NETWORK; gear records of fades are lost (R245, R254). -/
def lbusStart (s : State) : State :=
  { s with lbus := { s.lbus with ports := State.reset.lbus.ports, events := [], polls := [], rawPort := none
                                 gear := s.lbus.gear.map fun (g : GearRec) =>
                                   { g with fade := none, mem := [], missed := 0, groups := 0 } } }

/-- A cold start clears what DRIVE holds of the block. -/
def lbusCold (s : State) : State := { s with lbus := { State.reset.lbus with aoPads := List.replicate 12 .highZ } }

end Sys2Proof.Machine
end

