-- ==== Sys2Proof/Machine/Commit.lean ====
section
/-! DEFINITION. Transition slots from their commit on: outputs loaded for T, FIRE, catch-up and what the radio array
reports back (R192 to R199). -/

namespace Sys2Proof.Machine

/-- The commit boundary of a slot (R192). -/
def State.commitAt (s : State) (n : Nat) : Nat := (s.slotT n - 100000000) / s.tickNs * s.tickNs

/-- The slots that commit the same T as `n` (R195). -/
def State.sameT (s : State) (n : Nat) : List Nat :=
  (List.range 64).filter fun m => (s.slotState m == 1 || s.slotState m == 2) && s.slotT m == s.slotT n

/-- The ACTIVE scope endpoints on which the slot's claim wins, with the level it gives. -/
def State.claimWins (s : State) (n : Nat) : List (Nat × Nat) :=
  (s.epas fun e => s.epState e == stActive && s.inScope n e).filterMap fun e =>
    let a := s.arbitrate e (s.slotT n) (s.sameT n)
    if a.layer = 2 ∧ a.pat = 0x40 + n then some (e, a.level) else none

/-- A drive comparator is loaded for T; one loaded for the same instant gives way (R192, R195). -/
def State.loadUnit (s : State) (n u level : Nat) : State :=
  let l : Load := { unit := u, at_ := s.slotT n, level := level, cct := s.fld (TRN_SLOT_LVL.CCT n)
                    fade := s.fld (TRN_SLOT_FADE.FADE n), slot := n }
  { s with drv := { s.drv with loads := (s.drv.loads.filter fun (x : Load) => !(x.unit == u && x.at_ == l.at_)) ++ [l] } }

/-- The bus frames of a slot on port `p` (R192). -/
def State.commitPort (s : State) (n p : Nat) (wins : List (Nat × Nat)) : State :=
  let l := (wins.filter fun x => s.fld (EPC_STATE.CLASS x.1) == 4 && s.dlOf x.1 == p).map fun x =>
    DlLevel.mk x.1 x.2 (s.fld (TRN_SLOT_FADE.FADE n))
  let at_ := s.slotT n - s.cf (TRN_DL_LAT.US p) * 1000
  let new := (s.levelTxs p true 1 (s.onPort p 4) l).map fun f => (at_, DlTx.mk 2 f)
  if l.isEmpty then s else s.updDl p fun d => { d with committed := sortBy (fun x => x.1) (d.committed ++ new) }

/-- A FIRE takes its place among the timed frames of its channel: at one instant the lower claim first (R195). -/
def State.insertFire (s : State) (n ch : Nat) (f : Frame) : State :=
  let later := fun (t : Timed) => t.frame.launch == f.launch && (match t.frame.owner with
    | .slot m _ => (s.slotClaim m).beats (s.slotClaim n)
    | _ => false)
  let l := (s.chan ch).timed
  let t : Timed := { frame := f, ready := none, notBefore := 0, late := false }
  s.updChan ch fun c => { c with timed := l.takeWhile (fun x => !later x) ++ t :: l.dropWhile fun x => !later x }

/-- The launch instant of a unicast FIRE (Table 7.3). -/
def State.fireInstant (s : State) (n epa : Nat) : Nat :=
  let lat := s.fld (EPC_TIMING.LATENCY epa)
  s.slotT n - (if lat = 0 then s.cf (TRN_RC_LAT.US (s.heardOn epa)) else lat) * 1000

/-- A unicast FIRE, or the FADE in its place, among the timed frames of the endpoint's channel. -/
def State.unicastFire (s : State) (n epa typ : Nat) (fields : List Byte) : State :=
  let m := s.mkUnicast epa typ fields (.slot n (s.slotArmId n))
  m.2.2.insertFire n (s.heardOn epa) { m.1 with launch := some (s.fireInstant n epa) }

/-- The FIRE frames of a slot: one on each channel that received a group ARM, one to each endpoint armed alone; a FADE to
one whose ARM was never acknowledged (R192, R199). -/
def State.sendFires (s : State) (n : Nat) : State :=
  let r := s.slotRun n
  let t := s.slotT n
  let s := r.chans.foldl (fun s ch =>
    let m := s.mkGroup 5 (s.fireFields n) (.slot n (s.slotArmId n))
    m.2.insertFire n ch { m.1 with launch := some (t - s.cf (TRN_RC_LAT.US ch) * 1000) }) s
  r.uni.foldl (fun s x =>
    if !x.2 then
      s.unicastFire n x.1 2 (leBytes 2 (s.fld (TRN_SLOT_LVL.LEVEL n)) ++ leBytes 2 (s.fld (TRN_SLOT_LVL.CCT n)) ++
        leBytes 2 (s.fld (TRN_SLOT_FADE.FADE n)))
    else if s.fld (EPC_TIMING.CSL_MS x.1) = 0 then s.unicastFire n x.1 5 (s.fireFields n)
    else s) s

/-- A slot is committed: comparators, port frames and FIREs are loaded for T (R192). -/
def State.commitSlot (s : State) (n : Nat) : State :=
  let wins := s.claimWins n
  let r := s.slotRun n
  let s := wins.foldl (fun s x => match s.unitOf x.1 with
    | some u => s.loadUnit n u x.2
    | none => s) s
  let s := (List.range 16).foldl (fun s p => s.commitPort n p wins) s
  let out := (wins.map (·.1)).filter fun e => s.reach e != 1
  ((s.setSlotRun { r with armed := (r.armed ++ out).eraseDups }).sendFires n).setSlot n 2

/-- SLOT_COMMIT: the commit boundary of a slot (R192); in SERVICE the slot is cancelled (R203). -/
def slotCommit (n : Nat) (s : State) : State :=
  if !s.up .trn || !s.mayCommand || s.slotState n != 1 || s.nt < s.commitAt n || s.slotT n ≤ s.nt then s
  else if s.pwr.mode == .service then (s.cancelSlot n).slotLog 5 n
  else s.commitSlot n

/-- SLOT_FIRE: T (R197). -/
def slotFire (n : Nat) (s : State) : State :=
  if !s.up .trn || !s.mayCommand || s.slotState n != 2 || s.nt < s.slotT n then s
  else
    let r := s.slotRun n
    let s := s.holdSlot n
    let lv := s.fld (TRN_SLOT_LVL.LEVEL n)
    let cct := s.fld (TRN_SLOT_LVL.CCT n)
    ((r.armed.filter fun e => s.inScope n e).foldl (fun s e =>
      (s.recordCmd e lv cct false).launched e (s.fld (TRN_SLOT_FADE.FADE n))) s).setSlotRun r

/-- The catch-up of a slot for a STATUS at a level (R199). -/
def State.catchUpSlot (s : State) (epa level n : Nat) : State :=
  let r := s.slotRun n
  let t := s.slotT n
  let fade := s.fld (TRN_SLOT_FADE.FADE n)
  let cmd := s.fld (EPC_LVL_CMD.LEVEL epa)
  if (3 ≤ s.slotState n && s.slotState n ≤ 5) && s.inScope n epa && !r.caught.contains epa &&
      t + fade * 10000000 + 1000000000 < s.nt && s.nt ≤ t + s.cf TRN_CFG.CATCHUP_S * 1000000000 &&
      s.fld EPC_MISMATCH_CFG.TOL < max cmd level - min cmd level then
    let f := s.mkUnicast epa 2 (leBytes 2 cmd ++ leBytes 2 (s.fld (EPC_LVL_CMD.CCT epa)) ++ leBytes 2 fade) (.catchUp n epa)
    let s := (f.2.2.sendEpFrom 12 epa f.1).2
    (((s.setSlotRun { r with caught := epa :: r.caught }).bump (TRN_SLOT_STAT.CATCHUP n)).bump TRN_CNT.CATCHUP)
  else s

/-- STATUS: the report, and the catch-up of every slot it falls under (R121, R122, R199). -/
def statusFrame (epa : Nat) (m : StatusMsg) (l : LinkInfo) (s : State) : State :=
  if !s.ingests epa then s
  else
    let s := epcStatus epa m l s
    if s.up .trn && s.epState epa == stActive && s.isRadio epa then
      (List.range 64).foldl (fun s n => s.catchUpSlot epa m.level n) s
    else s

/-! ### What the radio array reports (R194, R196, R199) -/

/-- A unicast ARM has been acknowledged. -/
def State.armAcked (s : State) (n armId epa : Nat) : State :=
  let r := s.slotRun n
  if s.slotArmId n = armId then
    s.setSlotRun { r with uni := r.uni.map fun (x : Nat × Bool) => if x.1 == epa then (x.1, true) else x }
  else s

/-- A FIRE was refused for want of credit (R196). -/
def State.fireHeld (s : State) (n ch : Nat) : State :=
  let s := (s.put (TRN_SLOT_STAT.FIRE_HELD n) 1).bump TRN_CNT.FIRE_HELD
  (s.raise TRN_IRQ_STAT.FIRE_HELD).logEv 13 4 (leBytes 1 n ++ leBytes 1 ch)

/-- A FIRE started late by `us` (R194). -/
def State.fireShifted (s : State) (n ch us : Nat) : State :=
  let s := (s.put (TRN_SLOT_STAT.SHIFTED n) 1).put (TRN_SLOT_STAT.SHIFT_US n)
    (max (s.fld (TRN_SLOT_STAT.SHIFT_US n)) (min 65535 us))
  (s.raise TRN_IRQ_STAT.SHIFTED).logEv 13 3 (leBytes 1 n ++ leBytes 1 ch ++ leBytes 2 (min 65535 us))

/-! ### Starts (R23, R204, R210, R213) -/

/-- Every start: engines stop but for the fast chases of a warm start, and the slots read IDLE (Table 7.2). -/
def trnStart (warm : Bool) (s : State) : State :=
  let keep := fun (e : Nat) => warm && s.drv.chases.any fun (c : Chase) => c.engine == e
  let pats := s.trn.pats.filter fun (r : PatRun) => keep r.engine
  let s := { s with trn := { slots := [], pats := pats, blocked := [], emergSeen := false } }
  pats.foldl (fun s r => (((s.put (TRN_PAT_CTL.RUN r.engine) 1).put (TRN_PAT_START_SEC.SEC_LO r.engine)
    (r.start / 1000000000)).put (TRN_PAT_START_NS.NS r.engine) (r.start % 1000000000))) s.pubPats

/-- A read of a low word of NT seconds latches its high word (R215). -/
def trnTimeRead (lo hi : Nat) (s : State) : Nat × State := (s.rd lo, s.setLatch hi (s.rd hi))

end Sys2Proof.Machine
end

