-- ==== Sys2Proof/Machine/Rad.lean ====
section
/-! DEFINITION. The radio array: medium access, acknowledgements, timed frames, wake-up trains and reception
(chapter 10, R270 to R295). -/

namespace Sys2Proof.Machine

/-! ### Modes and states (R74, R292 to R294) -/

/-- The radios may transmit and receive under Table 3.3. -/
def State.radioMode (s : State) : Bool :=
  match s.pwr.mode with
  | .firing | .soak => true
  | .service => s.bit PWR_SVC_CTL.RAD_EN
  | _ => false

/-- A channel that is enabled, in service and allowed by the mode. -/
def State.radOn (s : State) (ch : Nat) : Bool :=
  s.up .rad && s.bit RAD_CTL.EN && s.bit (RAD_CH_CTL.EN ch) && !s.rad.failed.contains ch && s.radioMode && !s.standby

/-- A transmission may start on a channel: no substitution (R292), VRF holds (R463), and the pair does not keep the radios
silent (R452, R454). -/
def State.canStart (s : State) (ch : Nat) : Bool :=
  s.radOn ch && !(s.chan ch).swap && !s.hlt.vrfHold && s.mayCommand && !s.bit PAIR_STAT.STALE

/-- The other channel of the antenna port. -/
def partnerOf (ch : Nat) : Nat := if ch % 2 = 0 then ch + 1 else ch - 1

/-- STATE of a channel (Table 10.9). -/
def State.radChState (s : State) (ch : Nat) : Nat :=
  let c := s.chan ch
  if s.rad.failed.contains ch then 5
  else if c.swap then 6
  else if !s.radOn ch then 0
  else if c.tx.isSome then 3
  else if (c.cur.map (·.credit)).getD false then 4
  else if c.rxFrom.isSome then 2
  else 1

/-- EFF_HDBM, signed half-dB (R271). -/
def State.effPower (s : State) (ch : Nat) : Int :=
  min (toSigned 8 (s.cf (RAD_CH_PWR.TX_HDBM ch))) (s.sfld (RAD_SB_HI.MAX_HDBM (s.sbOfCh ch))) -
    6 * (s.fld RAD_STAT.TX_STEP : Int)

/-- A channel with nothing in service, sending, queued for an instant or being received is idle (Table 2.14). -/
def Chan.idle (c : Chan) : Bool :=
  c.cur.isNone && c.again.isEmpty && c.tx.isNone && c.timed.isEmpty && c.window.isNone && c.rxFrom.isNone && c.ack.isNone

/-- H words of an idle channel take effect (R295). -/
def State.radBound (s : State) (ch : Nat) : State :=
  if (s.chan ch).idle then s.boundary (RAD_CH_CTL.adr ch) (RAD_CH_CTL.adr ch + 0x80) else s

/-- The registers of a channel report its state, its power and whether a train is in progress. -/
def State.pubChan (s : State) (ch : Nat) : State :=
  let s := s.radBound ch
  let s := (s.put (RAD_CH_STAT.STATE ch) (s.radChState ch)).putB (RAD_CH_STAT.TRAIN ch)
    (((s.chan ch).tx.map (·.train)).getD false)
  s.putI (RAD_CH_PWR.EFF_HDBM ch) (s.effPower ch)

/-- Every channel's registers, and FAILED. -/
def State.pubRads (s : State) : State :=
  let s := (List.range 8).foldl State.pubChan s
  s.put RAD_STAT.FAILED (s.rad.failed.foldl (fun n ch => n ||| 2 ^ ch) 0)

/-! ### Configuration checks (R270) -/

/-- The bands of R270, kHz. -/
def radBands : List (Nat × Nat) := [(863000, 870000), (870000, 876000), (902000, 928000), (920000, 928000)]

/-- The range a channel occupies, in half kHz. -/
def State.chRange (s : State) (ch : Nat) : Nat × Nat :=
  (2 * s.fld (RAD_CH_FREQ.KHZ ch) - s.spacing ch, 2 * s.fld (RAD_CH_FREQ.KHZ ch) + s.spacing ch)

/-- A channel passes every check of R270, `others` being the channels enabled beside it. -/
def State.radChOk (s : State) (ch : Nat) (others : List Nat) : Bool :=
  let r := s.chRange ch
  let k := s.sbOfCh ch
  s.spacing ch ≤ 2 * s.fld (RAD_CH_FREQ.KHZ ch) &&
    radBands.any (fun b => 2 * b.1 ≤ r.1 && r.2 ≤ 2 * b.2) &&
    2 * s.fld (RAD_SB_LO.LO_KHZ k) ≤ r.1 && r.2 ≤ 2 * s.fld (RAD_SB_HI.HI_KHZ k) &&
    s.bit (RAD_SB_LO.EN k) && s.phyOk ch && 4 ≤ s.fld (RAD_CH_PHY.PREAMBLE ch) && s.fld (RAD_CH_PHY.PREAMBLE ch) ≤ 1000 &&
    others.all fun o => let q := s.chRange o; r.2 ≤ q.1 || q.2 ≤ r.1

/-- The enabled channels other than `ch`. -/
def State.enabledChs (s : State) (ch : Nat) : List Nat :=
  (List.range 8).filter fun o => o != ch && s.bit (RAD_CH_CTL.EN o)

/-- An enable that passes its checks; one that fails leaves EN at 0 and sets BAD_CFG (R270). -/
def State.enableRad (s : State) (ch : Nat) (others : List Nat) : State :=
  if s.radChOk ch others then (s.put (RAD_CH_CTL.EN ch) 1).pubChan ch
  else ((s.put (RAD_CH_CTL.EN ch) 0).raise RAD_IRQ_STAT.BAD_CFG).pubChan ch

/-! ### Outcomes (R275) -/

/-- Every frame of a list is DISCARDED. -/
def State.discardAll (s : State) (l : List Frame) : State := l.foldl (fun s f => s.noteOutcome f .discarded) s

/-- The frames a channel holds. -/
def Chan.frames (c : Chan) : List Frame :=
  (match c.cur with
   | some x => [x.frame]
   | none => []) ++ c.again ++ (c.timed.map fun (t : Timed) => t.frame) ++
  (match c.window with
   | some w => if w.timed then [w.frame] else []
   | none => [])

/-- The frames that wait in the switch core for a port of the radios. -/
def State.queuedFrames (s : State) : List Frame :=
  s.swc.q.flatMap fun (d : Desc) => match d.body with
    | .tep f => [f]
    | _ => []

/-- Frames lost at a restart (R275): those of the queues and of the channels. -/
def State.radLost (s : State) : State := s.discardAll (s.queuedFrames ++ s.rad.chans.flatMap Chan.frames)

/-- The outcome of a frame, and what its block does on it: an ARM acknowledged, a FIRE refused. -/
def State.outcome (s : State) (ch : Nat) (f : Frame) (o : Outcome) : State :=
  let s := s.noteOutcome f o
  match o, f.owner, f.dst with
  | .acked, .slot n armId, .ep epa => if f.typ = 4 then s.armAcked n armId epa else s
  | .refused, .slot n _, _ => if f.typ = 5 then s.fireHeld n ch else s
  | _, _, _ => s

/-- Fade time of a command's message, 10 ms. -/
def Frame.fade (f : Frame) : Nat :=
  match f.typ with
  | 2 => leAt f.msg 6 2
  | 3 => leAt f.msg 8 2
  | _ => 0

/-- The launch of a command is recorded for the endpoints it commands (R122, R171). -/
def State.noteLaunch (s : State) (f : Frame) : State :=
  match f.owner with
  | .cmd epa => s.launched epa f.fade
  | .catchUp _ epa => s.launched epa f.fade
  | .group l => l.foldl (fun s epa => s.launched epa f.fade) s
  | _ => s

/-! ### Starting a transmission (R278, R283, R285) -/

/-- `clk` at an instant of network time given in ns. -/
def State.clkOf (s : State) (t : Nat) : Nat := s.clk + t / 2 - s.nt / 2

/-- Airtime of an enhanced acknowledgement (Table 10.3), µs. -/
def State.ackTime (s : State) (ch : Nat) (ext : Bool) : Nat :=
  s.airtime ch ((if ext then 14 else 8) + s.fcsLen ch)

/-- A frame asks for an acknowledgement (Table 10.3). -/
def Frame.wantsAck (f : Frame) : Bool :=
  match f.dst with
  | .all => false
  | _ => true

/-- A reception on a channel is lost (R278). -/
def State.blank (s : State) (ch : Nat) : State :=
  let c := s.chan ch
  if c.rxFrom.isSome && !c.rxLost then
    (s.updChan ch fun c => { c with rxLost := true, rxFrom := none }).bump (RAD_CH_CNT_RX2.BLANKED ch)
  else s

/-- A transmission from `a` to `b` on the antenna port falls into a channel's listening window (Table 10.4). -/
def State.hitWindow (s : State) (ch a b : Nat) : State :=
  s.updChan ch fun c => { c with window := c.window.map fun (w : Listen) =>
    if a < w.closes ∧ w.opens < b then { w with lost := true } else w }

/-- A wake-up frame to an endpoint, `us` before the payload frame (R283): multipurpose frame control, Rendezvous Time IE
(assumption 36). -/
def State.wakeFrame (s : State) (ch epa us : Nat) : List Byte :=
  let b := leBytes 2 0xA52D ++ leBytes 2 s.seg ++ leBytes 2 epa ++ leBytes 2 0x0E82 ++
    leBytes 2 (min 65535 (us * 1000 / (10 * s.symbolNs ch)))
  b ++ fcsOf (s.fcsLen ch) b

/-- A train of `us` before a frame (R283). -/
def State.sendTrain (s : State) (ch epa us : Nat) : State :=
  let t := s.wakeTime ch
  (List.range (us / t)).foldl (fun s k => s.emit (.radio ch) (s.wakeFrame ch epa (us - (k + 1) * t))) s

/-- A transmission starts on a channel at `start`: charged, with its train, and what it costs the antenna port's
receptions and listening windows (R278, Table 10.4). -/
def State.startTx (s : State) (ch kind : Nat) (f : Frame) (start train air : Nat) : State :=
  let stop := start + (train + air) * usec
  let s := s.charge ch (train + air)
  let s := ((s.blank ch).blank (partnerOf ch)).hitWindow (partnerOf ch) start stop
  let s := if kind = 0 then s else s.hitWindow ch start stop
  let s := match f.dst with
    | .ep epa => if train = 0 then s else s.sendTrain ch epa train
    | _ => s
  let s := s.emit (.radio ch) (f.psdu.getD [])
  let x : Tx := { kind := kind, frame := f, start := start, stop := stop, train := train != 0 }
  (s.updChan ch fun c => { c with tx := some x }).pubChan ch

/-! ### The frame in service (R275 to R277, R288) -/

/-- Length of CCA, and of a unit backoff period, in counts of 2 ns (R276). -/
def State.ccaTime (s : State) (ch : Nat) : Nat := 8 * s.symbolNs ch / 2
def State.backoffUnit (s : State) (ch : Nat) : Nat := 1000 * usec + s.ccaTime ch

/-- `clk` at which the medium access of a frame may begin: at once, or for a train centred on a sample in time for it
(R284). -/
def State.trainReady (s : State) (ch : Nat) (f : Frame) : Nat :=
  match f.dst with
  | .ep epa =>
    let train := s.trainTime ch epa
    (match s.phaseOf epa with
     | some p =>
       let per := p.period * msec
       if train = 0 || per = 0 || p.period * 1000 ≤ train then s.clk
       else
         let lead := train * usec / 2 + s.ccaTime ch + 150 * usec
         let first := p.at_ + p.phase
         let k := divUp (s.clk + lead - first) per
         first + k * per - lead
     | none => s.clk)
  | _ => s.clk

/-- Step 1 and 2 of R276: a random backoff of 0 to 2^BE − 1 units from `t` on. -/
def State.backoff (s : State) (ch be t : Nat) : Nat × State :=
  if be = 0 then (t, s) else (t + s.freeVal % 2 ^ be * s.backoffUnit ch, s.useFree)

/-- A frame comes into service on a channel: CSMA-CA from step 1, not before `t`. -/
def State.serve (s : State) (ch : Nat) (f : Frame) (retries t : Nat) : State :=
  let be := s.cf (RAD_CH_MAC.MIN_BE ch)
  let r := s.backoff ch be (max t (s.trainReady ch f))
  let x : InService := { frame := f, be := be, nb := 0, retries := retries, backoffAt := r.1, credit := false }
  (r.2.updChan ch fun c => { c with cur := some x }).pubChan ch

/-- The frame in service has ended; a timed frame that waits for its retries follows (R281). -/
def State.endCur (s : State) (ch : Nat) : State :=
  match (s.chan ch).again with
  | [] => (s.updChan ch fun c => { c with cur := none }).pubChan ch
  | f :: t => (s.updChan ch fun c => { c with cur := none, again := t }).serve ch f 1 s.clk

/-- An attempt has ended without acknowledgement or access: a retry, or NO_ACK after MAX_RETRIES; a persistent frame is
retried until its instant (R277). The next backoff begins at `t`. -/
def State.attemptFailed (s : State) (ch : Nat) (f : Frame) (retries t : Nat) : State :=
  let more := match f.persist with
    | some t => decide (s.nt < t)
    | none => decide (retries < s.cf (RAD_CH_MAC.MAX_RETRIES ch))
  if more then (s.bump (RAD_CH_CNT_TX2.RETRIES ch)).serve ch f (retries + 1) t
  else (((s.bump (RAD_CH_CNT_TX.NO_ACK ch)).raise RAD_IRQ_STAT.NO_ACK).outcome ch f .noAck).endCur ch

/-- The reservations of an antenna port and the partner's transmission, as intervals of `clk` (R279). -/
def State.blocks (s : State) (ch : Nat) : List (Nat × Nat) :=
  [ch, partnerOf ch].flatMap fun c =>
    let x := s.chan c
    (match x.ack with
     | some a => [(a.at_, a.at_ + s.ackTime c a.ext.isSome * usec)]
     | none => []) ++
    (x.timed.map fun (t : Timed) =>
      let a := max (s.clkOf (t.frame.launch.getD 0)) t.notBefore
      (a, a + s.frameTime c t.frame * usec)) ++
    (match x.window with
     | some w => [(w.opens, w.closes)]
     | none => []) ++
    (match x.tx with
     | some t => [(t.start, t.stop)]
     | none => [])

/-- Until when R279 keeps a transmission from `a` to `b` from starting; nothing where it may start. -/
def State.blockedTo (s : State) (ch a b : Nat) : Option Nat :=
  match (s.blocks ch).filter fun (x : Nat × Nat) => x.1 < b && a < x.2 with
  | [] => none
  | l => some (l.foldl (fun m x => max m x.2) 0)

/-- The mean CCA energy of the last second (Table 10.9). -/
def State.noteNoise (s : State) (ch : Nat) (energy : Int) : State :=
  let l := (s.clk, energy) :: (s.chan ch).noise.filter fun x => s.clk < x.1 + secs
  let s := s.updChan ch fun c => { c with noise := l }
  s.putI (RAD_CH_RF.NOISE_DBM ch) (divRoundI (l.foldl (fun n x => n + x.2) 0) l.length)

/-- The channel is busy: step 5 or 6 of R276. The next backoff begins as CCA ends. -/
def State.busy (s : State) (ch : Nat) (x : InService) : State :=
  if s.cf (RAD_CH_MAC.MAX_BACKOFFS ch) < x.nb + 1 then
    (s.bump (RAD_CH_CNT_TX2.CAF ch)).attemptFailed ch x.frame x.retries (s.clk + s.ccaTime ch)
  else
    let be := min (x.be + 1) (s.cf (RAD_CH_MAC.MAX_BE ch))
    let r := s.backoff ch be (s.clk + s.ccaTime ch)
    r.2.updChan ch fun c => { c with cur := some { x with be := be, nb := x.nb + 1, backoffAt := r.1 } }

/-- A head frame begins to wait for credit (R288). -/
def State.waitCredit (s : State) (ch : Nat) (x : InService) : State :=
  if x.credit then s
  else
    let s := (s.bump (RAD_SB_CNT.WAITS (s.sbOfCh ch))).raise RAD_IRQ_STAT.LEDGER_WAIT
    (s.updChan ch fun c => { c with cur := some { x with credit := true } }).pubChan ch

/-- Wake-up train and airtime of the frame in service, µs. -/
def State.needs (s : State) (ch : Nat) (x : InService) : Nat × Nat :=
  (match x.frame.dst with
   | .ep epa => s.trainTime ch epa
   | _ => 0, s.airtime ch (s.psduLen ch x.frame))

/-- The channel was clear: the ledger, the antenna port, and the start 150 µs after CCA (R276, R279, R283, R288). -/
def State.tryStart (s : State) (ch : Nat) (x : InService) : State :=
  let train := (s.needs ch x).1
  let air := (s.needs ch x).2
  let start := s.clk + s.ccaTime ch + 150 * usec
  let stop := start + (train + air) * usec
  let heard := stop + (if x.frame.wantsAck then (1100 + s.ackTime ch false) * usec else 0)
  if s.chCredit ch false < train + air then s.waitCredit ch x
  else
    match s.blockedTo ch start heard with
    | some t =>
      let r := s.backoff ch (s.cf (RAD_CH_MAC.MIN_BE ch)) (max t s.clk)
      (r.2.updChan ch fun c => { c with cur := some { x with be := s.cf (RAD_CH_MAC.MIN_BE ch), nb := 0, backoffAt := r.1
                                                             credit := false } }).pubChan ch
    | none =>
      let s := s.updChan ch fun c => { c with cur := some { x with credit := false } }
      (s.startTx ch 0 x.frame start train air).noteLaunch x.frame

/-- CSMA_BACKOFF_END: the backoff of the frame in service has ended; CCA finds `energy` dBm, or a valid SFD (R276). A frame
that waits for credit runs no CCA before it has it (R288). -/
def csmaBackoffEnd (ch : Nat) (energy : Int) (sfd : Bool) (s : State) : State :=
  let c := s.chan ch
  match c.cur with
  | none => s
  | some x =>
    if !s.canStart ch || s.clk < x.backoffAt || c.tx.isSome || c.window.isSome || c.rxFrom.isSome then s
    else if x.credit && s.chCredit ch false < (s.needs ch x).1 + (s.needs ch x).2 then s
    else if !s.cfB (RAD_CH_CTL.CCA_EN ch) then s.tryStart ch x
    else
      let s := s.noteNoise ch energy
      if s.cfI (RAD_CH_MAC.CCA_DBM ch) < energy || sfd then s.busy ch x else s.tryStart ch x

/-- A frame whose transmission or acknowledgement completed (Table 10.9). -/
def State.txOk (s : State) (ch : Nat) (f : Frame) (o : Outcome) : State := (s.bump (RAD_CH_CNT_TX.TX_OK ch)).outcome ch f o

/-- The listening window after a unicast frame that ended at `t` (R277). -/
def State.openWindow (s : State) (ch t : Nat) (f : Frame) (timed : Bool) : State :=
  let w : Listen := { frame := f, timed := timed, opens := t + 900 * usec
                      closes := t + (1100 + s.ackTime ch false) * usec, lost := false }
  (s.updChan ch fun c => { c with tx := none, window := some w }).pubChan ch

/-- A listening window closes without an acknowledgement (R277). A timed frame goes on to untimed retries (R281). -/
def State.windowFailed (s : State) (ch : Nat) (w : Listen) : State :=
  let cur := (s.chan ch).cur
  let s := s.updChan ch fun c => { c with window := none }
  if w.timed then
    if s.cf (RAD_CH_MAC.MAX_RETRIES ch) = 0 ∧ w.frame.persist.isNone then
      (((s.bump (RAD_CH_CNT_TX.NO_ACK ch)).raise RAD_IRQ_STAT.NO_ACK).outcome ch w.frame .noAck).pubChan ch
    else
      let s := s.bump (RAD_CH_CNT_TX2.RETRIES ch)
      if cur.isSome then s.updChan ch fun c => { c with again := c.again ++ [w.frame] }
      else s.serve ch w.frame 1 s.clk
  else s.attemptFailed ch w.frame ((cur.map (·.retries)).getD 0) s.clk

/-- A frame that goes out in the channel's own listening window leaves what was listened for unacknowledged (Table 10.4). -/
def State.dropWindow (s : State) (ch : Nat) : State :=
  match (s.chan ch).window with
  | some w => s.windowFailed ch w
  | none => s

/-- TX_END: the transmission of a channel ends (R277). -/
def txEnd (ch : Nat) (s : State) : State :=
  match (s.chan ch).tx with
  | none => s
  | some t =>
    if s.clk < t.stop || !s.up .rad then s
    else if t.kind = 2 then (s.updChan ch fun c => { c with tx := none }).pubChan ch
    else if t.frame.wantsAck then (s.dropWindow ch).openWindow ch t.stop t.frame (t.kind == 1)
    else
      let s := (s.updChan ch fun c => { c with tx := none }).txOk ch t.frame .sent
      if t.kind = 0 then s.endCur ch else s.pubChan ch

/-- ENH_ACK_RX: an enhanced acknowledgement is heard in the window (R277). -/
def enhAckRx (ch : Nat) (s : State) : State :=
  match (s.chan ch).window with
  | none => s
  | some w =>
    if !s.radOn ch || w.lost || s.clk < w.opens || w.closes < s.clk then s
    else
      let s := (s.updChan ch fun c => { c with window := none }).txOk ch w.frame .acked
      if w.timed then s.pubChan ch else s.endCur ch

/-- ACK_TIMEOUT: the window closes empty (R277). -/
def ackTimeout (ch : Nat) (s : State) : State :=
  match (s.chan ch).window with
  | none => s
  | some w => if s.clk < w.closes || !s.up .rad then s else s.windowFailed ch w

/-! ### Hardware acknowledgement (R280) -/

/-- An interval of the antenna port, with its channel and whether it is a timed frame. -/
def State.rivals (s : State) (ch : Nat) : List (Nat × Nat × Nat × Bool) :=
  [ch, partnerOf ch].flatMap fun c =>
    ((s.chan c).timed.map fun (t : Timed) =>
      let a := max (s.clkOf (t.frame.launch.getD 0)) t.notBefore
      (a, a + s.frameTime c t.frame * usec, c, true)) ++
    (match (s.chan c).ack with
     | some a => [(a.at_, a.at_ + s.ackTime c a.ext.isSome * usec, c, false)]
     | none => [])

/-- `(a, c, timed)` goes before `(b, d, timed')` on one antenna port (Table 10.4). -/
def goesFirst (a c : Nat) (t : Bool) (b d : Nat) (u : Bool) : Bool :=
  a < b || (a == b && (c < d || (c == d && t && !u)))

/-- A rival goes before the acknowledgement of `ch` and overlaps it. -/
def State.ackDisplaced (s : State) (ch at_ stop : Nat) : Bool :=
  (s.rivals ch).any fun (x : Nat × Nat × Nat × Bool) =>
    !(x.2.2.1 == ch && !x.2.2.2) && x.1 < stop && at_ < x.2.1 && goesFirst x.1 x.2.2.1 x.2.2.2 at_ ch false

/-- The PSDU of an enhanced acknowledgement with its Time Correction IE (Table 10.3, R280). -/
def State.ackPsdu (s : State) (ch : Nat) (a : AckDue) : List Byte :=
  let dst := match a.ext with
    | some e => leBytes 8 e
    | none => leBytes 2 a.epa
  let b := leBytes 2 (fcAck a.ext.isSome) ++ dst ++ leBytes 2 0x0F02 ++ leBytes 2 (ofSigned 12 a.e)
  b ++ fcsOf (s.fcsLen ch) b

/-- HW_ACK_SEND: the instant of a pending acknowledgement has come (R280, R292, Table 10.4). -/
def hwAckSend (ch : Nat) (s : State) : State :=
  match (s.chan ch).ack with
  | none => s
  | some a =>
    if s.clk < a.at_ || !s.up .rad then s
    else
      let us := s.ackTime ch a.ext.isSome
      let gone := ((s.chan ch).tx.map (fun (t : Tx) => decide (a.at_ < t.stop))).getD false ||
        ((s.chan (partnerOf ch)).tx.map (fun (t : Tx) => decide (a.at_ < t.stop))).getD false
      let skip := gone || s.ackDisplaced ch a.at_ (a.at_ + us * usec) || s.chCredit ch true < us
      let s := s.updChan ch fun c => { c with ack := none }
      if !s.canStart ch then s.pubChan ch
      else if skip then (s.bump (RAD_CH_CNT_MISC.ACK_SKIPPED ch)).pubChan ch
      else
        let f : Frame := { typ := 0, msg := [], dst := .all, key := 0, launch := none, persist := none, owner := .none
                           psdu := some (s.ackPsdu ch a) }
        s.startTx ch 2 f a.at_ 0 us

/-! ### Timed frames (R281, R282, R292) -/

/-- A timed frame leaves its channel's list. -/
def State.dropTimed (s : State) (ch : Nat) (t : Timed) : State :=
  s.updChan ch fun c => { c with timed := c.timed.erase t }

/-- A FIRE on the antenna port shares the instant of a timed frame (R282). -/
def State.fireAt (s : State) (ch : Nat) (launch : Option Nat) : Bool :=
  [ch, partnerOf ch].any fun c => (s.chan c).timed.any fun (x : Timed) => x.frame.typ == 5 && x.frame.launch == launch

/-- The message of a TIME frame for a second (Table 4.5). -/
def timeMsg (tsn sec : Nat) : List Byte := tepMsg 0x0C tsn (leBytes 6 sec ++ leBytes 4 0)

/-- A TIME frame one second later (R282). -/
def timeLater (f : Frame) : Frame :=
  let t := f.launch.getD 0 + 1000000000
  { f with launch := some t, msg := timeMsg (leAt f.msg 1 1) (t / 1000000000) }

/-- A timed frame secured and its airtime reserved, or refused for want of credit (R281). -/
def State.bookTimed (s : State) (ch : Nat) (t : Timed) : State :=
  match s.takeSecure ch t.frame with
  | (none, s) => (s.dropTimed ch t).outcome ch t.frame .discarded
  | (some f, s) =>
    let need := s.frameTime ch f
    if s.chCredit ch false < need then
      (((s.dropTimed ch t).bump (RAD_SB_CNT.REFUSED (s.sbOfCh ch))).raise RAD_IRQ_STAT.TIMED_REFUSED).outcome ch f .refused
    else
      let late := f.launch.getD 0 < s.nt
      let u : Timed := { t with frame := f, ready := some need, late := late, notBefore := if late then s.clk else t.notBefore }
      let s := s.updChan ch fun c => { c with timed := c.timed.map fun (x : Timed) => if x == t then u else x }
      let s := if late then s.bump (RAD_CH_CNT_MISC.TIMED_LATE ch) else s
      s.pubLedger

/-- TIMED_FRAME_PREPARE: 2 ms before the instant of a channel's next timed frame (R281). -/
def timedFramePrepare (ch : Nat) (s : State) : State :=
  match (s.chan ch).timed.find? fun (t : Timed) => t.ready.isNone && t.frame.launch.getD 0 ≤ s.nt + 2000000 with
  | none => s
  | some t =>
    if !s.up .rad then s
    else if !s.radOn ch || !s.mayCommand then ((s.dropTimed ch t).outcome ch t.frame .discarded).pubChan ch
    else if t.frame.typ = 0x0C ∧ s.fireAt ch t.frame.launch then
      (s.dropTimed ch t).addTimed ch (timeLater t.frame)
    else s.bookTimed ch t

/-- `clk` at which a timed frame may start. -/
def State.timedStart (s : State) (t : Timed) : Nat :=
  if t.late then t.notBefore else max (s.clkOf (t.frame.launch.getD 0)) t.notBefore

/-- Another frame of the antenna port goes before a timed frame and overlaps it (Table 10.4). -/
def State.timedWaits (s : State) (ch : Nat) (t : Timed) : Bool :=
  let at_ := s.clkOf (t.frame.launch.getD 0)
  let stop := at_ + t.ready.getD 0 * usec
  (s.rivals ch).any fun (x : Nat × Nat × Nat × Bool) =>
    x.2.2.1 != ch && x.1 < stop && at_ < x.2.1 && goesFirst x.1 x.2.2.1 x.2.2.2 at_ ch true

/-- A timed frame starts; a delay is counted and reported (R194, Table 10.4). -/
def State.launchTimed (s : State) (ch : Nat) (t : Timed) : State :=
  let start := s.timedStart t
  let us := (start - s.clkOf (t.frame.launch.getD 0)) / usec
  let s := s.dropTimed ch t
  let s := if 0 < us && !t.late then (s.bump (RAD_CH_CNT_MISC.TIMED_SHIFT ch)).raise RAD_IRQ_STAT.TIMED_SHIFT else s
  let s := match t.frame.owner with
    | .slot n _ => if 0 < us && t.frame.typ == 5 then s.fireShifted n ch us else s
    | _ => s
  let air := s.airtime ch (s.psduLen ch t.frame)
  (s.startTx ch 1 t.frame start (t.ready.getD air - air) air).noteLaunch t.frame

/-- The end of a transmission in progress on an antenna port; nothing where there is none. -/
def State.portBusy (s : State) (ch : Nat) : Option Nat :=
  match (s.chan ch).tx, (s.chan (partnerOf ch)).tx with
  | some a, some b => some (max a.stop b.stop)
  | some a, none => some a.stop
  | none, some b => some b.stop
  | none, none => none

/-- The timed frame of a channel that is due, the earliest instant first (R194). -/
def State.timedDue (s : State) (ch : Nat) : Option Timed :=
  (sortBy (fun (t : Timed) => t.frame.launch.getD 0)
    ((s.chan ch).timed.filter fun (t : Timed) => t.ready.isSome && s.timedStart t ≤ s.clk)).head?

/-- TIMED_FRAME_LAUNCH: a channel's next timed frame starts at its instant, or when a conflicting transmission ends
(R281, Table 10.4). -/
def timedFrameLaunch (ch : Nat) (s : State) : State :=
  match s.timedDue ch with
  | none => s
  | some t =>
    if !s.canStart ch || s.timedWaits ch t then s
    else
      match s.portBusy ch with
      | some e => s.updChan ch fun c => { c with timed := c.timed.map fun (x : Timed) => if x == t then { t with notBefore := e } else x }
      | none => s.launchTimed ch t

/-- TIME_FRAME: TIME frames for the next second, where it is a multiple of TIME_S, on every channel that may transmit
(R282). -/
def timeFrame (s : State) : State :=
  let n := s.cf RAD_CTL.TIME_S
  let sec := s.ntSec + 1
  if !s.up .rad || n == 0 || !s.ntValid || sec % n != 0 || s.rad.timeAt == sec then s
  else
    let s := { s with rad := { s.rad with timeAt := sec } }
    ((List.range 8).filter s.radOn).foldl (fun s ch =>
      let r := s.takeTsn 4096
      r.2.addTimed ch { typ := 0x0C, msg := timeMsg r.1 sec, dst := .all, key := 2, launch := some (sec * 1000000000)
                        persist := none, owner := .time, psdu := none }) s

/-- Timed frames that fell due while nothing could start do so now, shifted (R292, R463). -/
def State.resumeTimed (s : State) (ch : Nat) : State :=
  let late := fun (t : Timed) => if t.frame.launch.getD 0 < s.nt then { t with notBefore := max t.notBefore s.clk } else t
  s.updChan ch fun c => { c with timed := c.timed.map late }

/-- CHANNEL_RESUMES: the spare has taken over a channel (R292). -/
def channelResumes (ch : Nat) (s : State) : State :=
  if !s.up .rad || !(s.chan ch).swap then s
  else
    let s := (s.updChan ch fun c => { c with swap := false }).resumeTimed ch
    let s := (s.put RAD_STAT.SPARE_USED 1).put RAD_STAT.SPARE_FOR ch
    timedFrameLaunch ch ((s.raise RAD_IRQ_STAT.SPARE_IN).pubChan ch)

/-! ### Taking frames from the switch (R275) -/

/-- A frame leaves its queue for a channel's transmit buffer (R273, R275). -/
def State.takeFrame (s : State) (ch : Nat) (d : Desc) (f : Frame) : State :=
  match (s.dropDesc d).takeSecure ch f with
  | (none, s) => s.outcome ch f .discarded
  | (some g, s) => s.serve ch g 0 s.clk

/-- A packet from elsewhere goes out as it is, a PSDU already built, to every receiver. -/
def rawFrame (b : List Byte) : Frame :=
  { typ := 0, msg := [], dst := .all, key := 2, launch := none, persist := none, owner := .none, psdu := some b }

/-- Every frame queued for a channel goes, with outcome DISCARDED. -/
def State.flushChan (s : State) (ch : Nat) : State :=
  let s := (s.swc.q.filter fun (d : Desc) => d.port == ch).foldl (fun s d =>
    match d.body with
    | .tep f => (s.dropDesc d).outcome ch f .discarded
    | _ => s.dropDesc d) s
  let c := s.chan ch
  let s := c.timed.foldl (fun s (t : Timed) => s.outcome ch t.frame .discarded) s
  let s := c.again.foldl (fun s f => s.outcome ch f .discarded) s
  let s := match c.cur with
    | some x => if c.tx.isSome then s else s.outcome ch x.frame .discarded
    | none => s
  let s := s.updChan ch fun c => { c with timed := [], again := [], cur := if c.tx.isSome || c.window.isSome then c.cur else none }
  s.pubLedger.pubChan ch

/-- PORT_DEQUEUE on a radio channel's port. The frames of a FAILED channel are DISCARDED. -/
def radDequeue (ch : Nat) (s : State) : State :=
  if s.rad.failed.contains ch then s.flushChan ch
  else if !s.canStart ch || (s.chan ch).cur.isSome then s
  else
    match s.schedule ch with
    | (none, s) => s
    | (some d, s) =>
      match d.body with
      | .tep f => s.takeFrame ch d f
      | .raw b => (s.dropDesc d).serve ch (rawFrame b) 0 s.clk
      | .bus _ _ _ _ => s.dropDesc d

/-- CH_FLUSH (R295). -/
def chFlushBody (s : State) : Nat × State := (stDone, s.flushChan (s.fld RAD_CMD_ARG.CH))

def chFlush (s : State) : State := runCmd .rad 2 chFlushBody s

/-- AIRTIME (R274): LEN 1 to 511. -/
def airtimeBody (s : State) : Nat × State :=
  let n := s.fld RAD_CMD_ARG.LEN
  if n = 0 then (stRefusedArg, s) else (stDone, s.put RAD_AIRTIME.US (s.airtime (s.fld RAD_CMD_ARG.CH) n))

def radAirtime (s : State) : State := runCmd .rad 1 airtimeBody s

/-- A transceiver has failed with no spare left (R293). -/
def State.failChannel (s : State) (ch : Nat) : State :=
  if s.rad.failed.contains ch then s
  else
    let s := { s with rad := { s.rad with failed := s.rad.failed ++ [ch] } }
    let s := s.discardAll ((s.chan ch).frames.filter fun f => !(s.chan ch).timed.any fun (t : Timed) => t.frame == f)
    let s := s.updChan ch fun c => { c with cur := none, again := [], tx := none, window := none, ack := none
                                            rxFrom := none, rxLost := false }
    let s := (((s.flushChan ch).pubRads).raise RAD_IRQ_STAT.CH_FAILED).logEv 17 1 (leBytes 1 ch)
    s.pubLedger

/-! ### Reception (R289 to R291) -/

/-- A channel receives. -/
def State.listens (s : State) (ch : Nat) : Bool := s.radOn ch && !(s.chan ch).swap

/-- RX_SFD: a reception starts (R289): `long` where its PHR gives more than 511 octets, `full` where both banks are held. -/
def rxSfd (ch : Nat) (long full : Bool) (s : State) : State :=
  if !s.listens ch then s
  else if full then (s.bump (RAD_CH_CNT_RX2.OVERRUN ch)).raise RAD_IRQ_STAT.RX_OVERRUN
  else if long then s.bump (RAD_CH_CNT_RX2.TOO_LONG ch)
  else
    let lost := (s.portBusy ch).isSome
    let s := if lost then s.bump (RAD_CH_CNT_RX2.BLANKED ch) else s
    (s.updChan ch fun c => { c with rxFrom := if lost then none else some s.clk, rxLost := lost }).pubChan ch

/-- Bytes of an uplink type's message, its minimum level, or nothing for a type that is not listed (Tables 4.6 and
16.10). -/
def upType : Nat → Option (Nat × Nat)
  | 0x41 => some (12, 5)
  | 0x42 => some (10, 5)
  | 0x43 => some (8, 6)
  | 0x44 => some (8, 5)
  | 0x45 => some (18, 5)
  | 0x46 => some (16, 6)
  | 0x47 => some (6, 6)
  | 0x23 => some (38, 5)
  | 0x25 => some (10, 6)
  | _ => none

/-- A received frame opened under a key; nothing where the MIC fails. -/
def RxFrame.open_ (r : RxFrame) (eui : Nat) (key : List Byte) : Option (List Byte) :=
  Config.ccmOpen key (ccmNonce eui r.ctr r.level) r.header r.payload (micLen r.level)

/-- The replay check (R116, R119): accepted, for a frame of a type. -/
def State.fresh (s : State) (epa ctr typ : Nat) : Bool :=
  let h := s.fld (EPC_RX_HIGH.CTR epa)
  let resync := s.bit (EPC_RPT_FLAGS.RESYNC epa) && (s.run epa).resyncLow < ctr && ctr < s.fld (EPC_RX_FLOOR.CTR epa)
  (s.fld (EPC_RX_FLOOR.CTR epa) ≤ ctr || resync) &&
    (h < ctr || (h ≤ ctr + 31 && !bitOf (s.fld (EPC_RX_WIN.MAP epa)) (h - ctr))) &&
    (!resync || [0x41, 0x42, 0x44].contains typ)

/-- The window after a frame is accepted (R116). -/
def State.windowShift (s : State) (epa ctr : Nat) : State :=
  let h := s.fld (EPC_RX_HIGH.CTR epa)
  let m := s.fld (EPC_RX_WIN.MAP epa)
  if h < ctr then
    (s.put (EPC_RX_WIN.MAP epa) (if ctr - h < 32 then m * 2 ^ (ctr - h) + 1 else 1)).put (EPC_RX_HIGH.CTR epa) ctr
  else s.put (EPC_RX_WIN.MAP epa) (m ||| 2 ^ (h - ctr))

/-- A replay (R116). -/
def State.replayed (s : State) (epa : Nat) : State :=
  let s := (s.bump (EPC_SEC.REPLAY epa)).bump EPC_RX_DROP.REPLAY
  let r := s.run epa
  let l := s.clk :: r.replays.filter fun t => s.clk < t + 3600 * secs
  let s := s.setRun { r with replays := l }
  if 16 ≤ l.length then s.raiseFault epa 0x82 0 else s

/-- The Time Correction value of a frame (R280). -/
def State.timeError (s : State) (lead : Nat) : Int :=
  let t : Int := s.ntAt (s.ntu.frc - lead) / 65536
  let m : Int := (t + 500000) / 1000000 * 1000000
  clampI (-500) 500 ((t - m) / 1000)

/-- Steps 7 and 8 of Table 10.5: the acknowledgement, RX_OK, and the hand-over of a message (assumption 41). -/
def State.handOver (s : State) (ch : Nat) (r : RxFrame) (who : List Byte) (epa : Nat) (m : List Byte) : State :=
  let s := if r.ar && r.dst != 0xFFFF && s.bit (RAD_CH_CTL.ACK_EN ch) then
      let a : AckDue := { at_ := s.clk + 1000 * usec, ext := if r.srcExt then some r.src else none, epa := epa
                          e := s.timeError r.lead }
      s.updChan ch fun c => { c with ack := some a }
    else s
  let s := s.bump (RAD_CH_CNT_RX.RX_OK ch)
  match upType (leAt m 0 1) with
  | some (n, _) =>
    if n ≠ m.length then (s.bump (RAD_CH_CNT_TEP.BAD_MSG ch)).pubChan ch
    else
      let b := who ++ leBytes 1 ch ++ leBytes 1 (ofSigned 8 r.rssi) ++ leBytes 1 r.lqi ++ leBytes 6 s.ntSec ++
        leBytes 4 s.ntNs ++ m
      let p := if leAt m 0 1 = 0x44 then 12 else 14
      let c := s.fld (SWC_PORT_CFG.EQ_CLASS ch)
      ((s.enq (4096 + 8 * p + c) ch c b.length (.raw b)).2).pubChan ch
  | none => (s.bump (RAD_CH_CNT_TEP.BAD_MSG ch)).pubChan ch

/-- The sampling phase an uplink frame teaches (R284). -/
def State.learnPhase (s : State) (epa : Nat) (csl : Option (Nat × Nat)) : State :=
  match csl with
  | none => s
  | some (ph, per) =>
    { s with rad := { s.rad with phases := (s.rad.phases.filter fun (p : Phase) => p.epa != epa) ++
        [{ epa := epa, at_ := s.clk, phase := ph, period := per }] } }

/-- A frame of a context, opened under its link key: the message, and whether the key was that of a pending join (R107). -/
def State.openLink (s : State) (epa : Nat) (r : RxFrame) : Option (List Byte × Bool) :=
  let run := s.run epa
  let new := (s.tableKey epa).bind fun k => (r.open_ (s.euiOf epa) k).map fun m => (m, run.join.isSome)
  match new, run.join, s.rootBytes with
  | some x, _, _ => some x
  | none, some j, some rr =>
    if s.bit (EPC_SEC.JOINED epa) then
      (r.open_ (s.euiOf epa) (linkKey rr s.seg (s.euiOf epa) epa j.oldGen)).map fun m => (m, false)
    else none
  | none, _, _ => none

/-- MIN_LEVEL of a context: 5, or 6 for any other value (Table 4.1, R113). -/
def State.minLevel (s : State) (epa : Nat) : Nat := if s.fld (EPC_SEC.MIN_LEVEL epa) = 5 then 5 else 6

/-- A frame under the join key from a short source: a JOIN_REQ, which is dropped whatever context its source names (case 4 of
R106). -/
def State.shortJoin (s : State) (epa : Nat) (r : RxFrame) : State :=
  match s.rootBytes.bind fun rr => r.open_ (s.euiOf epa) (joinKey rr s.seg) with
  | none => s.bump (EPC_SEC.MIC_FAIL epa)
  | some m =>
    if leAt m 0 1 = 0x46 && r.level < 6 then s.bump EPC_RX_DROP.SEC_LEVEL else s.bump EPC_RX_DROP.UNKNOWN_SRC

/-- Steps 5 to 8 for a frame from a context's short address. -/
def State.rxLink (s : State) (ch epa : Nat) (r : RxFrame) : State :=
  if r.level < s.minLevel epa || 6 < r.level then s.bump EPC_RX_DROP.SEC_LEVEL
  else if r.keyIdx = 3 then s.shortJoin epa r
  else
    match if r.keyIdx = 1 then s.openLink epa r else none with
    | none => s.bump (EPC_SEC.MIC_FAIL epa)
    | some (m, joins) =>
      let typ := leAt m 0 1
      if r.level < ((upType typ).map (·.2)).getD 0 then s.bump EPC_RX_DROP.SEC_LEVEL
      else if typ = 0x46 then s.bump EPC_RX_DROP.UNKNOWN_SRC
      else
        let s := if joins then s.completeJoin epa else s
        if !s.fresh epa r.ctr typ then s.replayed epa
        else
          let s := (s.windowShift epa r.ctr).learnPhase epa r.csl
          let s := if s.bit (EPC_RPT_FLAGS.RESYNC epa) && (s.run epa).resync.isNone then s.sendResync epa else s
          s.handOver ch r (leBytes 2 epa) epa m

/-- Steps 5 to 8 for a JOIN_REQ from an extended source (R106, R290): level 6, which no
MIN_LEVEL exceeds. -/
def State.rxJoin (s : State) (ch : Nat) (r : RxFrame) : State :=
  if (s.holder r.src).isNone && !(s.bit EPC_JOIN_CTL.OPEN && s.firstEmpty.isSome) then s.bump EPC_RX_DROP.UNKNOWN_SRC
  else if r.level ≠ 6 then s.bump EPC_RX_DROP.SEC_LEVEL
  else
    let bad := match s.holder r.src with
      | some n => s.bump (EPC_SEC.MIC_FAIL n)
      | none => s
    if r.keyIdx ≠ 3 then bad
    else
      match s.rootBytes.bind fun rr => r.open_ r.src (joinKey rr s.seg) with
      | none => bad
      | some m => if leAt m 0 1 = 0x46 then s.handOver ch r (leBytes 8 r.src) 0 m else s.bump EPC_RX_DROP.UNKNOWN_SRC

/-- The destination is the module's (step 2 of Table 10.5). -/
def State.addressed (s : State) (r : RxFrame) : Bool :=
  r.pan == s.seg && (if r.dstExt then r.dst == s.radEui else r.dst == 0xF000 || r.dst == 0xFFFF)

/-- RX_FRAME: a frame has been received on a channel (Table 10.5). -/
def rxFrame (ch : Nat) (r : RxFrame) (s : State) : State :=
  if !s.listens ch then s
  else
    let lost := (s.chan ch).rxLost
    let s := (s.updChan ch fun c => { c with rxFrom := none, rxLost := false }).pubChan ch
    if lost then s
    else if !r.fcsOk then s.bump (RAD_CH_CNT_RX.FCS_ERR ch)
    else if !s.addressed r then s.bump (RAD_CH_CNT_RX2.FILTERED ch)
    else if !r.secured then
      if leAt r.payload 0 1 = 0x7F then s else s.bump (RAD_CH_CNT_MISC.UNSECURED ch)
    else if r.srcExt then s.rxJoin ch r
    else if r.src < 4096 && s.epLive r.src && s.isRadio r.src then s.rxLink ch r.src r
    else s.bump EPC_RX_DROP.UNKNOWN_SRC

/-! ### Starts (R294) -/

/-- Every start empties the channels: frames, banks, acknowledgements, learned phases. -/
def radStart (s : State) : State :=
  { s with rad := { s.rad with
      chans := List.replicate 8 { cur := none, again := [], tx := none, timed := [], ack := none, window := none, rxFrom := none
                                  rxLost := false, swap := false, share := [], noise := [] }
      ledger := List.replicate 8 [], phases := [], timeAt := 0 } }

/-- RAD is enabled at order 5 of Table 2.3: the ledgers seeded, the channels checked in ascending order (R270, R287). -/
def radEnable (s : State) : State :=
  let s := (s.put RAD_CTL.EN 1).seedLedgers
  let l := (List.range 8).filter fun ch => s.bit (RAD_CH_CTL.EN ch)
  ((l.foldl (fun (p : List Nat × State) ch =>
    let t := p.2.enableRad ch p.1
    (if t.bit (RAD_CH_CTL.EN ch) then p.1 ++ [ch] else p.1, t)) ([], s)).2).pubRads

/-- RAD_CH_CTL.EN written: 1 is checked (R270), 0 turns the channel off. -/
def radChEnWrite (ch : Nat) (on : Bool) (s : State) : State :=
  if !s.up .rad then s
  else if on then (if s.bit (RAD_CH_CTL.EN ch) then s else s.enableRad ch (s.enabledChs ch))
  else (s.put (RAD_CH_CTL.EN ch) 0).pubChan ch

end Sys2Proof.Machine
end

