-- ==== Sys2Proof/Machine/Ntu.lean ====
section
/-! DEFINITION. Network time: the counter, steering, sources, comparators and PTP (chapter 12, R327 to R352). -/

namespace Sys2Proof.Machine

/-! ### Counter and base pair (R327 to R330) -/

/-- The limit of RATE: ±500 ppm (R328). -/
def rateMax : Int := 1099511628

/-- T of a counter value by the present base pair and rate alone, in 2⁻¹⁶ ns, also before the base. -/
def State.ntLine (s : State) (f : Nat) : Int :=
  let d : Int := (f : Int) - s.ntu.fb
  (s.ntu.tb : Int) + d * 131072 + d * 131072 * s.ntu.rate / (2 ^ 41 : Nat)

/-- A read of NTU_TIME_LO: nanoseconds and VALID, the other words latched (R330). -/
def ntuTimeRead (s : State) : Nat × State :=
  let t := s.ntSub
  let sec := t / 65536 / 1000000000
  let s := ((s.setLatch NTU_TIME_HI.adr sec).setLatch NTU_TIME_EXT.adr (t % 65536 * 65536 + sec / 2 ^ 32 % 65536)).setLatch
    (NTU_TIME_FRC_LO.adr) s.ntu.frc
  ((if s.ntValid then 2 ^ 31 else 0) + t / 65536 % 1000000000, s.setLatch NTU_TIME_FRC_HI.adr (s.ntu.frc / 2 ^ 32))

/-- A read of NTU_FRC_LO latches NTU_FRC_HI (R330). -/
def ntuFrcRead (s : State) : Nat × State :=
  (s.ntu.frc % 2 ^ 32, s.setLatch NTU_FRC_HI.adr (s.ntu.frc / 2 ^ 32))

/-! ### States (Table 12.1) -/

def ntuUnset : Nat := 0
def ntuCoarse : Nat := 1
def ntuLocked : Nat := 2
def ntuHoldover : Nat := 3
def ntuFreerun : Nat := 4

/-- NTU_STAT.STATE with VALID and SYNC; a change is flagged. -/
def State.setNtu (s : State) (st : Nat) : State :=
  let s := if s.fld NTU_STAT.STATE = st then s else s.raise NTU_IRQ_STAT.STATE_CHG
  ((s.put NTU_STAT.STATE st).putB NTU_STAT.VALID (st != ntuUnset)).putB NTU_STAT.SYNC (st == ntuLocked || st == ntuHoldover)

/-- The current source; nothing where NTU_STAT.SRC is 0xF. -/
def State.ntuCur (s : State) : Option Nat := if s.fld NTU_STAT.SRC < 5 then some (s.fld NTU_STAT.SRC) else none

/-- NTU_STAT.SRC and the CURRENT bits. -/
def State.setCur (s : State) (c : Option Nat) : State :=
  (List.range 5).foldl (fun s k => s.putB (NTU_SRC_W0.CURRENT k) (c == some k)) (s.put NTU_STAT.SRC (c.getD 15))

/-! ### The jump rule (R334) -/

/-- A number of ns as 8 bytes, two's complement. -/
def nsBytes (d : Int) : List Byte := leBytes 8 (ofSigned 64 d)

/-- Counts spent since the last second in LOCKED. -/
def State.unlockedFor (s : State) : Nat := s.ntu.frc - s.ntu.lockedAt

/-- The effective jump limit, ns; nothing in UNSET and COARSE. -/
def State.jumpLimit (s : State) : Option Nat :=
  let l := clampN 1000 1000000000 (s.cf NTU_JUMP.LIMIT_NS)
  match s.fld NTU_STAT.STATE with
  | 0 => none
  | 1 => none
  | 2 => some l
  | _ => some (l + s.unlockedFor * 12 / 10000000)

/-- A change of `d` ns is beyond the effective limit. -/
def State.jumpOver (s : State) (d : Int) : Bool :=
  match s.jumpLimit with
  | some l => (l : Int) < d.natAbs
  | none => false

/-- A refused jump (R332, R334, R338). -/
def State.jumpRefused (s : State) (d : Int) : State :=
  ((s.put NTU_STAT.JUMP_REFUSED 1).raise NTU_IRQ_STAT.JUMP_REFUSED).logEv 8 2 (nsBytes d)

/-! ### Comparators (R348 to R350) -/

/-- Target of a comparator, ns. -/
def State.cmpTarget (s : State) (i : Nat) : Nat :=
  (s.fld (NTU_CMP_W2.T_SEC_LO i) + 2 ^ 32 * s.fld (NTU_CMP_W3.T_SEC_HI i)) * 1000000000 +
    s.fld (NTU_CMP_W1.T_NS i)

/-- The target of a comparator is replaced. -/
def State.setTarget (s : State) (i t : Nat) : State :=
  ((s.put (NTU_CMP_W2.T_SEC_LO i) (t / 1000000000)).put (NTU_CMP_W3.T_SEC_HI i)
    (t / 1000000000 / 2 ^ 32)).put (NTU_CMP_W1.T_NS i) (t % 1000000000)

/-- C(NT) − C(T) is 0 or more (R348). -/
def reached (now t : Nat) : Bool := 0 ≤ toSigned 40 (now % 2 ^ 40 + 2 ^ 40 - t % 2 ^ 40)

/-- A general comparator fires; a periodic one takes its next target (R350). -/
def State.fireCmp (s : State) (i : Nat) (late : Bool) : State :=
  let s := (s.put ⟨NTU_CMP_FIRED.adr, i, 1⟩ 1).raise NTU_IRQ_STAT.CMP
  let per := s.fld (NTU_CMP_W0.PERIOD_MS i) * 1000000
  if per = 0 then (s.put (NTU_CMP_W0.ARMED i) 0).putB (NTU_CMP_W0.LATE i) late
  else
    let t := s.cmpTarget i
    let k := (s.nt - t) / per + 1
    (s.setTarget i (t + k * per)).putB (NTU_CMP_W0.LATE i) (late || 1 < k)

/-- COMPARATOR_FIRE (R348). -/
def comparatorFire (i : Nat) (s : State) : State :=
  if s.up .ntu && s.bit (NTU_CMP_W0.ARMED i) && reached s.nt (s.cmpTarget i) then s.fireCmp i false else s

/-- A comparator armed afresh (R350). -/
def State.armedCmp (s : State) (i : Nat) : State :=
  ((s.put (NTU_CMP_W0.ARMED i) 1).put (NTU_CMP_W0.LATE i) 0).put (NTU_CMP_W0.CANCELLED i) 0

/-- CMP_ARM (R11, R348, R350). -/
def cmpArmBody (s : State) : Nat × State :=
  let i := s.fld NTU_CMD_ARG.INDEX
  let t := s.cmpTarget i
  if !s.inRange t then (stRefusedArg, s)
  else
    let s := s.armedCmp i
    (stDone, if t < s.nt then s.fireCmp i true else s)

/-- CMP_DISARM (R350). -/
def cmpDisarmBody (s : State) : Nat × State := (stDone, s.put (NTU_CMP_W0.ARMED (s.fld NTU_CMD_ARG.INDEX)) 0)

/-- Before a forced step: comparators whose target would lie more than 549 s away are disarmed, and their owners drop
what they held for them (R335, R349). -/
def State.disarmFar (s : State) (d : Int) : State :=
  let far := fun (t : Nat) => 549000000000 < ((t : Int) - ((s.nt : Int) + d)).natAbs
  let s := (List.range 16).foldl (fun s i =>
    if s.bit (NTU_CMP_W0.ARMED i) && far (s.cmpTarget i) then
      (s.put (NTU_CMP_W0.ARMED i) 0).put (NTU_CMP_W0.CANCELLED i) 1
    else s) s
  let s := { s with
    drv := { s.drv with loads := s.drv.loads.filter fun (l : Load) => !far l.at_ }
    lbus := { s.lbus with ports := s.lbus.ports.map fun (p : DlPort) => { p with committed := p.committed.filter fun x => !far x.1 } }
    upd := { s.upd with armed := s.upd.armed.filter fun (a : Armed) => !far a.at_ } }
  (List.range 8).foldl (fun s ch =>
    ((s.chan ch).timed.filter fun (t : Timed) => far (t.frame.launch.getD 0)).foldl (fun s t =>
      (s.dropTimed ch t).outcome ch t.frame .discarded) s) s

/-! ### Steps (R333, R335, R349) -/

/-- A signed 64-bit pair. -/
def State.pair64 (s : State) (lo hi : Nat) : Int := toSigned 64 (s.rd lo + 2 ^ 32 * s.rd hi)

/-- An accepted step is applied: NTU_STEP_LAST, the notices, the light field engine, and the comparators it passes
(R333, R349). -/
def State.applyStep (s : State) (d : Int) : State :=
  let was := s.nt
  let s := { s with ntu := { s.ntu with tb := ((s.ntu.tb : Int) + d * 65536).toNat } }
  let v := ofSigned 64 d
  let s := ((s.wr NTU_STEP_LAST_LO.adr v).wr NTU_STEP_LAST_HI.adr (v / 2 ^ 32)).raise NTU_IRQ_STAT.STEP
  let s := lfeTimeStep d (s.logEv 8 1 (nsBytes d))
  (List.range 16).foldl (fun s i =>
    if s.bit (NTU_CMP_W0.ARMED i) && was < s.cmpTarget i && s.cmpTarget i ≤ s.nt then s.fireCmp i true else s) s

/-- A step waits for the next update (R329). -/
def State.askStep (s : State) (d : Int) (forced : Bool) : State := { s with ntu := { s.ntu with step := some (d, forced) } }

/-- STEP (R333, R334). -/
def stepBody (s : State) : Nat × State :=
  let d := s.pair64 NTU_STEP_LO.adr NTU_STEP_HI.adr
  if s.jumpOver d then (stRefusedArg, s.jumpRefused d) else (stPending, s.askStep d false)

/-- STEP_FORCE (R335). -/
def stepForceBody (src : Src) (s : State) : Nat × State :=
  privileged src (fun s =>
    let d := s.pair64 NTU_STEP_LO.adr NTU_STEP_HI.adr
    (stPending, (s.disarmFar d).askStep d true)) s

/-- A write of NTU_PHASE (R331, R332). The slew of the running millisecond ends with it, and P begins at the next update. -/
def ntuPhaseWrite (src : Src) (v : Nat) (s : State) : State :=
  if !s.up .ntu then s
  else if s.bit NTU_CTL.SERVO = (src == .core) then
    if src == .core then s else s.put NTU_STAT.SERVO_OWNED 1
  else
    let p := toSigned 32 v
    if s.jumpOver p then s.jumpRefused p
    else ({ s with ntu := { s.ntu with phase := p * 65536 + s.ntu.slew } }).putI NTU_PHASE.NS p

/-! ### Sources (R336 to R338) -/

def State.ntuSrc (s : State) (k : Nat) : NtuSrc :=
  (s.ntu.srcs[k]?).getD { st := 0, meas := [], good := 0, lastAt := 0, disagree := false, badAt := none, ok := false
                          passed := false }

def State.updSrc (s : State) (k : Nat) (f : NtuSrc → NtuSrc) : State :=
  { s with ntu := { s.ntu with srcs := updAt s.ntu.srcs k f } }

/-- A measurement of a source: its time at a counter value, ns. -/
def NtuSrc.measured (x : NtuSrc) (f : Nat) (t : Int) : NtuSrc := { x with meas := ((f, t) :: x.meas).take 8 }

/-- The offset a measurement shows against the present base pair, ns; GNSS edges stand DELAY_NS late (Table 12.3). -/
def State.offsetOf (s : State) (k : Nat) (m : Nat × Int) : Int :=
  (m.2 * 65536 - s.ntLine m.1) / 65536 + (if k = 4 then s.cfI NTU_GNSS_CFG.DELAY_NS else 0)

/-- o_s: the offset of a source by its last measurement; nothing before one. -/
def State.offset (s : State) (k : Nat) : Option Int := ((s.ntuSrc k).meas.head?).map (s.offsetOf k)

/-- The last 8 offsets lie within `tol` ns of their mean. -/
def State.steady (s : State) (k tol : Nat) : Bool :=
  let l := (s.ntuSrc k).meas.map (s.offsetOf k)
  let sum := l.foldl (· + ·) 0
  l.length == 8 && l.all fun o => (8 * o - sum).natAbs ≤ 8 * tol

/-- The state of a source by Table 12.2: 0 absent, 1 qualifying, 2 intact. -/
def State.judgeSrc (s : State) (k : Nat) : Nat :=
  let x := s.ntuSrc k
  let now := s.ntu.frc
  if k < 2 then
    if !x.ok || x.lastAt + 4 * secs < now then 0
    else if s.steady k 1000 && ((x.meas.head?).map fun m => decide (now ≤ m.1 + 4 * secs)).getD false then 2 else 1
  else if k < 4 then
    if ((x.badAt).map fun t => decide (t + 100 * msec ≤ now)).getD false then 0
    else if x.ok && s.steady k 20 then 2
    else if x.ok || x.st != 0 then 1 else 0
  else if !s.cfB NTU_GNSS_CFG.EN || !x.ok || x.lastAt + 2 * secs < now then 0
  else if 10 ≤ x.good then 2 else 1

/-- Every source's state and offset, and its registers (Table 12.7). -/
def State.measureSrcs (s : State) : State :=
  (List.range 5).foldl (fun s k =>
    let st := s.judgeSrc k
    let s := (s.updSrc k fun x => { x with st := st, passed := x.passed && st == 2 }).put (NTU_SRC_W0.STATE k) st
    if st = 2 then s.putI (NTU_SRC_W1.OFFSET k) ((s.offset k).getD 0) else s) s

/-- The sources in the order of NTU_SRC_PRIO (R337). -/
def State.srcRank (s : State) : List Nat :=
  ((List.range 5).map fun k => bitsOf (s.cf NTU_SRC_PRIO.RANK) (4 * k) 4).filter (· < 5)

/-- A source is intact. -/
def State.intact (s : State) (k : Nat) : Bool := (s.ntuSrc k).st == 2

/-- Whether a source agrees with the current one, and what follows when it does not (R337). -/
def State.judgeAgree (s : State) (c k : Nat) : State :=
  if k = c then (s.updSrc k fun x => { x with disagree := false }).put (NTU_SRC_W0.DISAGREE k) 0
  else if !s.intact k then s
  else
    let d := (s.offset k).getD 0 - (s.offset c).getD 0
    if d.natAbs ≤ clampN 10 1000000 (s.cf NTU_SRC_TOL.NS) then
      (s.updSrc k fun x => { x with disagree := false }).put (NTU_SRC_W0.DISAGREE k) 0
    else if (s.ntuSrc k).disagree then s
    else
      (((s.updSrc k fun x => { x with disagree := true }).put (NTU_SRC_W0.DISAGREE k) 1).raise NTU_IRQ_STAT.DISAGREE).logEv
        8 3 (leBytes 1 k ++ leBytes 4 (ofSignedSat 32 d))

/-- Agreement of every source with the current one, and NTU_STAT.DISAGREE. -/
def State.judgeAll (s : State) : State :=
  let s := match s.ntuCur with
    | some c => (List.range 5).foldl (fun (s : State) k => s.judgeAgree c k) s
    | none => s
  s.putB NTU_STAT.DISAGREE (s.ntu.srcs.any (·.disagree))

/-- A source becomes current. -/
def State.follow (s : State) (k : Nat) : State := (s.setCur (some k)).setNtu ntuLocked

/-- A source passed over because its offset is beyond the limit: a refused jump, once while it stays so (R338). -/
def State.passOver (s : State) (k : Nat) : State :=
  if (s.ntuSrc k).passed then s
  else (s.updSrc k fun x => { x with passed := true }).jumpRefused ((s.offset k).getD 0)

/-- The highest-ranked intact source within the limit becomes current, with a step beyond 10 µs; without one, HOLDOVER
(R338, R339). -/
def State.takeUp (s : State) : List Nat → State
  | [] =>
    if s.fld NTU_STAT.STATE = ntuLocked then
      (s.setNtu ntuHoldover).raise NTU_IRQ_STAT.SRC_LOST
    else s
  | k :: t =>
    let o := (s.offset k).getD 0
    if s.jumpOver o then (s.passOver k).takeUp t
    else
      let s := if s.jumpLimit.isNone ∨ 10000 < o.natAbs then s.askStep o false else s
      s.follow k

/-- The mean of RATE over the last 64 s spent in LOCKED (R339). -/
def State.meanRate (s : State) : Int :=
  let stop := s.ntu.lockedAt
  let start := stop - 64 * secs
  let r := s.ntu.rates.foldl (fun (x : Int × Nat × Nat) (m : Nat × Int) =>
    let a := max m.1 start
    if a < x.2.2 then (x.1 + m.2 * ((x.2.2 - a : Nat) : Int), x.2.1 + (x.2.2 - a), a) else x) (0, 0, stop)
  if r.2.1 = 0 then s.ntu.rate else r.1 / (r.2.1 : Int)

/-- The rates that the mean of the last 64 s before counter value `f` needs: those begun since, and the one before them. -/
def recentRates (f : Nat) : List (Nat × Int) → List (Nat × Int)
  | [] => []
  | m :: t => if m.1 + 64 * secs ≤ f then [m] else m :: recentRates f t

/-- RATE in force from counter value `f` on. -/
def State.rateFrom (s : State) (f : Nat) (r : Int) : State :=
  { s with ntu := { s.ntu with rate := r, rates := (f, r) :: recentRates f s.ntu.rates } }

/-- RATE in force, and the register with it. -/
def State.setRate (s : State) (r : Int) : State := (s.rateFrom s.ntu.frc r).putI NTU_RATE.RATE r

/-- Selection of the source at an update (R337, R338). -/
def State.selectSrc (s : State) : State :=
  let rank := s.srcRank.filter s.intact
  match s.ntuCur with
  | none => (s.takeUp rank).judgeAll
  | some c =>
    let o := (s.offset c).getD 0
    let s := s.judgeAll
    if (s.ntuSrc c).st = 0 || s.jumpOver o then
      let s := if (s.ntuSrc c).st ≠ 0 then s.jumpRefused o else s
      let s := (s.setCur none).takeUp rank
      let s := if s.fld NTU_STAT.STATE = ntuHoldover then s.setRate s.meanRate else s
      s.judgeAll
    else
      match (s.srcRank.takeWhile (· != c)).find? fun k => s.intact k && !(s.ntuSrc k).disagree with
      | some k => (s.setCur (some k)).judgeAll
      | none => s

/-- The internal servo: an offset of up to 10 µs is slewed away, a larger one stepped (R332). -/
def State.servo (s : State) : State :=
  match s.ntuCur with
  | some c =>
    if s.bit NTU_CTL.SERVO || s.ntu.step.isSome || s.ntu.phase != 0 || s.fld NTU_STAT.STATE ≠ ntuLocked || !s.intact c then s
    else
      let o := (s.offset c).getD 0
      if o.natAbs ≤ 10000 then { s with ntu := { s.ntu with phase := o * 65536 } } else s.askStep o false
  | none => s

/-! ### The update (R329) -/

/-- The slew of the next millisecond: MAX_PPM in the direction of the phase, the total within ±500 ppm (R332). -/
def State.nextSlew (s : State) : Int :=
  let m : Int := (clampN 1 500 (s.cf NTU_SLEW.MAX_PPM) * 65536 : Nat)
  let r : Int := 500000 * 131072 * s.ntu.rate / (2 ^ 41 : Nat)
  let top : Int := 500 * 65536
  let p := s.ntu.phase
  if 0 ≤ p then min (min p m) (top - r) else max (max p (-m)) (-top - r)

/-- Steps 1 to 3 of an update at counter value `f`. -/
def State.rebase (s : State) (f : Nat) : State :=
  let s := { s with ntu := { s.ntu with tb := s.ntAt f, fb := f, phase := s.ntu.phase - s.ntu.slew, slew := 0 } }
  let r := clampI (-rateMax) rateMax (s.sfld NTU_RATE.RATE)
  let s := if s.fld NTU_STAT.STATE = ntuHoldover || r = s.ntu.rate then s
    else s.rateFrom f r
  let s := { s with ntu := { s.ntu with slew := s.nextSlew } }
  s.putI NTU_PHASE.NS (s.ntu.phase / 65536)

/-- Step 4: a waiting step (R329, R333, R335). -/
def State.stepNow (s : State) : State :=
  match s.ntu.step with
  | none => s
  | some (d, forced) =>
    let s := ({ s with ntu := { s.ntu with step := none } }).applyStep d
    let s := if forced then s.setNtu (if s.ntuCur.isSome then ntuLocked else ntuCoarse) else s
    if s.isPending .ntu 1 || s.isPending .ntu 2 || s.isPending .ntu 3 then finishCmd .ntu stDone s else s

/-- Time since LOCKED, in NTU_HOLD.ELAPSED_S (R339). -/
def State.countHold (s : State) : State :=
  match s.fld NTU_STAT.STATE with
  | 2 => ({ s with ntu := { s.ntu with lockedAt := s.ntu.frc } }).put NTU_HOLD.ELAPSED_S 0
  | 3 => s.put NTU_HOLD.ELAPSED_S (min 65535 (s.unlockedFor / secs))
  | _ => s

/-- NTU_UPDATE: the update at the last multiple of 500,000 counts (R329). -/
def ntuUpdate (s : State) : State :=
  let f := s.ntu.frc / 500000 * 500000
  if !s.up .ntu || !s.bit NTU_CTL.EN || f ≤ s.ntu.fb then s
  else
    let s := (s.boundary 0x80000 0x90000).rebase f
    (((s.stepNow.measureSrcs).countHold).selectSrc).servo

/-- HOLDOVER_EXPIRY (R339). -/
def holdoverExpiry (s : State) : State :=
  if s.up .ntu && s.fld NTU_STAT.STATE == ntuHoldover && s.cf NTU_HOLD.HOLD_S * secs ≤ s.unlockedFor then
    ((s.setNtu ntuFreerun).raise NTU_IRQ_STAT.HOLD_EXPIRED).logEv 8 4 (leBytes 2 (s.cf NTU_HOLD.HOLD_S))
  else s

/-- SRC_SELECT (R337). -/
def srcSelectBody (s : State) : Nat × State :=
  let k := s.fld NTU_CMD_ARG.INDEX
  if 4 < k then (stRefusedArg, s)
  else if !s.intact k then (stRefusedState, s)
  else
    let o := (s.offset k).getD 0
    if s.jumpOver o then (stRefusedArg, s.jumpRefused o)
    else if o = 0 then (stDone, s.follow k)
    else (stPending, (s.askStep o false).follow k)

/-- NTU_CMD. -/
def ntuStep (s : State) : State := runCmd .ntu 1 stepBody s
def ntuStepForce (src : Src) (s : State) : State := runCmd .ntu 2 (stepForceBody src) s
def ntuSrcSelect (s : State) : State := runCmd .ntu 3 srcSelectBody s
def ntuCmpArm (s : State) : State := runCmd .ntu 4 cmpArmBody s
def ntuCmpDisarm (s : State) : State := runCmd .ntu 5 cmpDisarmBody s

/-! ### UTC (R341) -/

/-- UTC, in seconds since 1970. -/
def State.utcSec (s : State) : Int := (s.ntSec : Int) - s.sfld NTU_UTC.OFS

/-- A new OFS: recorded in NVM, and a reason for a capture (R341, R351). -/
def State.setOfs (s : State) (ofs : Int) : State :=
  if s.sfld NTU_UTC.OFS = ofs then s
  else ({ s with ntu := { s.ntu with nvmOfs := ofs, ofsChg := true } }).putI NTU_UTC.OFS ofs

/-- LEAP_SECOND (R341). -/
def leapSecond (s : State) : State :=
  let d := s.utcSec % 86400
  if !s.up .ntu || !s.ntValid then s
  else if s.bit NTU_UTC.LEAP61 && d = 0 then (s.put NTU_UTC.LEAP61 0).setOfs (s.sfld NTU_UTC.OFS + 1)
  else if s.bit NTU_UTC.LEAP59 && d = 86399 then (s.put NTU_UTC.LEAP59 0).setOfs (s.sfld NTU_UTC.OFS - 1)
  else s

/-- RATE_RECORD: once an hour while LOCKED (R340). -/
def rateRecord (s : State) : State :=
  if s.up .ntu && s.fld NTU_STAT.STATE == ntuLocked && s.ntu.recAt + 3600 * secs ≤ s.ntu.frc then
    { s with ntu := { s.ntu with nvmRate := s.ntu.rate, recAt := s.ntu.frc } }
  else s

/-! ### GNSS (R336) -/

/-- The edge of a pulse (R336). -/
def State.gnssEdge (s : State) : State :=
  let f := s.ntu.frc
  let x := s.ntuSrc 4
  let even := x.lastAt + secs ≤ f + 1000 && f ≤ x.lastAt + secs + 1000
  let labelled := s.ntu.pps.isNone
  let s := s.updSrc 4 fun x => { x with lastAt := f, good := if even && labelled then x.good else 0 }
  { s with ntu := { s.ntu with pps := some f } }

/-- GNSS_PPS: an edge of the pulse at the pad. -/
def gnssPps (rising : Bool) (s : State) : State :=
  if !s.up .ntu || !s.cfB NTU_GNSS_CFG.EN || rising == s.cfB NTU_GNSS_CFG.EDGE then s else s.gnssEdge

/-- GNSS_SENTENCE: a time-of-day sentence has ended: whether it reports a fix, and its UTC second (since 1970). -/
def gnssSentence (fix : Bool) (utc : Nat) (s : State) : State :=
  if !s.up .ntu || !s.cfB NTU_GNSS_CFG.EN then s
  else if !fix then s.updSrc 4 fun x => { x with ok := false, good := 0 }
  else
    let s := s.updSrc 4 fun x => { x with ok := true }
    match s.ntu.pps with
    | none => s
    | some f =>
      if f + 10 * msec ≤ s.ntu.frc && s.ntu.frc ≤ f + 900 * msec then
        let t := ((utc : Int) + s.sfld NTU_UTC.OFS) * 1000000000
        let s := s.updSrc 4 fun x => { (x.measured f t) with good := x.good + 1 }
        { s with ntu := { s.ntu with pps := none } }
      else s

/-! ### PTP (R342 to R347) -/

/-- The correction of a backbone port's timestamps, in 2⁻¹⁶ ns: its own (Table 12.3) and NTU_PORT_CORR (R344). -/
def State.txCorr (s : State) (p : Nat) : Int :=
  (if s.bit (BBN_PORT_STAT.GIG p) then 6291456 else 2936013) + s.cfI (NTU_PORT_CORR.TX p) * 4096

def State.rxCorr (s : State) (p : Nat) : Int :=
  (if s.bit (BBN_PORT_STAT.GIG p) then -11534336 else -4613734) - s.cfI (NTU_PORT_CORR.RX p) * 4096

/-- The same for a Mistazil link (0 MZ_A, 1 MZ_B). -/
def State.mzTxCorr (s : State) (l : Nat) : Int := 1677722 + s.cfI (NTU_PORT_CORR.TX (2 + l)) * 4096
def State.mzRxCorr (s : State) (l : Nat) : Int := -2516582 - s.cfI (NTU_PORT_CORR.RX (2 + l)) * 4096

/-- A timestamp in 2⁻¹⁶ ns from network time now and a correction. -/
def State.stamp (s : State) (corr : Int) : Nat := ((s.ntSub : Int) + corr).toNat

/-- A PTP message is timestamped for the cores, and what they make of it is taken (R336, R341, R344). -/
def State.ptpTaken (s : State) (p : Nat) (sync slave : Bool) (off : Option Int) (utc : Option (Int × Bool × Bool)) (msg : List Byte) : State :=
  let t := s.stamp (s.rxCorr p)
  let s := s.emit (.core 18) (leBytes 1 p ++ leBytes 2 (t % 65536) ++ leBytes 4 (t / 65536 % 1000000000) ++
    leBytes 6 (t / 65536 / 1000000000) ++ msg)
  let f := s.ntu.frc
  let now := s.ntLine f / 65536
  let s := s.updSrc p fun x =>
    let x := { x with ok := slave, lastAt := if sync then f else x.lastAt }
    match off with
    | some o => x.measured f (now + o)
    | none => x
  match utc with
  | some (ofs, l61, l59) =>
    if s.ntuCur = some p then ((s.setOfs ofs).putB NTU_UTC.LEAP61 l61).putB NTU_UTC.LEAP59 l59 else s
  | none => s

/-- What the cores make of a PTP message: whether the port is in SLAVE state, the offset measured (ns, source less NT),
and what an announce carries: currentUtcOffset, leap61, leap59. -/
def ptpRx (p : Nat) (sync slave : Bool) (off : Option Int) (utc : Option (Int × Bool × Bool)) (msg : List Byte)
    (s : State) : State :=
  if !s.up .bbn || !s.bit BBN_CTL.EN || !s.up .ntu then s else s.ptpTaken p sync slave off utc msg

/-- Offset of the PTP message in an Ethernet frame, and of its UDP header where it has one (R347). -/
def ptpAt (b : List Byte) : Option (Nat × Option Nat) :=
  let o := if beAt b 12 2 = 0x8100 then 18 else 14
  let typ := beAt b (o - 2) 2
  if typ = 0x88F7 then some (o, none)
  else if typ = 0x0800 then
    let u := o + beAt b o 1 % 16 * 4
    some (u + 8, some u)
  else none

/-- Bytes with a part replaced. -/
def splice (b : List Byte) (o : Nat) (l : List Byte) : List Byte := b.take o ++ l ++ b.drop (o + l.length)

/-- A ones'-complement sum of 16-bit words. -/
def onesAdd (a b : Nat) : Nat := let n := a + b; n % 65536 + n / 65536

/-- RFC 1624: a checksum corrected for the 16-bit words that changed between two byte strings from `o` on. -/
def fixCsum (old new : List Byte) (o : Nat) (sum : Nat) : Nat :=
  let n := (old.length - o + 1) / 2
  65535 - (List.range n).foldl (fun c k =>
    let a := beAt (old ++ [0]) (o + 2 * k) 2
    let b := beAt (new ++ [0]) (o + 2 * k) 2
    if a = b then c else onesAdd (onesAdd c (65535 - a)) b) (65535 - sum)

/-- The insertion of R346: ORIGIN, ADD_CF. -/
def ptpInsert (origin addCf : Bool) (t p : Nat) (b : List Byte) : List Byte :=
  let cf := beAt b (p + 8) 8
  let b := if origin then splice b (p + 34) (beBytes 6 (t / 65536 / 1000000000) ++ beBytes 4 (t / 65536 % 1000000000)) else b
  let cf := if origin then cf + t % 65536 else cf
  splice b (p + 8) (beBytes 8 (if addCf then cf + t else cf))

/-- PTP_EGRESS: a PTP event message leaves BB port `p` with the flags the cores set; `bad` where the frame as it left the
buffer fails its FCS (R346, R347). -/
def ptpEgress (p : Nat) (origin addCf tsReq bad : Bool) (b : List Byte) (s : State) : State :=
  if !s.up .bbn || !s.bit BBN_CTL.EN || !s.up .ntu || !s.bit (BBN_PORT_STAT.LINK p) then s
  else
    let t := s.stamp (s.txCorr p)
    match ptpAt b with
    | none => s
    | some (o, udp) =>
      let c := ptpInsert origin addCf t o b
      let c := match udp with
        | some u =>
          let sum := beAt b (u + 6) 2
          if sum = 0 then c else splice c (u + 6) (beBytes 2 (fixCsum b c (u + 8) sum))
        | none => c
      let fcs := leBytes 4 (if bad then crc32 c ^^^ 0xFFFFFFFF else crc32 c)
      let s := (s.emit (.bb p) (c ++ fcs)).bump (BBN_PORT_TX.FRAMES p)
      if tsReq then
        s.emit (.core 18) (c.drop (o + 30) |>.take 2 |> (· ++ (beBytes 6 (t / 65536 / 1000000000) ++
          beBytes 4 (t / 65536 % 1000000000) ++ beBytes 2 (t % 65536))))
      else s

/-! ### Starts (R327, R340) -/

/-- A warm start: LOCKED becomes HOLDOVER with RATE kept (R21, R340; assumption 125); measurements are taken anew. -/
def ntuWarm (s : State) : State :=
  let s := if s.fld NTU_STAT.STATE = ntuLocked then s.setNtu ntuHoldover else s
  let x : NtuSrc := { st := 0, meas := [], good := 0, lastAt := 0, disagree := false, badAt := none, ok := false, passed := false }
  (({ s with ntu := { s.ntu with srcs := List.replicate 5 x, step := none, pps := none, exch := none } }).setCur none).put
    NTU_STAT.DISAGREE 0

/-- A cold start: FRC from 0, RATE and OFS from NVM; NT from the RTC, `rtc` in ns since 1970, or UNSET (R340). -/
def ntuCold (rtc : Option Nat) (s : State) : State :=
  let x : NtuSrc := { st := 0, meas := [], good := 0, lastAt := 0, disagree := false, badAt := none, ok := false, passed := false }
  let t : Int := ((rtc.getD 0 : Nat) : Int) + (if rtc.isSome then s.ntu.nvmOfs * 1000000000 else 0)
  let s := { s with ntu := { s.ntu with
    frc := 0, fb := 0, tb := t.toNat * 65536, rate := s.ntu.nvmRate, phase := 0, slew := 0, step := none
    srcs := List.replicate 5 x, lockedAt := 0, rates := [(0, s.ntu.nvmRate)], capAt := none, ofsChg := false, pps := none, exch := none, recAt := 0 } }
  let s := (s.putI NTU_RATE.RATE s.ntu.nvmRate).putI NTU_UTC.OFS s.ntu.nvmOfs
  (s.setCur none).setNtu (if rtc.isSome then ntuCoarse else ntuUnset)

end Sys2Proof.Machine
end

