-- ==== Sys2Proof/Machine/Mtr.lean ====
section
/-! DEFINITION. Feeder metering: calibrated samples, windows, energy, freeze, pulses and reconciliation (chapter 14, R382
to R404). -/

namespace Sys2Proof.Machine

def State.withMtr (s : State) (f : MtrState → MtrState) : State := { s with mtr := f s.mtr }

/-- The metering block runs. -/
def State.mtrOn (s : State) : Bool := s.up .mtr && s.bit MTR_CTL.EN

/-! ### Square roots -/

/-- The bits of a square root from bit `k` down, above the part `r` already found. -/
def sqrtBits (n : Nat) : Nat → Nat → Nat
  | 0, r => r
  | k + 1, r => if (r + 2 ^ k) * (r + 2 ^ k) ≤ n then sqrtBits n k (r + 2 ^ k) else sqrtBits n k r

/-- The square root of a number below 2⁸⁰⁰, rounded down. -/
def isqrt (n : Nat) : Nat := sqrtBits n 400 0

/-! ### Calibrated samples (R384, R385) -/

/-- One mV or mA in calibrated samples: 2³² × 10⁶. -/
def unitS : Nat := 2 ^ 32 * 1000000

/-- A channel is FAILED. -/
def State.mtrFailed (s : State) (ch : Nat) : Bool := s.bit (MTR_CH_STAT.FAILED ch)

/-- Calibrated samples of a channel, in 1/`unitS` mV or mA, from its raw signal scaled to the ×1 range with the neighbours
the delay filter needs. -/
def State.calibrated (s : State) (sig : List (List Int)) (ch : Nat) : List Int :=
  let raw := sig.getD ch []
  let gain : Int := s.cf (MTR_CH_GAIN.GAIN ch)
  if s.mtrFailed ch || gain == 0 then raw.map fun _ => 0
  else
    let t16 : Int := if s.bit (MTR_CH_STAT.RANGE16 ch) then s.cfI (MTR_CH_PHASE.RANGE16_TRIM ch) else 0
    let k := 1000000 + s.sfld (MTR_CH_COMP.C_G ch) + t16
    let ofs := s.cfI (MTR_CH_OFS.OFS ch)
    let d := clampI (-62500) 62500 (s.cfI (MTR_CH_PHASE.PHASE_NS ch) + s.sfld (MTR_CH_COMP.C_P ch))
    Config.fracDelay (raw.map fun r => (r - ofs) * gain * k) d

/-- The voltage and current channels of phase `p` of feeder `f` (R382). -/
def State.vCh (s : State) (f p : Nat) : Nat := 3 * s.fld (MTR_FDR_CFG.VSET f) + p
def iCh (f p : Nat) : Nat := 12 + 3 * f + p

/-- A sum of products. -/
def dot (l m : List Int) : Int := (List.zipWith (· * ·) l m).foldl (· + ·) 0

/-- The sums of a phase of a feeder: Σ v·i, Σ v90·i, Σ v², Σ i². -/
structure PhaseSums where
  p : Int
  q : Int
  vv : Nat
  ii : Nat
  n : Nat
deriving DecidableEq, Repr

/-- The sums of a phase; a failed channel's phase contributes nothing. -/
def State.phaseSums (s : State) (sig : List (List Int)) (f p : Nat) : PhaseSums :=
  if s.mtrFailed (s.vCh f p) || s.mtrFailed (iCh f p) then { p := 0, q := 0, vv := 0, ii := 0, n := 0 }
  else
    let v := s.calibrated sig (s.vCh f p)
    let i := s.calibrated sig (iCh f p)
    { p := dot v i, q := dot (Config.hilbert v) (Config.groupDelay i), vv := (dot v v).natAbs, ii := (dot i i).natAbs
      n := i.length }

/-! ### Energy (R393, R394) -/

/-- Units of energy in one mWh: a product of two samples over 62.5 µs is 1/57,600,000,000 mWh. -/
def energyDen : Nat := unitS * unitS * 57600000000

/-- A phase whose RMS current is below START_MA contributes nothing. -/
def State.started (s : State) (f : Nat) (x : PhaseSums) : Bool :=
  let m := s.cf (MTR_FDR_CFG.START_MA f) * unitS
  x.n * m * m ≤ x.ii

/-- e_P, e_Q and e_S of a feeder. -/
def State.feederEnergy (s : State) (sig : List (List Int)) (f : Nat) : Int × Int × Nat :=
  ((List.range 3).map (s.phaseSums sig f)).foldl (fun (a : Int × Int × Nat) x =>
    if s.started f x then (a.1 + x.p, a.2.1 + x.q, a.2.2 + isqrt (x.vv * x.ii)) else a) (0, 0, 0)

/-- What each of the seven accumulators receives (Table 14.4). -/
def accParts (e : Int × Int × Nat) : List Nat :=
  let p := e.1
  let q := e.2.1
  [if 0 ≤ p then p.toNat else 0, if p < 0 then (-p).toNat else 0, if 0 ≤ p ∧ 0 ≤ q then q.natAbs else 0,
   if p < 0 ∧ 0 ≤ q then q.natAbs else 0, if p < 0 ∧ q < 0 then q.natAbs else 0, if 0 ≤ p ∧ q < 0 then q.natAbs else 0, e.2.2]

/-- Accumulator `j` of feeder `f` receives energy; its remainder below one unit is carried. -/
def State.accrue (s : State) (f : Nat) (s₀ : State) (jn : Nat × Nat) : State :=
  let k := 7 * f + jn.1
  let r := s₀.mtr.rems.getD k 0 + jn.2
  let s := s.withMtr fun m => { m with rems := updAt m.rems k fun _ => r % energyDen
                                       carry := updAt m.carry k (· + jn.2) }
  let s := s.addAcc (MTR_FDR_ACC_LO.adr f jn.1) (MTR_FDR_ACC_HI.adr f jn.1) (r / energyDen)
  if jn.1 = 0 then
    s.withMtr fun m => { m with recs := m.recs.map fun (x : RecRun) =>
      if x.feeder == f then { x with fdr := x.fdr + r / energyDen } else x }
  else s

/-- Every enabled feeder's energy is transferred. -/
def State.transfer (s : State) (sig : List (List Int)) : State :=
  ((List.range 12).filter fun f => s.bit (MTR_FDR_CFG.EN f)).foldl (fun (s : State) f =>
    let parts := accParts (s.feederEnergy sig f)
    ((List.range 7).zip parts).foldl (fun (t : State) jn => t.accrue f s jn) s) s

/-! ### Pulses (R399, R400) -/

/-- The generator's feeders and quantity. -/
def State.pulseEnergy (s : State) (k : Nat) : Nat :=
  let f := s.cf (MTR_PULSE_CFG.FDR k)
  let q := s.cf (MTR_PULSE_CFG.QTY k)
  let j := if q = 7 then 0 else q
  if f < 12 then s.mtr.carry.getD (7 * f + j) 0
  else ((List.range 12).filter fun f => s.bit (MTR_FDR_CFG.EN f)).foldl (fun n f => n + s.mtr.carry.getD (7 * f + j) 0) 0

/-- The interval's energy is spread over the next interval. -/
def State.spreadPulse (s : State) (k : Nat) : State :=
  let e := if s.cfB (MTR_PULSE_CFG.EN k) then s.pulseEnergy k else 0
  s.withMtr fun m => { m with pulses := updAt m.pulses k fun (p : PulseRun) =>
    { p with residue := p.residue + p.spread, spread := e, start := s.clk } }

/-- One sample, in counts of 2 ns. -/
def sampleCounts : Nat := 31250

def State.pulse (s : State) (k : Nat) : PulseRun := (s.mtr.pulses[k]?).getD .fresh

def State.setPulse (s : State) (k : Nat) (p : PulseRun) : State :=
  (s.withMtr fun m => { m with pulses := updAt m.pulses k fun _ => p }).put (MTR_PULSE_STAT.BACKLOG k) p.waiting.length

/-- The FIOs that generator `k` drives (Table 9.3) take a level. -/
def State.pulsePin (s : State) (k : Nat) (high : Bool) : State :=
  ((List.range 72).filter fun i => s.fioMode i == 5 && s.cf (LBUS_FIO_CONT.SRC_IDX i) == k).foldl
    (fun (s : State) i => s.emit (.pulse i) [if high then 1 else 0]) s

/-- A pulse of a width starts. -/
def State.startPulse (s : State) (k w : Nat) : State :=
  let p := s.pulse k
  ((s.setPulse k { p with highUntil := some (s.clk + w), lowUntil := s.clk + 2 * w }).pulsePin k true).bump (MTR_PULSE_CNT.SENT k)

/-- Width of a pulse that falls due now (R400). -/
def State.pulseWidth (s : State) (k : Nat) : Nat :=
  let w := clampN 10 250 (s.cf (MTR_PULSE_CFG.WIDTH_MS k)) * msec
  match (s.pulse k).lastDue with
  | none => w
  | some t =>
    let d := s.clk - t
    if 2 * w ≤ d then w else max sampleCounts (d / 2 / sampleCounts * sampleCounts)

/-- A pulse of generator `k` falls due at energy `c`: it starts, waits its turn, or is lost (R399, R400). -/
def State.pulseNow (s : State) (k : Nat) (c : Int) : State :=
  let p := s.pulse k
  let w := s.pulseWidth k
  let s := s.setPulse k { p with residue := p.residue - c, lastDue := some s.clk }
  if p.highUntil.isNone && p.lowUntil ≤ s.clk && p.waiting.isEmpty then s.startPulse k w
  else if 65535 ≤ p.waiting.length then (s.put (MTR_PULSE_STAT.OVF k) 1).raise MTR_IRQ_STAT.PULSE_OVF
  else s.setPulse k { s.pulse k with waiting := p.waiting ++ [w] }

/-- The energy of one pulse of generator `k`. -/
def State.pulseConst (s : State) (k : Nat) : Int := (max 1 (s.cf (MTR_PULSE_CONST.UNITS k)) * energyDen : Nat)

/-- PULSE_DUE: the residue of generator `k` has reached CONST (R399). -/
def pulseDue (k : Nat) (s : State) : State :=
  let p := s.pulse k
  let n := min 160 ((s.clk - p.start) / sampleCounts)
  if !s.mtrOn || !s.cfB (MTR_PULSE_CFG.EN k) || p.residue + (p.spread * n / 160 : Nat) < s.pulseConst k then s
  else s.pulseNow k (s.pulseConst k)

/-- The running pulse ends where its width has passed (R400). -/
def State.pulseLow (s : State) (k : Nat) : State :=
  let p := s.pulse k
  match p.highUntil with
  | some t => if t ≤ s.clk then (s.setPulse k { p with highUntil := none }).pulsePin k false else s
  | none => s

/-- A waiting pulse starts where the output has been low for its width (R400). -/
def State.pulseNext (s : State) (k : Nat) : State :=
  let p := s.pulse k
  match p.waiting with
  | [] => s
  | w :: t => if p.highUntil.isNone && p.lowUntil ≤ s.clk then (s.setPulse k { p with waiting := t }).startPulse k w else s

/-- PULSE_END: the running pulse ends; when the output has been low for its width, a waiting one starts. -/
def pulseEnd (k : Nat) (s : State) : State := (s.pulseLow k).pulseNext k

/-! ### Reconciliation (R401, R402) -/

/-- WIN_MIN of a feeder, in counts of 2 ns. -/
def State.recWindow (s : State) (f : Nat) : Nat := clampN 1 240 (s.cf (MTR_FDR_REC_CFG.WIN_MIN f)) * 60 * secs

/-- A feeder's first window at its enable: shortened to end on a whole multiple of WIN_MIN after 00:00 UTC. -/
def State.firstWindow (s : State) (f : Nat) : RecRun :=
  let w := s.recWindow f
  let ofDay := ((((s.nt : Int) - s.sfld NTU_UTC.OFS * 1000000000) % 86400000000000).toNat) / 2
  { feeder := f, start := s.ntu.frc, len := if s.ntValid then w - ofDay % w else w, fdr := 0, ep := 0, ao := 0, heard := [] }

/-- The reconciliation windows follow REC_EN, and the AO members' ratings are added for one interval. -/
def State.recInterval (s : State) : State :=
  let on := fun f => s.cfB (MTR_FDR_REC_CFG.EN f)
  let keep := s.mtr.recs.filter fun (r : RecRun) => on r.feeder
  let new := (List.range 12).filter fun f => on f && !keep.any (·.feeder == f)
  let ao := fun (f : Nat) => ((s.epas fun n => s.fld (EPC_STATE.CLASS n) == 7 && s.inGroup n (s.cf (MTR_FDR_REC_CFG.GROUP f))).foldl
    (fun a n => a + s.fld (EPC_LVL_CMD.LEVEL n)) 0) * s.cf (MTR_FDR_REC_CFG3.AO_W f)
  s.withMtr fun m => { m with
    recs := (keep.map fun (r : RecRun) => { r with ao := r.ao + ao r.feeder }) ++ new.map s.firstWindow
    runs := m.runs.filter fun x => on x.1 }

/-- The window cannot be judged: too little energy, or a member that is not accounted for. -/
def State.recSkips (s : State) (r : RecRun) : Bool :=
  let g := s.cf (MTR_FDR_REC_CFG.GROUP r.feeder)
  decide (r.fdr < s.cf (MTR_FDR_REC_CFG3.MIN_WH r.feeder) * 1000) ||
    (s.epas fun n => s.inGroup n g && s.epState n != stEmpty).any fun n =>
      s.bit (EPC_RPT_FLAGS.SILENT n) || s.epState n == stUnavailable || s.bit (EPC_EN_STAT.IMPLAUSIBLE n) ||
        ([1, 3, 4].contains (s.fld (EPC_STATE.CLASS n)) && !r.heard.contains n)

/-- Parameters of MTR_LOSS and MTR_EXCESS: feeder, E_FDR and E_EP in Wh, saturating. -/
def recParam (f fdr ep : Nat) : List Byte :=
  leBytes 1 f ++ leBytes 3 (min (2 ^ 24 - 1) (fdr / 1000)) ++ leBytes 4 (min (2 ^ 32 - 1) (ep / 1000))

/-- A run ends: no flag, no windows. -/
def State.endRuns (s : State) (f : Nat) : State :=
  (((s.put (MTR_FDR_REC_STAT.LOSS f) 0).put (MTR_FDR_REC_STAT.EXCESS f) 0).put (MTR_FDR_REC_STAT.RUN f) 0).withMtr fun m =>
    { m with runs := m.runs.filter (·.1 != f) }

/-- A window counts towards a run of kind 1 LOSS or 2 EXCESS; at COUNT windows the flag is set. -/
def State.countRun (s : State) (f kind fdr ep : Nat) : State :=
  let same := s.mtr.runs.contains (f, kind)
  let n := if same then min 255 (s.fld (MTR_FDR_REC_STAT.RUN f) + 1) else 1
  let s := (s.put (MTR_FDR_REC_STAT.RUN f) n).withMtr fun m => { m with runs := (f, kind) :: m.runs.filter (·.1 != f) }
  if n ≠ max 1 (s.cf (MTR_FDR_REC_CFG.COUNT f)) then s
  else if kind = 1 then
    ((s.put (MTR_FDR_REC_STAT.LOSS f) 1).raise MTR_IRQ_STAT.REC_LOSS).logEv 16 6 (recParam f fdr ep)
  else ((s.put (MTR_FDR_REC_STAT.EXCESS f) 1).raise MTR_IRQ_STAT.REC_EXCESS).logEv 16 7 (recParam f fdr ep)

/-- E_EP of a window, mWh. -/
def RecRun.epTotal (r : RecRun) : Nat := r.ep + r.ao / (65535 * 360)

/-- LOSS of a window, mWh. -/
def State.recLoss (s : State) (r : RecRun) : Int :=
  let fixed := divRound (s.cf (MTR_FDR_REC_CFG2.FIXED_W r.feeder) * r.len * 10) (36 * secs)
  (r.fdr : Int) - r.epTotal - fixed

/-- A judged window. -/
def State.judgeRec (s : State) (r : RecRun) (loss : Int) : State :=
  let f := r.feeder
  let s := s.bump (MTR_FDR_REC_CNT.JUDGED f)
  if (s.cf (MTR_FDR_REC_CFG.LOSS_PCT f) * r.fdr : Nat) < 100 * loss then s.countRun f 1 r.fdr r.epTotal
  else if 100 * loss < -(s.cf (MTR_FDR_REC_CFG2.EXCESS_PCT f) * r.fdr : Nat) then s.countRun f 2 r.fdr r.epTotal
  else s.endRuns f

/-- A reconciliation window ends: its totals, and its judgement unless it is skipped (R401, R402). -/
def State.closeRec (s : State) (r : RecRun) : State :=
  let f := r.feeder
  let loss := s.recLoss r
  let skip := s.recSkips r
  let pct : Int := if r.fdr = 0 then 0 else divRoundI (10000 * loss) r.fdr
  let s := (s.put (MTR_FDR_REC_FDR.MWH f) (min (2 ^ 32 - 1) r.fdr)).put (MTR_FDR_REC_EP.MWH f) (min (2 ^ 32 - 1) r.epTotal)
  let s := (((s.putI (MTR_FDR_REC_LOSS.MWH f) loss)).putI (MTR_FDR_REC_STAT.PCT f) pct).putB (MTR_FDR_REC_STAT.SKIPPED f) skip
  let next : RecRun := { feeder := f, start := r.start + r.len, len := s.recWindow f, fdr := 0, ep := 0, ao := 0, heard := [] }
  let s := s.withMtr fun m => { m with recs := m.recs.map fun (x : RecRun) => if x.feeder == f then next else x }
  if skip then s.bump (MTR_FDR_REC_CNT.SKIPPED f) else s.judgeRec r loss

/-- REC_WINDOW_END: feeder `f`'s window has run its length. -/
def recWindowEnd (f : Nat) (s : State) : State :=
  match s.mtr.recs.find? (·.feeder == f) with
  | none => s
  | some r => if !s.mtrOn || s.ntu.frc < r.start + r.len then s else s.closeRec r

/-! ### The accumulation interval (R385 to R387, R393) -/

/-- A channel is at ×16: by its switch where AUTO is 1, by FIX16 where it is 0, never on a voltage channel. -/
def State.rangeNow (s : State) (ch : Nat) : Bool :=
  12 ≤ ch && (if s.bit (MTR_CH_CTL.AUTO ch) then s.bit (MTR_CH_STAT.RANGE16 ch) else s.bit (MTR_CH_CTL.FIX16 ch))

/-- A raw sample at full scale in the channel's range. -/
def atFull (r16 : Bool) (x : Int) : Bool :=
  let fs : Int := if r16 then 524287 else 8388607
  decide (fs ≤ x) || decide (x ≤ -fs - 1)

/-- A channel's flags and compensation at the end of an interval. -/
def State.chInterval (s : State) (sig : List (List Int)) (ch : Nat) : State :=
  let clip := (sig.getD ch []).any (atFull (s.bit (MTR_CH_STAT.RANGE16 ch)))
  let s := if clip then s.put (MTR_CH_STAT.CLIP ch) 1 else s
  let s := (s.putB (MTR_CH_STAT.UNCAL ch) (s.fld (MTR_CH_GAIN.GAIN ch) == 0)).putB (MTR_CH_STAT.RANGE16 ch) (s.rangeNow ch)
  match s.mtr.comps[ch]? with
  | some c => (s.putI (MTR_CH_COMP.C_G ch) c.1).putI (MTR_CH_COMP.C_P ch) c.2
  | none => s

/-- 160 samples have passed: energy, pulses, configuration and ranges (R385, R393). The last of them is a sample boundary (R17). -/
def State.endInterval (s : State) (sig : List (List Int)) : State :=
  let s := s.transfer sig
  let s := (List.range 16).foldl State.spreadPulse s
  let s := s.withMtr fun m => { m with carry := List.replicate 84 0, intAt := s.clk }
  let s := s.boundary 0x480000 0x500000
  (((List.range 48).foldl (fun (s : State) ch => s.chInterval sig ch) s).recInterval).swapEngines [10, 11]

/-- ACCUMULATION_INTERVAL: 160 samples have passed; the raw signal of each channel. -/
def accumulationInterval (sig : List (List Int)) (s : State) : State :=
  if !s.mtrOn || s.clk < s.mtr.intAt + 10 * msec then s else s.endInterval sig

/-- AUTO_RANGE_SWITCH: a current channel with AUTO switches range (R387). -/
def autoRangeSwitch (i : Nat) (to16 : Bool) (s : State) : State :=
  let ch := 12 + i
  if !s.mtrOn || !s.bit (MTR_CH_CTL.AUTO ch) || s.mtrFailed ch || s.bit (MTR_CH_STAT.RANGE16 ch) == to16 then s
  else (s.putB (MTR_CH_STAT.RANGE16 ch) to16).bumpBy (MTR_CH_STAT.INTERP ch) 4

/-- A table value at a temperature: linear between points, the end points outside (R386). -/
def State.compAt (s : State) (f : Nat → Fld) (t : Int) : Int :=
  let x := t - s.cfI MTR_COMP_T.T_START
  let step := max 1 (s.cf MTR_COMP_T.T_STEP)
  if x < 0 then s.cfI (f 0)
  else
    let k := x.toNat / step
    if 15 ≤ k then s.cfI (f 15)
    else s.cfI (f k) + divRoundI ((s.cfI (f (k + 1)) - s.cfI (f k)) * (x.toNat % step : Nat)) step

/-- MTR_TEMP_UPDATE: every 100 ms; the temperature in 0.1 °C. -/
def mtrTempUpdate (t : Int) (s : State) : State :=
  if !s.up .mtr then s
  else
    (s.putI MTR_TEMP.T t).withMtr fun m => { m with
      comps := (List.range 48).map fun ch =>
        (s.compAt (MTR_COMP.GAIN_PPM ch) t, s.compAt (MTR_COMP.PHASE_NS ch) t) }

/-! ### Zero crossings and windows (R388, R389) -/

/-- Periods in a window, and the nominal period in counts of 2 ns. -/
def State.periodsK (s : State) : Nat := if s.bit MTR_CTL.NOM60 then 12 else 10
def State.nomPeriod (s : State) : Nat := if s.bit MTR_CTL.NOM60 then 8333333 else 10000000

def State.setRun' (s : State) (k : Nat) : SetRun :=
  (s.mtr.sets[k]?).getD { last := none, first := none, start := 0, count := 0, ended := none }

def State.putSet (s : State) (k : Nat) (x : SetRun) : State := s.withMtr fun m => { m with sets := updAt m.sets k fun _ => x }

/-- A set runs. -/
def State.setOn (s : State) (k : Nat) : Bool := s.mtrOn && s.bit (MTR_SET_CFG.EN k)

/-- A crossing falls 14.3 to 25 ms after the previous one; the first after a loss has none to be judged by. -/
def State.crossingOk (s : State) (k : Nat) : Bool :=
  match (s.setRun' k).last with
  | some t => s.bit (MTR_SET_RES0.ZC_LOST k) || (7150000 ≤ s.clk - t && s.clk - t ≤ 12500000)
  | none => true

/-- ZERO_CROSSING: the reference phase of set `k` has crossed zero upward after at least 1 ms below its hysteresis. -/
def zeroCrossing (k : Nat) (s : State) : State :=
  if !s.setOn k || !s.crossingOk k then s
  else
    let x := s.setRun' k
    if s.bit (MTR_SET_RES0.ZC_LOST k) then
      let s := s.put (MTR_SET_RES0.ZC_LOST k) 0
      s.putSet k { x with last := some s.clk, first := some s.clk, start := s.clk, count := 0, ended := some none }
    else
      match x.first with
      | none => s.putSet k { x with last := some s.clk, first := some s.clk, start := s.clk, count := 0 }
      | some t =>
        if x.count + 1 = s.periodsK then
          s.putSet k { x with last := some s.clk, first := some s.clk, start := s.clk, count := 0, ended := some (some (s.clk - t)) }
        else s.putSet k { x with last := some s.clk, count := x.count + 1 }

/-- No crossing: flagged and logged (R388). -/
def State.loseZc (s : State) (k : Nat) : State :=
  (((s.put (MTR_SET_RES0.ZC_LOST k) 1).put (MTR_SET_FREQ.MHZ k) 0).raise MTR_IRQ_STAT.ZC_LOST).logEv 16 2 (leBytes 1 k)

/-- ZC_LOST: no crossing for ZC_TO × 0.1 nominal periods. -/
def zcLost (k : Nat) (s : State) : State :=
  let x := s.setRun' k
  let since := x.last.getD x.start
  let late := since + max 1 (s.cf (MTR_SET_ALARM.ZC_TO k)) * s.nomPeriod / 10 ≤ s.clk
  if !s.setOn k || s.bit (MTR_SET_RES0.ZC_LOST k) || !late then s else s.loseZc k

/-- Whether a window of set `k` has ended: on its crossings, its span with it; or on nominal periods. -/
def State.windowOver (s : State) (k : Nat) : Option (Option Nat) :=
  let x := s.setRun' k
  match x.ended with
  | some e => some e
  | none =>
    if s.bit (MTR_SET_RES0.ZC_LOST k) && x.start + s.periodsK * s.nomPeriod ≤ s.clk then some none else none

/-- RMS of N samples, mV or mA, rounded down. -/
def rms (sum n : Nat) : Nat := if n = 0 then 0 else isqrt (sum / n) / unitS

/-- A mean of N products of mV and mA, in mW or mvar. -/
def mean (sum : Int) (n : Nat) : Int := if n = 0 then 0 else divRoundI sum (n * unitS * unitS * 1000)

/-- RMS voltage of a phase of a set. -/
def State.vRms (s : State) (sig : List (List Int)) (k p : Nat) : Nat :=
  let v := s.calibrated sig (3 * k + p)
  rms (dot v v).natAbs v.length

/-- The set's results and alarms at a window's end (R389, R391). -/
def State.setResults (s : State) (sig : List (List Int)) (k : Nat) (span : Option Nat) : State :=
  let vs := (List.range 3).map (s.vRms sig k)
  let nom := s.cf (MTR_SET_CFG.VNOM_MV k)
  let uv := vs.any fun v => 100 * v < s.cf (MTR_SET_ALARM.UV_PCT k) * nom
  let ov := vs.any fun v => s.cf (MTR_SET_ALARM.OV_PCT k) * nom < 100 * v
  let new := (uv && !s.bit (MTR_SET_RES0.UV k)) || (ov && !s.bit (MTR_SET_RES0.OV k))
  let s := (List.range 3).foldl (fun (s : State) p => s.put (MTR_SET_VRMS.MV k p) (vs.getD p 0)) s
  let f := match span with
    | some d => divRound (s.periodsK * 1000 * secs) d
    | none => 0
  let s := ((s.put (MTR_SET_FREQ.MHZ k) f).put (MTR_SET_END.SEC k) s.ntSec).put (MTR_SET_RES0.SEQ k) (s.fld (MTR_SET_RES0.SEQ k) + 1)
  let s := ((s.putB (MTR_SET_RES0.NOSYNC k) span.isNone).putB (MTR_SET_RES0.UV k) uv).putB (MTR_SET_RES0.OV k) ov
  let s := s.put (MTR_SET_RES0.VALID k) 1
  if new then
    (s.raise MTR_IRQ_STAT.V_ALARM).logEv 16 3 (leBytes 1 k ++ leBytes 1 ((if uv then 1 else 0) + (if ov then 2 else 0)))
  else s

/-- The quantities of one phase of a feeder (Table 14.2). -/
def State.phaseResults (s : State) (f : Nat) (x : List PhaseSums) (p : Nat) : State :=
  match x[p]? with
  | none => s
  | some y =>
    let i := rms y.ii y.n
    let v := rms y.vv y.n
    (((s.put (MTR_FDR_IRMS.MA f p) i).putI (MTR_FDR_P.MW f p) (mean y.p y.n)).putI (MTR_FDR_Q.MVAR f p) (mean y.q y.n)).put
      (MTR_FDR_S.MVA f p) (v * i / 1000)

/-- A feeder's results at a window's end (R390, R391). -/
def State.feederResults (s : State) (sig : List (List Int)) (nosync : Bool) (f : Nat) : State :=
  let x := (List.range 3).map (s.phaseSums sig f)
  let s := (List.range 3).foldl (fun (s : State) p => s.phaseResults f x p) s
  let sum := fun (g : Nat → Fld) => (List.range 3).foldl (fun (a : Int) p => a + s.sfld (g p)) 0
  let pt := sum (MTR_FDR_P.MW f)
  let st := (List.range 3).foldl (fun a p => a + s.fld (MTR_FDR_S.MVA f p)) 0
  let s := ((s.putI (MTR_FDR_PT.TOTAL f) pt).putI (MTR_FDR_QT.TOTAL f) (sum (MTR_FDR_Q.MVAR f))).put (MTR_FDR_ST.TOTAL f) st
  let s := s.putI (MTR_FDR_PF.PF f) (if st = 0 then 0 else divRoundI (10000 * pt) st)
  let lim := s.cf (MTR_FDR_ALARM.IMAX_A f) * 1000
  let hit := (List.range 3).find? fun p => lim != 0 && decide (lim < s.fld (MTR_FDR_IRMS.MA f p))
  let new := hit.isSome && !s.bit (MTR_FDR_RES0.OC f)
  let part := (List.range 3).any fun p => s.mtrFailed (s.vCh f p) || s.mtrFailed (iCh f p)
  let s := ((s.put (MTR_FDR_RES0.SEQ f) (s.fld (MTR_FDR_RES0.SEQ f) + 1)).putB (MTR_FDR_RES0.NOSYNC f) nosync).putB (MTR_FDR_RES0.PARTIAL f) part
  let s := (s.putB (MTR_FDR_RES0.OC f) hit.isSome).put (MTR_FDR_RES0.VALID f) 1
  if new then (s.raise MTR_IRQ_STAT.OC).logEv 16 4 (leBytes 1 f ++ leBytes 1 (hit.getD 0)) else s

/-! ### Harmonics (R397, R398) -/

/-- A window at 2,048 points evenly spaced over its K periods (R397; assumption 134). -/
def resampled (x : List Int) : List Int :=
  (List.range 2048).map fun j =>
    if j * x.length % 2048 = 0 then x.getD (j * x.length / 2048) 0
    else Config.between x (j * x.length / 2048) (j * x.length % 2048)

/-- A product of two numbers in 2⁻⁶⁴, rounded. -/
def fixed64 (a : Int) : Int := (a + 2 ^ 63) / 2 ^ 64

/-- A unit vector turned on by 1/2,048 of a turn: the cosine and the sine, in 2⁻⁶⁴ (assumption 134). -/
def turnOn (p : Int × Int) : Int × Int :=
  (fixed64 (p.1 * 18446657259819241109 - p.2 * 56593813235639762),
   fixed64 (p.1 * 56593813235639762 + p.2 * 18446657259819241109))

/-- The cosines and sines of `n` angles 1/2,048 of a turn apart, from `p` on. -/
def turns : Nat → Int × Int → List (Int × Int)
  | 0, _ => []
  | n + 1, p => p :: turns n (turnOn p)

/-- The cosines and sines of all multiples of 1/2,048 of a turn. -/
def circle : List (Int × Int) := turns 2048 (2 ^ 64, 0)

/-- C_b² of 2,048 points: the square of the RMS value of bin `b` of their DFT (R397). -/
def binPower (pts : List Int) (b : Nat) : Nat :=
  let w := (List.range 2048).map fun j => circle.getD (b * j % 2048) (0, 0)
  let re := dot pts (w.map (·.1))
  let im := dot pts (w.map (·.2))
  (re * re + im * im).natAbs / 2 ^ 149

/-- Twice H_n² of a window's points, in squares of `unitS` (Table 14.5): order n lies at bin Kn. -/
def State.harmPower (s : State) (pts : List Int) (n : Nat) : Nat :=
  let k := s.periodsK
  let c := binPower pts
  match s.cf MTR_HARM_CTL.MODE with
  | 1 => 2 * (c (k * n - 1) + c (k * n) + c (k * n + 1))
  | 2 => 2 * c (k * n)
  | _ => c (k * n - k / 2) + 2 * ((List.range (k - 1)).map fun i => c (k * n + 1 + i - k / 2)).foldl (· + ·) 0 + c (k * n + k / 2)

/-- The 64 words of a channel: SEQ and THD, then H_n in 10 µV or 10 µA. -/
def State.harmWords (s : State) (sig : List (List Int)) (seq ch : Nat) : List Nat :=
  let pts := resampled (s.calibrated sig ch)
  let h2 := (List.range 63).map fun n => s.harmPower pts (n + 1)
  let h1 := h2.getD 0 0
  let thd := if h1 = 0 then 0 else isqrt (100000000 * ((h2.drop 1).foldl (· + ·) 0) / h1)
  (seq % 65536 * 65536 + min 65535 thd) :: h2.map fun h => isqrt (h * 5000 / (unitS * unitS))

/-- The channels whose windows are those of set `k`. -/
def State.setChannels (s : State) (k : Nat) : List Nat :=
  [3 * k, 3 * k + 1, 3 * k + 2] ++
    ((List.range 12).filter fun f => s.fld (MTR_FDR_CFG.VSET f) == k).flatMap fun f => (List.range 3).map (iCh f)

/-- The back bank becomes the front bank. -/
def State.swapHarm (s : State) : State :=
  let s := s.mtr.back.foldl (fun (s : State) x =>
    ((List.range 64).zip x.2).foldl (fun (s : State) y => s.wr (0x4C0000 + 0x100 * x.1 + 4 * y.1) y.2) s) s
  s.withMtr fun m => { m with back := [], fresh := [], ready := false }

/-- The swap, where the back bank is complete and not frozen. -/
def State.harmSwap (s : State) : State := if s.mtr.ready && !s.bit MTR_HARM_CTL.FREEZE then s.swapHarm else s

/-- The harmonic results of a set's window enter the back bank. -/
def State.harmWindow (s : State) (sig : List (List Int)) (k : Nat) : State :=
  let chs := s.setChannels k
  let seq := s.fld (MTR_SET_RES0.SEQ k)
  let new := chs.map fun ch => (ch, s.harmWords sig seq ch)
  let s := s.withMtr fun m => { m with back := m.back.filter (fun x => !chs.contains x.1) ++ new
                                       fresh := if m.fresh.contains k then m.fresh else k :: m.fresh }
  let all := ((List.range 4).filter fun j => s.bit (MTR_SET_CFG.EN j)).all s.mtr.fresh.contains
  (s.withMtr fun m => { m with ready := m.ready || all }).harmSwap

/-- A window of set `k` ends: the set's results, its feeders', and its harmonics (R389 to R398). -/
def State.closeWindow (s : State) (k : Nat) (sig : List (List Int)) (span : Option Nat) : State :=
  let x := s.setRun' k
  let s := s.putSet k { x with ended := none, start := if x.ended.isSome then x.start else x.start + s.periodsK * s.nomPeriod }
  let s := s.setResults sig k span
  let fs := (List.range 12).filter fun f => s.bit (MTR_FDR_CFG.EN f) && s.fld (MTR_FDR_CFG.VSET f) == k
  (fs.foldl (fun (s : State) f => s.feederResults sig span.isNone f) s).harmWindow sig k

/-- WINDOW_END: a window of set `k` has ended; the raw signal of each channel over it. -/
def windowEnd (k : Nat) (sig : List (List Int)) (s : State) : State :=
  match s.windowOver k with
  | none => s
  | some span => if !s.setOn k then s else s.closeWindow k sig span

/-- MTR_RESULT_READ: a read of word 0 of a block latches the words from `lo` to `hi` (R390). -/
def mtrResultRead (a lo hi : Nat) (s : State) : Nat × State :=
  (s.rd a, (List.range ((hi - lo) / 4 + 1)).foldl (fun (s : State) i => s.setLatch (lo + 4 * i) (s.rd (lo + 4 * i))) s)

/-! ### Freeze (R395) -/

/-- The low-word snapshot of R12: accumulator to shadow, and reset. -/
def State.rarSnap (s : State) (lo hi : Nat) : State := (s.setRar lo (s.acc lo hi)).setAcc lo hi 0

/-- The PENDING and REREAD bits of a feeder's accumulator. -/
def accPending (f j : Nat) : Fld := ⟨MTR_FDR_ACC_STAT.adr f, j, 1⟩
def accReread (f j : Nat) : Fld := ⟨MTR_FDR_ACC_STAT.adr f, 16 + j, 1⟩

/-- FREEZE_ALL: PENDING until its freeze sample. -/
def freezeAll (s : State) : State :=
  runCmd .mtr 1 (fun s =>
    let t := s.fld MTR_FREEZE_T_NS.NS + (s.fld MTR_FREEZE_T_SEC_LO.SEC_LO + 2 ^ 32 * s.fld MTR_FREEZE_T_SEC_HI.SEC_HI) * 1000000000
    if !s.bit MTR_CMD_ARG.AT then (stPending, s.withMtr fun m => { m with freezeAt := some 0 })
    else if t < s.nt || !s.inRange t then (stRefusedArg, s)
    else (stPending, s.withMtr fun m => { m with freezeAt := some t })) s

/-- One accumulator at the freeze sample. -/
def State.freezeAcc (s : State) (f j : Nat) : State :=
  if s.bit (accPending f j) then s.put MTR_STAT.FREEZE_SKIP (min 255 (s.fld MTR_STAT.FREEZE_SKIP + 1))
  else (s.rarSnap (MTR_FDR_ACC_LO.adr f j) (MTR_FDR_ACC_HI.adr f j)).put (accPending f j) 1

/-- The freeze sample: every accumulator of an enabled feeder (R395). -/
def State.freezeNow (s : State) (sig : List (List Int)) : State :=
  let s := (s.transfer sig).put MTR_STAT.FREEZE_SKIP 0
  let s := ((List.range 12).filter fun f => s.bit (MTR_FDR_CFG.EN f)).foldl (fun (s : State) f =>
    (List.range 7).foldl (fun (s : State) j => s.freezeAcc f j) s) s
  let s := (s.put MTR_FREEZE_AT_NS.NS s.ntNs).put MTR_FREEZE_AT_SEC.SEC s.ntSec
  finishCmd .mtr stDone ((s.withMtr fun m => { m with freezeAt := none }).raise MTR_IRQ_STAT.FREEZE)

/-- FREEZE_SAMPLE: the freeze sample has come; the raw signals since the last transfer. -/
def freezeSample (sig : List (List Int)) (s : State) : State :=
  match s.mtr.freezeAt with
  | none => s
  | some t => if !s.mtrOn || s.nt < t then s else s.freezeNow sig

/-! ### Modulators (R383, R384) -/

/-- A channel is FAILED: recorded in NVM, flagged and logged. -/
def State.channelFailed (s : State) (ch : Nat) : State :=
  if s.mtrFailed ch then s
  else
    let s := s.withMtr fun m => { m with lost := ch :: m.lost }
    let s := (s.put (MTR_CH_STAT.FAILED ch) 1).put MTR_STAT.IN_SERVICE (s.fld MTR_STAT.IN_SERVICE - 1)
    (s.raise MTR_IRQ_STAT.INPUT_LOST).logEv 16 1 (leBytes 1 ch)

/-- A spare modulator begins its trim beside the one in service. -/
def State.beginTrim (s : State) (ch m : Nat) : State := s.withMtr fun x => { x with trims := x.trims ++ [(ch, m, s.clk)] }

/-! ### Enables and starts -/

/-- A cold start discards a reconciliation window in progress, which counts as skipped (R401; assumption 144). -/
def State.recDiscard (s : State) (r : RecRun) : State :=
  (s.bump (MTR_FDR_REC_CNT.SKIPPED r.feeder)).put (MTR_FDR_REC_STAT.SKIPPED r.feeder) 1

/-- MTR_CTL.EN is set: intervals count from now. -/
def mtrEnable (s : State) : State :=
  s.withMtr fun m => { m with intAt := s.clk, sets := m.sets.map fun (x : SetRun) => { x with last := none, first := none, start := s.clk, count := 0 } }

end Sys2Proof.Machine
end

