-- ==== Sys2Proof/Machine/Write.lean ====
section
/-! DEFINITION. How a word takes a write by the change classes of its fields: masks, S-class locks, and H-class
shadows with their boundaries (R13, R43, R59, R61). -/

namespace Sys2Proof.Machine

/-! ### Masks -/

/-- The bits of a field. -/
def FieldDesc.mask (f : FieldDesc) : Nat := (2 ^ (f.hi - f.lo + 1) - 1) * 2 ^ f.lo

/-- The bits of the fields of a register that `p` accepts. -/
def RegDesc.maskOf (d : RegDesc) (p : FieldDesc → Bool) : Nat :=
  (d.fields.filter p).foldl (fun n f => n + f.mask) 0

/-- The bits of the fields of the word at an offset that `p` accepts; none in reserved space. -/
def maskAt (a : Nat) (p : FieldDesc → Bool) : Nat :=
  match findReg a with
  | none => 0
  | some (d, _) => d.maskOf p

/-- RW bits of a word, and those of one change class. -/
def rwMask (a : Nat) : Nat := maskAt a fun f => f.acc == .rw
def clsMask (a : Nat) (c : Cls) : Nat := maskAt a fun f => f.acc == .rw && f.cls == c

/-- A value with the bits of a mask replaced. -/
def maskIn (old v m : Nat) : Nat := old - (old &&& m) + (v &&& m)

/-- A masked write: OFFSET, VALUE, MASK (R43). -/
structure Wr where
  adr : Nat
  val : Nat
  mask : Nat
deriving DecidableEq, Repr

/-- The 12 bytes of an entry or triple (R43, Table 2.9). -/
def Wr.bytes (w : Wr) : List Byte := leBytes 4 w.adr ++ leBytes 4 w.val ++ leBytes 4 w.mask

/-- Bits of a writable field that no write of this word changes: PAIR of FIO 71 (R260), the VSYS wake source (Table 3.6), and
AUTO of a voltage channel (Table 14.8). -/
def fixedBits (a : Nat) : Nat :=
  if a = LBUS_FIO_DET.adr 71 then 2 ^ (LBUS_FIO_DET.PAIR 71).lo
  else if a = PWR_WAKE_EN.adr then 2 ^ 8
  else if 0x481000 ≤ a ∧ a < 0x481180 ∧ a % 32 = 0xC then 2 ^ (MTR_CH_CTL.AUTO 0).lo
  else 0

/-- Bits that a register table calls RW and a rule makes RO at this index: BASE, SIZE and NP of HBR_WIN 0 to 4, and the whole
range of HBR_WIN 15 (R355). -/
def roBits (a : Nat) : Nat :=
  if 0x680100 ≤ a ∧ a < 0x680114 then 2 ^ 31 + 0x7FF * 2 ^ 16 + 0x3FF
  else if a = 0x68013C then 0x7FF * 2 ^ 16 + 0x3FF
  else 0

/-- PUSH words of an up queue and POP words of a down queue are reserved space (R326). -/
def hmqReserved (a : Nat) : Bool :=
  let q := (a - 0x5C1000) / 64
  0x5C1000 ≤ a && a < 0x5C1800 &&
    (((a % 64 == 0x10 || a % 64 == 0x14) && 16 ≤ q) || ((a % 64 == 0x18 || a % 64 == 0x1C) && q < 16))

/-- Fields that clamp what is written, by register: lowest bit, width, least and largest value. -/
def clampRows : List (Nat × List (Nat × Nat × Nat × Nat)) := [
  (PWR_SOAK_TO.adr, [(0, 12, 1, 3600)]), (PWR_IDLE_CFG.adr, [(0, 11, 1, 1440)]),
  (PWR_RC0_LISTEN.adr, [(PWR_RC0_LISTEN.INTERVAL.lo, PWR_RC0_LISTEN.INTERVAL.w, 10, 10000)]),
  (EPC_JOIN_CTL.adr, [(0, 11, 1, 1440)]), (EPC_SILENT_TIME.adr, [(0, 17, 60, 86400)]),
  (HLT_TEMP_CFG.adr, [(16, 8, 100, 125), (8, 8, 110, 130)]), (KEY_SESS_CFG.adr, [(0, 16, 10, 3600)]),
  (UPD_CFG.adr, [(0, 16, 60, 65535)]), (UPD_EP_CTL.adr 0, [(0, 16, 2, 540)]), (NTU_SLEW.adr, [(0, 16, 1, 500)]),
  (NTU_JUMP.adr, [(0, 30, 1000, 1000000000)]), (NTU_SRC_TOL.adr, [(0, 20, 10, 1000000)]),
  (DRV_SCAN_CTL.adr, [(0, 16, 1, 1000)]), (DRV_GRP_CTL.adr 0, [(0, 16, 10, 60000)]),
  (DRV_GRP_PWM.adr 0, [(0, 20, 10000, 1048575)]),
  (DRV_GRP_FSW.adr 0, [((DRV_GRP_FSW.DIV 0).lo, (DRV_GRP_FSW.DIV 0).w, 250, 5000)]),
  (DRV_GRP_LIMIT.adr 0, [(16, 16, 10, 10000)]),
  (LBUS_SB_CFG.adr 0, [((LBUS_SB_CFG.BITDIV 0).lo, (LBUS_SB_CFG.BITDIV 0).w, 135, 104167)]),
  (LBUS_SB_POLL_W1.adr 0 0, [(0, 16, 100, 60000)]), (BBN_HB_CFG.adr, [(0, 16, 100, 60000)]),
  (MZL_CFG.adr, [(16, 14, 10, 10000)]), (HBR_HSPI_CFG.adr, [(0, 4, 1, 8)]), (HBR_FETCH_CFG.adr, [(0, 16, 10, 10000)]),
  (MTR_FDR_REC_CFG.adr 0, [(8, 8, 1, 240)]), (MTR_PULSE_CFG.adr 0, [(0, 16, 10, 250)]),
  (LFE_PROF_W1.adr 0, [((LFE_PROF_W1.LEAD 0).lo, (LFE_PROF_W1.LEAD 0).w, 0, 600),
    ((LFE_PROF_W1.HOLD 0).lo, (LFE_PROF_W1.HOLD 0).w, 0, 6000)]),
  (LFE_PROF_W3.adr 0, [((LFE_PROF_W3.ANGLE 0).lo, (LFE_PROF_W3.ANGLE 0).w, 0, 180),
    ((LFE_PROF_W3.LIFE 0).lo, (LFE_PROF_W3.LIFE 0).w, 1, 3600)]),
  (LFE_PROF_W4.adr 0, [((LFE_PROF_W4.HORIZON 0).lo, (LFE_PROF_W4.HORIZON 0).w, 1, 300),
    ((LFE_PROF_W4.HOPS 0).lo, (LFE_PROF_W4.HOPS 0).w, 1, 24)])]

/-- A value as a write of a register with this base stores it. -/
def clampWord (base v : Nat) : Nat :=
  match clampRows.find? (·.1 == base) with
  | none => v
  | some (_, l) => l.foldl (fun v x => putBits v x.1 x.2.1 (clampN x.2.2.1 x.2.2.2 (bitsOf v x.1 x.2.1))) v

/-- A mask joined with the whole of each clamped field of the register that it touches. -/
def clampMask (base m : Nat) : Nat :=
  match clampRows.find? (·.1 == base) with
  | none => m
  | some (_, l) => l.foldl (fun m x => if bitsOf m x.1 x.2.1 = 0 then m else m ||| (2 ^ x.2.1 - 1) * 2 ^ x.1) m

/-- A write as its register takes it: the fields that clamp do so whatever writes them, and the bits that nothing changes are
left out (R224, R227, R260, R264). -/
def State.takenWr (s : State) (w : Wr) : Wr :=
  match findReg w.adr with
  | none => w
  | some (d, _) =>
    let m := clampMask d.base (w.mask - (w.mask &&& (fixedBits w.adr ||| roBits w.adr)))
    { w with val := clampWord d.base (maskIn (s.rd w.adr) w.val w.mask), mask := m }

/-- A masked write of a table section's word: the block is disabled, and what is out of range is refused elsewhere (R43, R147,
R163). -/
def State.wrMask (s : State) (w : Wr) : State :=
  s.wr w.adr (maskIn (s.rd w.adr) w.val (w.mask - (w.mask &&& fixedBits w.adr)))

/-- A masked write to the register store, with no regard to class: the block is disabled (R43, R44). -/
def State.wrEntry (s : State) (w : Wr) : State := s.wrMask (s.takenWr w)

/-! ### The S class (R13) -/

/-- The word's S fields are locked: the object that owns them is enabled (R97, R181, R216, R241, R295, R325, R326, R352,
R381, R404, R443, R459, Table 18.8). -/
def State.locked (s : State) (a : Nat) : Bool :=
  if a < 0x10000 then false
  else if a < 0x50000 then s.bit HLT_AVS_CFG.EN
  else if a < 0x80000 then s.bit (UPD_EP_CFG.RUN (bitsOf a 6 2))
  else if a < 0x90000 then s.bit NTU_CTL.EN
  else if a < 0x100000 then s.bit PAIR_CFG.EN
  else if a < 0x300000 then [1, 2].contains (s.fld (EPC_STATE.STATE ((a - 0x100000) / 512)))
  else if a < 0x380000 then s.bit LFE_CTL.EN
  else if a < 0x401000 then (List.range 8).any fun k => s.bit (DRV_CH_CTL.EN (8 * bitsOf a 6 3 + k))
  else if a < 0x402000 then s.bit (DRV_CH_CTL.EN (bitsOf a 6 6))
  else if a < 0x440000 then s.bit (DRV_SET_CFG.EN (bitsOf a 6 4))
  else if a < 0x445000 then s.bit (LBUS_FIO_CFG.EN ((a - 0x443000) / 32))
  else if a < 0x480000 then s.bit (LBUS_SB_CFG.EN (bitsOf a 6 3))
  else if a < 0x500000 then s.bit MTR_CTL.EN
  else if a < 0x501000 then s.bit RAD_CTL.EN
  else if a < 0x580000 then s.bit (RAD_CH_CTL.EN (bitsOf a 7 3))
  else if a < 0x5C0000 then s.bit SWC_CTL.EN
  else if a < 0x600000 then s.bit (HMQ_Q_CFG.EN (bitsOf a 6 5))
  else if a < 0x640000 then s.bit BBN_CTL.EN
  else s.bit MZL_CFG.EN

/-! ### The H class (R61, Table 2.14) -/

/-- A frame is in progress on DL port `p`: more of its transaction is to come, or an answer. -/
def State.dlBusy (s : State) (p : Nat) : Bool :=
  match s.lbus.ports[p]? with
  | some d => d.waiting || !d.cur.isEmpty
  | none => false

/-- A frame is in progress on SB port `p`: the answer to a poll. -/
def State.sbBusy (s : State) (p : Nat) : Bool := s.lbus.polls.any fun (r : PollRun) => r.port == p && r.waiting

/-- An H write to this word waits for a boundary. Where the boundary is at once, or the object that owns the word is
disabled, it does not. A frame of BBN or MZL begins and ends within one command, and so does a 1 µs output update: between two
commands none is in progress, and their H writes take effect at once (assumption 42). A curve, set or compensation word of DRV is
written at once, and each channel takes it over at the end of its own period (`State.takeCopies`, R216). -/
def State.waits (s : State) (a : Nat) : Bool :=
  if a < 0x80000 then false
  else if a < 0x90000 then s.bit NTU_CTL.EN
  else if a < 0x300000 then false
  else if a < 0x340000 then true
  else if a < 0x380000 then s.bit LFE_CTL.EN
  else if a < 0x400000 then true
  else if a < 0x400200 then false
  else if a < 0x401000 then (List.range 8).any fun k => s.bit (DRV_CH_CTL.EN (8 * bitsOf a 6 3 + k))
  else if a < 0x402000 then s.bit (DRV_CH_CTL.EN (bitsOf a 6 6))
  else if a < 0x441000 then false
  else if a < 0x441400 then s.bit (LBUS_DL_CFG.EN ((a - 0x441000) / 64)) && s.dlBusy ((a - 0x441000) / 64)
  else if a < 0x445000 then false
  else if a < 0x445200 then s.bit (LBUS_SB_CFG.EN ((a - 0x445000) / 64)) && s.sbBusy ((a - 0x445000) / 64)
  else if a < 0x480000 then false
  else if a < 0x500000 then s.bit MTR_CTL.EN
  else if a < 0x501000 then false
  else if a < 0x580000 then s.bit RAD_CTL.EN && s.bit (RAD_CH_CTL.EN (bitsOf a 7 3))
  else if a < 0x5C0000 then s.bit SWC_CTL.EN
  else if a < 0x600000 then s.bit (HMQ_Q_CFG.EN (bitsOf a 6 5))
  else false

/-- Before an H write that waits, the word in force is kept, unless one is kept already: a second write replaces only the
pending value. SWC and HMQ words note the time of the write (Table 2.14). -/
def State.hold (s : State) (a : Nat) : State :=
  if !s.waits a then s
  else
    let s := if (regFind s.shadow a).isSome then s else { s with shadow := regIns s.shadow a (s.word a) }
    if 0x580000 ≤ a ∧ a < 0x600000 then
      { s with swc := { s.swc with writeAt := (a, s.clk) :: s.swc.writeAt.filter (·.1 != a) } }
    else s

/-- A masked write to the fields of a running block, each by its class: S fields keep their values where `keep` says so
(R48, R59). The answer is the bits of S fields that were to change and did not. -/
def State.classWrite (s : State) (w : Wr) (keep : Bool) : Nat × State :=
  let old := s.rd w.adr
  let w := s.takenWr w
  let st := if keep then clsMask w.adr .s else 0
  let m := w.mask &&& rwMask w.adr
  let s' := if m &&& clsMask w.adr .h = 0 then s else s.hold w.adr
  ((old ^^^ w.val) &&& m &&& st, s'.wr w.adr (maskIn old w.val (m - (m &&& st))))

end Sys2Proof.Machine
end

