-- ==== Sys2Proof/Machine/Cfg.lean ====
section
/-! DEFINITION. The configuration image, the settings store and the configuration digest (chapter 02, R36 to R68). -/

namespace Sys2Proof.Machine

/-! ### Lists and offsets -/

/-- Strictly rising. -/
def rising : List Nat → Bool
  | a :: b :: t => a < b && rising (b :: t)
  | _ => true

/-- Not falling. -/
def notFalling : List Nat → Bool
  | a :: b :: t => a ≤ b && notFalling (b :: t)
  | _ => true

/-- An offset lies in one of some ranges. -/
def inRanges (r : List (Nat × Nat)) (a : Nat) : Bool := r.any fun x => x.1 ≤ a && a < x.2

/-- The next multiple of 16. -/
def up16 (n : Nat) : Nat := (n + 15) / 16 * 16

/-- The EPC window (R44). -/
def epcWindow : List (Nat × Nat) := [(0x100000, 0x300000)]

/-- An entry or triple that keeps R44; a triple may address the EPC window (R52). Reserved space includes the words of R326, and
bits that R355 makes read-only are outside every RW field. -/
def Wr.ok (w : Wr) (epc : Bool) : Bool :=
  w.adr % 4 == 0 && (epc || !inRanges epcWindow w.adr) && (findReg w.adr).isSome && !hmqReserved w.adr &&
    (w.mask &&& rwMask w.adr) == w.mask && w.mask &&& roBits w.adr == 0

/-! ### Sections (R41, R42) -/

/-- A section: its header (Table 2.6) and its payload with padding. -/
structure Sect where
  typ : Nat
  count : Nat
  body : List Byte
deriving DecidableEq, Repr

/-- What loading has gathered: `t` holds the image alone, over reset values; `s` is the module, whose keys KEYS entries
use and fill; the writes; and the contexts named, with their states. -/
structure ImgLoad where
  t : State
  s : State
  ws : List Wr
  eps : List (Nat × Nat)

/-- Entry size and largest count of a section type (Table 2.7, R147). -/
def sectSize : Nat → Option (Nat × Nat)
  | 1 => some (12, 16384)
  | 2 => some (128, 4096)
  | 3 => some (40, 4096)
  | 4 => some (8, 65536)
  | 5 | 6 | 7 | 8 => some (8, 2 ^ 32)
  | 9 => some (160, 256)
  | _ => none

/-- Entry `k` of a section whose entries have `n` bytes. -/
def Sect.entry (c : Sect) (n k : Nat) : List Byte := (c.body.drop (n * k)).take n

/-- The entries of a section. -/
def Sect.entries (c : Sect) (n : Nat) : List (List Byte) := (List.range c.count).map (c.entry n)

/-- COUNT, LENGTH and padding agree (R41). -/
def Sect.sizeOk (c : Sect) (n lim : Nat) : Bool :=
  c.count ≤ lim && c.body.length == up16 (n * c.count) && (c.body.drop (n * c.count)).all (· == 0)

/-- A write of a table word is taken up. -/
def ImgLoad.add (l : ImgLoad) (w : Wr) : ImgLoad := { l with t := l.t.wrMask w, ws := l.ws ++ [w] }

/-- A REGSET entry is taken up. -/
def ImgLoad.addEntry (l : ImgLoad) (w : Wr) : ImgLoad := { l with t := l.t.wrEntry w, ws := l.ws ++ [w] }

/-- FAIL_CODE values a section can meet (Table 2.8). -/
def failCrc : Nat := 8
def failOrder : Nat := 9
def failType : Nat := 10
def failLimit : Nat := 11
def failTarget : Nat := 12

/-- REGSET: entries in file order (R43, R44). -/
def loadRegset (c : Sect) (l : ImgLoad) : ImgLoad ⊕ Nat :=
  let ws := (c.entries 12).map fun e => Wr.mk (leAt e 0 4) (leAt e 4 4) (leAt e 8 4)
  if ws.all (·.ok false) then .inl (ws.foldl ImgLoad.addEntry l) else .inr failTarget

/-- A table section: ascending offsets in its ranges, and no bit outside the RW fields (R147). -/
def loadTable (r : List (Nat × Nat)) (c : Sect) (l : ImgLoad) : ImgLoad ⊕ Nat :=
  let ws := (c.entries 8).map fun e => Wr.mk (leAt e 0 4) (leAt e 4 4) (rwMask (leAt e 0 4))
  if rising (ws.map (·.adr)) && ws.all (fun w => w.adr % 4 == 0 && inRanges r w.adr && (w.val &&& w.mask) == w.val) then
    .inl (ws.foldl ImgLoad.add l)
  else .inr failLimit

/-- A section's content is judged on the image as loaded so far. -/
def judge (p : ImgLoad → Bool) (r : ImgLoad ⊕ Nat) : ImgLoad ⊕ Nat :=
  match r with
  | .inl l => if p l then .inl l else .inr failLimit
  | .inr n => .inr n

/-- Word `k` of an ENDPOINTS entry sets no reserved bit: of word 0, EPA and STATE may be set as well (R102, R103). -/
def epWordOk (epa k v : Nat) : Bool :=
  (v &&& (rwMask (ctxBase epa + 4 * k) ||| (if k = 0 then 0x0FFF0007 else 0))) == v

/-- One ENDPOINTS entry (R100 to R103, R217, R218, R244, R256). A radio endpoint that asks for ACTIVE is RESERVED. -/
def loadEndpoint (r : ImgLoad ⊕ Nat) (e : List Byte) : ImgLoad ⊕ Nat :=
  match r with
  | .inr n => .inr n
  | .inl l =>
    let w0 := leAt e 0 4
    let epa := bitsOf w0 16 12
    let st := bitsOf w0 0 3
    let ks := List.range 32
    let l := ks.foldl (fun (l : ImgLoad) k => l.add ⟨ctxBase epa + 4 * k, leAt e (4 * k) 4, rwMask (ctxBase epa + 4 * k)⟩) l
    let good := ks.all (fun k => epWordOk epa k (leAt e (4 * k) 4)) && [1, 2, 3].contains st &&
      l.eps.all (fun x => x.1 < epa) &&
      classOk (l.t.fld (EPC_STATE.CLASS epa)) (l.t.reach epa) (l.t.fld (EPC_REACH.PORT epa)) (l.t.fld (EPC_REACH.ADDR epa)) &&
      !l.t.duplicate epa (l.t.euiOf epa) && !l.t.reachRefused epa
    let st := if st = 2 ∧ radioClass (l.t.fld (EPC_STATE.CLASS epa)) then 1 else st
    if good then .inl { l with t := l.t.put (EPC_STATE.STATE epa) st, eps := l.eps ++ [(epa, st)] } else .inr failLimit

/-- The edge words of a TOPOLOGY entry keep R162: no zero word before a non-zero one; of the edges, which have LEN above 0 (R161), none
to its own node, none without ROAD and FOOT, and no two to one node. -/
def edgesOk (epa : Nat) (es : List Nat) : Bool :=
  let live := es.filter (· != 0)
  let edges := live.filter fun e => bitsOf e 8 12 != 0
  es == live ++ List.replicate (8 - live.length) 0 &&
    edges.all (fun e => bitsOf e 6 2 != 0 && bitsOf e 20 12 != epa) &&
    (edges.map fun e => bitsOf e 20 12).eraseDups.length == edges.length

/-- One TOPOLOGY entry (R162). -/
def loadNode (prev : Option Nat) (e : List Byte) (l : ImgLoad) : Option ImgLoad :=
  let epa := leAt e 0 2
  let es := (List.range 8).map fun k => leAt e (8 + 4 * k) 4
  if epa < 4096 && prev.all (· < epa) && leAt e 2 1 == (es.filter (· != 0)).length && leAt e 3 5 == 0 && edgesOk epa es then
    some ((List.range 8).foldl (fun (l : ImgLoad) k => l.add ⟨ctxBase epa + 0x80 + 4 * k, es.getD k 0, 0xFFFFFFFF⟩) l)
  else none

/-- TOPOLOGY: entries in strictly ascending EPA order (R162). -/
def loadNodes : Option Nat → List (List Byte) → ImgLoad → ImgLoad ⊕ Nat
  | _, [], l => .inl l
  | prev, e :: t, l =>
    match loadNode prev e l with
    | none => .inr failLimit
    | some l => loadNodes (some (leAt e 0 2)) t l

/-- KEYS: blobs into volatile slots, in entry order (R406, R407). -/
def loadKeys : List (List Byte) → ImgLoad → ImgLoad ⊕ Nat
  | [], l => .inl l
  | e :: t, l =>
    match l.s.unwrap e 64 255 none 4 with
    | (0, s) => loadKeys t { l with s := s }
    | (_, _) => .inr failLimit

/-- Steps, exceptions as the SCHEDULES section must leave them (R134, R138, R147). -/
def schOk (l : ImgLoad) : Bool :=
  (List.range 256).all (fun p => (List.range 32).all fun k => !(l.t.schStep p k).bad) &&
    (List.range 128).all fun i => excOk (l.t.bit (SCH_EXC_W0.ANNUAL i)) (2000 + l.t.fld (SCH_EXC_W0.YEAR i))
      (l.t.fld (SCH_EXC_W0.MONTH i)) (l.t.fld (SCH_EXC_W0.DAY i))

/-- The ranges of Table 6.5: field, least and largest value. -/
def profRanges (p : Nat) : List (Fld × Nat × Nat) := [
  (LFE_PROF_W1.LEAD p, 0, 600), (LFE_PROF_W1.HOLD p, 0, 6000), (LFE_PROF_W3.ANGLE p, 0, 180), (LFE_PROF_W3.LIFE p, 1, 3600),
  (LFE_PROF_W4.HORIZON p, 1, 300), (LFE_PROF_W4.HOPS p, 1, 24)]

/-- Every profile is in range (R163). -/
def profOk (l : ImgLoad) : Bool :=
  (List.range 32).all fun p => (profRanges p).all fun x => x.2.1 ≤ l.t.fld x.1 && l.t.fld x.1 ≤ x.2.2

/-- Pattern members have entries, and fast engines keep R212 (R214). -/
def patsOk (l : ImgLoad) : Bool :=
  (List.range 32).all fun e => (l.t.patList e).all (fun n => l.eps.any (·.1 == n)) && l.t.fastOk e

/-- No curve falls, enabled sets keep R239, and no DIRECT endpoint has a colour's channel (R217, R218, R239, R268). -/
def curvesOk (l : ImgLoad) : Bool :=
  (List.range 16).all (fun c => notFalling ((List.range 17).map fun k => l.t.fld (DRV_CURVE.D c k))) &&
    (List.range 14).all (fun c => notFalling ((List.range 17).map fun k => l.t.fld (LBUS_ARC.ARC c k))) &&
    (List.range 8).all (fun c => notFalling ((List.range 17).map fun k => l.t.fld (LBUS_AO_CURVE.F c k))) &&
    (List.range 16).all (fun k => !l.t.bit (DRV_SET_CFG.EN k) || l.t.setOk k) && l.eps.all fun x => !l.t.reachRefused x.1

/-- A section of a known type is loaded (R42, Table 2.7). -/
def loadSect (c : Sect) (l : ImgLoad) : ImgLoad ⊕ Nat :=
  match sectSize c.typ with
  | none => .inl l
  | some (n, lim) =>
    if !c.sizeOk n lim then .inr failLimit
    else
      match c.typ with
      | 1 => loadRegset c l
      | 2 => (c.entries 128).foldl loadEndpoint (.inl l)
      | 3 => loadNodes none (c.entries 40) l
      | 4 => judge schOk (loadTable [(0x301000, 0x301900), (0x310000, 0x340000)] c l)
      | 5 => judge profOk (loadTable [(0x341000, 0x341400), (0x340200, 0x340220)] c l)
      | 6 => judge patsOk
          (loadTable [(0x38001C, 0x380080), (0x382000, 0x382800), (0x384000, 0x385000), (0x388000, 0x38C000)] c l)
      | 7 => judge curvesOk
          (loadTable [(0x404000, 0x404800), (0x406000, 0x406400), (0x408000, 0x409000), (0x444100, 0x444800),
            (0x444800, 0x444C00)] c l)
      | 8 => loadTable [(0x481000, 0x481600), (0x484000, 0x484C00), (0x480028, 0x48002C)] c l
      | _ => loadKeys (c.entries 160) l

/-- Sections one after another, `n` of them to come, the next with index `i`: what they load, or FAIL_CODE and FAIL_SECT
(R41, R42, R45), each section judged by the rows of Table 2.8 in order. A header that cannot be followed has no CRC to judge and
breaks the chaining. The first section follows no type. -/
def loadSects : Nat → Nat → Nat → List Byte → ImgLoad → ImgLoad ⊕ (Nat × Nat)
  | 0, _, _, _, l => .inl l
  | n + 1, i, prev, b, l =>
    let len := leAt b 4 4
    let rest := b.drop (16 + len)
    if b.length < 16 ∨ b.length < 16 + len then .inr (failOrder, i)
    else
      let body := (b.drop 16).take len
      let typ := leAt b 0 2
      if crc32 body ≠ leAt b 12 4 then .inr (failCrc, i)
      else if len % 16 ≠ 0 ∨ leAt b 2 2 ≠ 0 ∨ (i ≠ 0 ∧ typ ≤ prev) ∨ (n = 0 ∧ !rest.isEmpty) then .inr (failOrder, i)
      else if typ < 0x8000 ∧ (sectSize typ).isNone then .inr (failType, i)
      else
        match loadSect { typ := typ, count := leAt b 8 4, body := body } l with
        | .inr c => .inr (c, i)
        | .inl l => loadSects n (i + 1) typ rest l

/-! ### The image (R37 to R45) -/

/-- `n` bytes of the configuration flash from its start; past its content it reads 0xFF (R37). -/
def State.flash (s : State) (n : Nat) : List Byte := (s.cfg.cfgf ++ List.replicate n 0xFF).take n

/-- The key type that an algorithm needs, and its signature bytes (Table 2.5). -/
def sigType : Nat → Nat
  | 1 => 4
  | 2 => 5
  | _ => 3

/-- A signature verifies, and its padding is 0 (R40). -/
def sigOk (alg : Nat) (key msg sig : List Byte) : Bool :=
  match alg with
  | 1 => Config.ecdsaP256 key (Config.sha256 msg) (sig.take 32) ((sig.drop 32).take 32) && (sig.drop 64).all (· == 0)
  | 2 => Config.ecdsaP384 key (Config.sha384 msg) (sig.take 48) ((sig.drop 48).take 48) && (sig.drop 96).all (· == 0)
  | _ => Config.hmac256 key msg == sig.take 32 && (sig.drop 32).all (· == 0)

/-- The first header check that fails, rows 0x01 to 0x05 of Table 2.8; 0 where none does. -/
def headerFail (h : List Byte) : Nat :=
  if h.take 4 ≠ [0x54, 0x4C, 0x43, 0x49] then 1
  else if crc32 (h.take 0x7C) ≠ leAt h 0x7C 4 then 2
  else if leAt h 4 2 ≠ 1 then 3
  else if leAt h 8 2 ≠ 0x7A1C ∨ leAt h 0x0A 1 ≠ 1 ∨ !bitOf (leAt h 0x0C 4) 6 then 4
  else
    let len := leAt h 0x10 4
    if len < 272 ∨ 0x200000 < len ∨ len % 16 ≠ 0 ∨ leAt h 0x28 4 + 128 ≠ len ∨ leAt h 0x14 4 = 0 ∨
        leAt h 0x18 2 ≥ 0x4000 ∨ leAt h 0x1A 2 = 0 ∨ 16 < leAt h 0x1A 2 ∨ 1 < leAt h 0x1E 2 ∨ leAt h 0x0B 1 ≠ 0 ∨
        leAt h 0x2C 4 ≠ 0 ∨ (((h.drop 0x50).take 44).any (· != 0)) = true then 5
    else 0

/-- The module with nothing in its register store: what an image is loaded over (R54). -/
def State.blankRegs (s : State) : State := { s with regs := [], shadow := [] }

/-- The read of the configuration flash begins: quad-output fast read 0x6B, the three bytes of address 0, and 8 dummy cycles
(R37). The whole image comes of this one transaction (assumption 114). -/
def State.cfgfRead (s : State) : State := s.emit (.cfgf 8) [0x6B, 0, 0, 0]

/-- The image in the flash: loaded, or FAIL_CODE and FAIL_SECT, with what the checks did to the key store (R40, R45). -/
def readImage (s₀ : State) : State × (ImgLoad ⊕ (Nat × Nat)) :=
  let s := s₀.cfgfRead
  let h := s.flash 128
  let f := headerFail h
  let alg := leAt h 0x1C 1
  if f ≠ 0 then (s, .inr (f, 255))
  else if alg = 0 ∨ 3 < alg then (s, .inr (6, 255))
  else
    match s.useSlot (leAt h 0x1D 1) useCfgVerify (· == sigType alg) 4 with
    | (s, .inr _) => (s, .inr (6, 255))
    | (s, .inl key) =>
      let o := leAt h 0x28 4
      let img := s.flash (o + 128)
      if !sigOk alg key (img.take o) (img.drop o) then (s, .inr (7, 255))
      else
        match loadSects (leAt h 0x1A 2) 0 0 ((img.take o).drop 128) { t := s.blankRegs, s := s, ws := [], eps := [] } with
        | .inr x => (s, .inr x)
        | .inl l => (l.s, .inl l)

/-! ### The settings store (R49 to R53) -/

/-- An intact copy (R49). -/
structure Copy where
  gen : Nat
  base : Nat
  seg : Nat
  trip : List Wr
  raw : List Byte
deriving DecidableEq, Repr

/-- The intact copy an area holds (R49). -/
def Area.copy : Area → Option Copy
  | .blank => none
  | .bytes l =>
    let n := leAt l 0x0E 2
    let raw := l.take (0x14 + 12 * n)
    if l.take 4 = [0x54, 0x4C, 0x53, 0x53] ∧ n ≤ 10240 ∧ raw.length = 0x14 + 12 * n ∧
        crc32 (l.take (0x10 + 12 * n)) = leAt l (0x10 + 12 * n) 4 then
      some { gen := leAt l 4 4, base := leAt l 8 4, seg := leAt l 0x0C 2, raw := raw
             trip := (List.range n).map fun k => ⟨leAt l (16 + 12 * k) 4, leAt l (20 + 12 * k) 4, leAt l (24 + 12 * k) 4⟩ }
    else none

/-- A copy's bytes (Table 2.9). -/
def copyBytes (gen base seg : Nat) (t : List Wr) : List Byte :=
  let b := [0x54, 0x4C, 0x53, 0x53] ++ leBytes 4 gen ++ leBytes 4 base ++ leBytes 2 seg ++ leBytes 2 t.length ++
    t.flatMap Wr.bytes
  b ++ leBytes 4 (crc32 b)

/-- The outcome of Table 2.10. -/
inductive StoreRes where
  | none
  | bad
  | win (c : Copy)
  | conflict (gen : Nat)
deriving DecidableEq, Repr

/-- The highest generation of some copies. -/
def topGen (l : List Copy) : Nat := l.foldl (fun n c => max n c.gen) 0

/-- The rows of Table 2.10, in order (R50). -/
def storeDecide (as : List Area) : StoreRes :=
  let l := as.filterMap Area.copy
  match l with
  | [] => if as.all (· == .blank) then .none else .bad
  | _ =>
    match l.find? fun c => 2 ≤ (l.filter (·.raw == c.raw)).length with
    | some c => .win c
    | none =>
      match l.filter (·.gen == topGen l) with
      | [c] => .win c
      | _ => .conflict (topGen l)

/-- Copies of different generations are found: a STORE was cut short (R53; assumption 115). -/
def State.storeCutLog (s : State) (l : List Copy) : State :=
  if l.any (fun c => c.gen != topGen l) then
    s.logEv 1 7 (leBytes 4 (l.foldl (fun n d => min n d.gen) (topGen l)) ++ leBytes 4 (topGen l))
  else s

/-- The image's triples and the store's, and whether the store is applied (R50 to R52). -/
def storeRead (gen seg : Nat) (s : State) : State × List Wr :=
  let l := s.cfg.areas.filterMap Area.copy
  let r := storeDecide s.cfg.areas
  let last := match r with
    | .win c => c.gen
    | _ => topGen l
  let s := ({ s with cfg := { s.cfg with lastGen := last } }).storeCutLog l
  match r with
  | .none => (s, [])
  | .bad =>
    let map := (List.range 3).foldl (fun n k => if s.cfg.areas.getD k .blank == .blank then n else n + 2 ^ k) 0
    ((s.put CFG_STAT.STORE_BAD 1).logEv 1 4 (leBytes 1 map), [])
  | .conflict g => (((s.put CFG_STAT.CONFLICT 1).raise CFG_IRQ_STAT.CONFLICT).logEv 1 6 (leBytes 4 g), [])
  | .win c =>
    if c.base ≠ gen ∨ c.seg ≠ seg then ((s.put CFG_STAT.STORE_STALE 1).logEv 1 5 (leBytes 4 c.base ++ leBytes 2 c.seg), [])
    else
      let s := (List.range c.trip.length).foldl (fun (s : State) k =>
        let w := c.trip.getD k ⟨0, 0, 0⟩
        if w.ok true then s else s.logEv 1 8 (leBytes 4 w.adr ++ leBytes 2 k)) s
      ((s.put CFG_STAT.STORE_APPLIED 1).put CFG_STORE_GEN.GEN c.gen, c.trip.filter (·.ok true))

/-- After FIRING is entered, copies that differ from the winner are rewritten (R53): where a store was decided at this start, and
no STORE or CLEAR_STORE is at work on the areas. -/
def storeRewrite (s : State) : State :=
  match storeDecide s.cfg.areas with
  | .win c =>
    if s.bit CFG_STAT.STORE_STALE || s.cfg.image.isNone || s.cfg.storing.isSome || s.isPending .cfg 2 then s
    else
      { s with cfg := { s.cfg with areas := s.cfg.areas.map fun a =>
          if (a.copy.map (·.raw)) == some c.raw then a else .bytes c.raw } }
  | _ => s

/-! ### Application (R43, R48, R54) -/

/-- A context takes the state its image entry or its stored identity gives it: a stored identity makes a radio context
RESERVED and another ACTIVE, and a stored class of 0 EMPTY (R102; assumption 43). -/
def State.storedState (s : State) (epa : Nat) : State :=
  let c := s.fld (EPC_STATE.CLASS epa)
  if c = 0 then s.clearCtx epa
  else if s.epState epa ≠ stEmpty then s
  else s.setEpState epa (if radioClass c then stReserved else stActive)

/-- The contexts whose identity words a list of writes touches. -/
def identityEpas (ws : List Wr) : List Nat :=
  ((ws.filter fun w => inRanges epcWindow w.adr && w.adr % 512 < 16 && w.mask != 0).map fun w =>
    (w.adr - 0x100000) / 512).eraseDups

/-- A cold start applies image and store with every block disabled. -/
def applyCold (l : ImgLoad) (trip : List Wr) (s : State) : State :=
  let s := l.ws.foldl State.wrEntry s
  let s := l.eps.foldl (fun s x => s.setEpState x.1 x.2) s
  (identityEpas trip).foldl State.storedState (trip.foldl State.wrEntry s)

/-- Writes to the same word joined into one, in the order of first writing (R43). -/
def joinWr (acc : List Wr) (w : Wr) : List Wr :=
  if acc.any (·.adr == w.adr) then
    acc.map fun x => if x.adr == w.adr then ⟨x.adr, maskIn x.val w.val w.mask, x.mask ||| w.mask⟩ else x
  else acc ++ [w]

/-- A warm start keeps this word: ALWAYS-ON, DRIVE with AO, FIO and TS, and METER (Tables 1.1 and 1.6). -/
def survives (a : Nat) : Bool :=
  inRanges [(0, 0x10000), (0x20000, 0x40000), (0x80000, 0x300000), (0x400000, 0x440000), (0x440020, 0x440040),
    (0x442000, 0x444000), (0x444800, 0x445000), (0x446000, 0x447000), (0x480000, 0x500000), (0x680000, 0x6C0000)] a

/-- One word at a warm start: by class in a block that kept running, otherwise as at a cold start (R48). Edge words follow
the image (R162). -/
def warmWr (s : State) (w : Wr) : State :=
  if !survives w.adr then s.wrEntry w
  else if inRanges epcWindow w.adr && 0x80 ≤ w.adr % 512 && w.adr % 512 < 0xA0 then s.wr w.adr w.val
  else
    let r := s.classWrite w true
    if r.1 = 0 then r.2
    else ((r.2.put CFG_STAT.WARM_DIFF 1).raise CFG_IRQ_STAT.WARM_DIFF).logEv 1 3 (leBytes 4 w.adr ++ leBytes 4 w.val)

/-- A warm start applies image and store to what runs; contexts are kept (Table 2.2, R48). -/
def applyWarm (l : ImgLoad) (trip : List Wr) (s : State) : State :=
  let links := s.regs.filter fun x => inRanges epcWindow x.1 && 0x80 ≤ x.1 % 512 && x.1 % 512 < 0xA0
  let s := links.foldl (fun s x => s.wr x.1 0) s
  ((l.ws ++ trip).foldl joinWr []).foldl warmWr s

/-- The image is refused (R46). The start then enters SERVICE. -/
def imageRefused (code sect : Nat) (s : State) : State :=
  let s := { s with cfg := { s.cfg with image := none, baseline := [], lastGen := 0 } }
  ((s.put CFG_STAT.FAIL_CODE code).put CFG_STAT.FAIL_SECT sect).logEv 1 1 (leBytes 1 code ++ leBytes 1 sect)

/-- The image is accepted: generations, segment and baseline (R1, R47, R54, R65). -/
def imageAccepted (l : ImgLoad) (s : State) : State :=
  let h := s.flash 128
  let gen := leAt h 0x14 4
  let top := s.cfg.highestGen
  let s := (s.put CFG_STAT.IMG_OK 1).put CFG_IMG_GEN.GEN gen
  let s := if gen < top then (s.put CFG_STAT.GEN_LOWER 1).logEv 1 2 (leBytes 4 gen ++ leBytes 4 top) else s
  let s := (s.put SYS_ID_SEG.SEG (leAt h 0x18 2)).put SYS_ID_SEG.VALID 1
  { s with cfg := { s.cfg with highestGen := max gen top, image := some (gen, leAt h 0x18 2, leAt h 0x1D 1, leAt h 0x1E 2)
                               baseline := l.t.regs } }

/-- CFG_EPOCH (R65). -/
def State.pubEpoch (s : State) : State :=
  s.put CFG_EPOCH.EPOCH (s.imageGen % 65536 * 65536 +
    (if s.bit CFG_STAT.STORE_APPLIED then s.fld CFG_STORE_GEN.GEN % 65536 else 0))

/-- A STORE or CLEAR_STORE that a start cut short: how far it had come is a free value (R55, R57, R68). A copy being
erased or written is neither blank nor intact, or it is blank. The copies left are judged by Table 2.10, also where its row 4
gives the new content though copy 2 is torn (assumption 137). -/
def storeCut (s : State) : State :=
  let v := s.freeVal
  let k := v % 4
  let torn : Area → Area := fun a => if v / 4 % 3 = 0 then a else if v / 4 % 3 = 1 then .blank else .bytes []
  let after : Area := match s.cfg.storing with
    | some b => .bytes b
    | none => .blank
  let cut := fun (last : Nat) =>
    (List.range 3).map fun i =>
      let a := s.cfg.areas.getD i .blank
      if i < min k last then after else if i = min k last then torn a else a
  if s.cfg.storing.isSome then
    { s.useFree with cfg := { s.cfg with areas := cut 3, storing := none } }
  else if s.isPending .cfg 2 then
    let as := cut 2
    { s.useFree with cfg := { s.cfg with areas := if as.all (· == .blank) then s.cfg.areas else as } }
  else s

/-- Steps 9 to 11 of Table 2.1, or 6 to 8 of Table 2.2: image and store. The answer says whether the image is accepted. -/
def cfgStart (warm : Bool) (s : State) : Bool × State :=
  match readImage s with
  | (s, .inr (c, i)) => (false, imageRefused c i s)
  | (s, .inl l) =>
    let s := imageAccepted l s
    let p := storeRead s.imageGen s.seg s
    let s := if warm then applyWarm l p.2 p.1 else applyCold l p.2 p.1
    (true, s.pubEpoch)

/-! ### Digest sets (R62 to R67, Table 2.15) -/

/-- The offsets of a digest set's words, in ascending order: by Table 2.15 and the rule of each chapter (R131, R147, R162,
R163, R182, R214, R239, R268, R295, R325, R326, R352, R381, R403, R443, R459, R475). Set 9 is the image header. -/
def setRanges (k : Nat) : List (Nat × Nat) :=
  if 10 ≤ k ∧ k < 26 then
    (List.range 256).flatMap fun i =>
      let b := ctxBase (256 * (k - 10) + i)
      [(b, b + 0x80), (b + 0xA0, b + 0x200)]
  else if k = 30 then (List.range 4096).map fun i => (ctxBase i + 0x80, ctxBase i + 0xA0)
  else if 33 ≤ k ∧ k < 41 then
    let g := k - 33
    (if g = 0 then [(0x400000, 0x400200)] else []) ++
      [(0x400200 + 0x40 * g, 0x400240 + 0x40 * g), (0x401000 + 0x200 * g, 0x401200 + 0x200 * g)]
  else if 50 ≤ k ∧ k < 58 then
    let n := k - 50
    (if n = 0 then [(0x500000, 0x501000)] else []) ++ [(0x501000 + 0x80 * n, 0x501080 + 0x80 * n)]
  else
    match k with
    | 0 => [(0, 0x10000)]
    | 1 => [(0x20000, 0x30000)]
    | 2 => [(0x30000, 0x40000)]
    | 3 => [(0x40000, 0x50000)]
    | 4 => [(0x50000, 0x60000)]
    | 5 => [(0x60000, 0x70000)]
    | 6 => [(0x70000, 0x80000)]
    | 7 => [(0x80000, 0x90000)]
    | 8 => [(0x90000, 0xA0000)]
    | 26 => [(0x301000, 0x301400), (0x320000, 0x340000)]
    | 27 => [(0x300010, 0x300024), (0x301400, 0x301800)]
    | 28 => [(0x300024, 0x300080), (0x301800, 0x302000), (0x310000, 0x320000)]
    | 29 => [(0x340200, 0x342000)]
    | 31 => [(0x340000, 0x340200)]
    | 32 => [(0x380000, 0x3C0000)]
    | 41 => [(0x404000, 0x409000)]
    | 42 => [(0x441000, 0x442000), (0x444100, 0x444800)]
    | 43 => [(0x442000, 0x443000), (0x444800, 0x445000)]
    | 44 => [(0x443000, 0x444000)]
    | 45 => [(0x445000, 0x446000)]
    | 46 => [(0x446000, 0x447000)]
    | 47 => [(0x481000, 0x482000)]
    | 48 => [(0x480028, 0x48002C), (0x484000, 0x485000)]
    | 49 => [(0x480000, 0x480028), (0x48002C, 0x481000), (0x482000, 0x484000), (0x486000, 0x487000)]
    | 58 => [(0x580400, 0x582000)]
    | 59 => [(0x580000, 0x580400), (0x582000, 0x598000)]
    | 60 => [(0x5C0000, 0x600000)]
    | 61 => [(0x600000, 0x601000), (0x640000, 0x641000)]
    | 62 => [(0x680000, 0x681000), (0x6C0000, 0x6C1000)]
    | _ => []

/-- The table memories that image sections load (R54, Table 2.7). -/
def tableMem : List (Nat × Nat) := [
  (0x301000, 0x301900), (0x310000, 0x340000), (0x341000, 0x341400), (0x340200, 0x340220), (0x38001C, 0x380080),
  (0x382000, 0x382800), (0x384000, 0x385000), (0x388000, 0x38C000), (0x404000, 0x404800), (0x406000, 0x406400),
  (0x408000, 0x409000), (0x444100, 0x444C00), (0x481000, 0x481600), (0x484000, 0x484C00), (0x480028, 0x48002C)]

/-- An edge word of a context. -/
def isLink (a : Nat) : Bool := inRanges epcWindow a && 0x80 ≤ a % 512 && a % 512 < 0xA0

/-- A word of a table memory: every RW field of it is configuration. Of a context, the words an ENDPOINTS entry holds. -/
def isTable (a : Nat) : Bool := inRanges tableMem a || (inRanges epcWindow a && a % 512 < 0x80)

/-- The configuration-class bits of a word that STORE collects (R54). -/
def storeMask (a : Nat) : Nat := maskAt a fun f => f.acc == .rw && (isTable a || f.cls != .l)

/-- Word `w` of a KEY slot (Table 15.11): STATE, PERSIST, EXPIRE_RESET, TYPE, LC and USAGE; USES; KCV. -/
def State.slotWord (s : State) (n w : Nat) : Nat :=
  match s.slot n with
  | none => 0
  | some k =>
    match w with
    | 0 => (if k.exhausted then 2 else 1) * 2 ^ 30 + (if n < 64 then 2 ^ 29 else 0) + (if k.expireReset then 2 ^ 28 else 0) +
        k.typ * 2 ^ 24 + k.lc * 2 ^ 19 + k.usage
    | 1 => k.uses
    | 2 => k.kcv
    | _ => 0

/-- The configuration-class bits of a word that the digest covers: those, the edge words, and of every slot TYPE, USAGE,
LC, EXPIRE_RESET and KCV (R162, Table 15.11). -/
def cfgMask (a : Nat) : Nat :=
  if isLink a then 0xFFFFFFFF
  else if 0x61000 ≤ a ∧ a < 0x62000 then (if a % 16 = 0 then 0x1FF8FFFF else if a % 16 = 8 then 0xFFFFFFFF else 0)
  else storeMask a

/-- The value of a configuration-class word, a pending one as last written. -/
def State.cfgWord (s : State) (a : Nat) : Nat :=
  if 0x61000 ≤ a ∧ a < 0x62000 then s.slotWord ((a - 0x61000) / 16) (a % 16 / 4) else s.rd a

/-- What set digest `k` is taken over (R62). -/
def State.setBytes (s : State) (k : Nat) : List Byte :=
  if k = 9 then
    match s.cfg.image with
    | none => []
    | some (g, seg, _, fl) =>
      leBytes 4 0x14 ++ leBytes 4 g ++ leBytes 4 0x18 ++ leBytes 4 seg ++ leBytes 4 0x1C ++ leBytes 4 (fl * 65536)
  else
    (setRanges k).flatMap fun r => (List.range ((r.2 - r.1) / 4)).flatMap fun i =>
      let a := r.1 + 4 * i
      let m := cfgMask a
      if m = 0 then [] else leBytes 4 a ++ leBytes 4 (s.cfgWord a &&& m)

/-- The digest over a mask of sets (R63). -/
def State.digestOver (s : State) (m : Nat) : List Byte :=
  Config.sha256 (leBytes 8 m ++ ((List.range 64).filter (bitOf m ·)).flatMap fun k => s.cfg.digests.getD k [])

/-- Eight result words take 32 bytes (R66). -/
def State.putDigest (s : State) (f : Nat → Fld) (b : List Byte) : State :=
  (List.range 8).foldl (fun s n => s.put (f n) (leAt b (4 * n) 4)) s

/-- CFG_DIGEST as last published. -/
def State.digestWords (s : State) : List Nat := (List.range 8).map fun n => s.fld (CFG_DIGEST.WORD n)

/-- Set digest `k`, computed anew where it is stale or has not been computed. -/
def State.newDigest (s : State) (k : Nat) : List Byte :=
  if s.cfg.stale.contains k || s.cfg.digests.isEmpty then Config.sha256 (s.setBytes k) else s.cfg.digests.getD k []

/-- Every set digest is current. -/
def State.freshSets (s : State) : State :=
  { s with cfg := { s.cfg with digests := (List.range 64).map s.newDigest, stale := [] } }

/-- CFG_DIGEST takes a value, with DIGEST_CHANGED where it is a new one. -/
def State.pubDigest (s : State) (b : List Byte) : State :=
  if (s.putDigest CFG_DIGEST.WORD b).digestWords == s.digestWords then s
  else (s.putDigest CFG_DIGEST.WORD b).raise CFG_IRQ_STAT.DIGEST_CHANGED

/-- Every stale set digest, and CFG_DIGEST, computed anew (R64). -/
def State.redigest (s : State) : State := s.freshSets.pubDigest (s.freshSets.digestOver 0xFFFFFFFFFFFFFFFF)

/-- DIGEST_UPDATE (R64). -/
def digestUpdate (s : State) : State := if s.up .cfg && !s.cfg.stale.isEmpty then s.redigest else s

/-- CFG_REQ_MASK. -/
def State.reqMask (s : State) : Nat := s.fld CFG_REQ_MASK_LO.MASK + 2 ^ 32 * s.fld CFG_REQ_MASK_HI.MASK

/-- A requested set is stale. -/
def State.reqStale (s : State) : Bool := s.cfg.stale.any (bitOf s.reqMask ·)

/-- DIGEST_REQ (R67). -/
def digestReq (s : State) : State :=
  runCmd .cfg 3 (fun s => (stPending, { s with cfg := { s.cfg with reqAt := some s.clk } })) s

/-- Less than 50 ms, or exactly 50 ms, have passed since DIGEST_REQ (R67). -/
def State.reqInTime (s : State) : Bool := s.cfg.reqAt.all fun t => s.clk ≤ t + 50 * msec

/-- DIGEST_REQ_DONE: every requested set is current within 50 ms of the command (R67). The sets are those of CFG_REQ_MASK as it
stands now (assumption 116). -/
def digestReqDone (s : State) : State :=
  if s.up .cfg && s.isPending .cfg 3 && !s.reqStale && s.reqInTime then
    let s := s.putDigest CFG_REQ_DIGEST.WORD (s.digestOver s.reqMask)
    finishCmd .cfg stDone { s with cfg := { s.cfg with reqAt := none } }
  else s

/-- DIGEST_REQ_TIMEOUT: the 50 ms have passed and the command has not completed (R67). -/
def digestReqTimeout (s : State) : State :=
  if s.up .cfg && s.isPending .cfg 3 && !s.reqInTime then
    finishCmd .cfg stTimeout { s with cfg := { s.cfg with reqAt := none } }
  else s

/-- A word is latched by a read of another (R492). -/
def State.latchWord (s : State) (a v : Nat) : State :=
  { s with latch := s.latch.filter (·.1 != a) ++ [(a, BitVec.ofNat 32 v)] }

/-- CFG_DIGEST_READ: a read of CFG_DIGEST[0] latches the other words and CFG_EPOCH (R66). -/
def digestRead (s : State) : Nat × State :=
  let s' := (List.range 7).foldl (fun (s : State) k =>
    s.latchWord (CFG_DIGEST.adr (k + 1)) (s.fld (CFG_DIGEST.WORD (k + 1)))) s
  (s.fld (CFG_DIGEST.WORD 0), s'.latchWord CFG_EPOCH_LATCH.adr (s.fld CFG_EPOCH.EPOCH))

/-- Words that differ between two register stores: offsets with either word (`n` bounds the walk). -/
def regDiff : Nat → List (Nat × Word) → List (Nat × Word) → List Nat
  | 0, _, _ => []
  | _ + 1, [], l => l.map (·.1)
  | _ + 1, l, [] => l.map (·.1)
  | n + 1, (a, v) :: t, (b, w) :: u =>
    if a = b then (if v = w then regDiff n t u else a :: regDiff n t u)
    else if a < b then a :: regDiff n t ((b, w) :: u) else b :: regDiff n ((a, v) :: t) u

/-- The sets that hold a word. -/
def setsOf (a : Nat) : List Nat := (List.range 63).filter fun k => k != 9 && inRanges (setRanges k) a

/-- The sets a change of configuration between two states leaves stale (R64). -/
def staleSets (old s : State) : List Nat :=
  let l := (regDiff (old.regs.length + s.regs.length) old.regs s.regs).filter fun a =>
    (old.rd a &&& cfgMask a) != (s.rd a &&& cfgMask a)
  let key := if old.key.slots.map (fun k => (k.idx, k.typ, k.usage, k.lc, k.expireReset, k.key)) ==
      s.key.slots.map (fun k => (k.idx, k.typ, k.usage, k.lc, k.expireReset, k.key)) then [] else [5]
  (l.flatMap setsOf ++ key).eraseDups

/-! ### STORE and CLEAR_STORE (R54 to R57) -/

/-- The fields of a word in which two values differ, as a mask (R54). -/
def diffMask (a x y : Nat) : Nat :=
  maskAt a fun f => f.acc == .rw && (isTable a || f.cls != .l) && (x &&& f.mask) != (y &&& f.mask)

/-- The triples of a STORE: the configuration-class fields that differ from the baseline, offsets rising (R54). -/
def State.triples (s : State) : List Wr :=
  let base := fun a => ((regFind s.cfg.baseline a).getD (resetWord a)).toNat
  let l := regDiff (s.regs.length + s.cfg.baseline.length) s.regs s.cfg.baseline
  (l.map fun a => Wr.mk a (s.rd a &&& diffMask a (s.rd a) (base a)) (diffMask a (s.rd a) (base a))).filter (·.mask != 0)

/-- STORE (R54, R56): REFUSED_STATE in KINDLING, otherwise the content is collected at once, and the command stays PENDING.
Without an accepted image there is no baseline (assumption 44). -/
def cfgStore (s : State) : State :=
  runCmd .cfg 1 (fun s =>
    if s.pwr.mode = .kindling then (stRefusedState, s) else
    match s.cfg.image with
    | none => (stRefusedState, s)
    | some (g, seg, _, _) =>
      let t := s.triples
      if 10240 < t.length then (stNoResource, s)
      else 
        let b := copyBytes ((s.cfg.lastGen + 1) % 2 ^ 32) g seg t
        (stPending, { s with cfg := { s.cfg with storing := some b, storeJoins := s.epc.joins } })) s

/-- STORE_DONE: three copies compare correctly (R55, R56, R65). From here on the store stands for what is in force, applied at this
start or not (assumption 117). The join records that the STORE collected end with it (R128). -/
def storeDone (s : State) : State :=
  match s.cfg.storing with
  | none => s
  | some b =>
    if !s.up .cfg then s
    else
      let g := leAt b 4 4
      let s := { s with cfg := { s.cfg with areas := [.bytes b, .bytes b, .bytes b], storing := none, storeJoins := [], lastGen := g }
                        epc := { s.epc with joins := s.epc.joins.filter fun x => !s.cfg.storeJoins.contains x } }
      let s := ((s.put CFG_STAT.CONFLICT 0).put CFG_STAT.STORE_STALE 0).put CFG_STAT.STORE_APPLIED 1
      finishCmd .cfg stDone ((s.put CFG_STORE_GEN.GEN g).pubEpoch)

/-- CLEAR_STORE (R57). -/
def clearStore (s : State) : State :=
  runCmd .cfg 2 (fun s => (stPending, s)) s

/-- CLEAR_STORE_DONE: all three areas are blank (R57). -/
def clearStoreDone (s : State) : State :=
  if s.up .cfg && s.isPending .cfg 2 then
    finishCmd .cfg stDone { s with cfg := { s.cfg with areas := [.blank, .blank, .blank] } }
  else s

/-- A code of CFG_CMD (Table 2.11). -/
def cfgCmd (code : Nat) (s : State) : State :=
  match code with
  | 1 => cfgStore s
  | 2 => clearStore s
  | 3 => digestReq s
  | c => runCmd .cfg c (fun s => (stRefusedArg, s)) s

end Sys2Proof.Machine
end

