-- ==== Sys2Proof/Machine/Mzl.lean ====
section
/-! DEFINITION. Mistazil links: frames, credits, forwarding, enumeration, the TIME exchange and interrupt notices
(chapter 13, R361 to R365, R368, R369). -/

namespace Sys2Proof.Machine

/-! ### Frames (R361, Tables 13.6 and 13.7) -/

def mzReq : Nat := 0
def mzRsp : Nat := 1
def mzData : Nat := 2
def mzTime : Nat := 3
def mzCredit : Nat := 8
def mzEnum : Nat := 9
def mzIrq : Nat := 10

/-- One byte through CRC-8, polynomial 0x07 (Table 13.6). -/
def crc8Byte (c : Nat) (b : Byte) : Nat :=
  (List.range 8).foldl (fun c _ => if 128 ≤ c then (2 * c % 256) ^^^ 7 else 2 * c) (c ^^^ b.toNat)

/-- HDR_CHK over bytes 0 to 5. -/
def crc8 (l : List Byte) : Nat := l.foldl crc8Byte 0

/-- A frame's bytes: header, payload, CRC-32. -/
def MzFrame.bytes (f : MzFrame) : List Byte :=
  let h := leBytes 1 f.kind ++ leBytes 1 ((if f.adj then 128 else 0) + f.dst % 64) ++ leBytes 1 (f.src % 64) ++
    leBytes 1 f.tag ++ leBytes 2 f.payload.length
  let b := h ++ leBytes 1 (crc8 h) ++ [0] ++ f.payload
  b ++ leBytes 4 (crc32 b)

/-- The module's cascade position. -/
def State.pos (s : State) : Nat := s.fld SYS_ID_SEG.POS

/-- The module is enumerated (R364). -/
def State.enumerated (s : State) : Bool := s.bit MZL_STAT.ENUMERATED

/-- A link is up, of an MZL that is enabled. -/
def State.mzUp (s : State) (l : Nat) : Bool := s.up .mzl && s.bit MZL_CFG.EN && s.bit (MZL_LINK_STAT.UP l)

def State.withMz (s : State) (f : MzState → MzState) : State := { s with mz := f s.mz }

/-- One end of a link, and the same replaced. -/
def State.link (s : State) (l : Nat) : MzLink := (s.mz.links[l]?).getD .fresh

def State.setLink (s : State) (l : Nat) (x : MzLink) : State :=
  s.withMz fun m => { m with links := updAt m.links l fun _ => x }

/-- A frame goes out on a link. -/
def State.mzPut (s : State) (l : Nat) (f : MzFrame) : State :=
  (s.emit (.mzl l f.kind) f.bytes).bump (MZL_LINK_TX.FRAMES l)

/-! ### Credits (R362, R368) -/

/-- A frame of a credited class. -/
def credited (kind : Nat) : Bool := kind < 4

/-- Place of a kind's credit among REQ, RSP, TIME/LEASE, DATA. -/
def creditAt (kind : Nat) : Nat := if kind = mzReq then 0 else if kind = mzRsp then 1 else if kind = mzTime then 2 else 3

/-- Credit a frame takes (Table 13.7). -/
def creditOf (kind len : Nat) : Nat := if kind = mzData then (len + 255) / 256 else 1

/-- In BACKOFF, REQ and RSP draw on the pool (R368). -/
def State.creditIdx (s : State) (kind : Nat) : Nat :=
  if s.bit MZL_CFG.DLA && creditAt kind < 2 then 4 else creditAt kind

/-- A received frame's buffers are free: its credit goes back in a CREDIT frame (R362). -/
def State.returnCredit (s : State) (l kind len : Nat) : State :=
  if !credited kind || !s.mzUp l then s
  else
    let n := creditOf kind len
    let b := (List.range 4).flatMap fun k => leBytes 1 (if k = creditAt kind then n else 0)
    s.mzPut l { kind := mzCredit, adj := true, dst := 0, src := s.pos, tag := 0, payload := b }

/-- The order of service: TIME/LEASE, RSP, REQ, DATA (R362). -/
def mzOrder : List Nat := [mzTime, mzRsp, mzReq, mzData]

/-- Own REQs on a link without an RSP (R368). -/
def State.openReqs (s : State) (l : Nat) : Nat := s.mz.reqs.countP (·.link == l)

/-- A queued frame may go: there is credit, and for an own REQ in SEPARATE a free buffer for its RSP. An own REQ counts in
`openReqs` from the moment it is queued. -/
def State.mzMay (s : State) (l : Nat) (o : MzOut) : Bool :=
  let need := creditOf o.frame.kind o.frame.payload.length
  need ≤ (s.link l).credits.getD (s.creditIdx o.frame.kind) 0 &&
    (o.frame.kind != mzReq || o.transit || s.bit MZL_CFG.DLA || s.openReqs l ≤ 16)

/-- The next frame of a kind: transit and local frames alternate. -/
def MzLink.nextOf (x : MzLink) (kind : Nat) : Option MzOut :=
  let l := x.queue.filter (·.frame.kind == kind)
  match l.find? (fun o => o.transit != x.last.contains kind) with
  | some o => some o
  | none => l.head?

/-- The next frame a link can send. -/
def State.mzNext (s : State) (l : Nat) : Option MzOut :=
  mzOrder.findSome? fun k =>
    match (s.link l).nextOf k with
    | some o => if s.mzMay l o then some o else none
    | none => none

/-- A queued frame is sent: its credit is taken, and that of a transit frame goes back on the link it came by. -/
def State.mzLaunch (s : State) (l : Nat) (o : MzOut) : State :=
  let x := s.link l
  let k := o.frame.kind
  let last := x.last.filter (· != k)
  let x : MzLink := { x with queue := x.queue.erase o
                             credits := updAt x.credits (s.creditIdx k) (· - creditOf k o.frame.payload.length)
                             last := if o.transit then k :: last else last }
  let s := (s.setLink l x).mzPut l o.frame
  if o.transit then (s.bump (MZL_LINK_TRANSIT.FRAMES l)).returnCredit (1 - l) k o.frame.payload.length else s

/-- Frames leave a link while they can. -/
def State.mzPump (s : State) (l : Nat) : Nat → State
  | 0 => s
  | n + 1 =>
    if !s.mzUp l then s
    else
      match s.mzNext l with
      | none =>
        let x := s.link l
        let waits := x.queue.any fun o => o.frame.kind == mzReq
        s.setLink l { x with blockedAt := if waits then some (x.blockedAt.getD s.clk) else none }
      | some o => (s.mzLaunch l o).mzPump l n

/-- Frames leave a link while its credit lasts. -/
def State.mzFlow (s : State) (l : Nat) : State := s.mzPump l ((s.link l).queue.length + 1)

/-- A frame is offered to a link: control frames need no credit; on a link that is down it is lost, and a transit frame's
credit goes back. -/
def State.mzOffer (s : State) (l : Nat) (f : MzFrame) (transit : Bool) : State :=
  if !s.mzUp l then (if transit then s.returnCredit (1 - l) f.kind f.payload.length else s)
  else if !credited f.kind then
    (if transit then (s.mzPut l f).bump (MZL_LINK_TRANSIT.FRAMES l) else s.mzPut l f)
  else
    let x := s.link l
    (s.setLink l { x with queue := x.queue ++ [{ frame := f, transit := transit }] }).mzFlow l

/-- A frame of this module's own for the adjacent module. -/
def State.mzAdj (s : State) (l kind : Nat) (payload : List Byte) : State :=
  s.mzOffer l { kind := kind, adj := true, dst := 0, src := s.pos, tag := 0, payload := payload } false

/-! ### Receiving (R361, R365) -/

/-- A bad header: both ends restore their credits, and frames in flight are lost. -/
def State.retrain (s : State) (l : Nat) : State :=
  ((s.setLink l { s.link l with credits := MzLink.fresh.credits }).bump (MZL_LINK_STAT.RETRAIN l)).mzFlow l

/-- Where a frame from link `l` goes: to this module (`none`), onward on a link, or nowhere (link 2). -/
def State.mzRoute (s : State) (l : Nat) (x : MzRx) : Option Nat :=
  if x.adj || (s.enumerated && x.dst == s.pos) then none
  else if !s.enumerated then some 2
  else if l = 0 ∧ s.pos < x.dst then some 1
  else if l = 1 ∧ x.dst < s.pos then some 0
  else some 2

/-- The answer RETRY to a REQ that cannot go on, in the name of its target (R368). A module that cannot pass a REQ on for want
of a link answers in its own name (R367; assumption 45). -/
def retryRsp (x : MzFrame) : MzFrame :=
  { x with kind := mzRsp, dst := x.src, src := x.dst, payload := updAt x.payload 1 fun _ => 1 }

/-- A frame goes onward. A REQ whose link is down is answered RETRY. -/
def State.mzForward (s : State) (l out : Nat) (f : MzFrame) : State :=
  if out = 2 then s.returnCredit l f.kind f.payload.length
  else if f.kind = mzReq ∧ !s.mzUp out then
    (s.returnCredit l f.kind f.payload.length).mzOffer l { retryRsp f with src := s.pos } false
  else s.mzOffer out f true

/-- A frame for this module is taken: the neighbour's position is noted, and its credit goes back. -/
def State.mzTaken (s : State) (l kind : Nat) (x : MzRx) : State :=
  (if x.adj then s.put (MZL_LINK_STAT.PEER_POS l) x.src else s).returnCredit l kind x.payload.length

/-- A frame of a kind is received on link `l`; `use` is what the module does with one that is for itself. -/
def mzRecv (l kind : Nat) (x : MzRx) (use : State → State) (s : State) : State :=
  if !s.mzUp l then s
  else if !x.hdrOk then s.retrain l
  else
    let s := s.bump (MZL_LINK_RX.FRAMES l)
    let n := x.payload.length
    if !x.crcOk then (s.bump (MZL_LINK_CNT.CRC_ERR l)).returnCredit l kind n
    else
      match s.mzRoute l x with
      | some out =>
        s.mzForward l out { kind := kind, adj := x.adj, dst := x.dst, src := x.src, tag := x.tag, payload := x.payload }
      | none => use (s.mzTaken l kind x)

/-- CREDIT: the far end returns credits; they do not rise above the grant (R362). -/
def creditFrame (l : Nat) (x : MzRx) (s : State) : State :=
  mzRecv l mzCredit x (fun s =>
    let n := fun k => leAt x.payload k 1
    let y := s.link l
    let pool := y.credits.getD 4 0 + n 0 + n 1
    let c := (List.range 5).map fun k =>
      min (MzLink.fresh.credits.getD k 0) (if k = 4 then pool else y.credits.getD k 0 + n k)
    (s.setLink l { y with credits := c }).mzFlow l) s

/-! ### Enumeration (R364) -/

/-- ENUM goes out on MZ_B with POS + 1. -/
def State.sendEnum (s : State) (force : Bool) : State :=
  s.mzAdj 1 mzEnum (leBytes 1 (s.pos + 1) ++ leBytes 1 (if force then 1 else 0) ++ [0, 0])

/-- The module takes a position: ENUMERATED, ENUM downstream, and its answer towards POS 0 (assumption 46). -/
def State.takePos (s : State) (p : Nat) (force : Bool) : State :=
  let s := ((s.put SYS_ID_SEG.POS p).put MZL_STAT.ENUMERATED 1).sendEnum force
  if p = 0 then s.withMz fun m => { m with enumAt := some s.clk }
  else s.mzOffer 0 { kind := mzEnum, adj := false, dst := 0, src := p, tag := 0, payload := leBytes 1 p ++ [0, 0, 0] } false

/-- An ENUM from upstream carrying position `p`. -/
def State.enumOffered (s : State) (p : Nat) (force : Bool) : State :=
  if 63 < p then s
  else if !s.enumerated then s.takePos p force
  else if force then (s.takePos p force).logEv 21 2 (leBytes 1 s.pos ++ leBytes 1 p)
  else if s.pos = p then s
  else ((s.put MZL_STAT.POS_CONFLICT 1).raise MZL_IRQ_STAT.POS_CONFLICT).logEv 21 1 (leBytes 1 s.pos ++ leBytes 1 p)

/-- ENUM: from MZ_A a position offered; from MZ_B, at POS 0, the answer of a module that has taken one. -/
def enumFrame (l : Nat) (x : MzRx) (s : State) : State :=
  mzRecv l mzEnum x (fun s =>
    let p := leAt x.payload 0 1
    if l = 0 then s.enumOffered p (leAt x.payload 1 1 == 1)
    else if s.enumerated ∧ s.pos = 0 then
      let s := if s.fld MZL_STAT.LAST_POS < p then s.put MZL_STAT.LAST_POS p else s
      s.withMz fun m => { m with enumAt := some s.clk, answered := (p, s.clk) :: m.answered.filter (·.1 != p) }
    else s) s

/-- ENUM_TIMEOUT: no link on MZ_A for 100 ms after a cold start makes the module POS 0. -/
def enumTimeout (s : State) : State :=
  if s.up .mzl && s.bit MZL_CFG.EN && !s.enumerated && !s.mz.aSeen && s.epc.coldAt + 100 * msec ≤ s.clk then s.takePos 0 false
  else s

/-- ENUM_DONE: at POS 0, 10 ms without a further answer. -/
def enumDone (s : State) : State :=
  match s.mz.enumAt with
  | some t =>
    if s.up .mzl && s.enumerated && s.pos == 0 && t + 10 * msec ≤ s.clk then
      (s.raise MZL_IRQ_STAT.ENUM_DONE).withMz fun m => { m with enumAt := none }
    else s
  | none => s

/-- REENUM (MZL_CMD 0x01): at POS 0 only. -/
def mzReenum (s : State) : State :=
  runCmd .mzl 1 (fun s =>
    if s.enumerated && s.pos == 0 then
      (stDone, ((s.put MZL_STAT.LAST_POS 0).sendEnum true).withMz fun m => { m with enumAt := some s.clk })
    else (stRefusedState, s)) s

/-- A link comes up: credits anew; an enumerated module passes ENUM on. -/
def State.linkUp (s : State) (l : Nat) : State :=
  let s := ((s.put (MZL_LINK_STAT.UP l) 1).raise MZL_IRQ_STAT.LINK_CHG).setLink l .fresh
  if l = 0 then
    (s.updSrc 2 fun x => { x with badAt := none }).withMz fun m => { m with aSeen := true, timeAt := none }
  else if s.enumerated then s.sendEnum false else s

/-- A link goes down: its queue is lost, and the credit of transit frames goes back. -/
def State.linkDown (s : State) (l : Nat) : State :=
  let s := ((s.link l).queue.filter (·.transit)).foldl (fun (s : State) (o : MzOut) =>
    s.returnCredit (1 - l) o.frame.kind o.frame.payload.length) s
  let s := ((s.put (MZL_LINK_STAT.UP l) 0).raise MZL_IRQ_STAT.LINK_CHG).setLink l .fresh
  if l = 0 then
    s.updSrc 2 fun x => { x with ok := false, badAt := some (x.badAt.getD s.ntu.frc) }
  else s

/-- A link goes up or down; `same` says that the far end uses the same mode (R362, R364, R368). -/
def State.linkChange (s : State) (l : Nat) (upNow same : Bool) : State :=
  if !s.up .mzl || !s.bit MZL_CFG.EN then s
  else
    let s := s.putB MZL_STAT.DLA_MISMATCH (upNow && !same)
    let upNow := upNow && same
    if upNow = s.bit (MZL_LINK_STAT.UP l) then s
    else if upNow then s.linkUp l
    else s.linkDown l

/-! ### The TIME exchange (R363, Table 13.9) -/

/-- A timestamp of 12 bytes from 2⁻¹⁶ ns: seconds, nanoseconds, sub-nanoseconds. -/
def stampBytes (t : Nat) : List Byte :=
  leBytes 6 (t / 65536 / 1000000000) ++ leBytes 4 (t / 65536 % 1000000000) ++ leBytes 2 (t % 65536)

def stampAt (l : List Byte) (o : Nat) : Int :=
  (((leAt l o 6 * 1000000000 + leAt l (o + 6) 4) * 65536 + leAt l (o + 10) 2 : Nat) : Int)

/-- A TIME payload of this module. -/
def State.timePayload (s : State) (sub seq : Nat) (a b : List Byte) : List Byte :=
  leBytes 1 sub ++ leBytes 1 (s.fld NTU_STAT.SYNC) ++ leBytes 2 (s.fld NTU_UTC.OFS) ++ leBytes 2 seq ++ [0, 0] ++ a ++ b

/-- T_REQ leaves on MZ_A. -/
def State.sendTReq (s : State) : State :=
  let seq := (s.mz.timeSeq + 1) % 65536
  let t1 := s.stamp (s.mzTxCorr 0)
  let s := s.withMz fun m => { m with timeAt := some s.clk, timeSeq := seq }
  let s := { s with ntu := { s.ntu with exch := some (seq, (t1 : Int)) } }
  s.mzAdj 0 mzTime (s.timePayload 1 seq (stampBytes t1) (List.replicate 12 0))

/-- TIME_EXCHANGE: at link-up and every 1 ms, T_REQ leaves on MZ_A. -/
def timeExchange (s : State) : State :=
  let due := match s.mz.timeAt with
    | none => true
    | some t => t + msec ≤ s.clk
  if !s.mzUp 0 || !due then s else s.sendTReq

/-- T_REQ: the upstream module answers with the arrival and its own departure. -/
def tReq (l : Nat) (x : MzRx) (s : State) : State :=
  mzRecv l mzTime x (fun s =>
    if leAt x.payload 0 1 ≠ 1 then s
    else
      s.mzAdj l mzTime (s.timePayload 2 (leAt x.payload 4 2) (stampBytes (s.stamp (s.mzRxCorr l)))
        (stampBytes (s.stamp (s.mzTxCorr l))))) s

/-- T_RSP: the upstream module's offset is ((t2 − t1) + (t3 − t4)) / 2, a measurement of source 2. -/
def tRsp (l : Nat) (x : MzRx) (s : State) : State :=
  mzRecv l mzTime x (fun s =>
    match s.ntu.exch with
    | some (seq, t1) =>
      if l ≠ 0 ∨ leAt x.payload 0 1 ≠ 2 ∨ leAt x.payload 4 2 ≠ seq then s
      else
        let t4 : Int := s.stamp (s.mzRxCorr 0)
        let off := ((stampAt x.payload 8 - t1) + (stampAt x.payload 20 - t4)) / 2
        let sync := leAt x.payload 1 1 == 1
        let f := s.ntu.frc
        let s := s.updSrc 2 fun y =>
          { (y.measured f ((s.ntLine f + off) / 65536)) with
            ok := sync, lastAt := f, badAt := if sync then none else some (y.badAt.getD f) }
        let s := { s with ntu := { s.ntu with exch := none } }
        if s.ntuCur = some 2 then s.setOfs (toSigned 16 (leAt x.payload 2 2)) else s
    | none => s) s

/-! ### Interrupt notices (R369) -/

/-- An IRQ frame towards POS 0. -/
def State.sendIrq (s : State) : State :=
  let s := s.withMz fun m => { m with irqAt := s.clk }
  s.mzOffer 0 { kind := mzIrq, adj := false, dst := 0, src := s.pos, tag := 0
                payload := leBytes 1 (if s.irqCond then 1 else 0) ++ [0, 0, 0] } false

/-- IRQ_REPEAT: every 100 ms while the condition is true. -/
def irqRepeat (s : State) : State :=
  if s.mzUp 0 && s.pos != 0 && s.irqCond && s.mz.irqAt + 100 * msec ≤ s.clk then s.sendIrq else s

/-- MZL_IRQ: at POS 0, bit k of HBR_CASC_PEND follows position k. -/
def mzlIrq (l : Nat) (x : MzRx) (s : State) : State :=
  mzRecv l mzIrq x (fun s =>
    if s.pos ≠ 0 then s
    else
      let a := if x.src < 32 then HBR_CASC_PEND_LO.adr else HBR_CASC_PEND_HI.adr
      s.putB ⟨a, x.src % 32, 1⟩ (leAt x.payload 0 1 == 1)) s

/-! ### Switch packets (R362, R374) -/

/-- The switch port of a link. -/
def linkPort (l : Nat) : Nat := 10 + l

/-- A packet's bytes as they leave a port: DEI set on a tagged packet that is not green, where MARK_DEI says so (R303). -/
def State.egress (s : State) (d : Desc) : List Byte :=
  let b := match d.body with
    | .raw b => b
    | _ => []
  if s.cfB (SWC_PORT_CFG.MARK_DEI d.port) && d.colour != 0 && beAt b 12 2 == 0x8100 then
    updAt b 14 fun x => x ||| 0x10
  else b

/-- A packet from SP10 or SP11 leaves as DATA for the adjacent module (assumption 47). -/
def State.mzDequeue (s : State) (l : Nat) : State :=
  if !s.mzUp l || (s.link l).queue.any (fun o => o.frame.kind == mzData && !o.transit) then s
  else
    match s.schedule (linkPort l) with
    | (none, s) => s
    | (some d, s) => (s.dropDesc d).mzAdj l mzData (s.egress d)

end Sys2Proof.Machine
end

