-- ==== Sys2Proof/Machine/Emb.lean ====
section
/-! DEFINITION. The ember domain and its mirrors: RTC, write queue, capture, alarms, door and tamper record, PWR_ON, and
the RTC discipline of NTU (R86 to R95, R351). -/

namespace Sys2Proof.Machine

/-! ### The RTC (R86) -/

/-- The EMB fields in State replaced. -/
def State.withEmb (s : State) (f : EmbState → EmbState) : State := { s with emb := f s.emb }

/-- Seconds from 2000-01-01 to the end of 2199 (R86). -/
def rtcSpan : Nat := yearStart 2200 * 86400

/-- The prescaler: 32,768 counts a second (R88). -/
def State.presc (s : State) : Nat := min 32767 ((s.clk - s.emb.secAt) * 32768 / secs)

/-- EMB_RTC_TIME and EMB_RTC_DATE as they stand. -/
def State.rtcTime (s : State) : Nat := timeWord s.emb.rtc
def State.rtcDate (s : State) : Nat := dateWord (s.emb.rtc / 86400)

/-- The RTC in ns since 1970, prescaler included. -/
def State.rtcNs (s : State) : Nat := (epochSecs + s.emb.rtc) * 1000000000 + s.presc * 1000000000 / 32768

/-- A layout of EMB_RTC_TIME is a time of day, and its second. -/
def timeOk (v : Nat) : Bool := bitsOf v 16 5 < 24 && bitsOf v 8 6 < 60 && bitsOf v 0 6 < 60
def timeSec (v : Nat) : Nat := bitsOf v 16 5 * 3600 + bitsOf v 8 6 * 60 + bitsOf v 0 6

/-- A layout of EMB_RTC_DATE is a date up to 2199, and its day number. -/
def dateWordOk (v : Nat) : Bool := bitsOf v 16 8 ≤ 199 && dateOk (2000 + bitsOf v 16 8) (bitsOf v 8 4) (bitsOf v 0 5)
def dateWordDay (v : Nat) : Nat := dayOf (2000 + bitsOf v 16 8) (bitsOf v 8 4) (bitsOf v 0 5)

/-- EMB_RTC_TIME_READ: a read latches date and prescaler (R89). -/
def rtcTimeRead (s : State) : Nat × State :=
  (s.rtcTime, (s.setLatch EMB_RTC_DATE.adr s.rtcDate).setLatch EMB_RTC_SUBSEC.adr s.presc)

/-! ### The write queue (R87) -/

/-- Words of the mirror that a write reaches through the queue: RTC, alarms, periodic wake, controls and backups. -/
def isMirror (a : Nat) : Bool :=
  a == EMB_RTC_TIME.adr || a == EMB_RTC_DATE.adr || (0x30020 ≤ a && a < 0x30034) || a == EMB_TAMP_CTL.adr ||
    a == EMB_PWRON_CTL.adr || (0x30100 ≤ a && a < 0x30180)

/-- The words of EMB_ALARM[1] (R91). -/
def isAlarm1 (a : Nat) : Bool := a == EMB_ALARM.adr 1 || a == EMB_ALARM_DATE.adr 1

/-- EMB_MIRROR_WRITE: a write, of one word or of the RTC pair, enters the queue or is lost. A host write to EMB_ALARM[1] is
ignored (R87, R88, R91). -/
def embMirrorWrite (w : EmbWrite) (s : State) : State :=
  if !s.up .emb || !isMirror w.adr || (isAlarm1 w.adr && !w.own) then s
  else if 4 ≤ s.emb.queue.length then s.put EMB_STAT.WLOST 1
  else (s.withEmb fun e => { e with queue := e.queue ++ [w] }).put EMB_STAT.WBUSY 1

/-- A landed value is no date or time (R87). -/
def EmbWrite.bad (w : EmbWrite) : Bool :=
  if w.adr = EMB_RTC_TIME.adr then
    !timeOk w.val.toNat || (match w.pair with
      | some d => !dateWordOk d.toNat
      | none => false)
  else if w.adr = EMB_RTC_DATE.adr then !dateWordOk w.val.toNat
  else if 0x30020 ≤ w.adr ∧ w.adr < 0x30030 then (if w.adr % 8 = 0 then !timeOk w.val.toNat else !dateWordOk w.val.toNat)
  else false

/-- An alarm matches at the start of a second (R91). -/
def State.alarmMatch (s : State) (a : Nat) : Bool :=
  s.bit (EMB_ALARM.EN a) && bitsOf (s.rd (EMB_ALARM.adr a)) 0 21 == s.rtcTime &&
    (s.bit (EMB_ALARM.DAILY a) || bitsOf (s.rd (EMB_ALARM_DATE.adr a)) 0 24 == bitsOf s.rtcDate 0 24)

/-- PWR_ON returns to 1 where a control asks for it (R94). -/
def State.pwrOnBy (s : State) (f : Fld) : State := if s.bit f then s.put EMB_PWRON_CTL.LEVEL 1 else s

/-- A second of the RTC begins: alarms match and PWR_ON follows. The answer lists the alarms that matched; an entry to BANKED that
goes on latches those enabled as wake sources (R79). -/
def State.secondBegins (s : State) : List Nat × State :=
  let l := [0, 1].filter s.alarmMatch
  let b := ((if l.contains 0 then 2 else 0) + (if l.contains 1 then 4 else 0)) &&& s.fld PWR_WAKE_EN.EN
  let s := if s.pwr.entry.isSome then { s with pwr := { s.pwr with latched := s.pwr.latched ||| b } } else s
  let s := if l.contains 0 then (s.raise EMB_IRQ_STAT.ALARM0).pwrOnBy EMB_PWRON_CTL.SET_ON_ALARM0 else s
  (l, if l.contains 1 then s.raise EMB_IRQ_STAT.ALARM1 else s)

/-- EMB_PERIOD in counts of 2 ns: units of 1/256 s, from 1 to 22,118,400. -/
def State.periodTime (s : State) : Nat := clampN 1 22118400 (s.fld EMB_PERIOD.PERIOD) * (secs / 256)

/-- A good value lands (R86, R88, R91, R94), and the alarms that match where a second begins with it. Every landed write of
EMB_PERIOD with EN 1 starts the count anew (assumption 120). -/
def State.embLand (s : State) (w : EmbWrite) : List Nat × State :=
  if w.adr = EMB_RTC_TIME.adr then
    let day := match w.pair with
      | some d => dateWordDay d.toNat
      | none => s.emb.rtc / 86400
    ((s.withEmb fun e => { e with rtc := 86400 * day + timeSec w.val.toNat, secAt := s.clk }).put
      EMB_STAT.RTC_INVALID 0).secondBegins
  else if w.adr = EMB_RTC_DATE.adr then
    ([], s.withEmb fun e => { e with rtc := 86400 * dateWordDay w.val.toNat + e.rtc % 86400 })
  else
    let s := s.wr w.adr (w.val.toNat &&& rwMaskEmb w.adr)
    ([], if w.adr = EMB_PERIOD.adr then
      s.withEmb fun e => { e with periodAt := if s.bit EMB_PERIOD.EN then some (s.clk + s.periodTime) else none }
    else s)
where
  /-- The bits of each mirror word that hold a field. -/
  rwMaskEmb (a : Nat) : Nat :=
    if 0x30020 ≤ a ∧ a < 0x30030 then (if a % 8 = 0 then 0xC01F3F3F else 0x00FF0F1F)
    else if a = EMB_PERIOD.adr then 0x81FFFFFF
    else if a = EMB_TAMP_CTL.adr then 3
    else if a = EMB_PWRON_CTL.adr then 15
    else 0xFFFFFFFF

/-- The oldest queued write lands, or is refused as a bad value (R87); with the alarms that match. -/
def State.landWrite (s : State) : List Nat × State :=
  match s.emb.queue with
  | [] => ([], s)
  | w :: t =>
    if !s.up .emb then ([], s)
    else
      let s := (s.withEmb fun e => { e with queue := t }).putB EMB_STAT.WBUSY (!t.isEmpty)
      if w.bad then ([], s.put EMB_STAT.BADVAL 1) else s.embLand w

/-! ### Capture (R90, R351) -/

/-- Time, date and prescaler into EMB_CAP, and NT into NTU_CAP, at one edge. -/
def State.capture (s : State) : State :=
  let s := ((s.wr EMB_CAP_TIME.adr s.rtcTime).wr EMB_CAP_DATE.adr s.rtcDate).wr EMB_CAP_SUBSEC.adr s.presc
  if s.up .ntu then (s.wr NTU_CAP_NS.adr s.ntNs).wr NTU_CAP_SEC.adr s.ntSec else s

/-- EMB_CMD CAPTURE (R90). -/
def embCapture (s : State) : State := runCmd .emb 1 (fun s => (stDone, s.capture)) s

/-- UTC now, µs since 1970. -/
def State.utcUs (s : State) : Int := (s.nt : Int) / 1000 - s.ntu.nvmOfs * 1000000

/-- The RTC takes UTC, in step with its seconds; alarms match where that is another second (R88, R91, R351). -/
def State.rtcFromUtc (s : State) : State :=
  let u := s.utcUs
  let t := s.withEmb fun e => { e with rtc := ((u / 1000000 - epochSecs) % rtcSpan).toNat
                                       secAt := s.clk - (u % 1000000).toNat * usec }
  if t.emb.rtc = s.emb.rtc then t else t.secondBegins.2

/-- The crystal's frequency error between two captures, 0.1 ppm. -/
def freqError (a b : Int × Int) : Int :=
  let d := (b.1 - a.1).toNat
  if d = 0 then 0 else divRoundI (((b.2 - a.2) - (b.1 - a.1)) * 10000000) d

/-- A capture of the RTC, and where it is beyond TOL_US its setting (R351). -/
def State.disciplineRtc (s : State) : State :=
  let s := s.capture
  let cap : Int × Int := (s.utcUs, ((s.rtcNs / 1000 : Nat) : Int))
  let e := cap.2 - cap.1
  let s := match s.ntu.capAt with
    | some (_, u, r) => s.putI NTU_RTC_STAT.FREQ (freqError (u, r) cap)
    | none => s
  let s := { s.putI NTU_RTC_STAT.ERR_US e with ntu := { s.ntu with capAt := some (s.clk, cap.1, cap.2), ofsChg := false } }
  if e.natAbs ≤ s.cf NTU_RTC_CFG.TOL_US then s
  else
    let r : Int := (s.freeVal % 185 : Nat) - 92
    let s := ((s.rtcFromUtc).put EMB_STAT.RTC_INVALID 0).capture.useFree
    let s := { s with ntu := { s.ntu with capAt := some (s.clk, cap.1, cap.1 + r) } }
    ((s.putI NTU_RTC_STAT.ERR_US r).raise NTU_IRQ_STAT.RTC_SET).logEv 8 5
      (leBytes 4 (ofSignedSat 32 e) ++ leBytes 4 (ofSigned 32 r))

/-- RTC_DISCIPLINE (R351). The residual lies within ±92 µs, and the spec fixes it no further: a free value. -/
def rtcDiscipline (s : State) : State :=
  let due := match s.ntu.capAt with
    | none => true
    | some (t, _, _) => t + clampN 1 255 (s.cf NTU_RTC_CFG.INTERVAL_MIN) * 60 * secs ≤ s.clk
  if !s.up .ntu || !s.cfB NTU_RTC_CFG.EN || !s.bit NTU_STAT.SYNC || !(due || s.ntu.ofsChg) then s else s.disciplineRtc

/-! ### Events (R91, R92, R94, R95) -/

/-- The RTC enters its next second, alarms match, and PWR_ON follows. The answer lists the alarms that matched. -/
def State.rtcTick (s : State) : List Nat × State :=
  let wrap := rtcSpan ≤ s.emb.rtc + 1
  let s := s.withEmb fun e => { e with rtc := if wrap then 0 else e.rtc + 1, secAt := s.clk }
  (if wrap then s.put EMB_STAT.RTC_INVALID 1 else s).secondBegins

/-- The periodic wake is due (R91). -/
def State.periodDue (s : State) : Bool :=
  match s.emb.periodAt with
  | some t => t ≤ s.clk
  | none => false

/-- The periodic wake fires, and counts on from its instant. -/
def State.periodFire (s : State) : State :=
  ((s.withEmb fun e => { e with periodAt := e.periodAt.map (· + s.periodTime) }).raise EMB_IRQ_STAT.PERIOD).pwrOnBy
    EMB_PWRON_CTL.SET_ON_PERIOD

/-- The time and date of a door or tamper event. -/
def State.embEvent (s : State) (tamper : Bool) : State :=
  (s.wr EMB_EVT_TIME.adr (s.rtcTime + (if tamper then 2 ^ 31 else 0))).wr EMB_EVT_DATE.adr (bitsOf s.rtcDate 0 24)

/-- A door event is counted and recorded (R92). -/
def State.doorFire (s : State) : State :=
  (((s.bump EMB_EVT_CNT.DOOR).embEvent false).raise EMB_IRQ_STAT.DOOR).pwrOnBy EMB_PWRON_CTL.SET_ON_DOOR

/-- TAMPER_EVENT: counted and recorded; ERASE sets every backup register to 0 (R92, R93). -/
def tamperEvent (s : State) : State :=
  let s := ((s.bump EMB_EVT_CNT.TAMPER).embEvent true).raise EMB_IRQ_STAT.TAMPER
  if s.bit EMB_TAMP_CTL.ERASE then (List.range 32).foldl (fun s k => s.put (EMB_BKP.DATA k) 0) s else s

/-- VBAT_MEASURE: VBAT, mV (R95). -/
def vbatMeasure (mv : Nat) (s : State) : State :=
  if !s.domUp .alwaysOn then s
  else if mv < 2000 then
    (if s.bit EMB_STAT.VBAT_LOW then s else (s.put EMB_STAT.VBAT_LOW 1).raise EMB_IRQ_STAT.VBAT_LOW)
  else if 2100 ≤ mv then s.put EMB_STAT.VBAT_LOW 0 else s

/-- Every EMB register and the RTC at an ember reset (R86, R93). The next VAUX power-up records it (R26). -/
def emberReset (s : State) : State :=
  if s.pwr.vaux then s
  else (s.resetRange 0x30000 0x40000).withEmb fun _ =>
    { rtc := 0, secAt := s.clk, queue := [], periodAt := none, por := true, doorAtLoss := 0, tampAtLoss := 0 }

/-- The counts of door and tamper events when VAUX was lost are noted (R92). Mirror writes that have not landed are dropped
(assumption 121), and WBUSY follows the empty queue (R87). -/
def State.noteCounts (s : State) : State :=
  (s.withEmb fun e => { e with doorAtLoss := s.fld EMB_EVT_CNT.DOOR, tampAtLoss := s.fld EMB_EVT_CNT.TAMPER, queue := [] }).put
    EMB_STAT.WBUSY 0

/-- DOOR_OFFLINE and TAMPER_OFFLINE: counts that rose while VAUX was absent are logged (R92). -/
def State.offlineEvents (s : State) : State :=
  let d := s.fld EMB_EVT_CNT.DOOR
  let t := s.fld EMB_EVT_CNT.TAMPER
  let s := if s.emb.doorAtLoss < d then s.logEv 3 1 (leBytes 2 (d - s.emb.doorAtLoss) ++ leBytes 2 d) else s
  let s := if s.emb.tampAtLoss < t then s.logEv 3 2 (leBytes 2 (t - s.emb.tampAtLoss) ++ leBytes 2 t) else s
  s.withEmb fun e => { e with doorAtLoss := d, tampAtLoss := t }

end Sys2Proof.Machine
end

