-- ==== Sys2Proof/Machine/Pwr.lean ====
section
/-! DEFINITION. Modes, the SOAK and idle timers, AVSBus, WSP (chapter 03, R69 to R72, R77, R81, R82, R84). -/

namespace Sys2Proof.Machine

/-- The PWR fields in State replaced. -/
def State.withPwr (s : State) (f : PwrState → PwrState) : State := { s with pwr := f s.pwr }

/-! ### Modes (R69, Table 3.8) -/

/-- PWR_STAT.MODE of a mode; EMBER is never read. -/
def Mode.code : Mode → Nat
  | .ember => 0
  | .banked => 1
  | .kindling => 2
  | .firing => 3
  | .soak => 4
  | .service => 5

/-- The mode changes: flagged, and SOAK_ENTER on entry to SOAK. Entry to FIRING restarts the SOAK timer (R70). -/
def State.setMode (s : State) (m : Mode) : State :=
  let s := if s.pwr.mode = m then s else s.raise PWR_IRQ_STAT.MODE_CHG
  let s := if m = .soak ∧ s.pwr.mode ≠ .soak then s.raise PWR_IRQ_STAT.SOAK_ENTER else s
  (s.put PWR_STAT.MODE m.code).withPwr fun p => { p with mode := m, soakFrom := if m = .firing then s.clk else p.soakFrom }

/-- An island order is in force (R71). -/
def State.island (s : State) : Bool := s.bit PWR_STAT.ISLAND

/-- FIRING is entered: the settings store is put right where a start found it cut short (R53). -/
def State.toFiring (s : State) : State := if s.pwr.mode = .firing then storeRewrite s else s

/-- A heartbeat (R70, R71). -/
def State.heartbeat (s : State) : State :=
  let s := s.withPwr fun p => { p with soakFrom := s.clk }
  if s.pwr.mode = .soak ∧ !s.island then (s.setMode .firing).toFiring else s

/-- PWR_HEARTBEAT: a write of 1 by HSPI, RAF or USB (R70), which Mistazil may carry on from another position. -/
def pwrHeartbeat (src : Src) (s : State) : State :=
  if !s.up .pwr then s
  else
    match src with
    | .hspi | .raf _ _ _ | .usb | .mz => s.heartbeat
    | .core => s

/-- SOAK_TIMEOUT: no heartbeat for PWR_SOAK_TO.SEC (R10, row 13 of Table 3.1). -/
def soakTimeout (s : State) : State :=
  if s.pwr.mode = .firing ∧ s.pwr.soakFrom + clampN 1 3600 (s.fld PWR_SOAK_TO.SEC) * secs ≤ s.clk then s.setMode .soak else s

/-- ISLAND: an island order; FIRING becomes SOAK (R71). -/
def pwrIsland (s : State) : State :=
  runCmd .pwr 3 (fun s =>
    let s := s.put PWR_STAT.ISLAND 1
    (stDone, if s.pwr.mode = .firing then s.setMode .soak else s)) s

/-- UNISLAND clears the order; SOAK becomes FIRING (R71, row 14 of Table 3.1). -/
def pwrUnisland (s : State) : State :=
  runCmd .pwr 4 (fun s =>
    let s := s.put PWR_STAT.ISLAND 0
    (stDone, if s.pwr.mode = .soak then (s.setMode .firing).toFiring else s)) s

/-! ### The idle timer (R77) -/

/-- Some output is lit (R77). -/
def State.anyLit (s : State) : Bool :=
  ((List.range 64).any fun n => s.bit (DRV_CH_CTL.EN n) && s.fld (DRV_CH_OUT.LEVEL n) != 0) ||
    ((List.range 12).any fun a => s.bit (LBUS_AO_OUT.DRIVEN a) &&
      s.fld (LBUS_AO_OUT.SET_MV a) != s.aoVolts (s.cf (LBUS_AO_CFG.RANGE a)) (((s.aoSource a).map (·.2)).getD 0) 0) ||
    s.knownEpas.any fun n => s.fld (EPC_LVL_CMD.LEVEL n) != 0

/-- The idle timer counts. -/
def State.idleCounts (s : State) : Bool := s.running && s.bit PWR_IDLE_CFG.EN && s.bit PWR_BANKED_ALLOW.ALLOW

/-- PWR_IDLE_CFG.MIN, in counts of 2 ns. -/
def State.idleTime (s : State) : Nat := clampN 1 1440 (s.fld PWR_IDLE_CFG.MIN) * 60 * secs

/-- The idle timer is `early` counts or less from its end. A lit output restarts it. -/
def State.idleDue (s : State) (early : Nat) : Bool := s.idleCounts && s.pwr.idleFrom + s.idleTime ≤ s.clk + early

/-- IDLE_WARN, 60 s before the end. -/
def idleWarn (s : State) : State :=
  if !s.idleDue (60 * secs) || s.pwr.idleWarned then s
  else if s.anyLit then s.idleRestart
  else (s.raise PWR_IRQ_STAT.IDLE_WARN).withPwr fun p => { p with idleWarned := true }

/-! ### WSP and RC0 listening (R81, R82) -/

/-- WSP_READ: outside BANKED a read at its address is answered with PWR_STAT[7:0]. -/
def wspRead (adr : Nat) (s : State) : State :=
  if s.pwr.mode = .ember ∨ s.pwr.mode = .banked ∨ adr ≠ s.fld PWR_WSP_ADDR.ADDR then s
  else s.emit .wsp (leBytes 1 (s.rd PWR_STAT.adr))

/-- The sampling interval of RC0, in counts of 2 ns. -/
def State.rc0Time (s : State) : Nat := clampN 10 10000 (s.fld PWR_RC0_LISTEN.INTERVAL) * msec

/-- RC0 listens: in BANKED, with listening enabled, and VSYS present. -/
def State.rc0On (s : State) : Bool := s.pwr.mode == .banked && s.bit PWR_RC0_LISTEN.EN && s.pwr.vsys

/-- RC0_LISTEN: every INTERVAL, RC0 samples its channel (R82). -/
def rc0Listen (s : State) : State :=
  let due := match s.pwr.rc0At with
    | none => true
    | some t => t + s.rc0Time ≤ s.clk
  if s.rc0On && due then s.withPwr fun p => { p with rc0At := some s.clk } else s

/-- A wake frame that ends a wake-up train is received: RC0 has sampled its channel within one interval (R82). -/
def State.rc0Hears (s : State) : Bool :=
  s.rc0On && (match s.pwr.rc0At with
    | some t => s.clk ≤ t + s.rc0Time
    | none => false)

/-! ### AVSBus (R84) -/

/-- The next step from the last acknowledged voltage to the target: at most 25 mV. -/
def avsStep (mv target : Nat) : Nat := if mv < target then min target (mv + 25) else max target (mv - 25)

/-- A request leaves on the bus. -/
def State.avsOut (s : State) (r : AvsReq) : State :=
  (s.emit .avs (leBytes 2 r.req)).withPwr fun p => { p with avsReq := some { r with waits := none }, avsAt := some s.clk }

/-- A request is made, its first attempt or a repeat; less than 1 ms after the last one it waits. -/
def State.avsSend (s : State) (r : AvsReq) : State :=
  match s.pwr.avsAt with
  | some t =>
    if s.clk < t + msec then s.withPwr fun p => { p with avsReq := some { r with waits := some (t + msec) } } else s.avsOut r
  | none => s.avsOut r

/-- A request that waits has its millisecond. -/
def State.avsDue (s : State) : Bool := s.pwr.avsReq.any fun (r : AvsReq) => r.waits.any (· ≤ s.clk)

/-- It is sent. -/
def State.avsNext (s : State) : State :=
  match s.pwr.avsReq with
  | some r => s.avsOut r
  | none => s

/-- A new target, 650 to 900 mV: a fresh request where none is outstanding. -/
def State.avsTarget (s : State) (mv : Nat) : State :=
  let t := clampN 650 900 mv
  let s := s.withPwr fun p => { p with avsTarget := t }
  if s.pwr.avsReq.isSome ∨ t = s.fld PWR_AVS_STAT.MV then s
  else s.avsSend { req := avsStep (s.fld PWR_AVS_STAT.MV) t, tries := 1, waits := none }

/-- AVS_ACK of the request on the bus: the voltage is recorded, FAIL clears, and the next step follows (R84). -/
def avsAck (s : State) : State :=
  match s.pwr.avsReq with
  | none => s
  | some r =>
    if r.waits.isSome then s else
    let s := (s.put PWR_AVS_STAT.MV r.req).put PWR_AVS_STAT.FAIL 0
    let s := s.withPwr fun p => { p with avsReq := none, avsAcked := true }
    if s.pwr.avsTarget = r.req then s else s.avsSend { req := avsStep r.req s.pwr.avsTarget, tries := 1, waits := none }

/-- AVS_ATTEMPT_TIMEOUT: another attempt, or after the third AVS_FAIL and the voltage kept (R84). -/
def avsAttemptTimeout (s : State) : State :=
  match s.pwr.avsReq with
  | none => s
  | some r =>
    if r.waits.isSome then s
    else if r.tries < 3 then s.avsSend { r with tries := r.tries + 1 }
    else
      let kept := if s.pwr.avsAcked then s.fld PWR_AVS_STAT.MV else 800
      let want := s.pwr.avsTarget
      let s := s.withPwr fun p => { p with avsReq := none, avsTarget := kept }
      (((s.put PWR_AVS_STAT.MV kept).put PWR_AVS_STAT.FAIL 1).raise PWR_IRQ_STAT.AVS_FAIL).logEv 2 1
        (leBytes 2 want ++ leBytes 2 kept)

/-- VCORE_EN rises: the regulator starts at 0.80 V and the module requests it (step 3 of Table 2.1). -/
def State.avsStart (s : State) : State :=
  let s := (s.put PWR_AVS_STAT.MV 800).withPwr fun p =>
    { p with avsTarget := 800, avsReq := none, avsAcked := false }
  s.avsSend { req := 800, tries := 1, waits := none }

end Sys2Proof.Machine
end

