-- ==== Sys2Proof/Machine/Bbn.lean ====
section
/-! DEFINITION. Backbone ports, the ring, RAF messages, heartbeats and event frames, and packets entering the switch
(R3, R30, R297, R302, R304, R362, R369 to R376). -/

namespace Sys2Proof.Machine

def State.withBb (s : State) (f : BbState → BbState) : State := { s with bb := f s.bb }

/-- BBN answers: powered and enabled. -/
def State.bbOn (s : State) : Bool := s.up .bbn && s.bit BBN_CTL.EN

/-- A BB port's link is up. -/
def State.bbUp (s : State) (p : Nat) : Bool := s.bbOn && s.bit (BBN_PORT_STAT.LINK p)

/-- A frame leaves a BB port, with its FCS. -/
def State.bbPut (s : State) (p : Nat) (b : List Byte) : State :=
  (s.emit (.bb p) (b ++ leBytes 4 (crc32 b))).bump (BBN_PORT_TX.FRAMES p)

/-! ### RAF messages (R372) -/

/-- Message types. -/
def rafReqType : Nat := 0x01
def rafRspType : Nat := 0x02
def rafEvent : Nat := 0x10
def rafModuleHb : Nat := 0x20
def rafHostHb : Nat := 0x21

/-- The first 16 bytes of HMAC-SHA-256. -/
def rafTag (key b : List Byte) : List Byte := (Config.hmac256 key b).take 16

/-- A header of this module (Table 13.10). -/
def State.rafHeader (s : State) (typ pos count seq : Nat) : List Byte :=
  [0x52, 0x46, 0x01] ++ leBytes 1 typ ++ leBytes 4 seq ++ leBytes 2 s.seg ++ leBytes 1 pos ++ leBytes 1 count ++
    leBytes 4 0 ++ leBytes 4 s.bb.epoch

/-- The key of KEY_SLOT: a use of the slot. -/
def State.rafKey (s : State) : State × (List Byte ⊕ Nat) := s.useSlot (s.fld BBN_RAF_CFG.KEY_SLOT) useRaf (· == 3) 1

/-- A message of this module's own, tagged; without a usable key none is made. -/
def State.rafMake (s : State) (typ : Nat) (body : List Byte) : State × Option (List Byte) :=
  match s.rafKey with
  | (s, .inr _) => (s, none)
  | (s, .inl key) =>
    let b := s.rafHeader typ s.pos 0 s.bb.seq ++ body
    (s.withBb fun x => { x with seq := (x.seq + 1) % 2 ^ 32 }, some (b ++ rafTag key b))

/-- A message goes out on each BB port whose link is up; with none up, upstream as DATA (R374). -/
def State.rafRoute (s : State) (typ : Nat) (b : List Byte) : State :=
  if s.bbUp 0 || s.bbUp 1 then
    [0, 1].foldl (fun (s : State) p =>
      if s.bbUp p then (s.emit (.raf typ p) b).bump (BBN_PORT_TX.FRAMES p) else s) s
  else s.mzAdj 0 mzData b

/-- A heartbeat or event frame is made and sent. BBN_IP 0 sends no IP traffic. -/
def State.rafSend (s : State) (typ : Nat) (body : List Byte) : State :=
  if !s.bbOn || s.fld BBN_IP.ADDR == 0 then s
  else
    match s.rafMake typ body with
    | (s, some b) => s.rafRoute typ b
    | (s, none) => s

/-- A RAF message authenticates: its tag holds. The failure is counted. -/
def State.rafAuth (s : State) (b : List Byte) : Bool × State :=
  let n := b.length - 16
  match s.rafKey with
  | (s, .inl key) =>
    if 36 ≤ b.length && b.drop n == rafTag key (b.take n) then (true, s)
    else (false, (s.bump BBN_RAF_CNT.AUTH_FAIL).raise BBN_IRQ_STAT.RAF_AUTH)
  | (s, .inr _) => (false, (s.bump BBN_RAF_CNT.AUTH_FAIL).raise BBN_IRQ_STAT.RAF_AUTH)

/-- A RAF addressed to this module is accepted: tag, EPOCH and SEG. -/
def State.rafAccept (s : State) (b : List Byte) : Bool × State :=
  if !s.bbOn || !s.bit BBN_RAF_CFG.EN || b.take 3 != [0x52, 0x46, 0x01] then (false, s)
  else
    let r := s.rafAuth b
    if !r.1 then r
    else if leAt b 16 4 ≠ s.bb.epoch then (false, r.2.bump BBN_RAF_CNT.EPOCH_BAD)
    else (leAt b 8 2 % 2 ^ 14 == s.seg, r.2)

/-! ### Event frames (R30, R376) -/

/-- The 20-byte body of an event frame. -/
def State.eventBody (s : State) (b : Nat) : List Byte :=
  leBytes 1 b ++ [0, 0, 0] ++ leBytes 4 s.irqStat ++ leBytes 4 (s.rd ((irqRegs.getD b (0, 0)).1)) ++
    leBytes 4 s.ntSec ++ leBytes 4 s.ntNs

/-- An event frame for block `b` is sent, where there is a destination, and opens the block's hold-off. -/
def State.sendEvent (s : State) (b : Nat) : State :=
  let s := if s.fld BBN_EVT_DST.ADDR = 0 then s else s.rafSend rafEvent (s.eventBody b)
  let h := s.fld SYS_IRQ_CTL.EVT_HOLDOFF
  { s with sys := { s.sys with
      evtPend := s.sys.evtPend.filter (· != b)
      evtHold := if h = 0 then s.sys.evtHold else (b, s.clk + h * msec) :: s.sys.evtHold.filter (·.1 != b) } }

/-- Block `b`'s enabled summary bit has risen: an event frame, or a rise kept for the end of the hold-off. -/
def State.eventRise (s : State) (b : Nat) : State :=
  if !s.bit SYS_IRQ_CTL.EVT_EN then s
  else if s.sys.evtHold.any (fun x => x.1 == b && s.clk < x.2) then
    { s with sys := { s.sys with evtPend := if s.sys.evtPend.contains b then s.sys.evtPend else b :: s.sys.evtPend } }
  else s.sendEvent b

/-- A block's enabled summary bit is 1. -/
def State.summary (s : State) (b : Nat) : Bool := bitOf (s.irqStat &&& s.rd SYS_IRQ_EN.adr) b

/-- What follows a change of status or enable bits between two states: event frames for the enabled summary bits that
rose (R30), and a downstream module's IRQ frame where its condition changed (R369). -/
def irqFollow (old s : State) : State :=
  let was := old.irqCond
  let s := (List.range 24).foldl (fun (s : State) b => if s.summary b && !old.summary b then s.eventRise b else s) s
  if s.pos ≠ 0 ∧ s.irqCond ≠ was then s.sendIrq else s

/-- EVT_HOLDOFF_END: a rise within the hold-off is reported if the bit is still 1. -/
def evtHoldoffEnd (b : Nat) (s : State) : State :=
  if s.sys.evtHold.any (fun x => x.1 == b && x.2 ≤ s.clk) then
    let pend := s.sys.evtPend.contains b
    let s := { s with sys := { s.sys with evtHold := s.sys.evtHold.filter (·.1 != b)
                                          evtPend := s.sys.evtPend.filter (· != b) } }
    if pend && s.bit SYS_IRQ_CTL.EVT_EN && s.summary b then s.sendEvent b else s
  else s

/-! ### Heartbeats (R3, R374, R375) -/

/-- SERIAL of the pair partner, as its lease frames gave it. -/
def State.peerSerial (s : State) : Nat := s.fld PAIR_PEER_SERIAL_LO.SERIAL + 2 ^ 32 * s.fld PAIR_PEER_SERIAL_HI.SERIAL

/-- The body of a MODULE_HB (Table 13.11). -/
def State.hbBody (s : State) : List Byte :=
  serialBytes ++ leBytes 4 s.ntSec ++ leBytes 1 s.pwr.mode.code ++
    leBytes 1 (s.fld NTU_STAT.STATE + 128 * s.fld NTU_STAT.SYNC) ++
    leBytes 1 (if s.fld PAIR_STAT.ROLE = 2 then 1 else if s.fld PAIR_STAT.ROLE = 3 then 2 else 0) ++
    leBytes 1 ((if s.digestBusy then 1 else 0) + 2 * s.fld SYS_STAT.SEG_DUP + 4 * s.fld CFG_STAT.CONFLICT) ++
    leBytes 4 (s.rd CFG_EPOCH.adr) ++ s.digestWords.flatMap (leBytes 4) ++ leBytes 4 0

/-- MODULE_HB_SEND: every MS milliseconds. -/
def moduleHbSend (s : State) : State :=
  let due := match s.bb.hbAt with
    | none => true
    | some t => t + clampN 100 60000 (s.fld BBN_HB_CFG.MS) * msec ≤ s.clk
  if s.bbOn && s.bit BBN_HB_CFG.EN && due then (s.withBb fun b => { b with hbAt := some s.clk }).rafSend rafModuleHb s.hbBody
  else s

/-- SEG_DUP: another module runs the segment (R3). -/
def State.segDup (s : State) (serial : Nat) : State :=
  ((s.put SYS_STAT.SEG_DUP 1).raise SYS_EVT_STAT.SEG_DUP).logEv 0 1 (leBytes 8 serial)

/-- A heartbeat is received, on a BB port or as DATA on a Mistazil link: where it is authentic, carries the module's own SEG and a
SERIAL other than the pair partner's, SEG_DUP is set (R3, R374). -/
def State.hearHb (s : State) (b : List Byte) : State :=
  let r := s.rafAuth b
  let serial := leAt b 20 8
  if r.1 && s.bit SYS_ID_SEG.VALID && leAt b 8 2 % 2 ^ 14 == s.seg && !(s.bit PAIR_CFG.EN && serial == s.peerSerial) then
    r.2.segDup serial
  else r.2

/-- MODULE_HB: a heartbeat received on BB port `p`. -/
def moduleHb (p : Nat) (b : List Byte) (s : State) : State :=
  if !s.bbUp p then s else (s.bump (BBN_PORT_RX.FRAMES p)).hearHb b

/-! ### Requests to other positions (R362, R367) -/

/-- The link towards a position. -/
def State.linkTo (s : State) (pos : Nat) : Nat := if pos < s.pos then 0 else 1

/-- A free TAG. -/
def State.freeTag (s : State) : Nat :=
  ((List.range 256).map fun k => (s.mz.nextTag + k) % 256).find? (fun t => !s.mz.reqs.any (·.tag == t)) |>.getD s.mz.nextTag

/-- A position that does not answer: RETRY until LOST_MS has passed since it last answered, then ERROR (R367). -/
def State.lostCode (s : State) (pos : Nat) : Nat :=
  let last := ((s.mz.answered.find? (·.1 == pos)).map (·.2)).getD s.epc.startAt
  if s.clk < last + s.fld MZL_CFG.LOST_MS * msec then 1 else 2

/-- A position can be sent a REQ. -/
def State.reachable (s : State) (pos : Nat) : Bool := s.enumerated && pos != s.pos && s.mzUp (s.linkTo pos)

/-- A REQ with one operation (Table 13.8) leaves for a position. -/
def State.sendReq (s : State) (pos : Nat) (op : List Byte) (origin : ReqFrom) : State :=
  let t := s.freeTag
  let l := s.linkTo pos
  let r : Req := { tag := t, pos := pos, link := l, at_ := s.clk, origin := origin }
  let s := s.withMz fun m => { m with reqs := m.reqs ++ [r], nextTag := (t + 1) % 256 }
  s.mzOffer l { kind := mzReq, adj := false, dst := pos, src := s.pos, tag := t, payload := op } false

/-- One operation (Table 13.8). -/
def opBytes (op adr val : Nat) : List Byte := leBytes 1 op ++ [0, 0, 0] ++ leBytes 4 adr ++ leBytes 8 val

/-- The positions a HOST_HB is for, but the module's own. -/
def State.hbTargets (s : State) (pos : Nat) : List Nat :=
  (if pos = 255 then List.range (max s.pos (s.fld MZL_STAT.LAST_POS) + 1) else [pos]).filter (· != s.pos)

/-- HOST_HB: received on BB port `p` (R375). -/
def hostHb (p : Nat) (b : List Byte) (s : State) : State :=
  if !s.bbUp p then s
  else
    let r := (s.bump (BBN_PORT_RX.FRAMES p)).rafAccept b
    if !r.1 || leAt b 3 1 ≠ rafHostHb then r.2
    else
      let pos := leAt b 10 1
      let s := if pos = 255 ∨ pos = r.2.pos then r.2.heartbeat else r.2
      (s.hbTargets pos).foldl (fun (s : State) k =>
        if s.reachable k then s.sendReq k (opBytes 2 PWR_HEARTBEAT.adr 1) .heartbeat else s) s

/-! ### Packets entering the switch (R297, R302 to R304, R308) -/

/-- VID and DEI of a tagged frame. -/
def vlanOf (b : List Byte) : Option (Nat × Bool) :=
  if beAt b 12 2 = 0x8100 then some (beAt b 14 2 % 4096, bitOf (beAt b 14 2) 12) else none

/-- The tenant and incoming colour of a packet that entered at port `p`. -/
def State.tenantOf (s : State) (p : Nat) (b : List Byte) : Nat × Nat :=
  let own := s.cf (SWC_PORT_CFG.TENANT p)
  if 8 ≤ p ∧ p < 12 then
    match vlanOf b with
    | some (vid, dei) => ((s.vidTenant vid).getD own, if dei then 1 else 0)
    | none => (own, 0)
  else (own, 0)

/-- A packet that entered at port `p` is offered to its queue or group. -/
def State.packetIn (s : State) (p : Nat) (k : PacketIn) : State :=
  if !s.up .swc || k.bytes.isEmpty then s
  else if 9728 < k.bytes.length then s.bump (SWC_PORT_CNT.TOO_LONG p)
  else
    let t := s.tenantOf p k.bytes
    let q := k.queue % 4256
    let o : Offer := { len := k.bytes.length, tenant := s.tenantFor q t.1, cls := k.cls % 8, inCol := t.2, ingress := p
                       hmq := k.hmq % 32, body := .raw k.bytes, queues := [q], cells := none }
    match k.group with
    | some g => s.admitGroup { o with tenant := t.1 } (g % 1024)
    | none => (s.offer o).2

/-! ### Backbone ports (R370, R371) -/

/-- BBN_MAC, the first byte sent being its most significant. -/
def State.mac (s : State) : Nat := s.fld BBN_MAC_LO.MAC + 2 ^ 32 * s.fld BBN_MAC_HI.MAC

/-- A port takes part in transit: it is up, and not in its first 50 ms. -/
def State.inTransit (s : State) (p : Nat) : Bool := s.bbUp p && !s.bb.holdUntil.any fun x => x.1 == p && s.clk < x.2

/-- A frame from port `p` that is not for this module goes to the other port's queue of its PCP, unless transit is
blocked on BB1 (R371). -/
def State.ringForward (s : State) (p : Nat) (b : List Byte) : State :=
  if !s.bit BBN_CTL.RING || !s.inTransit p || !s.inTransit (1 - p) || s.bit (BBN_PORT_STAT.BLOCKED 1) then s
  else
    let pcp := if beAt b 12 2 = 0x8100 then beAt b 14 2 / 8192 else 0
    s.packetIn (8 + p) { bytes := b, cls := pcp, hmq := 0, queue := 4096 + 8 * (9 - p) + pcp, group := none }

/-- An Ethernet frame arrives on BB port `p`; `joined` where it is for a multicast address the module has joined. A
broadcast or joined multicast is for this module and for the others on the ring (assumption 48). -/
def State.bbFrame (s : State) (p : Nat) (fcsOk joined : Bool) (k : PacketIn) : State :=
  if !s.bbUp p then s
  else
    let s := s.bump (BBN_PORT_RX.FRAMES p)
    let dst := beAt k.bytes 0 6
    let all := dst == 2 ^ 48 - 1
    if !fcsOk then s.bump (BBN_PORT_ERR.FCS p)
    else if 9728 < k.bytes.length then (s.bump (BBN_PORT_ERR.TOO_LONG p)).bump (SWC_PORT_CNT.TOO_LONG (8 + p))
    else if beAt k.bytes 12 2 = 0x8808 then s
    else
      let s := if dst = s.mac then s else s.ringForward p k.bytes
      if dst = s.mac || all || joined then s.packetIn (8 + p) k else s

/-- PACKET_INGRESS: a packet arrives at a switch port; at SP8 and SP9 it is an Ethernet frame. -/
def packetIngress (p : Nat) (fcsOk joined : Bool) (k : PacketIn) (s : State) : State :=
  if p = 8 ∨ p = 9 then s.bbFrame (p - 8) fcsOk joined k else s.packetIn p k

/-- A packet from SP8 or SP9 leaves on its BB port. -/
def State.bbDequeue (s : State) (p : Nat) : State :=
  if !s.bbUp p then s
  else
    match s.schedule (8 + p) with
    | (none, s) => s
    | (some d, s) => (s.dropDesc d).bbPut p (s.egress d)

/-- The link of port `p` is found or lost. -/
def State.bbLink (s : State) (p : Nat) (upNow gig : Bool) : State :=
  let speed := s.fld (BBN_PORT_CFG.SPEED p)
  let gig := if speed = 1 then false else if speed = 2 then true else gig
  let s := ((s.putB (BBN_PORT_STAT.LINK p) upNow).raise BBN_IRQ_STAT.LINK_CHG)
  if upNow then
    (s.putB (BBN_PORT_STAT.GIG p) gig).withBb fun b =>
      { b with holdUntil := (p, s.clk + 50 * msec) :: b.holdUntil.filter (·.1 != p) }
  else
    (s.bump (BBN_PORT_STAT.DOWN_CNT p)).withBb fun b => { b with altAt := updAt b.altAt p fun _ => s.clk }

/-- BB_LINK_CHANGE: port `p` has found or lost its link, running 1000BASE-X where `gig` (R370). -/
def bbLinkChange (p : Nat) (upNow gig : Bool) (s : State) : State :=
  if !s.bbOn || upNow == s.bit (BBN_PORT_STAT.LINK p) then s else s.bbLink p upNow gig

/-- BB_SPEED_ALTERNATE: with SPEED 0 a port without a link changes over every 500 ms (R370). -/
def bbSpeedAlternate (p : Nat) (s : State) : State :=
  let speed := s.fld (BBN_PORT_CFG.SPEED p)
  if s.bbOn && !s.bit (BBN_PORT_STAT.LINK p) && (speed == 0 || speed == 3) &&
      s.bb.altAt.getD p 0 + 500 * msec ≤ s.clk then
    (s.putB (BBN_PORT_STAT.GIG p) (!s.bit (BBN_PORT_STAT.GIG p))).withBb fun b =>
      { b with altAt := updAt b.altAt p fun _ => s.clk }
  else s

/-- RING_PORT_HOLD_END: 50 ms after link-up a port is admitted to transit. -/
def ringPortHoldEnd (p : Nat) (s : State) : State :=
  s.withBb fun b => { b with holdUntil := b.holdUntil.filter fun x => !(x.1 == p && x.2 ≤ s.clk) }

/-- This module manages the ring. -/
def State.ringOwner (s : State) : Bool := s.bbOn && s.bit BBN_CTL.RING && s.bit BBN_CTL.RING_OWNER

/-- A ring check frame (R371). -/
def State.checkFrame (s : State) (seg seq : Nat) : List Byte :=
  [0x03, 0x7A, 0x1C, 0x52, 0x49, 0x4E] ++ beBytes 6 s.mac ++ [0x88, 0xB5] ++ leBytes 2 seg ++ leBytes 4 seq

/-- The owner sends a check, after the last one is judged (R371). -/
def State.ringCheckNow (s : State) : State :=
  let miss := if s.bb.back then 0 else s.bb.missing + 1
  let s := if 3 ≤ miss ∧ s.bit (BBN_PORT_STAT.BLOCKED 1) then
      (s.put (BBN_PORT_STAT.BLOCKED 1) 0).raise BBN_IRQ_STAT.RING_OPEN
    else s
  let seq := (s.bb.ringSeq + 1) % 2 ^ 32
  let s := s.withBb fun b => { b with ringSeq := seq, ringAt := s.clk, missing := miss, back := false }
  if s.bbUp 0 then s.bbPut 0 (s.checkFrame s.seg seq) else s

/-- RING_CHECK: every 10 ms the owner sends a check on BB0; after three missing in a row the ring opens. -/
def ringCheck (s : State) : State :=
  if !s.ringOwner || s.clk < s.bb.ringAt + 10 * msec then s else s.ringCheckNow

/-- RING_CHECK_RX: a check frame arrives on port `p`: the owner's own on BB1 closes the ring; any other is forwarded. -/
def ringCheckRx (p seg seq : Nat) (s : State) : State :=
  if !s.bbUp p then s
  else
    let s := s.bump (BBN_PORT_RX.FRAMES p)
    if s.ringOwner && seg == s.seg then
      if p = 1 then
        let s := if s.bit (BBN_PORT_STAT.BLOCKED 1) then s
          else (s.put (BBN_PORT_STAT.BLOCKED 1) 1).raise BBN_IRQ_STAT.RING_CLOSED
        s.withBb fun b => { b with back := true, missing := 0 }
      else s
    else if s.bit BBN_CTL.RING && s.bbUp (1 - p) then s.bbPut (1 - p) (s.checkFrame seg seq) else s

/-- MZL_DATA: a DATA frame on link `l`. A heartbeat or event frame on its way upstream is sent on (R374), and the heartbeat's SEG
compared (R3); any other packet
enters the switch with the class and queue given. Mirror frames are MIRROR_FRAME (R449). -/
def mzlData (l : Nat) (x : MzRx) (k : PacketIn) (s : State) : State :=
  mzRecv l mzData x (fun s =>
    let typ := leAt x.payload 3 1
    if x.payload.take 3 = [0x52, 0x46, 0x01] ∧ (typ = rafModuleHb ∨ typ = rafEvent) then
      (if typ = rafModuleHb then s.hearHb x.payload else s).rafRoute typ x.payload
    else s.packetIn (linkPort l) { k with bytes := x.payload }) s

end Sys2Proof.Machine
end

