-- ==== Sys2Proof/Machine/Upd.lean ====
section
/-! DEFINITION. Firmware banks, their verification and activation, and endpoint firmware campaigns (chapter 16, R421 to
R443; R34, R35). -/

namespace Sys2Proof.Machine

def State.withUpd (s : State) (f : UpdState → UpdState) : State := { s with upd := f s.upd }

/-! ### Banks (R421, R428) -/

def bankEmpty : Nat := 0
def bankGreen : Nat := 1
def bankVerifying : Nat := 2
def bankBisque : Nat := 3
def bankGlaze : Nat := 4
def bankFired : Nat := 5
def bankBad : Nat := 6

/-- Failure codes of Table 16.5 that are used by name. -/
def failDigest : Nat := 9
def failNor : Nat := 10
def failTrial : Nat := 11

/-- A bank. -/
def State.fwBank (s : State) (b : Nat) : Bank :=
  (s.upd.banks[b]?).getD { st := 0, fail := 0, factory := false, blocks := [], bitmap := [], secVer := 0, version := 0
                           abi := 0, total := 0, coldOnly := false, digest := [] }

def State.updBank (s : State) (b : Nat) (f : Bank → Bank) : State := s.withUpd fun u => { u with banks := updAt u.banks b f }

/-- A bank's state and failure code. -/
def State.setFwBank (s : State) (b st fail : Nat) : State := s.updBank b fun x => { x with st := st, fail := fail }

/-! ### The boot selector (R35, R431) -/

/-- The bank a selector names after a tie of its two highest copies, but for the third case of R35. -/
def tieBank (tied : List Selector) (third : Option Selector) : Option Nat :=
  match tied with
  | [] => none
  | x :: t => if t.all (fun (y : Selector) => y.fired == x.fired) then some x.fired else third.map (·.fired)

/-- The selector in force, by the rows of Table 2.10: the content of two copies that agree, or else the highest generation; and,
where two copies hold that with different content, the tie. -/
def State.selector (s : State) : Option Selector × Option (List Selector × Option Selector) :=
  let l := s.upd.copies.filterMap id
  let g := l.foldl (fun g (x : Selector) => max g x.gen) 0
  match l.find? fun x => 2 ≤ l.count x with
  | some x => (some x, none)
  | none =>
    match l.filter (·.gen == g) with
    | [] => (none, none)
    | [x] => (some x, none)
    | top => (none, some (top, (l.filter (·.gen != g)).head?))

/-- The bank named ACTIVE and FIRED, and the trial count. -/
def State.selActive (s : State) : Nat := (s.selector.1.map (·.active)).getD 0
def State.selFired (s : State) : Nat := (s.selector.1.map (·.fired)).getD 0

/-- A change of the selector: copies 1, 2 and 3 with GENERATION incremented. -/
def State.writeSel (s : State) (f : Selector → Selector) : State :=
  let old := (s.selector.1).getD { gen := 0, active := 0, fired := 0, trial := 0, trialMax := 3, confirmS := 600 }
  let g := (s.upd.copies.filterMap id).foldl (fun g (x : Selector) => max g x.gen) 0
  let new := { f old with gen := g + 1 }
  s.withUpd fun u => { u with copies := List.replicate 3 (some new) }

/-- The inactive bank; while the recovery image runs, the bank BEGIN last acted on (R429). -/
def State.inactive (s : State) : Nat := if s.upd.running = 2 then s.upd.work else 1 - s.selActive

/-! ### Verification (R422 to R424, R426, R430) -/

/-- A bank's first `n` bytes, from its blocks. -/
def Bank.bytes (b : Bank) (n : Nat) : List Byte :=
  (List.range (n / 4096)).flatMap fun k => ((b.blocks.find? (·.1 == k)).map (·.2)).getD (List.replicate 4096 0xFF)

/-- A component entry in place: OFFSET, LENGTH against the end of the one before. -/
def compOk (b0 : List Byte) (k prev : Nat) : Bool :=
  let o := 0x40 + 64 * k
  let off := leAt b0 (o + 4) 4
  let len := leAt b0 (o + 8) 4
  let typ := leAt b0 o 1
  off % 4096 == 0 && 4096 ≤ off && prev ≤ off && 1 ≤ len && off + len ≤ leAt b0 16 4 &&
    ((1 ≤ typ && typ ≤ 6) || 128 ≤ typ) && leAt b0 (o + 1) 3 == 0 && leAt b0 (o + 12) 4 == 0

/-- Every component entry from `k` on is in place. -/
def compsOk (b0 : List Byte) : Nat → Nat → Nat → Bool
  | 0, _, _ => true
  | n + 1, k, prev =>
    compOk b0 k prev && compsOk b0 n (k + 1) (leAt b0 (0x44 + 64 * k) 4 + leAt b0 (0x48 + 64 * k) 4)

/-- LENGTH, COMP_COUNT, the component table and the reserved fields are in rule (Tables 16.2, 16.3). -/
def bundleOk (b0 : List Byte) : Bool :=
  let n := leAt b0 11 1
  let len := leAt b0 16 4
  let types := (List.range n).map fun k => leAt b0 (0x40 + 64 * k) 1
  8192 ≤ len && len ≤ 0x1C00000 && len % 4096 == 0 && 6 ≤ n && n ≤ 16 && compsOk b0 n 0 4096 &&
    [1, 2, 3, 4, 5, 6].all (fun t => types.count t == 1) && leAt b0 0x1C 4 < 2 && leAt b0 0x26 2 == 0 &&
    ((b0.drop 0x28).take 0x18).all (· == 0) && ((b0.drop (0x40 + 64 * n)).take (64 * (16 - n))).all (· == 0) &&
    ((b0.drop 0x4A0).take 0xB5C).all (· == 0)

/-- The checks 0x01 to 0x05 of Table 16.5 on block 0: the first that fails, 0 for none. -/
def bundleFail (b0 : List Byte) : Nat :=
  if b0.take 4 != [0x54, 0x4C, 0x46, 0x57] then 1
  else if crc32 (b0.take 0xFFC) ≠ leAt b0 0xFFC 4 then 2
  else if leAt b0 4 2 ≠ 1 then 3
  else if leAt b0 8 2 ≠ 0x7A1C ∨ leAt b0 10 1 ≠ 1 ∨ !bitOf (leAt b0 12 4) 6 then 4
  else if !bundleOk b0 then 5
  else 0

/-- The checks 0x06 to 0x08: slot 2, the signature, and SEC_VER. -/
def State.signFail (s : State) (b0 : List Byte) : Nat × State :=
  match s.useSlot 2 useFwVerify (· == 5) 4 with
  | (s, .inr _) => (6, s)
  | (s, .inl pub) =>
    if !Config.ecdsaP384 pub (Config.sha384 (b0.take 0x440)) ((b0.drop 0x440).take 48) ((b0.drop 0x470).take 48) then (7, s)
    else (if leAt b0 0x18 2 < s.upd.secMin then 8 else 0, s)

/-- The checks 0x01 to 0x08 in order. -/
def State.block0Fail (s : State) (b0 : List Byte) : Nat × State :=
  let f := bundleFail b0
  if f ≠ 0 then (f, s) else s.signFail b0

/-- Every component digest holds. -/
def digestsOk (b0 all : List Byte) : Bool :=
  (List.range (leAt b0 11 1)).all fun k =>
    let o := 0x40 + 64 * k
    (b0.drop (o + 16)).take 48 == Config.sha384 ((all.drop (leAt b0 (o + 4) 4)).take (leAt b0 (o + 8) 4))

/-- Full verification of a bank: the first check that fails, 0 for none. The bundle written at manufacture verifies
(assumption 6). -/
def State.verifyBank (s : State) (b : Nat) : Nat × State :=
  let x := s.fwBank b
  if x.factory then (0, s)
  else
    let b0 := x.bytes 4096
    let r := s.block0Fail b0
    if r.1 ≠ 0 then r else (if digestsOk b0 (x.bytes (leAt b0 16 4)) then 0 else failDigest, r.2)

/-- What block 0 declares, once it has passed. -/
def Bank.declare (x : Bank) (b0 : List Byte) : Bank :=
  { x with secVer := leAt b0 0x18 2, version := leAt b0 0x14 4, abi := leAt b0 0x1A 2, total := leAt b0 16 4 / 4096
           coldOnly := leAt b0 0x1C 4 == 1, digest := Config.sha384 b0 }

/-- A bank becomes BAD; the failure is flagged and logged as the event given. -/
def State.bankFails (s : State) (b code ev : Nat) : State :=
  ((s.setFwBank b bankBad code).raise UPD_IRQ_STAT.BANK_BAD).logEv 7 ev (leBytes 1 b ++ leBytes 1 code)

/-! ### Download (R425 to R427) -/

/-- The packet came by a path that is open to it. -/
def State.pathOk (s : State) : BlockPath → Bool
  | .hmq q => q == s.cf UPD_RX_CFG.HMQ && s.fld (HMQ_Q_CFG.BIND q) == 0
  | .udp ip port dport =>
    s.bit UPD_RX_CFG.UDP_EN && dport == s.fld UPD_RX_CFG.PORT &&
      s.key.sessions.any fun (x : Session) => x.src == 1 && x.ip == ip && x.port == port && s.clk < x.last + s.sessTtl

/-- Block 0 is complete in the inactive bank: its checks (R426). -/
def State.checkBlock0 (s : State) (b : Nat) (b0 : List Byte) : State :=
  let r := s.block0Fail b0
  if r.1 = 0 then r.2.updBank b fun x => x.declare b0 else r.2.bankFails b r.1 2

/-- A complete block for the inactive bank: erased, written, compared (`fails` compares that failed), marked. -/
def State.storeBlock (s : State) (b k fails : Nat) (d : List Byte) : State :=
  let x := s.fwBank b
  if x.st ≠ bankGreen then s
  else if x.bitmap.contains k then s.bump UPD_RX_CNT.DUP
  else if 2 ≤ fails then s.bankFails b failNor 2
  else
    let s := s.updBank b fun x => { x with blocks := (k, d) :: x.blocks.filter (·.1 != k), bitmap := k :: x.bitmap }
    if k = 0 then s.checkBlock0 b d else s

/-- A complete block of a campaign's image (R439). -/
def State.storeCampaign (s : State) (c k : Nat) (d : List Byte) : State :=
  match s.upd.camps[c]? with
  | none => s
  | some x =>
    if x.blocks.any (·.1 == k) then s.bump UPD_RX_CNT.DUP
    else s.withUpd fun u => { u with camps := updAt u.camps c fun (x : Campaign) => { x with blocks := (k, d) :: x.blocks } }

/-- Blocks that a target's image may have. -/
def State.blockLimit (s : State) (target idx : Nat) : Nat :=
  if target = 0 then (let n := (s.fwBank s.inactive).total; if n = 0 then 7168 else n)
  else (s.fld (UPD_EP_SIZE.BLOCKS idx) + 63) / 64

/-- A packet is malformed (R425). -/
def State.packetBad (s : State) (p : List Byte) : Bool :=
  p.length != 2064 || p.take 4 != [0x54, 0x4C, 0x55, 0x42] || crc32 (p.drop 16) != leAt p 12 4 ||
    2 ≤ leAt p 10 1 || 2 ≤ leAt p 8 1 || (leAt p 8 1 == 1 && 4 ≤ leAt p 9 1) ||
    s.blockLimit (leAt p 8 1) (leAt p 9 1) ≤ leAt p 4 4

/-- BLOCK_PACKET: a half block; with its partner it is stored. -/
def blockPacket (path : BlockPath) (p : List Byte) (fails : Nat) (s : State) : State :=
  if !s.up .upd || !s.pathOk path then s
  else if s.packetBad p then s.bump UPD_RX_CNT.DROPPED
  else
    let h : Half := { target := leAt p 8 1, index := leAt p 9 1, block := leAt p 4 4, part := leAt p 10 1, data := p.drop 16 }
    let same := fun (x : Half) => x.target == h.target && x.block == h.block && (h.target == 0 || x.index == h.index)
    match s.upd.halves.find? (fun x => same x && x.part != h.part) with
    | none => s.withUpd fun u => { u with halves := h :: u.halves.filter (fun x => !same x) }
    | some o =>
      let s := s.withUpd fun u => { u with halves := u.halves.filter fun x => !same x }
      let d := if h.part = 0 then h.data ++ o.data else o.data ++ h.data
      if h.target = 0 then s.storeBlock s.inactive h.block fails d else s.storeCampaign h.index h.block d

/-- BEGIN (R429). -/
def updBegin (s : State) : State :=
  runCmd .upd 1 (fun s =>
    if s.upd.glaze || s.upd.armed.isSome || s.upd.banks.any (·.st == bankVerifying) || s.pwr.mode == .kindling then
      (stRefusedState, s)
    else
      let s := s.withUpd fun u => { u with work := if s.fld UPD_CMD_ARG.INDEX = 0 then 0 else 1 }
      (stDone, s.updBank s.inactive fun x =>
        { x with st := bankGreen, fail := 0, factory := false, bitmap := [], blocks := [], total := 0, secVer := 0
                 version := 0, abi := 0, coldOnly := false, digest := [] })) s

/-- VERIFY (R430). -/
def updVerify (s : State) : State :=
  runCmd .upd 2 (fun s =>
    let x := s.fwBank s.inactive
    let may := x.st == bankGreen || (x.st == bankBad && (x.fail == failDigest || x.fail == failTrial))
    let all := x.total != 0 && (List.range x.total).all x.bitmap.contains
    if may && all then (stPending, s.setFwBank s.inactive bankVerifying x.fail) else (stRefusedState, s)) s

/-- VERIFY_VERDICT: the verdict record lands (R430). -/
def verifyVerdict (s : State) : State :=
  if !s.up .upd then s
  else
    match (List.range 2).find? fun b => (s.fwBank b).st == bankVerifying with
    | none => s
    | some b =>
      let r := s.verifyBank b
      let s := (r.2.setFwBank b (if r.1 = 0 then bankBisque else bankBad) r.1).raise UPD_IRQ_STAT.VERDICT
      if s.isPending .upd 2 then finishCmd .upd (if r.1 = 0 then stDone else stCheckFailed) s else s

/-! ### Activation (R432 to R434) -/

/-- The pair partner runs a glaze image, or has armed an activation within 30 s of an instant (R432). -/
def State.partnerBlocks (s : State) (t : Nat) : Bool :=
  let gap : Int := ((t / 1000000000 % 2 ^ 32 : Nat) : Int) - (s.pair.peerActSec : Int)
  s.bit PAIR_CFG.EN && (bitOf s.pair.peerFlags 2 || (bitOf s.pair.peerFlags 3 && gap.natAbs < 30))

/-- The inactive bank may be activated: BISQUE, and not fallen below UPD_SEC_MIN (R437). -/
def State.canActivate (s : State) : Bool :=
  (s.fwBank s.inactive).st == bankBisque && s.upd.secMin ≤ (s.fwBank s.inactive).secVer

/-- The running bundle's STATE_ABI. -/
def State.runningAbi (s : State) : Nat :=
  if s.upd.running = 2 then (Config.bundleAbi 2).toNat else (s.fwBank s.upd.running).abi

/-- The bundle can take over state by a warm start, or COLD is asked for. -/
def State.abiOk (s : State) : Bool :=
  s.bit UPD_CMD_ARG.COLD || ((s.fwBank s.inactive).abi == s.runningAbi && !(s.fwBank s.inactive).coldOnly)

/-- The instant asked for, ns. -/
def State.actInstant (s : State) : Nat :=
  s.fld UPD_ACT_T_NS.NS + (s.fld UPD_ACT_T_SEC_LO.SEC_LO + 2 ^ 32 * s.fld UPD_ACT_T_SEC_HI.SEC_HI) * 1000000000

/-- ACTIVATE while the recovery image runs: with AT 0, always a cold start (R434). -/
def activateRecovery (s : State) : Nat × State :=
  if s.bit UPD_CMD_ARG.AT || !s.canActivate || s.upd.armed.isSome then (stRefusedState, s)
  else (stDone, s.withUpd fun u => { u with armed := some { at_ := s.nt + 1000000000, cold := true, deferrals := 0, begun := false } })

/-- ACTIVATE (R432). -/
def activateUpdBody (s : State) : Nat × State :=
  if s.upd.running = 2 then activateRecovery s
  else
    let at1 := s.bit UPD_CMD_ARG.AT
    let t := if at1 then s.actInstant else s.nt + 1000000000
    if !s.canActivate || s.upd.glaze || s.upd.armed.isSome || !s.abiOk || s.partnerBlocks t then (stRefusedState, s)
    else if at1 && (t < s.nt + 2000000000 || s.nt + 549000000000 < t) then (stRefusedArg, s)
    else (stDone, s.withUpd fun u => { u with armed := some { at_ := t, cold := s.bit UPD_CMD_ARG.COLD, deferrals := 0, begun := false } })

def updActivate (src : Src) (s : State) : State := runCmd .upd 3 (privileged src activateUpdBody) s

/-- The activation is disarmed. -/
def State.disarmAct (s : State) : State := s.withUpd fun u => { u with armed := none }

/-- CANCEL_ACT (R432). -/
def cancelAct (s : State) : State :=
  runCmd .upd 4 (fun s =>
    match s.upd.armed with
    | some a => if a.begun then (stRefusedState, s) else (stDone, s.disarmAct)
    | none => (stDone, s)) s

/-- An armed activation is lost: a start before its selector write, or an entry to BANKED (R433). -/
def State.loseAct (s : State) : State :=
  match s.upd.armed with
  | some a =>
    if a.begun then s.disarmAct
    else (s.disarmAct.raise UPD_IRQ_STAT.ACT_LOST).logEv 7 4 (leBytes 4 (a.at_ / 1000000000))
  | none => s

/-- Some transition slot stands in the way of an activation at `t`. -/
def State.slotInWay (s : State) (t : Nat) : Bool :=
  (List.range 64).any fun n => (s.slotState n == 1 || s.slotState n == 2) && s.slotT n ≤ t + 2500000000

/-- ACTIVATION_CHECK: at T − 100 ms (R433). -/
def activationCheck (s : State) : State :=
  match s.upd.armed with
  | none => s
  | some a =>
    if !s.up .upd || a.begun || s.nt + 100000000 < a.at_ then s
    else if s.slotInWay a.at_ then
      if a.deferrals < 60 then
        (s.withUpd fun u => { u with armed := some { a with at_ := a.at_ + 1000000000, deferrals := a.deferrals + 1 } }).put
          UPD_STAT.DEFERRED 1
      else s.disarmAct.logEv 7 3 (leBytes 4 (a.at_ / 1000000000))
    else
      let b := s.inactive
      let s := s.writeSel fun x =>
        { x with active := b, trial := 0, trialMax := s.fld UPD_CFG.TRIAL_MAX, confirmS := clampN 60 65535 (s.fld UPD_CFG.CONFIRM_S) }
      (s.setFwBank b bankGlaze 0).withUpd fun u => { u with armed := some { a with begun := true } }

/-- The activation's instant has come. -/
def State.actDue (s : State) : Option Armed :=
  match s.upd.armed with
  | some a => if s.up .upd && a.begun && a.at_ ≤ s.nt then some a else none
  | none => none

/-! ### Trial and confirmation (R435 to R437) -/

/-- The count of CONFIRM_S begins at an entry to FIRING or SOAK on a glaze image (R436). -/
def State.confirmStart (s : State) : State :=
  if !s.upd.glaze then s
  else
    let n := (s.selector.1.map (·.confirmS)).getD 600
    s.withUpd fun u => { u with confirmLeft := n, confirmAt := some (s.clk + n * secs) }

/-- UPD_CONFIRM_LEFT now. -/
def State.confirmLeft (s : State) : Nat :=
  match s.upd.confirmAt with
  | some t => (t - s.clk + secs - 1) / secs
  | none => s.upd.confirmLeft

/-- The count stands in SERVICE, and goes on at LEAVE_SERVICE (R436). -/
def State.confirmPause (s : State) : State := s.withUpd fun u => { u with confirmLeft := s.confirmLeft, confirmAt := none }

def State.confirmResume (s : State) : State :=
  if s.upd.glaze then s.withUpd fun u => { u with confirmAt := some (s.clk + u.confirmLeft * secs) } else s

/-- The trial has failed: ACTIVE returns to FIRED and the glaze bank is BAD (R435, R436). -/
def State.abandon (s : State) (b fail : Nat) : State :=
  ((s.writeSel fun x => { x with active := x.fired, trial := 0 }).setFwBank b bankBad fail).withUpd fun u =>
    { u with glaze := false, confirmAt := none, confirmLeft := 0 }

/-- REVERTED is set. -/
def State.reverted (s : State) : State := (s.put UPD_STAT.REVERTED 1).raise UPD_IRQ_STAT.REVERTED

/-- The reversion of R436, up to its start; whether that start is cold. -/
def State.revertNow (s : State) : Bool × State :=
  let b := s.upd.running
  let cold := (s.fwBank s.selFired).abi != s.runningAbi
  (cold, ((s.abandon b failTrial).reverted).logEv 7 6 (leBytes 1 b))

/-- CONFIRM (R437): the running bank is FIRED at once; the command ends with the verification of the other bank. -/
def confirmBody (s : State) : Nat × State :=
  if !s.upd.glaze then (stRefusedState, s)
  else
    let b := s.upd.running
    let s := (s.writeSel fun x => { x with fired := x.active, trial := 0 }).setFwBank b bankFired 0
    let s := s.withUpd fun u => { u with glaze := false, confirmAt := none, confirmLeft := 0, confirming := true
                                         secMin := max u.secMin (s.fwBank b).secVer }
    (stPending, s.logEv 7 7 (leBytes 1 b ++ leBytes 4 (s.fwBank b).version))

def updConfirm (src : Src) (s : State) : State := runCmd .upd 5 (privileged src confirmBody) s

/-- CONFIRM_DONE: the other bank has been verified (R437). -/
def confirmDone (s : State) : State :=
  if !s.up .upd || !s.upd.confirming then s
  else
    let o := 1 - s.upd.running
    let r := s.verifyBank o
    let s := r.2.withUpd fun u => { u with confirming := false }
    let s := if r.1 = 0 then s.setFwBank o bankBisque 0 else s.bankFails o failDigest 1
    if s.isPending .upd 5 then finishCmd .upd stDone s else s

/-! ### Starts (R34, R35, R430, R435, R438, R439) -/

/-- A bank verifies and runs; otherwise the recovery image, with FW_BANK_BAD for each bank refused (R34). -/
def State.runFired (s : State) (b : Nat) (refused : List Nat) : State :=
  let r := s.verifyBank b
  if r.1 = 0 then r.2.withUpd fun u => { u with running := b, glaze := false }
  else
    let s := r.2.setFwBank b bankBad r.1
    (refused ++ [b]).foldl (fun (s : State) k => s.logEv 7 1 (leBytes 1 k ++ leBytes 1 (s.fwBank k).fail))
      (s.withUpd fun u => { u with running := 2, glaze := false })

/-- A trial start of the active bank (R435). -/
def State.runTrial (s : State) (x : Selector) : State :=
  let t := x.trial + 1
  if max 1 x.trialMax < t then
    let s := ((s.abandon x.active failTrial).reverted).logEv 7 5 (leBytes 1 x.active ++ leBytes 1 t)
    s.runFired x.fired []
  else
    let s := s.writeSel fun y => { y with trial := t }
    let r := s.verifyBank x.active
    if r.1 = 0 then (r.2.setFwBank x.active bankGlaze 0).withUpd fun u => { u with running := x.active, glaze := true }
    else (r.2.abandon x.active failDigest).runFired x.fired [x.active]

/-- Case 3 of R35: bank A where it verifies, and bank B where it does not, with the banks refused so far. -/
def State.tieCase3 (s : State) : (Nat × List Nat) × State :=
  let r := s.verifyBank 0
  if r.1 = 0 then ((0, []), r.2) else ((1, [0]), r.2.setFwBank 0 bankBad r.1)

/-- Two copies tie: the bank of R35 runs as fired, or the recovery image runs where it fails; the copies are rewritten with that
bank and FW_SELECTOR_TIE is logged. TRIAL_MAX and CONFIRM_S of the copies, and the rewriting where the recovery image runs, are the
model's choice (assumption 118). -/
def State.runTied (s : State) (tied : List Selector) (third : Option Selector) : State :=
  let r := match tieBank tied third with
    | some b => ((b, []), s)
    | none => s.tieCase3
  let b := r.1.1
  let s := r.2.runFired b r.1.2
  let s := s.writeSel fun _ => { gen := 0, active := b, fired := b, trial := 0, trialMax := 3, confirmS := 600 }
  s.logEv 7 10 (leBytes 1 b)

/-- The boot selector is read and an image chosen. A module whose copies are all lost runs bank A, or bank B (as in case 3
of R35). -/
def State.boot (s : State) : State :=
  match s.selector with
  | (some x, _) =>
    if x.active = x.fired then
      let r := s.verifyBank x.active
      if r.1 = 0 then (r.2.setFwBank x.active bankFired 0).withUpd fun u => { u with running := x.active, glaze := false }
      else s.runFired x.fired []
    else s.runTrial x
  | (none, some (tied, third)) => s.runTied tied third
  | (none, none) => s.runTied [] none

/-- What every start does to a running update: halves, campaigns and an armed activation are lost; a verification starts
over. -/
def updStart (s : State) : State :=
  let s := s.loseAct
  let lost := (List.range 4).filter fun c => ((s.upd.camps[c]?).map (·.run)).getD false
  let s := lost.foldl (fun (s : State) c => (s.put (UPD_EP_CFG.RUN c) 0).logEv 7 8 (leBytes 1 c ++ leBytes 2 (s.fld (UPD_EP_CTL.CAMPAIGN c)))) s
  let again := s.upd.banks.any (·.st == bankVerifying)
  s.withUpd fun u => { u with
    halves := [], camps := List.replicate 4 { run := false, blocks := [], targets := [], rounds := 0, installed := 0 }
    banks := u.banks.map fun (x : Bank) => if x.st == bankVerifying then { x with st := bankGreen } else x
    rerun := u.rerun || again, confirming := false, confirmAt := none, confirmLeft := 0 }

/-- VERIFY runs again after entering FIRING or SOAK (R430). -/
def State.verifyAgain (s : State) : State :=
  if s.upd.rerun then
    let s := s.withUpd fun u => { u with rerun := false }
    if (s.fwBank s.inactive).st = bankGreen then s.setFwBank s.inactive bankVerifying 0 else s
  else s

/-! ### Endpoint firmware campaigns (R439 to R442) -/

def State.camp (s : State) (c : Nat) : Campaign :=
  (s.upd.camps[c]?).getD { run := false, blocks := [], targets := [], rounds := 0, installed := 0 }

def State.updCamp (s : State) (c : Nat) (f : Campaign → Campaign) : State :=
  s.withUpd fun u => { u with camps := updAt u.camps c f }

/-- The endpoints a campaign addresses when it starts (R439). -/
def State.campTargets (s : State) (c : Nat) : List Nat :=
  s.epas fun n =>
    s.epState n == stActive && s.isRadio n && bitOf (s.fld (UPD_EP_CFG.CHMASK c)) (s.fld (EPC_REACH.PORT n) % 8) &&
      s.inGroup n (s.fld (UPD_EP_CFG.GROUP c)) && s.fld (EPC_INFO_MODEL.MODEL n 0) == s.fld (UPD_EP_MODEL_LO.MODEL c) &&
      s.fld (EPC_INFO_MODEL.MODEL n 1) == s.fld (UPD_EP_MODEL_HI.MODEL c) && s.fld (EPC_INFO_FW.FW n) != s.fld (UPD_EP_FW.FW c)

/-- Every block of a campaign's image is loaded. -/
def State.campLoaded (s : State) (c : Nat) : Bool :=
  let n := (s.fld (UPD_EP_SIZE.BLOCKS c) + 63) / 64
  n != 0 && (List.range n).all fun k => (s.camp c).blocks.any (·.1 == k)

/-- EP_START (R439). -/
def epStartBody (src : Nat) (s : State) : Nat × State :=
  let c := s.fld UPD_CMD_ARG.INDEX
  if 4 ≤ c then (stRefusedArg, s)
  else if !s.campLoaded c || (s.camp c).run then (stRefusedState, s)
  else
    match s.useSlot (s.fld (UPD_EP_CFG.KEY_SLOT c)) useEpFw (fun t => t == 1) src with
    | (s, .inr st) => (st, s)
    | (s, .inl _) =>
      let l := (s.campTargets c).map fun n =>
        ({ epa := n, first := 0, map := 0, complete := false, committed := false, silent := 0, result := none } : FwTarget)
      (stDone, (s.updCamp c fun x => { x with run := true, targets := l, rounds := 0, installed := 0 }).put (UPD_EP_CFG.RUN c) 1)

def epStart (src : Src) (s : State) : State := runCmd .upd 0x10 (privileged src (epStartBody src.code)) s

/-- A campaign ends (R442). -/
def State.campEnd (s : State) (c : Nat) : State :=
  let x := s.camp c
  let s := (s.updCamp c fun x => { x with run := false }).put (UPD_EP_CFG.RUN c) 0
  (s.raise UPD_IRQ_STAT.EP_DONE).logEv 7 9 (leBytes 1 c ++ leBytes 2 x.targets.length ++ leBytes 2 x.installed)

/-- EP_STOP (R442). -/
def epStop (s : State) : State :=
  runCmd .upd 0x11 (fun s =>
    let c := s.fld UPD_CMD_ARG.INDEX
    if 4 ≤ c then (stRefusedArg, s)
    else if !(s.camp c).run then (stRefusedState, s)
    else (stDone, s.campEnd c)) s

/-- Every target has a result. -/
def State.campOver (s : State) (c : Nat) : State :=
  if (s.camp c).run && (s.camp c).targets.all (·.result.isSome) then s.campEnd c else s

/-- A target is known to hold block `k`. -/
def FwTarget.holds (t : FwTarget) (k : Nat) : Bool :=
  t.complete || k < t.first || (k < t.first + 256 && bitOf t.map (k - t.first))

/-- The image's bytes from the blocks loaded. -/
def Campaign.bytes (x : Campaign) (n : Nat) : List Byte :=
  ((List.range ((n + 63) / 64)).flatMap fun k => ((x.blocks.find? (·.1 == k)).map (·.2)).getD []).take (64 * n)

/-- The class of campaign frames, and whether a channel may take one now (R441). -/
def State.campMay (s : State) (ch : Nat) : Bool :=
  s.cf UPD_EP_FLOOR.MS * 1000 < s.chCredit ch false && !s.lfe.emerg

/-- A campaign frame enters its channel's port-class queue. -/
def State.campQueue (s : State) (ch : Nat) (f : Frame) : State :=
  if s.campMay ch then
    let k := s.cf UPD_EP_FLOOR.CLASS
    (s.enq (4096 + 8 * ch + k) 14 k (s.psduLen ch f) (.tep f)).2
  else s

/-- A group frame of a campaign on each channel of CHMASK. -/
def State.campGroup (s : State) (c typ : Nat) (fields : List Byte) : State :=
  ((List.range 8).filter (bitOf (s.fld (UPD_EP_CFG.CHMASK c)) ·)).foldl (fun (s : State) ch =>
    let r := s.mkGroup typ fields (.fw c)
    r.2.campQueue ch r.1) s

/-- A unicast frame of a campaign. -/
def State.campUni (s : State) (c epa typ : Nat) (fields : List Byte) : State :=
  let r := s.mkUnicast epa typ fields (.fw c)
  r.2.2.campQueue (s.fld (EPC_REACH.PORT epa) % 8) r.1

/-- The key of a campaign; it was used once at EP_START. -/
def State.campKey (s : State) (c : Nat) : List Byte := ((s.slot (s.fld (UPD_EP_CFG.KEY_SLOT c))).map (·.key.get)).getD []

/-- FW_OFFER's fields (Table 16.10). -/
def State.offerFields (s : State) (c : Nat) (img : List Byte) : List Byte :=
  leBytes 2 (s.fld (UPD_EP_CTL.CAMPAIGN c)) ++ [0, 0] ++ leBytes 4 (s.fld (UPD_EP_MODEL_LO.MODEL c)) ++
    leBytes 4 (s.fld (UPD_EP_MODEL_HI.MODEL c)) ++ leBytes 4 (s.fld (UPD_EP_FW.FW c)) ++
    leBytes 2 (s.fld (UPD_EP_SIZE.BLOCKS c)) ++ (Config.sha256 img).take 8

/-- FW_BLOCK's fields. -/
def State.fwBlockFields (s : State) (c : Nat) (img : List Byte) (k : Nat) : List Byte :=
  let b := leBytes 2 (s.fld (UPD_EP_CTL.CAMPAIGN c)) ++ leBytes 2 k ++ ((img.drop (64 * k)).take 64)
  b ++ (Config.cmac (s.campKey c) b).take 8

/-- A target samples its channel: its blocks go by unicast. -/
def State.samples (s : State) (epa : Nat) : Bool := s.fld (EPC_TIMING.CSL_MS epa) != 0

/-- Step 1 of a round: the offer and the blocks still missing. -/
def State.campBlocks (s : State) (c : Nat) : State :=
  let n := s.fld (UPD_EP_SIZE.BLOCKS c)
  let img := (s.camp c).bytes n
  let open' := (s.camp c).targets.filter fun t => t.result.isNone && !t.complete
  let s := s.campGroup c 0x20 (s.offerFields c img)
  let grp := (List.range n).filter fun k => open'.any fun t => !s.samples t.epa && !t.holds k
  let s := grp.foldl (fun (s : State) k => s.campGroup c 0x21 (s.fwBlockFields c img k)) s
  (open'.filter fun t => s.samples t.epa).foldl (fun (s : State) t =>
    ((List.range n).filter fun k => !t.holds k).foldl (fun (s : State) k => s.campUni c t.epa 0x21 (s.fwBlockFields c img k)) s) s

/-- Step 2: map requests; a target that left three unanswered is passed over once. -/
def State.campAsk (s : State) (c : Nat) : State :=
  let ask := (s.camp c).targets.filter fun t => t.result.isNone && !t.complete && t.silent < 3
  let s := s.updCamp c fun x => { x with targets := x.targets.map fun (t : FwTarget) =>
    if t.complete || t.result.isSome then t else { t with silent := if t.silent < 3 then t.silent + 1 else 0 } }
  ask.foldl (fun (s : State) t => s.campUni c t.epa 0x22 (leBytes 2 (s.fld (UPD_EP_CTL.CAMPAIGN c)) ++ [0, 0])) s

/-- CAMPAIGN_ROUND of campaign `c` (R441). -/
def campaignRound (c : Nat) (s : State) : State :=
  if !s.up .upd || !(s.camp c).run then s
  else
    let s := s.updCamp c fun x => { x with rounds := min 65535 (x.rounds + 1) }
    ((s.campBlocks c).campAsk c).campOver c

/-- The running campaign with an identifier that addresses an endpoint. -/
def State.campOf (s : State) (epa id : Nat) : Option Nat :=
  (List.range 4).find? fun c =>
    (s.camp c).run && s.fld (UPD_EP_CTL.CAMPAIGN c) == id && (s.camp c).targets.any fun t => t.epa == epa && t.result.isNone

/-- A target of a campaign changed. -/
def State.updTarget (s : State) (c epa : Nat) (f : FwTarget → FwTarget) : State :=
  s.updCamp c fun x => { x with targets := x.targets.map fun (t : FwTarget) => if t.epa == epa then f t else t }

/-- A target reports the blocks it holds; the first complete map is answered with FW_COMMIT (R440, R442). -/
def State.mapHeard (s : State) (epa id first map : Nat) : State :=
  match s.campOf epa id with
  | none => s
  | some c =>
    let done := first == 0xFFFF
    let sent := (s.camp c).targets.any fun t => t.epa == epa && t.committed
    let s := s.updTarget c epa fun t => { t with first := first, map := map, complete := done, silent := 0, committed := t.committed || done }
    if done && !sent then
      let t := s.nt + clampN 2 540 (s.fld (UPD_EP_CTL.COMMIT_S c)) * 1000000000
      s.campUni c epa 0x24 (leBytes 2 id ++ [0, 0] ++ leBytes 6 (t / 1000000000) ++ leBytes 4 (t % 1000000000))
    else s

/-- FW_MAP: the blocks an endpoint holds (R440, R442). -/
def fwMap (epa id first map : Nat) (l : LinkInfo) (s : State) : State :=
  if !s.up .upd || !s.ingests epa then s else (s.linkUpdate epa l).mapHeard epa id first map

/-- A target reports its result (R442). -/
def State.resultHeard (s : State) (epa id result fw : Nat) : State :=
  match s.campOf epa id with
  | none => s
  | some c =>
    let s := s.updTarget c epa fun t => { t with result := some result }
    let s :=
      if result = 0 then (s.put (EPC_INFO_FW.FW epa) fw).updCamp c fun x => { x with installed := x.installed + 1 }
      else s.raiseFault epa 0x0C result
    s.campOver c

/-- FW_RESULT (R442). -/
def fwResult (epa id result fw : Nat) (l : LinkInfo) (s : State) : State :=
  if !s.up .upd || !s.ingests epa then s else (s.linkUpdate epa l).resultHeard epa id result fw

/-! ### What the registers read (Table 16.11) -/

/-- UPD words that read what the state holds; nothing for the others. -/
def State.updWord (s : State) (a : Nat) : Option Nat :=
  if a = UPD_STAT.adr then
    some ((if s.upd.armed.isSome then 2 ^ 31 else 0) + s.fld UPD_STAT.DEFERRED * 2 ^ 30 + s.fld UPD_STAT.REVERTED * 2 ^ 29 +
      (if s.upd.glaze then 2 ^ 28 else 0) + (if s.upd.running = 2 then 2 else s.selActive) * 2 ^ 24 + s.selFired * 2 ^ 20 +
      ((s.selector.1.map (·.trial)).getD 0) * 2 ^ 8)
  else if a = UPD_CONFIRM_LEFT.adr then some (min 65535 s.confirmLeft)
  else if a = UPD_SEC_MIN.adr then some s.upd.secMin
  else if UPD_BANK_STAT.adr 0 ≤ a ∧ a < UPD_BANK_STAT.adr 0 + 0x20 then
    let x := s.fwBank ((a - UPD_BANK_STAT.adr 0) / 16)
    some (match (a - UPD_BANK_STAT.adr 0) % 16 with
      | 0 => x.st * 2 ^ 29 + x.fail * 2 ^ 16 + x.secVer
      | 4 => x.version
      | 8 => x.bitmap.length * 2 ^ 16 + x.total
      | _ => x.abi)
  else if 0x70100 ≤ a ∧ a < 0x70180 then
    let k := (a - 0x70100) % 0x40
    if k < 48 then some (leAt (s.fwBank ((a - 0x70100) / 0x40)).digest k 4) else none
  else if 0x70200 ≤ a ∧ a < 0x70300 then
    let x := s.camp ((a - 0x70200) / 0x40)
    match (a - 0x70200) % 0x40 with
    | 0x10 => some (x.blocks.length * 2 ^ 16 + s.rd a % 2 ^ 16)
    | 0x18 => some (x.targets.countP (·.complete) * 2 ^ 16 + x.targets.length)
    | 0x1C => some (x.installed * 2 ^ 16 + x.rounds)
    | _ => none
  else none

end Sys2Proof.Machine
end

