-- ==== Sys2Proof/Machine/Pair.lean ====
section
/-! DEFINITION. Active/standby pairing: the lease, roles and their outputs, mirroring, takeover, abdication (chapter 17, R444
to R459). -/

namespace Sys2Proof.Machine

def State.withPair (s : State) (f : PairState → PairState) : State := { s with pair := f s.pair }

/-- Table 17.1, in counts of 2 ns: the lease L, the guard G, the renewal interval. -/
def leaseL : Nat := 400 * msec
def leaseG : Nat := 50 * msec
def renewInterval : Nat := 100 * msec

/-- The pair link: 0 MZ_A, 1 MZ_B (R444). -/
def State.pairLink (s : State) : Nat := s.fld PAIR_CFG.LINK

def State.pairEn (s : State) : Bool := s.bit PAIR_CFG.EN
def State.own (s : State) : Bool := s.bit PAIR_STAT.OWN
def State.peerOwn (s : State) : Bool := s.bit PAIR_STAT.PEER_OWN

/-! ### Conditions and lease frames (R444, R455, Tables 17.2 and 17.5) -/

/-- The abdication conditions that hold (Table 17.5, R465). -/
def State.pairCond (s : State) : Nat :=
  let one := fun (b : Bool) (k : Nat) => if b then 2 ^ k else 0
  one (s.fld EPC_BANK_STAT.UNAVAIL != 0) 0 + one (!s.rad.failed.isEmpty) 1 + one (!s.mtr.lost.isEmpty) 2 +
    one (!s.swc.retired.isEmpty) 3 + one (s.bit LFE_STAT.NO_LANES) 4 +
    one (s.bit HLT_STAT.CRIT_TEMP || s.bit HLT_STAT.CRIT_VOLT || s.bit HLT_STAT.CRIT_PROC || s.bit HLT_STAT.NVM_LOW) 5

/-- COND and ELIGIBLE are published (R455). -/
def State.pubPair (s : State) : State :=
  let c := s.pairCond
  (s.put PAIR_STAT.COND c).putB PAIR_STAT.ELIGIBLE (s.pairEn && (c &&& s.fld PAIR_ABD_MASK.MASK) == 0)

def State.pairMask (s : State) : Nat := s.fld PAIR_DIGEST_MASK_LO.MASK + 2 ^ 32 * s.fld PAIR_DIGEST_MASK_HI.MASK

/-- The 8 digest bytes of a lease frame (R444). -/
def State.pairDigest (s : State) : List Byte := (s.digestOver s.pairMask).take 8

/-- FLAGS of a lease frame (Table 17.2). -/
def State.pairFlags (s : State) : Nat :=
  let one := fun (b : Bool) (k : Nat) => if b then 2 ^ k else 0
  one (s.bit PAIR_STAT.ELIGIBLE) 0 + one (s.bit PAIR_STAT.SYNCED) 1 + one s.upd.glaze 2 + one s.upd.armed.isSome 3 +
    one s.pair.wantResync 4

/-- A lease frame goes out on the pair link: 3 RENEW, 4 GRANT, 5 RELEASE, 6 CLAIM (Table 17.2). -/
def State.sendLease (s : State) (sub seq : Nat) : State :=
  let s := s.pubPair
  let act := ((s.upd.armed.map (·.at_)).getD 0) / 1000000000
  s.mzAdj s.pairLink mzTime (leBytes 1 sub ++ leBytes 1 s.role ++ leBytes 2 seq ++ serialBytes ++
    leBytes 2 (s.fld PAIR_STAT.COND) ++ leBytes 1 s.pairFlags ++ [0] ++ leBytes 4 (s.fld PAIR_MIRROR.SEQ) ++ leBytes 4 act ++
    s.pairDigest)

/-- What any lease frame tells of the partner (R444, R455, R458). -/
def State.peerHeard (s : State) (b : List Byte) : State :=
  let s := (s.put PAIR_PEER_SERIAL_LO.SERIAL (leAt b 4 4)).put PAIR_PEER_SERIAL_HI.SERIAL (leAt b 8 4)
  let s := (s.put PAIR_STAT.PEER_COND (leAt b 12 2)).withPair fun p =>
    { p with peerFlags := leAt b 14 1, peerCond := leAt b 12 2, peerActSec := leAt b 20 4 }
  if (b.drop 24).take 8 = s.pairDigest then s.put PAIR_STAT.CFG_MISMATCH 0
  else if s.bit PAIR_STAT.CFG_MISMATCH then s
  else ((s.put PAIR_STAT.CFG_MISMATCH 1).raise PAIR_IRQ_STAT.CFG_MISMATCH).logEv 9 1 ((b.drop 24).take 8)

/-- A lease frame of kind `sub` is for the pair: it came on the pair link of a paired module, from its neighbour, and is whole. -/
def State.leaseOk (s : State) (l sub : Nat) (x : MzRx) : Bool :=
  s.pairEn && l == s.pairLink && x.adj && leAt x.payload 0 1 == sub && x.payload.length == 32

/-- A lease frame is received on link `l`: taken on the pair link of a paired module alone. -/
def leaseRecv (l sub : Nat) (x : MzRx) (use : State → State) (s : State) : State :=
  mzRecv l mzTime x (fun s => if s.leaseOk l sub x then use (s.peerHeard x.payload) else s) s

/-- SEQ of a lease frame. -/
def leaseSeq (x : MzRx) : Nat := leAt x.payload 2 2

/-- `a` is newer than `b`, in serial order of 16 bits. -/
def newer16 (a b : Nat) : Bool := 0 < (a + 65536 - b) % 65536 && (a + 65536 - b) % 65536 < 32768

/-! ### Roles and outputs (R452, Table 17.5a) -/

/-- A channel goes OFF; its EN stays (R452). -/
def State.parkCh (s : State) (n : Nat) : State :=
  (((s.put (DRV_CH_STAT.STATE n) 0).put (DRV_CH_STAT.RETRIES n) 0).put (DRV_CH_STAT.IN_INRUSH n) 0).put (DRV_CH_PWM_OUT.WIDTH n) 0

/-- DRV channels OFF, AO high-impedance, FIO inactive, and DL released (R452). -/
def State.outputsOff (s : State) : State :=
  let s := ((List.range 64).foldl State.parkCh s).pubDrv
  let s := (List.range 12).foldl (fun s a => (s.put (LBUS_AO_OUT.DRIVEN a) 0).put (LBUS_AO_OUT.CLAMP a) 0) s
  let s := { s with lbus := { s.lbus with aoPads := List.replicate 12 .highZ } }
  let s := ((List.range 72).filter fun i => s.fioMode i == 3 || s.fioMode i == 4).foldl (fun s i => s.switchOut i false) s
  let s := if s.isPending .lbus 3 then finishCmd .lbus stInterrupted s else s
  { s with drv := { s.drv with loads := [], chases := [] }
           lbus := { s.lbus with rawPort := none, ports := State.reset.lbus.ports } }

/-- The radios fall silent and stop receiving: what they held is dropped (R452). -/
def State.radiosOff (s : State) : State :=
  let s := s.discardAll (s.rad.chans.flatMap Chan.frames)
  { s with rad := { s.rad with chans := s.rad.chans.map fun (c : Chan) =>
    { c with cur := none, again := [], tx := none, timed := [], ack := none, window := none, rxFrom := none, rxLost := false } } }

/-- A role is taken, and the radio channels' states follow. -/
def State.setRole (s : State) (r : Nat) : State :=
  let s := s.put PAIR_STAT.ROLE r
  if s.up .rad then s.pubRads else s

/-- STANDBY: the outputs go off, and a full copy is asked for (R452, R457, R458). -/
def State.becomeStandby (s : State) : State :=
  let s := if s.up .drv then s.outputsOff.radiosOff else s
  let s := (s.put PAIR_STAT.SYNCED 0).withPair fun p =>
    { p with claimAt := none, expiry := none, deadline := s.clk + leaseL + leaseG, seqIn := none, nextSeq := 0, nextPart := 0
             parts := [], full := false, wantResync := true, sentSeqs := [], ledger := List.replicate 8 [] }
  s.setRole 3

/-- PAIR_OWN goes high-impedance and the module is RELEASED, or STANDBY where the partner already owns (R446, R452). A
HANDOVER under way ends with `st`. -/
def State.letGo (s : State) (st : Nat) : State :=
  let s := (s.put PAIR_STAT.OWN 0).raise PAIR_IRQ_STAT.RELEASED
  let s := if s.isPending .pair 1 then finishCmd .pair st s else s
  let s := s.withPair fun p => { p with claimAt := none, expiry := none, releasedAt := s.clk, sentSeqs := [], handover := none }
  if s.peerOwn then s.becomeStandby else s.setRole 4

/-- Abdication: PAIR_OWN released, RELEASE sent, RELEASED (R455, R456). Cause 0 a condition, 1 HANDOVER, 2 ABDICATE. -/
def State.abdicate (s : State) (cause : Nat) : State :=
  let s := s.pubPair
  let s := s.logEv 9 5 (leBytes 1 (s.fld PAIR_STAT.COND) ++ leBytes 1 cause)
  (s.sendLease 5 s.pair.seqOut).letGo stDone

/-- The partner reports ELIGIBLE and SYNCED. -/
def State.peerReady (s : State) : Bool := bitOf s.pair.peerFlags 0 && bitOf s.pair.peerFlags 1

/-- What follows from the module's condition: COND and ELIGIBLE, and abdication where every clause of R455 holds. -/
def State.pairFollow (s : State) : State :=
  if !s.pairEn || !s.up .cfg then s
  else
    let s := s.pubPair
    let own := s.fld PAIR_STAT.COND &&& s.fld PAIR_ABD_MASK.MASK
    if s.role = 2 && s.peerReady && (List.range 6).any (fun k => bitOf own k && !bitOf s.pair.peerCond k) then s.abdicate 0
    else s

/-! ### Counters at a cold start and at a takeover (R118, R119, R453) -/

/-- Radio endpoints that hold a context. -/
def State.radioEpas (s : State) : List Nat := s.epas s.isRadio

/-- What the counters ask for after a jump: the rekeys and faults of R120, KEY_GTX_LOW (R415), and the snapshot, since they are
then more than 32,768 past it (R117, R118). -/
def State.countersWorn (s : State) : State :=
  let s := (s.knownEpas.filter s.isRadio).foldl State.ctrWorn s
  if 0xFFFF0000 ≤ s.fld EPC_GTX_CTR.CTR && !s.bit KEY_STAT.GTX_LOW then
    (((s.put KEY_STAT.GTX_LOW 1).raise KEY_IRQ_STAT.GTX_LOW).logEv 6 5 (leBytes 4 (s.fld EPC_GTX_CTR.CTR))).snapshot
  else s.snapshot

/-- TX_CTR of every endpoint and EPC_GTX_CTR rise by 65,536, saturating, at a takeover (R118, R453). -/
def State.jumpCounters (s : State) : State :=
  let s := (s.knownEpas.filter s.isRadio).foldl (fun s n => s.bumpBy (EPC_TX_CTR.CTR n) 65536) s
  (s.bumpBy EPC_GTX_CTR.CTR 65536).countersWorn

/-- The resync windows of joined radio endpoints (R119). -/
def State.openResync (s : State) : State :=
  (s.radioEpas.filter fun n => s.bit (EPC_SEC.JOINED n)).foldl (fun s n =>
    let h := s.fld (EPC_RX_HIGH.CTR n)
    let s := (s.put (EPC_RX_FLOOR.CTR n) (min 0xFFFFFFFF (h + 65536))).put (EPC_RX_WIN.MAP n) 0
    let s := (s.put (EPC_RPT_FLAGS.RESYNC n) 1).setRun { s.run n with resyncLow := h, resync := none }
    if 0xFFFFFFFF < h + 65536 then s.rekey n else s) s

/-- EPC_STAT counts the contexts anew. -/
def State.recount (s : State) : State :=
  let n := fun (st : Nat) => (s.knownEpas.filter fun e => s.epState e == st).length
  (s.put EPC_STAT.ACTIVE (n stActive)).put EPC_STAT.RESERVED (n stReserved)

/-- A transition slot restored after a restart or a takeover: ARMED or COMMITTED arms again, with the rounds and the commit
already due; HELD keeps its claim (R23, R204, Table 7.2). -/
def State.rearmSlot (s : State) (n : Nat) : State :=
  let s := s.setSlotRun { slot := n, round := 0, armed := [], uni := [], chans := [], caught := [], release := false }
  if s.slotState n = 3 then s
  else
    let s := s.setSlot n 1
    if s.slotT n ≤ s.nt then s else slotCommit n (armRound n s)

/-! ### Mirroring (R449 to R451, Tables 17.3 and 17.4) -/

/-- The words of a context at which its RAR shadow travels (assumption 50). -/
def shadowWord (a : Nat) : Bool := 0x100000 ≤ a && a < 0x300000 && (a % 0x200 == 0x138 || a % 0x200 == 0x13C)

/-- What the active mirrors now: its mirrored words that differ from their reset values, and the shadows. -/
def State.mirrorNow (s : State) : List (Nat × Word) :=
  (s.regs.filter fun x => mirroredWord x.1) ++
    (s.rar.filter fun x => 0x100000 ≤ x.1 && x.1 < 0x300000 && x.2 != 0).flatMap fun x =>
      [(x.1 + 0x18, BitVec.ofNat 32 x.2), (x.1 + 0x1C, BitVec.ofNat 32 (x.2 / 2 ^ 32))]

/-- The words that changed between two mirrors. -/
def mirrorDelta (old now : List (Nat × Word)) : List (Nat × Word) :=
  now.filter (fun x => !old.contains x) ++
    (old.filter fun x => !now.any (·.1 == x.1)).map fun x => (x.1, resetWord x.1)

/-- The record of a word (Table 17.4). -/
def mirOf (x : Nat × Word) : MirRec :=
  let a := x.1
  let mk := fun (sp base stride : Nat) =>
    ({ space := sp, word := (a - base) % stride / 4, index := (a - base) / stride, value := x.2.toNat } : MirRec)
  if a = 0x202C then { space := 7, word := 0, index := 0, value := x.2.toNat }
  else if a < 0x300000 then mk 0 0x100000 0x200
  else if a < 0x382000 then mk 1 0x381000 64
  else if a < 0x400000 then mk 2 0x382000 64
  else if a < 0x440000 then mk 3 0x401000 64
  else if a < 0x442000 then mk 5 0x440030 4
  else mk 4 0x442000 32

/-- The word of a record; nothing for SPACE 6 and for a record Table 17.4 does not list. -/
def MirRec.adr (r : MirRec) : Option Nat :=
  let at_ := fun (base stride n : Nat) => if r.index < n ∧ r.word < stride / 4 then some (base + stride * r.index + 4 * r.word) else none
  let a := match r.space with
    | 0 => at_ 0x100000 0x200 4096
    | 1 => at_ 0x381000 64 64
    | 2 => at_ 0x382000 64 32
    | 3 => at_ 0x401000 64 64
    | 4 => at_ 0x442000 32 12
    | 5 => at_ 0x440030 4 3
    | 7 => if r.index = 0 ∧ r.word = 0 then some 0x202C else none
    | _ => none
  a.filter fun a => mirroredWord a

/-- Every word of Table 17.4, in the order of its spaces. -/
def allMirrored : List Nat :=
  let blk := fun (base stride n : Nat) (ws : List Nat) => (List.range n).flatMap fun i => ws.map fun w => base + stride * i + 4 * w
  blk 0x100000 0x200 4096 (List.range 96) ++ blk 0x381000 64 64 (List.range 8) ++ blk 0x382000 64 32 [0, 6, 7] ++
    blk 0x401000 64 64 [0, 8, 9] ++ blk 0x442000 32 12 [1, 3] ++ blk 0x440030 4 3 [0] ++ [0x202C]

/-- The value that stands for a mirrored word. -/
def State.mirrorVal (s : State) (a : Nat) : Word :=
  if shadowWord a then
    (fun (v : Nat) => BitVec.ofNat 32 (if a % 0x200 = 0x138 then v else v / 2 ^ 32)) (s.rarShadow (a / 0x200 * 0x200 + 0x120))
  else s.word a

/-- A list in pieces of at most 1,214 records. -/
def mirrorParts : Nat → List MirRec → List (List MirRec)
  | 0, _ => []
  | n + 1, l => if l.length ≤ 1214 then [l] else l.take 1214 :: mirrorParts n (l.drop 1214)

def MirRec.bytes (r : MirRec) : List Byte := leBytes 1 r.space ++ leBytes 1 r.word ++ leBytes 2 r.index ++ leBytes 4 r.value

/-- A mirror frame (Table 17.3). -/
def mirrorFrameBytes (seq part flags : Nat) (l : List MirRec) : List Byte :=
  [0x54, 0x4C, 0x4D, 0x52] ++ leBytes 4 seq ++ leBytes 2 part ++ leBytes 2 flags ++ leBytes 2 l.length ++ [0, 0] ++
    l.flatMap MirRec.bytes

/-- The active sends the delta of the tick that has just ended, and where RESYNC was asked for a full copy with it (R449,
R450; assumptions 50, 145). -/
def State.mirrorTick (s : State) : State :=
  if s.role ≠ 2 ∨ !s.pairEn ∨ !s.mzUp s.pairLink ∨ s.bit PAIR_STAT.CFG_MISMATCH then s
  else
    let now := s.mirrorNow
    let air := ((List.range 8).filter fun k => s.pair.aired.getD k 0 != 0).map fun k =>
      ({ space := 6, word := 0, index := k, value := s.pair.aired.getD k 0 } : MirRec)
    let delta := (mirrorDelta s.pair.mirrored now).map mirOf ++ air
    let full := if s.pair.sendFull then mirrorParts 1000 (allMirrored.map fun a => mirOf (a, s.mirrorVal a)) else []
    let parts := (mirrorParts 1000 delta).map (fun l => (0, l)) ++ full.map fun l => (2, l)
    let seq := (s.fld PAIR_MIRROR.SEQ + 1) % 2 ^ 32
    let n := parts.length
    let s := (List.range n).foldl (fun s k =>
      let p := parts.getD k (0, [])
      s.mzAdj s.pairLink mzData (mirrorFrameBytes seq k (p.1 + if k + 1 = n then 1 else 0) p.2)) s
    let s := s.withPair fun p => { p with
      mirrored := now, sendFull := false, aired := List.replicate 8 0
      handover := if p.handover = some none then some (some seq) else p.handover }
    s.put PAIR_MIRROR.SEQ seq

/-- LFE_TICK: the tick, and the mirror delta after it (R150, R449). -/
def lfeTickMirror (s : State) : State :=
  let t := lfeTick s
  if t.lfe.ticks = s.lfe.ticks then t else t.mirrorTick

/-- An open tick whose 150 µs have passed runs to its end, and its mirror delta follows. -/
def State.tickOnMirror (s : State) : State := if s.tickDue then s.endTick.mirrorTick else s

/-- A record takes effect on the standby (R450). -/
def State.applyMir (s : State) (r : MirRec) : State :=
  if r.space = 6 ∧ r.index < 8 then
    s.withPair fun p => { p with ledger := updAt p.ledger r.index (addBucket r.value) }
  else
    match r.adr with
    | none => s
    | some a =>
      if shadowWord a then
        let lo := a / 0x200 * 0x200 + 0x120
        let v := s.rarShadow lo
        s.setRar lo (if a % 0x200 = 0x138 then v / 2 ^ 32 * 2 ^ 32 + r.value else v % 2 ^ 32 + 2 ^ 32 * r.value)
      else s.wr a r.value

/-- The records of a mirror frame. -/
def mirRecs (b : List Byte) : List MirRec :=
  (List.range (leAt b 12 2)).map fun k =>
    let r := b.drop (16 + 8 * k)
    { space := leAt r 0 1, word := leAt r 1 1, index := leAt r 2 2, value := leAt r 4 4 }

/-- A SEQ or PART is missing: the sync, or a full copy under way, is lost (R450, assumption 145). -/
def State.mirrorGap (s : State) : State :=
  let p := s.pair
  let s := s.withPair fun p => { p with full := false, parts := [], wantResync := true }
  if s.bit PAIR_STAT.SYNCED || p.full then
    (((s.put PAIR_STAT.SYNCED 0).raise PAIR_IRQ_STAT.SYNC_LOST).bump PAIR_CNT.SYNC_LOST).logEv 9 2
      (leBytes 4 p.nextSeq ++ leBytes 2 p.nextPart)
  else s

/-- The records of a SEQ are applied together, and a full copy without a gap sets SYNCED (R450). -/
def State.mirrorApply (s : State) (seq : Nat) (lastFull : Bool) : State :=
  let s := ((s.pair.parts.foldl State.applyMir s).recount).put PAIR_MIRROR.SEQ seq
  let ok := lastFull && s.pair.full
  let s := s.withPair fun p => { p with parts := [], nextSeq := (seq + 1) % 2 ^ 32, nextPart := 0, appliedAt := s.clk, full := false }
  if ok then (s.put PAIR_STAT.SYNCED 1).put PAIR_STAT.STALE 0 else s

/-- The standby takes a mirror frame. -/
def State.takeMirror (s : State) (b : List Byte) : State :=
  let seq := leAt b 4 4
  let part := leAt b 8 2
  let fl := leAt b 10 2
  let s := if seq = s.pair.nextSeq ∧ part = s.pair.nextPart then s else s.mirrorGap
  if part ≠ 0 ∧ !(seq = s.pair.nextSeq ∧ part = s.pair.nextPart) then
    s.withPair fun p => { p with nextSeq := (seq + 1) % 2 ^ 32, nextPart := 0 }
  else
    let begins := bitOf fl 1 && !s.pair.full
    let s := s.withPair fun p => { p with
      parts := (if part = 0 then [] else p.parts) ++ mirRecs b, nextSeq := seq, nextPart := part + 1
      full := p.full || begins, wantResync := p.wantResync && !begins }
    if bitOf fl 0 then s.mirrorApply seq (bitOf fl 1) else s

/-- MIRROR_FRAME: a DATA frame of the pair link that carries the mirror (R449, R450). -/
def mirrorFrame (l : Nat) (x : MzRx) (s : State) : State :=
  mzRecv l mzData x (fun s =>
    if s.pairEn && l == s.pairLink && x.adj && x.payload.take 4 == [0x54, 0x4C, 0x4D, 0x52] && s.standby &&
        !s.bit PAIR_STAT.CFG_MISMATCH then
      s.takeMirror x.payload
    else s) s

/-- MZL_DATA: a DATA frame carries a switch packet, or mirror data, to its destination. -/
def mzlDataFrame (l : Nat) (x : MzRx) (k : PacketIn) (s : State) : State :=
  if s.pairEn && l == s.pairLink && x.adj && x.payload.take 4 == [0x54, 0x4C, 0x4D, 0x52] then mirrorFrame l x s
  else mzlData l x k s

/-! ### Becoming active (R447, R453, R454) -/

/-- The fade units of the endpoints take the levels mirrored for them (step 6 of R453). -/
def State.unitsFromMirror (s : State) : State :=
  (s.epas fun n => (s.unitOf n).isSome).foldl (fun s n =>
    match s.unitOf n with
    | some u => s.updUnit u fun x => { x with level := s.fld (EPC_LVL_CMD.LEVEL n), cct := s.fld (EPC_LVL_CMD.CCT n), lv := none
                                              ct := none, origin := none, cOrigin := none, driven := true }
    | none => s) s

/-- The mirrored DRV, AO and FIO values are applied; enabled channels with D > 0 soft-start (step 6 of R453, R229). -/
def State.outputsOn (s : State) : State :=
  if !s.up .drv then s
  else
    let s := ((List.range 64).filter fun n => s.bit (DRV_CH_CTL.EN n)).foldl State.enableCh s.unitsFromMirror
    let s := (List.range 12).foldl State.aoUpdate s
    contactorEval (fioOutWritten s)

/-- Mirrored pattern engines run again from their original S (step 4 of R453). -/
def State.patsFromMirror (s : State) : State :=
  let l := ((List.range 32).filter fun e => s.bit (TRN_PAT_CTL.RUN e)).map fun e =>
    ({ engine := e, emerg := s.cfB (TRN_PAT_CTL.START_ON_EMERG e) && s.emergNow, stop := false
       start := (s.ntSec / 2 ^ 32 * 2 ^ 32 + s.fld (TRN_PAT_START_SEC.SEC_LO e)) * 1000000000 + s.fld (TRN_PAT_START_NS.NS e) } : PatRun)
  ({ s with trn := { s.trn with pats := l } }).pubPats

/-- Each sub-band window comes from its shadow ledger, the current second charged with 500 ms for every channel enabled in it
(step 5 of R453). -/
def State.ledgersFromMirror (s : State) : State :=
  let extra := fun (k : Nat) => 500000 * ((List.range 8).filter fun ch => s.bit (RAD_CH_CTL.EN ch) && s.sbOfCh ch == k).length
  ({ s with rad := { s.rad with ledger := (List.range 8).map fun k => addBucket (extra k) (s.pair.ledger.getD k []) } }).pubLedger

/-- The steps of R453, before the first tick. -/
def State.takeOver (s : State) : State :=
  let s := (s.joinedEpas.foldl State.deriveLink s).jumpCounters.openResync
  let s := { s with lfe := { s.lfe with mem := (s.epas fun _ => true).map fun n =>
    { epa := n, byLfe := s.fld (EPC_LVL_SRC.LAYER n) == 4, cct := s.fld (EPC_LVL_CMD.CCT n), deferred := false } } }
  let s := ((List.range 64).filter fun n => 1 ≤ s.slotState n && s.slotState n ≤ 3).foldl State.rearmSlot s
  (s.patsFromMirror.ledgersFromMirror.outputsOn).pubSlots

/-- The module becomes active (R447). A standby takes over (R453), radios silent where its mirror was stale (R454); no lease
expiry holds before the first GRANT (assumption 51). -/
def State.becomeActive (s : State) : State :=
  let was := s.role
  let synced := s.bit PAIR_STAT.SYNCED
  let seq := s.fld PAIR_MIRROR.SEQ
  let s := (s.put PAIR_STAT.SYNCED 0).withPair fun p =>
    { p with claimAt := none, expiry := none, sentSeqs := [], renewAt := s.clk, handover := none, sendFull := false
             wantResync := false, aired := List.replicate 8 0 }
  let stale := was = 3 ∧ !synced
  let s := if stale then (s.put PAIR_STAT.STALE 1).logEv 9 3 (leBytes 4 seq) else s
  let s := s.setRole 2
  let s := if was = 3 then
      (((s.takeOver).raise PAIR_IRQ_STAT.TAKEOVER).bump PAIR_CNT.TAKEOVERS).logEv 9 4 (leBytes 4 seq ++ leBytes 1 (if synced then 1 else 0))
    else s
  s.withPair fun p => { p with mirrored := s.mirrorNow }

/-- The module drives PAIR_OWN low, with PAIR_PEER_OWN high, and says so (R447). -/
def State.startClaim (s : State) : State :=
  let s := (s.put PAIR_STAT.OWN 1).withPair fun p => { p with claimAt := some s.clk }
  s.sendLease 6 s.pair.seqOut

/-- A standby may claim: with SYNCED, or where a stale takeover is allowed (R454). -/
def State.mayTake (s : State) : Bool := s.bit PAIR_STAT.SYNCED || s.bit PAIR_CFG.TAKE_STALE

/-- The module owns nothing, claims nothing, and sees the partner not owning. -/
def State.freeToClaim (s : State) : Bool := s.pairEn && s.up .pair && !s.peerOwn && s.pair.claimAt.isNone

/-! ### The rows (R446, R447, R455 to R458) -/

/-- LEASE_RENEW: the active sends RENEW (R446). -/
def leaseRenew (s : State) : State :=
  if s.pairEn && s.up .pair && s.role == 2 && s.pair.renewAt ≤ s.clk then
    let n := (s.pair.seqOut + 1) % 65536
    let s := s.withPair fun p => { p with seqOut := n, renewAt := s.clk + renewInterval, sentSeqs := p.sentSeqs ++ [(n, s.clk, false)] }
    s.sendLease 3 n
  else s

/-- A RENEW is newer than the last one accepted (R446). -/
def State.freshSeq (s : State) (n : Nat) : Bool :=
  match s.pair.seqIn with
  | none => true
  | some m => newer16 n m

/-- A standby grants a RENEW that is newer than the last, and its deadline runs anew (R446). -/
def State.takeRenew (s : State) (n : Nat) : State :=
  if s.role = 3 && s.freshSeq n then
    (s.withPair fun p => { p with seqIn := some n, deadline := s.clk + leaseL + leaseG }).sendLease 4 n
  else s

/-- A module that elects and hears RENEW is the standby (R458). -/
def State.joinPair (s : State) : State :=
  if s.role = 1 then (if s.own then s.put PAIR_STAT.OWN 0 else s).becomeStandby else s

/-- RENEW: a standby, or a module that elects and becomes one, sets its deadline and grants (R446, R458). -/
def renew (l : Nat) (x : MzRx) (s : State) : State := leaseRecv l 3 x (fun s => s.joinPair.takeRenew (leaseSeq x)) s

/-- The GRANT of RENEW `r` extends the lease from the sending of `r`, and takes up a request for a full copy (R446, R450). -/
def State.granted (s : State) (r : Nat × Nat × Bool) : State :=
  s.withPair fun p => { p with
    expiry := some (max (p.expiry.getD 0) (r.2.1 + leaseL))
    sentSeqs := p.sentSeqs.filter fun (y : Nat × Nat × Bool) => y.1 != r.1
    sendFull := p.sendFull || bitOf p.peerFlags 4 }

/-- A GRANT on the active: HANDOVER follows where the partner has applied its mirror (R456). -/
def State.takeGrant (s : State) (x : MzRx) : State :=
  if s.role ≠ 2 then s
  else
    match s.pair.sentSeqs.find? fun (r : Nat × Nat × Bool) => r.1 == leaseSeq x with
    | none => s
    | some r =>
      let s := s.granted r
      if s.pair.handover = some (some (leAt x.payload 16 4)) then s.abdicate 1 else s

/-- GRANT: the lease runs on from the sending of the RENEW it answers; RESYNC and HANDOVER follow (R446, R450, R456). -/
def grant (l : Nat) (x : MzRx) (s : State) : State := leaseRecv l 4 x (fun s => s.takeGrant x) s

/-- RENEW_GRANT_TIMEOUT: RENEW frames unanswered for 100 ms are counted (R446). -/
def renewGrantTimeout (s : State) : State :=
  let due := fun (r : Nat × Nat × Bool) => !r.2.2 && r.2.1 + renewInterval ≤ s.clk
  let n := s.pair.sentSeqs.countP due
  let s := s.withPair fun p => { p with
    sentSeqs := (p.sentSeqs.filter fun (r : Nat × Nat × Bool) => s.clk < r.2.1 + leaseL).map fun r => (r.1, r.2.1, r.2.2 || due r) }
  s.bumpBy PAIR_CNT.RENEW_LOST n

/-- RELEASE: the standby claims at once, or as soon as the partner's pad is high (R455). -/
def releaseFrame (l : Nat) (x : MzRx) (s : State) : State :=
  leaseRecv l 5 x (fun s =>
    if s.role ≠ 3 then s
    else if s.freeToClaim && s.mayTake then s.startClaim
    else s.withPair fun p => { p with deadline := s.clk }) s

/-- CLAIM: it puts an election off; when both modules claim, side A wins (R447, R458). -/
def claimFrame (l : Nat) (x : MzRx) (s : State) : State :=
  leaseRecv l 6 x (fun s =>
    let s := s.withPair fun p => { p with electAt := s.clk }
    if s.pair.claimAt.isSome && s.bit PAIR_CFG.SIDE then
      (s.put PAIR_STAT.OWN 0).withPair fun p => { p with claimAt := none }
    else s) s

/-- LEASE_EXPIRY: the lease timer releases PAIR_OWN (R446). -/
def leaseExpiry (s : State) : State :=
  match s.pair.expiry with
  | some t =>
    if !s.pairEn || !s.up .pair || !s.own || s.clk < t then s
    else if s.role = 2 then s.letGo stTimeout
    else (s.put PAIR_STAT.OWN 0).withPair fun p => { p with expiry := none, claimAt := none }
  | none => s

/-- LEASE_DEADLINE: a standby whose deadline has passed claims, where it is eligible (R447, R454, R455). -/
def leaseDeadline (s : State) : State :=
  let s := if s.pairEn && s.role == 3 then s.pubPair else s
  if s.freeToClaim && s.role == 3 && s.pair.deadline ≤ s.clk && s.bit PAIR_STAT.ELIGIBLE && s.mayTake then s.startClaim else s

/-- CLAIM_CONFIRM: 1 ms with PAIR_OWN low and PAIR_PEER_OWN high (R447). -/
def claimConfirm (s : State) : State :=
  match s.pair.claimAt with
  | some t => if s.pairEn && s.own && !s.peerOwn && t + msec ≤ s.clk then s.becomeActive else s
  | none => s

/-- A side B module gives way to the partner's pad; side A holds its own (R447). -/
def State.peerDrives (s : State) : State :=
  if s.own && s.bit PAIR_CFG.SIDE then
    if s.role = 2 then s.letGo stTimeout
    else ((s.put PAIR_STAT.OWN 0).withPair fun p => { p with claimAt := none, deadline := s.clk + leaseL + leaseG })
  else s

/-- PEER_OWN_CHANGE: PAIR_PEER_OWN goes low or high (R447, R452, R457, R458). -/
def peerOwnChange (low : Bool) (s : State) : State :=
  if !s.up .pair then s
  else
    let s := s.putB PAIR_STAT.PEER_OWN low
    if !s.pairEn then s
    else if low then
      let s := s.peerDrives
      if (s.role = 1 ∨ s.role = 4) ∧ s.pair.claimAt.isNone then (s.put PAIR_STAT.OWN 0).becomeStandby else s
    else if s.pair.claimAt.isSome then s.withPair fun p => { p with claimAt := some s.clk }
    else s

/-- HANDOVER (R456). -/
def pairHandoverBody (s : State) : Nat × State :=
  if s.role = 2 ∧ s.peerReady then (stPending, s.withPair fun p => { p with handover := some none }) else (stRefusedState, s)

def pairHandover (src : Src) (s : State) : State := runCmd .pair 1 (privileged src pairHandoverBody) s

/-- ABDICATE (R456). -/
def pairAbdicate (src : Src) (s : State) : State :=
  runCmd .pair 2 (privileged src fun s => if s.role = 2 then (stDone, s.abdicate 2) else (stRefusedState, s)) s

/-- RESYNC (R456): on the standby a full copy is asked for. -/
def pairResync (s : State) : State :=
  runCmd .pair 3 (fun s => if s.role = 3 then (stDone, s.withPair fun p => { p with wantResync := true }) else (stRefusedState, s)) s

/-- ELECTION_TIMEOUT: nothing heard for L + G since the election began (R447, R458). -/
def electionTimeout (s : State) : State :=
  if s.freeToClaim && s.role == 1 && s.pair.electAt + leaseL + leaseG ≤ s.clk then s.startClaim else s

/-- RELEASED_RECLAIM: the partner has not owned for L + G since the release (R457). -/
def releasedReclaim (s : State) : State :=
  if s.freeToClaim && s.role == 4 && s.pair.releasedAt + leaseL + leaseG ≤ s.clk then s.startClaim else s

/-- A paired module elects (R458): at the end of KINDLING, or where EN is set while it runs (assumption 49). -/
def State.elect (s : State) : State :=
  if !s.pairEn then s
  else
    let s := ((s.putB PAIR_STAT.LINK (s.mzUp s.pairLink)).put PAIR_STAT.SYNCED 0).withPair fun p => { p with electAt := s.clk, claimAt := none, sentSeqs := [], handover := none }
    if s.peerOwn then ((s.put PAIR_STAT.OWN 0).setRole 1).becomeStandby else s.setRole 1

/-- PAIR_CFG.EN is written. An unpaired module owns nothing, and its outputs are its own again. -/
def pairEnWrite (on : Bool) (s : State) : State :=
  if on = s.pairEn then s
  else if on then (s.put PAIR_CFG.EN 1).elect
  else
    let was := s.standby
    let s := ((s.put PAIR_CFG.EN 0).put PAIR_STAT.OWN 0).put PAIR_STAT.LINK 0
    let s := if s.isPending .pair 1 then finishCmd .pair stInterrupted s else s
    let s := (((s.put PAIR_STAT.SYNCED 0).put PAIR_STAT.CFG_MISMATCH 0).put PAIR_STAT.ELIGIBLE 0).withPair fun p =>
      { State.reset.pair with seqOut := p.seqOut }
    let s := s.setRole 0
    if was then s.outputsOn else s

/-- What a change of the pair link means (R457). -/
def State.pairLinkFollow (s : State) (l : Nat) (was : Bool) : State :=
  let now := s.mzUp l
  let s := s.putB PAIR_STAT.LINK now
  if was && !now then (s.raise PAIR_IRQ_STAT.LINK_DOWN).logEv 9 6 (leBytes 1 s.role)
  else if !was && now then
    (if s.role = 4 && s.pair.claimAt.isNone then s.becomeStandby
     else if s.role = 3 then s.withPair fun p => { p with wantResync := true }
     else s)
  else s

/-- MZ_LINK_CHANGE, with what a change of the pair link means (R362, R457). -/
def mzLinkChange (l : Nat) (upNow same : Bool) (s : State) : State :=
  let was := s.bit PAIR_STAT.LINK
  let s := s.linkChange l upNow same
  if !s.pairEn || l != s.pairLink then s else s.pairLinkFollow l was

/-- What PAIR_LEASE_LEFT and PAIR_MIRROR_LAG read (Table 17.7). -/
def State.pairWord (s : State) (a : Nat) : Option Nat :=
  let left := fun (t : Nat) => min 65535 ((t - s.clk + msec - 1) / msec)
  if a = PAIR_LEASE_LEFT.adr then
    some (if s.role = 2 then left (s.pair.expiry.getD 0) else if s.role = 3 then left s.pair.deadline else 0)
  else if a = PAIR_MIRROR_LAG.adr then some (if s.role = 3 then min 65535 ((s.clk - s.pair.appliedAt) / usec) else 0)
  else none

end Sys2Proof.Machine
end

