-- ==== Sys2Proof/Machine/Hlt.lean ====
section
/-! DEFINITION. Health monitors and the stockpile of spares: temperature, supplies, process margin, wear and substitution
(chapter 18, R460 to R468), context errors (R129, R130), spare modulators (R383). -/

namespace Sys2Proof.Machine

def State.withHlt (s : State) (f : HltState → HltState) : State := { s with hlt := f s.hlt }

/-! ### Temperature (R460, R461) -/

def State.tempWarn (s : State) : Int := s.cf HLT_TEMP_CFG.WARN * 10
def State.tempThrottle (s : State) : Int := clampN 100 125 (s.cf HLT_TEMP_CFG.THROTTLE) * 10
def State.tempCrit (s : State) : Int := clampN 110 130 (s.cf HLT_TEMP_CFG.CRIT) * 10
def State.tempRestore (s : State) : Int := s.cf HLT_TEMP_CFG.RESTORE * 10

/-- T_J and the sensor that gives it: the highest of the readings, 0.1 °C, the lowest sensor among equals. -/
def hottest : Nat → List Int → Int × Nat
  | _, [] => (-32768, 0)
  | k, x :: t => if (hottest (k + 1) t).1 ≤ x then (x, k) else hottest (k + 1) t

/-- T_J as its register's 16 bits, and with the sensor (Table 18.6a). -/
def tjBytes (t : Int) : List Byte := leBytes 2 (ofSignedSat 16 t)

/-- The radio throttle steps change (R461). -/
def State.setStep (s : State) (n : Nat) : State :=
  if n = s.fld RAD_STAT.TX_STEP then s
  else
    let s := s.put RAD_STAT.TX_STEP n
    (if s.up .rad then s.pubRads else s).logEv 4 2 (tjBytes (s.sfld HLT_TEMP.TJ) ++ leBytes 1 n ++ leBytes 1 (s.fld HLT_TEMP.HOT))

/-- One more throttle step, up to 10 (R461). -/
def State.addStep (s : State) : State :=
  (s.setStep (min 10 (s.fld RAD_STAT.TX_STEP + 1))).withHlt fun h => { h with throttleFrom := some s.clk }

/-- WARN and CRIT of Table 18.1, with their hysteresis of 5 °C. -/
def State.tempFlags (s : State) (t : Int) (hot : Nat) : State :=
  let s := if s.tempWarn ≤ t ∧ !s.bit HLT_STAT.WARN_TEMP then
      ((s.put HLT_STAT.WARN_TEMP 1).raise HLT_IRQ_STAT.TEMP).logEv 4 1 (tjBytes t ++ leBytes 1 hot)
    else if t < s.tempWarn - 50 then s.put HLT_STAT.WARN_TEMP 0 else s
  if s.tempCrit ≤ t ∧ !s.bit HLT_STAT.CRIT_TEMP then
    let s := s.put HLT_STAT.CRIT_TEMP 1
    s.logEv 4 3 (leBytes 1 (bitsOf (s.rd HLT_STAT.adr) 27 4) ++ tjBytes t ++ leBytes 2 (s.fld HLT_VCORE.MEAS_MV))
  else if t < s.tempCrit - 50 then s.put HLT_STAT.CRIT_TEMP 0 else s

/-- How long T_J has been below RESTORE: kept in ALWAYS-ON for the release of a trip too (R461, R462). -/
def State.noteCool (s : State) (t : Int) : State :=
  s.withHlt fun h => { h with coolFrom := if t < s.tempRestore then some (h.coolFrom.getD s.clk) else none }

/-- TEMP_SAMPLE: the junction sensors are read (R460). -/
def tempSample (readings : List Int) (s : State) : State :=
  let r := hottest 0 readings
  if !s.coreOn || readings.isEmpty then s
  else if !s.up .hlt then s.noteCool r.1
  else
    let s := ((s.putI HLT_TEMP.TJ r.1).put HLT_TEMP.HOT r.2).tempFlags r.1 r.2
    let s := s.noteCool r.1
    if s.tempThrottle ≤ r.1 then (if s.hlt.throttleFrom.isNone then s.addStep else s)
    else s.withHlt fun h => { h with throttleFrom := none }

/-- A time stands in State that is `t` or more in the past. -/
def State.since (s : State) (x : Option Nat) (t : Nat) : Bool :=
  match x with
  | some a => a + t ≤ s.clk
  | none => false

/-- THROTTLE_STEP: 10 s more at or above THROTTLE (R461). -/
def throttleStep (s : State) : State :=
  if s.up .hlt && s.since s.hlt.throttleFrom (10 * secs) then s.addStep else s

/-- THROTTLE_RESTORE: 60 s below RESTORE without a break (R461). -/
def throttleRestore (s : State) : State :=
  if s.up .hlt && s.since s.hlt.coolFrom (60 * secs) && s.fld RAD_STAT.TX_STEP != 0 then
    (s.setStep (s.fld RAD_STAT.TX_STEP - 1)).withHlt fun h => { h with coolFrom := some s.clk }
  else s

/-! ### Supplies (R463, Table 18.2) -/

/-- A measured voltage is published. -/
def State.pubRail (s : State) (rail mv : Nat) : State :=
  let m := min 65535 mv
  match rail with
  | 0 => s.put HLT_VCORE.MEAS_MV m
  | 1 => s.put HLT_VSUP0.VSYS_MV m
  | 2 => s.put HLT_VSUP0.VAUX_MV m
  | 3 => s.put HLT_VSUP1.VRF_MV m
  | k => s.put (HLT_VIO.MV (k - 4)) m

/-- A rail is in its warning condition. -/
def State.railWarns (s : State) (rail mv : Nat) : Bool :=
  let v := s.fld PWR_AVS_STAT.MV
  match rail with
  | 0 => v + 30 < mv || mv + 30 < v
  | 1 => mv < 4750 || 5250 < mv
  | 2 => mv < 3100
  | 3 => mv < 3100
  | k =>
    let n := if Config.vio33 (k - 4) then 3300 else 1800
    n < (max n mv - min n mv) * 10

/-- What rail `rail` at `mv` means (Table 18.2). -/
def State.railState (s : State) (rail mv : Nat) : State :=
  let s := s.pubRail rail mv
  let bad := s.railWarns rail mv
  let s := if bad && !s.hlt.warned.contains rail then
      (((s.withHlt fun h => { h with warned := rail :: h.warned }).raise HLT_IRQ_STAT.VOLT).logEv 4 5
        (leBytes 1 rail ++ leBytes 2 (min 65535 mv)))
    else if !bad then s.withHlt fun h => { h with warned := h.warned.filter (· != rail) }
    else s
  let s := if rail = 0 then s.putB HLT_STAT.CRIT_VOLT (mv + 50 ≤ s.fld PWR_AVS_STAT.MV || mv < 630) else s
  if rail = 3 ∧ mv < 3000 then s.withHlt fun h => { h with vrfHold := true } else s

/-- SUPPLY_ALARM: rail `rail` has stood at `mv` for the time that Table 18.2 gives its condition, or has been back in range
for 10 ms (R463). -/
def supplyAlarm (rail mv : Nat) (s : State) : State :=
  if !s.up .hlt then s else s.railState rail mv

/-- VRF_RECOVERED: transmissions may start again, and timed frames held meanwhile launch (R292, R463). -/
def vrfRecovered (s : State) : State :=
  if !s.up .hlt || !s.hlt.vrfHold then s
  else
    let s := s.withHlt fun h => { h with vrfHold := false }
    (List.range 8).foldl (fun s ch => timedFrameLaunch ch (s.resumeTimed ch)) s

/-! ### Process monitors (R464) -/

/-- The margin m of a count against the reference, in 0.01 % (assumption 53). -/
def State.margin (s : State) (count : Nat) : Int :=
  let r := s.fld HLT_AVS_REF.REF
  if r = 0 then 32767 else divRoundI (((count : Int) - r) * 10000) r

/-- The margin of a count, and the target that follows from it (R464). -/
def State.evalMargin (s : State) (slowest count : Nat) : State :=
  if !s.cfB HLT_AVS_CFG.EN then s
  else
    let m := s.margin count
    let s := (s.putI HLT_PROC.MARGIN m).put HLT_PROC.SLOWEST slowest
    let old := s.fld HLT_VCORE.TARGET_MV
    let t := if s.pwr.avsReq.isSome then old
      else if m < (s.cf HLT_AVS_CFG.LOW : Int) then old + 10
      else if (s.cf HLT_AVS_CFG.HIGH : Int) < m then old - 5 else old
    let t := clampN 650 900 t
    let s := if t = old then s else (s.put HLT_VCORE.TARGET_MV t).avsTarget t
    let limit := t == 900 && decide (m < 0)
    if limit && !s.bit HLT_STAT.CRIT_PROC then
      (s.put HLT_STAT.CRIT_PROC 1).logEv 4 6 (tjBytes m ++ leBytes 2 t)
    else s.putB HLT_STAT.CRIT_PROC limit

/-- AVS_EVALUATION: the slowest oscillator's count of this second (R464). -/
def avsEvaluation (slowest count : Nat) (s : State) : State :=
  if !s.up .hlt then s else s.evalMargin slowest count

/-! ### The stockpile (R466, R467, Table 18.3) -/

/-- HLT_CAP0, HLT_CAP1, HLT_SPARE and HLT_SUBST_LAST report the stockpile. -/
def State.pubHealth (s : State) : State :=
  let c := fun (k : Nat) => s.hlt.caps.getD k 0
  let p := fun (k : Nat) => s.hlt.spares.getD k 0
  let s := (((s.put HLT_CAP0.BUF_BANKS (c 0)).put HLT_CAP0.CTX_BANKS (c 1)).put HLT_CAP0.LANES (c 2)).put HLT_CAP0.RADIO_CH (c 3)
  let s := (s.put HLT_CAP1.MTR_CH (c 4)).put HLT_CAP1.LOG_RECORDS (c 5)
  let s := (((s.put HLT_SPARE.BUF (p 0)).put HLT_SPARE.CTX (p 1)).put HLT_SPARE.LANE (p 2)).put HLT_SPARE.RADIO (p 3)
  let s := (s.put MTR_STAT.SPARES (p 4)).wr HLT_SUBST_LAST.adr s.hlt.substLast
  let s := (s.put HLT_SPARE.MOD (p 4)).put HLT_SPARE.NVM (p 5)
  s.putB HLT_STAT.NVM_LOW (c 5 ≤ 2048)

/-- The 256 contexts of a bank become UNAVAILABLE (R130). -/
def State.bankGone (s : State) (b : Nat) : State :=
  ((List.range 256).foldl (fun s k => s.setEpState (256 * b + k) stUnavailable) s).put EPC_BANK_STAT.UNAVAIL
    (s.fld EPC_BANK_STAT.UNAVAIL ||| 2 ^ b)

/-- A context bank fails with no spare left (R130). -/
def State.loseBank (s : State) (b : Nat) : State :=
  let s := { s with epc := { s.epc with lostBanks := s.epc.lostBanks ++ [b] } }
  ((s.bankGone b).raise EPC_IRQ_STAT.BANK_LOST).logEv 10 5 (leBytes 1 b)

/-- What a unit's retirement without a spare takes from service (the last column of Table 18.3). -/
def State.retireUnit (s : State) (k u : Nat) : State :=
  match k with
  | 0 => s.retireBank u
  | 1 => s.loseBank u
  | 2 => lanesChanged (s.hlt.caps.getD 2 0) s
  | 3 => s.failChannel u
  | 4 => s.channelFailed u
  | _ =>
    let n := s.logCap
    let l := s.log.recs
    ({ s with log := { s.log with recs := l.drop (l.length - n) } }).publishLog

/-- No spare is left for a unit (R467). -/
def State.retire (s : State) (k u : Nat) : State :=
  let s := s.withHlt fun h => { h with
    retired := h.retired ++ [(k, u)]
    caps := updAt h.caps k fun n => if k = 5 then (if 128 < n then n - 128 else n) else n - 1
    substLast := k * 2 ^ 28 + u % 4096 * 65536 + 32768 }
  ((((s.retireUnit k u).raise HLT_IRQ_STAT.CAP_LOST).logEv 4 8 (leBytes 1 k ++ leBytes 2 u))).pubHealth

/-- A substitution has ended: the spare serves (R467). -/
def State.spareIn (s : State) (k u n : Nat) : State :=
  let s := s.withHlt fun h => { h with
    busy := h.busy.filter fun (x : Nat × Nat × Nat) => x.1 != k
    subs := (h.subs.filter fun (x : Nat × Nat × Nat) => !(x.1 == k && x.2.1 == u)) ++ [(k, u, n)]
    substLast := k * 2 ^ 28 + u % 4096 * 65536 + n }
  let s := if k = 1 then s.put EPC_BANK_STAT.SPARE_USED 1 else s
  ((s.raise HLT_IRQ_STAT.SPARE).logEv 4 7 (leBytes 1 k ++ leBytes 2 u ++ leBytes 1 n)).pubHealth

/-- A spare is taken up: a radio channel finishes its transmission and waits, a modulator is trimmed, the others change over
at once (R292, R383, R466). -/
def State.beginSub (s : State) (k u n : Nat) : State :=
  let s := s.withHlt fun h => { h with busy := h.busy ++ [(k, u, n)] }
  match k with
  | 3 => (s.updChan u fun c => { c with swap := true }).pubChan u
  | 4 => s.beginTrim u (48 + n)
  | _ => s.spareIn k u n

/-- The next unit of a kind to be served: failed before worn, then the lowest number, which serves voltage channels first
(R467). -/
def State.nextUnit (s : State) (k : Nat) : Option Waiting :=
  (sortBy (fun (w : Waiting) => if w.failed then w.unit else 65536 + w.unit) (s.hlt.waiting.filter fun (w : Waiting) => w.kind == k)).head?

/-- The units of a kind that wait are served, one substitution at a time. `bad` spares are found faulty as they are taken
up. -/
def State.serveUnits (s : State) (k bad : Nat) : Nat → State
  | 0 => s
  | n + 1 =>
    if s.hlt.busy.any fun (x : Nat × Nat × Nat) => x.1 == k then s
    else
      match s.nextUnit k with
      | none => s
      | some w =>
        let s := s.withHlt fun h => { h with waiting := h.waiting.filter fun (x : Waiting) => x != w }
        let have_ := s.hlt.spares.getD k 0
        let next := s.hlt.nextSpare.getD k 0
        let t := if bad < have_ then
            (s.withHlt fun h => { h with spares := updAt h.spares k fun _ => have_ - bad - 1
                                         nextSpare := updAt h.nextSpare k fun _ => next + bad + 1 }).beginSub k w.unit (next + bad)
          else (s.withHlt fun h => { h with spares := updAt h.spares k fun _ => 0 }).retire k w.unit
        t.serveUnits k 0 n

/-- A unit is declared worn or failed (R466). -/
def State.declareUnit (s : State) (k u : Nat) (failed : Bool) (bad : Nat) : State :=
  if s.hlt.retired.contains (k, u) || (s.hlt.busy.any fun (x : Nat × Nat × Nat) => x.1 == k && x.2.1 == u) then s
  else
    let rest := s.hlt.waiting.filter fun (w : Waiting) => !(w.kind == k && w.unit == u)
    let was := s.hlt.waiting.any fun (w : Waiting) => w.kind == k && w.unit == u && w.failed
    let s := s.withHlt fun h => { h with waiting := rest ++ [{ kind := k, unit := u, failed := failed || was }] }
    s.serveUnits k bad (rest.length + 1)

/-- BUFFER_BANK_TEST: the pattern test of a bank's FREE cells found `failing` cells (R315, R466). -/
def bufferBankTest (b failing bad : Nat) (s : State) : State :=
  if s.up .swc && 2 ≤ failing then s.declareUnit 0 b false bad else s

/-- LANE_CHECK: the lanes that mismatched in this second's check are replaced, or lost (R176, R177, R466). -/
def laneCheck (failing : List Nat) (bad : Nat) (s : State) : State :=
  if s.up .lfe then (failing.zip (bad :: failing.map fun _ => 0)).foldl (fun s x => s.declareUnit 2 x.1 false x.2) s else s

/-- RADIO_LOOPBACK: the test of an idle channel; `worn` where the error vector is 3 dB worse (R292, R293, R466). -/
def radioLoopback (ch : Nat) (worn : Bool) (bad : Nat) (s : State) : State :=
  if s.up .rad && (s.chan ch).tx.isNone && worn then s.declareUnit 3 ch false bad else s

/-- CHANNEL_RESUMES: a spare transceiver serves (R292, R467). -/
def channelBack (ch : Nat) (s : State) : State :=
  let t := channelResumes ch s
  match s.hlt.busy.find? fun (x : Nat × Nat × Nat) => x.1 == 3 && x.2.1 == ch with
  | some x => if s.up .rad then (t.spareIn 3 ch x.2.2).serveUnits 3 0 9 else t
  | none => t

/-- MODULATOR_CHECK: a channel's modulator drifts by more than 200 ppm (R384, R466). -/
def modulatorCheck (ch : Nat) (drift : Bool) (bad : Nat) (s : State) : State :=
  if s.mtrOn && drift && !s.mtrFailed ch then s.declareUnit 4 ch false bad else s

/-- MODULATOR_SUBSTITUTION: after 1 s of trimming, the channel is switched to the spare at a sample boundary (R383). -/
def modulatorSubstitution (ch : Nat) (s : State) : State :=
  match s.mtr.trims.find? fun (x : Nat × Nat × Nat) => x.1 == ch with
  | none => s
  | some x =>
    if !s.up .mtr || s.clk < x.2.2 + secs then s
    else
      let s := s.withMtr fun m => { m with trims := m.trims.filter fun (y : Nat × Nat × Nat) => y.1 != ch }
      let s := (s.put (MTR_CH_STAT.SPARE ch) 1).put (MTR_CH_STAT.MOD ch) x.2.1
      (s.spareIn 4 ch (x.2.1 - 48)).serveUnits 4 0 49

/-- NVM_SECTOR_RETIRE: a sector has failed or is worn out (R468). -/
def nvmSectorRetire (sector bad : Nat) (s : State) : State := if s.up .hlt then s.declareUnit 5 sector false bad else s

/-! ### Context errors (R129) -/

/-- The word an accepted image, the store and the join record give a context word. -/
def State.configWord (s : State) (a : Nat) : Nat :=
  let img := ((regFind s.cfg.baseline a).getD (resetWord a)).toNat
  let st := match storeDecide s.cfg.areas with
    | .win c => if s.bit CFG_STAT.STORE_APPLIED then (c.trip.filter (·.adr == a)).foldl (fun v (w : Wr) => maskIn v w.val w.mask) img else img
    | _ => img
  let epa := (a - 0x100000) / 0x200
  match s.epc.joins.find? (·.1 == epa) with
  | some j => if a % 0x200 < 16 then ((j.2.getD (a % 0x200 / 4) 0).toNat) else st
  | none => st

/-- The state that a context's configuration gives it: what its image entry or its class asks for, ACTIVE where it has joined
(R102, R103, R107). -/
def State.configState (s : State) (epa : Nat) : Nat :=
  let st := bitsOf (s.configWord (ctxBase epa)) 0 3
  let st := if st != stEmpty then st else if radioClass (s.fld (EPC_STATE.CLASS epa)) then stReserved else stActive
  if s.fld (EPC_STATE.CLASS epa) = 0 then stEmpty
  else if st = stReserved && s.bit (EPC_SEC.JOINED epa) then stActive else st

/-- A configuration word of a context is loaded again: its own bits; the state of the context follows from its configuration where
the word that held it is lost. -/
def State.reloadWord (s : State) (a : Nat) : State :=
  let epa := (a - 0x100000) / 0x200
  if a % 0x200 = 0 then
    let st := s.epState epa
    let s := (s.wr a (s.configWord a)).put (EPC_STATE.STATE epa) st
    if s.configState epa = stEmpty then s.clearCtx epa else s.setEpState epa (s.configState epa)
  else s.wr a (s.configWord a)

/-- An energy or counter word takes the last snapshot's value, TX_CTR with the jump of R118. RX_WIN, RX_FLOOR and POWER, which no
snapshot holds, take a free value (assumption 126). -/
def State.snapWord (s : State) (a : Nat) : State :=
  let epa := (a - 0x100000) / 0x200
  match (s.nvm.bind fun n => n.ctxs.find? fun (c : SnapCtx) => c.epa == epa) with
  | none => s.setWord a (resetWord a)
  | some c =>
    match a % 0x200 with
    | 0x120 => s.setWord a (c.energy.getD 0 0)
    | 0x124 => s.setWord a (c.energy.getD 1 0)
    | 0x128 => s.setWord a (c.energy.getD 2 0)
    | 0x12C => s.setWord a (c.energy.getD 3 0)
    | 0x140 => (s.wr a (min 0xFFFFFFFF (c.txCtr + 65536))).ctrWorn epa
    | 0x144 => s.wr a c.rxHigh
    | 0x150 => ((s.wr a (s.configWord a)).put (EPC_SEC.KEY_GEN epa) c.keyGen).putB (EPC_SEC.JOINED epa) c.joined
    | _ => (s.wr a (s.freeVal % 2 ^ 32)).useFree

/-- An energy or counter word is restored from the partner's mirror where a pair is enabled, else from the last snapshot. The
standby asks the active for a full copy; an active that has mirrored nothing yet has the snapshot (R129). -/
def State.restoreWord (s : State) (a : Nat) : State :=
  if s.standby then s.withPair fun p => { p with wantResync := true }
  else if s.pairEn && !s.pair.mirrored.isEmpty then s.setWord a ((regFind s.pair.mirrored a).getD (resetWord a))
  else s.snapWord a

/-- A context word read with an error (R129, R466). -/
def State.eccError (s : State) (a : Nat) (uncorr : Bool) (bad : Nat) : State :=
  let epa := (a - 0x100000) / 0x200
  let b := epa / 256
  let o := a % 0x200
  if uncorr then
    let s := if o < 0xA0 then s.reloadWord a else if o < 0x120 || 0x180 ≤ o then s.wr a 0 else s.restoreWord a
    let s := ((s.raiseFault epa 0x84 0).raise EPC_IRQ_STAT.ECC_UNCORR).logEv 10 4 (leBytes 4 a)
    s.declareUnit 1 b false bad
  else
    let s := s.withHlt fun h => { h with ecc := (h.ecc.filter fun x => s.clk < x.2 + 86400 * secs) ++ [(b, s.clk)] }
    if 8 ≤ s.hlt.ecc.countP (·.1 == b) then
      (s.withHlt fun h => { h with ecc := h.ecc.filter (·.1 != b) }).declareUnit 1 b false bad
    else s

/-- CONTEXT_ECC_ERROR: a context word was read with an error; `a` is its module offset. A single-bit error is corrected, the
eighth in a bank in 24 h wears it; an uncorrectable one is handled by region (R129, R466). -/
def contextEccError (a : Nat) (uncorr : Bool) (bad : Nat) (s : State) : State :=
  if !s.up .epc || a < 0x100000 || 0x300000 ≤ a || a % 4 != 0 then s else s.eccError a uncorr bad

/-! ### Starts -/

/-- What the stockpile's NVM records restore at every start: capacities, spares in service, units lost (R130, R293, R315,
R384, R467). Substitutions that a start interrupts are complete after it. -/
def State.healthStart (s : State) : State :=
  let s := s.withHlt fun h => { h with throttleFrom := none, coolFrom := none, vrfHold := false, warned := [], busy := []
                                       subs := h.subs ++ h.busy }
  let s := s.withMtr fun m => { m with trims := [] }
  let s := s.hlt.subs.foldl (fun s x =>
    match x with
    | (1, _, _) => s.put EPC_BANK_STAT.SPARE_USED 1
    | (3, ch, _) => (s.put RAD_STAT.SPARE_USED 1).put RAD_STAT.SPARE_FOR ch
    | (4, ch, n) => (s.put (MTR_CH_STAT.SPARE ch) 1).put (MTR_CH_STAT.MOD ch) (48 + n)
    | _ => s) s
  let s := s.mtr.lost.foldl (fun s ch => s.put (MTR_CH_STAT.FAILED ch) 1) s
  let s := (s.put MTR_STAT.IN_SERVICE (48 - s.mtr.lost.length)).put SWC_STAT.IN_SERVICE (64 - s.swc.retired.length)
  let s := s.epc.lostBanks.foldl State.bankGone s
  s.pubFree.pubHealth

end Sys2Proof.Machine
end

