-- ==== Sys2Proof/Machine/Starts.lean ====
section
/-! DEFINITION. Starts: what each kind of reset clears and keeps, KINDLING from a cold and from a warm start, the restore of
contexts and metering, supply events and thermal trips (chapters 01 and 02, R20 to R26, R32 to R35, R83, R118, R119, R128,
R204, R213, R340, R396, R462, R470, R492, R495). KINDLING lies wholly within the command that begins it. -/

namespace Sys2Proof.Machine

/-! ### What a reset clears (Tables 1.1, 1.5 and 1.6) -/

/-- A cold start keeps this word: it lies in ALWAYS-ON. The EPC control registers, within the SYS range, lie in METER. -/
def coldKeeps (a : Nat) : Bool :=
  (a < 0x2000 || (0x3000 ≤ a && a < 0x10000)) || inRanges [(0x20000, 0x40000), (0x90000, 0xA0000), (0x680000, 0x6C0000)] a

/-- Only words that `f` keeps stay, with nothing pending in the others; HLT_STAT.TRIPPED lies in ALWAYS-ON and stays (R462). -/
def State.keepWords (s : State) (f : Nat → Bool) : State :=
  let t := s.fld HLT_STAT.TRIPPED
  ({ s with regs := s.regs.filter fun x => f x.1, shadow := s.shadow.filter fun x => f x.1 }).put HLT_STAT.TRIPPED t

/-- A posted write has ended in `code`: the first is captured (R357). -/
def State.postErr (s : State) (addr code : Nat) : State :=
  let s := if s.bit HBR_POST_ERR.VALID then s.put HBR_POST_ERR.OVF 1
    else ((s.put HBR_POST_ERR.VALID 1).put HBR_POST_ERR.CODE code).put HBR_POST_ADDR.ADDR addr
  s.raise HBR_IRQ_STAT.POST_ERR

/-- Operations of HSPI whose REQ the reset of MZL loses: a slot is freed, and a posted write ends in ERROR (assumption 56). -/
def State.loseRemote (s : State) : State :=
  let gone := fun (o : HostOp) => o.begun && o.result.isNone && o.addr / 2 ^ 26 != s.pos
  let l := (s.hb.ops.filter gone).filter (·.slot.isNone)
  let s := { s with hb := { s.hb with ops := s.hb.ops.filter fun o => !gone o } }
  l.foldl (fun (s : State) o => s.postErr o.addr 2) s

/-- Blocks whose command registers a start leaves as they are (R495). -/
def keptBlocks (warm : Bool) : List Blk :=
  if warm then [.pwr, .emb, .ntu, .pair, .epc, .drv, .mtr, .hbr] else [.pwr, .emb, .pair, .hbr]

/-- What a PENDING command of METER or DRIVE would still do is not done: a FREEZE_ALL freezes nothing, and a STEP is not applied
(R495). -/
def State.dropWork (s : State) : State :=
  let s := if s.cmdStatus .mtr = stPending then s.withMtr fun m => { m with freezeAt := none } else s
  if s.cmdStatus .ntu = stPending then { s with ntu := { s.ntu with step := none } } else s

/-- What a start cuts short: an armed activation, campaigns, a STORE, requests on Mistazil, and every command that is PENDING in a
surviving block (R495; assumption 122). -/
def State.startCut (s : State) (warm : Bool) : State :=
  let s := ((updStart (storeCut s)).loseRemote).dropWork
  let s := (keptBlocks warm).foldl (fun (s : State) b => cutCmd b s) s
  (s.withPair fun p => { p with handover := none }).withPwr fun p => { p with pfail := false }

/-- What the blocks of NETWORK hold beside their registers. -/
def State.networkFresh (s : State) : State :=
  let s := lbusStart (radStart (hmqStart (swcStart s.radLost)))
  let e := (s.bb.epoch + 1) % 2 ^ 32
  ({ s with mz := .fresh, bb := .fresh e, usb := .fresh }).wr BBN_RAF_EPOCH.adr e

/-- What the blocks of COMPUTE hold beside their registers. -/
def State.computeFresh (s : State) (warm : Bool) : State :=
  let s := trnStart warm (lfeStart (schStart s))
  { s with cfg := { s.cfg with digests := [], stale := [], reqAt := none, storing := none }, log := { s.log with wins := [] } }

/-- What DRIVE and METER hold beside their registers: lost by a cold start. OPTIME, PCYCLE and the join records come back
from the snapshot (R128, R470). -/
def State.coldFresh (s : State) : State :=
  let s := lbusCold (drvCold s)
  let n := fun (f : Snapshot → Nat) => (s.nvm.map f).getD 0
  let s := s.mtr.recs.foldl State.recDiscard s
  { s with rar := [], mtr := .init s.mtr.lost
           epc := { State.reset.epc with lostBanks := s.epc.lostBanks, coldAt := s.clk, joins := (s.nvm.map (·.joins)).getD [] }
           log := { s.log with optime := n (·.optime), pcycle := n (·.pcycle) } }

/-- Step 1 of Table 2.1 or 2.2: the domains are reset. The position stays through a warm start (R364), SEG does not (R1), and
every latched word reads 0 (R492). -/
def State.resetDomains (s : State) (warm : Bool) : State :=
  let enum := s.fld MZL_STAT.ENUMERATED
  let last := s.fld MZL_STAT.LAST_POS
  let lost := s.upd.armed.any fun (a : Armed) => !a.begun
  let s := (s.startCut warm).keepWords (if warm then survives else coldKeeps)
  let s := ({ s with latch := [], epc := { s.epc with snapping := false } }).haltEngines warm
  let s := (s.networkFresh).computeFresh warm
  let s := if warm then (s.put MZL_STAT.ENUMERATED enum).put MZL_STAT.LAST_POS last
    else (s.put SYS_ID_SEG.POS 0).coldFresh
  let s := ((s.put SYS_ID_SEG.VALID 0).put SYS_ID_SEG.SEG 0).put PAIR_STAT.LINK 0
  let s := if lost then s.raise UPD_IRQ_STAT.ACT_LOST else s
  { s with epc := { s.epc with startAt := s.clk }, cfg := { s.cfg with starts := s.cfg.starts + 1 } }

/-! ### Restores at a cold start (R118, R119, R128, R396) -/

/-- A context keeps the identity that the snapshot recorded for it (R128). -/
def State.keepsIdentity (s : State) (c : SnapCtx) : Bool :=
  let w := fun (k : Nat) => (c.ident.getD k 0).toNat
  s.epState c.epa != stEmpty && s.fld (EPC_STATE.CLASS c.epa) == bitsOf (w 0) 8 8 &&
    (if s.isRadio c.epa then s.word (EPC_EUI_LO.adr c.epa) == c.ident.getD 1 0 && s.word (EPC_EUI_HI.adr c.epa) == c.ident.getD 2 0
     else s.word (EPC_REACH.adr c.epa) == c.ident.getD 3 0)

/-- The energy words, counters and keys of a context come back, TX_CTR with the jump of R118. A radio context whose JOINED comes back has joined: RESERVED
becomes ACTIVE (R102; assumption 57). -/
def State.takeBack (s : State) (nt : Option Nat) (c : SnapCtx) : State :=
  let e := fun (k : Nat) => c.energy.getD k 0
  let s := ((s.setWord (EPC_EN_LO.adr c.epa) (e 0)).setWord (EPC_EN_HI.adr c.epa) (e 1)).setRar (EPC_EN_LO.adr c.epa) c.shadow
  let s := (s.setWord (EPC_EN_RAW.adr c.epa) (e 2)).setWord (EPC_EN_STAT.adr c.epa) (e 3)
  let s := (s.put (EPC_TX_CTR.CTR c.epa) (min 0xFFFFFFFF (c.txCtr + 65536))).put (EPC_RX_HIGH.CTR c.epa) c.rxHigh
  let s := (s.put (EPC_SEC.KEY_GEN c.epa) c.keyGen).putB (EPC_SEC.JOINED c.epa) c.joined
  let s := if c.joined && s.epState c.epa == stReserved then s.setEpState c.epa stActive else s
  s.setRun { s.run c.epa with baseline := c.baseline, energyNt := nt, heardAt := s.clk }

/-- One recorded context: restored, or its energy kept as that of a removed endpoint (R128). -/
def State.restoreCtx (nt : Option Nat) (s : State) (c : SnapCtx) : State :=
  if s.keepsIdentity c then s.takeBack nt c
  else
    let e := fun (k : Nat) => (c.energy.getD k 0).toNat
    s.addAcc EPC_REMOVED_EN_LO.adr EPC_REMOVED_EN_HI.adr
      (e 0 + 2 ^ 32 * e 1 + (if bitOf (e 3) 0 then c.shadow else 0))

/-- One join record: the identity words that resulted (R128). -/
def State.restoreJoin (gen : Nat → Nat) (s : State) (r : Nat × List Word) : State :=
  let b := ctxBase r.1
  let ws := (List.range 4).map fun k => Wr.mk (b + 4 * k) ((r.2.getD k 0).toNat) (rwMask (b + 4 * k))
  ((ws.foldl State.wrMask s).storedState r.1).logEv 10 3 (leBytes 2 r.1 ++ leBytes 1 (gen r.1))

/-- Step 12 of Table 2.1: join records where the image is the same, then the recorded contexts (R128). -/
def State.restoreContexts (s : State) : State :=
  match s.nvm with
  | none => s
  | some n =>
    let gen := fun (e : Nat) => ((n.ctxs.find? (·.epa == e)).map (·.keyGen)).getD 0
    let s := if n.gen = s.imageGen then n.joins.foldl (State.restoreJoin gen) s else s
    let w := fun (k : Nat) => n.removed.getD k 0
    let s := ((s.setWord EPC_REMOVED_EN_LO.adr (w 0)).setWord EPC_REMOVED_EN_HI.adr (w 1)).setWord EPC_REMOVED_EN_STAT.adr (w 2)
    let s := (s.setRar EPC_REMOVED_EN_LO.adr n.removedShadow).put EPC_GTX_CTR.CTR (min 0xFFFFFFFF (n.gtx + 65536))
    n.ctxs.foldl (State.restoreCtx n.nt) s

/-- A word of MTR as the snapshot recorded it. -/
def Snapshot.meterWord (n : Snapshot) (a : Nat) : Word := (regFind n.meter a).getD (resetWord a)

/-- Pulse generator `k` has the configuration that the snapshot recorded (R396). -/
def State.pulseKept (s : State) (n : Snapshot) (k : Nat) : Bool :=
  n.meterWord (MTR_PULSE_CFG.adr k) == s.word (MTR_PULSE_CFG.adr k) &&
    n.meterWord (MTR_PULSE_CONST.adr k) == s.word (MTR_PULSE_CONST.adr k)

/-- Residue and backlog of a pulse generator come back. -/
def State.restorePulse (n : Snapshot) (s : State) (k : Nat) : State :=
  if s.pulseKept n k then
    let b := bitsOf (n.meterWord (MTR_PULSE_STAT.adr k)).toNat 0 16
    (s.put (MTR_PULSE_STAT.BACKLOG k) b).setPulse k
      { PulseRun.fresh with residue := n.residues.getD k 0, waiting := List.replicate b (s.pulseWidth k) }
  else s

/-- The metering restore, before MTR is enabled (R396). -/
def State.restoreMetering (s : State) : State :=
  match s.nvm with
  | none => s
  | some n =>
    let s := (n.meter.filter fun x => x.1 < 0x486000).foldl (fun (s : State) x => s.setWord x.1 x.2) s
    let s := { s with rar := s.rar ++ n.meterShadow, mtr := { s.mtr with rems := n.rems } }
    let lost := ((List.range 16).filter fun k => !s.pulseKept n k).length
    let s := (List.range 16).foldl (State.restorePulse n) s
    if n.gen = s.imageGen then s else s.logEv 16 5 (leBytes 1 lost)

/-! ### KINDLING (Tables 2.1 to 2.3) -/

/-- The link key table is built from the root in use; another root than before is a change of root (R413). -/
def State.buildKeys (s : State) : State :=
  if (s.slot (s.fld KEY_RADIO_CFG.ROOT_SLOT)).isSome then (rootSlotChange s).rebuildLinks else s

/-- A paired module issues no command before its election (R458, assumption 49); an unpaired one has no role. -/
def State.roleForStart (s : State) : State :=
  if !s.pairEn then (s.put PAIR_STAT.ROLE 0).put PAIR_STAT.OWN 0
  else if s.role = 3 then s
  else s.put PAIR_STAT.ROLE 1

/-- NTU: its state through a warm start, or network time from the RTC (R340). -/
def State.ntuStart (s : State) (warm : Bool) : State :=
  if warm then ntuWarm s
  else
    let s := s.capture
    (ntuCold (if s.bit EMB_STAT.RTC_INVALID then none else some s.rtcNs) s).capture

/-- Orders 1 and 2 of Table 2.3: NTU, HLT, LOG, KEY, MTR and EPC. -/
def State.enableFirst (s : State) (warm : Bool) : State :=
  let s := (((s.ntuStart warm).put NTU_CTL.EN 1).healthStart).buildKeys
  if s.bit MTR_CTL.EN then s else mtrEnable (s.put MTR_CTL.EN 1)

/-- A warm start sends GROUPS and RESYNC again at once, to every endpoint whose GRP_PENDING or RESYNC is set (R111, R119). -/
def State.resyncNow (s : State) : State :=
  s.radioEpas.foldl (fun (s : State) n =>
    let s := if s.bit (EPC_RPT_FLAGS.GRP_PENDING n) then s.sendGroups n else s
    if s.bit (EPC_RPT_FLAGS.RESYNC n) then s.sendResync n else s) s

/-- Orders 3 to 5 of Table 2.3: DRV after a cold start, and the blocks of NETWORK, each with its enable set. After a cold start
the counters restored with their jump may ask for rekeys, and resync windows open, which SWC can then send for (R118, R119). -/
def State.enableRest (s : State) (warm : Bool) : State :=
  let s := if warm then s else aoRefresh (drvEnable s)
  let s := (((s.put SWC_CTL.EN 1).put BBN_CTL.EN 1).put MZL_CFG.EN 1).put USB_CTL.EN 1
  let s := if warm then s else s.countersWorn.openResync
  let s := radEnable s
  let s := ((List.range 16).filter fun p => s.bit (LBUS_DL_CFG.EN p)).foldl (fun (s : State) p => s.dlPortOn p (!warm)) s
  let s := { s with epc := { s.epc with toCommission := [] } }
  if warm then s.resyncNow else s

/-- Slots that a start finds ARMED, COMMITTED or HELD. -/
def State.liveSlots (s : State) : List Nat := (List.range 64).filter fun n => 1 ≤ s.slotState n && s.slotState n ≤ 3

/-- The words of live slots, which a commanded warm start records (R23, R204). -/
def State.slotWords (s : State) : List (Nat × Word) :=
  let l := s.liveSlots
  s.regs.filter fun x => 0x381000 ≤ x.1 && x.1 < 0x382000 && l.contains ((x.1 - 0x381000) / 64)

/-- The words of live slots are written into the context snapshot in NVM before a commanded warm start, or none before another
(R23). -/
def State.recordSlots (s : State) (ws : List (Nat × Word)) : State :=
  let s := if s.nvm.isNone && !ws.isEmpty then s.snapshot else s
  { s with nvm := s.nvm.map fun n => { n with slots := ws } }

/-- The slots that the snapshot holds take up again, once: the record of them ends (R23, R204). A cold start finds none, because
nothing but a commanded warm start records them. -/
def State.restoreSlots (s : State) : State :=
  let ws := (s.nvm.map (·.slots)).getD []
  let s := ws.foldl (fun (s : State) x => s.setWord x.1 x.2) (s.recordSlots [])
  (s.liveSlots.foldl State.rearmSlot s).pubSlots

/-- Live slots are lost in an unplanned warm start, each with a record (R23, R204). -/
def State.loseSlots (s : State) : State :=
  s.liveSlots.foldl (fun (s : State) n => s.slotLog (if s.slotState n = 3 then 6 else 2) n) s

/-- Order 6 of Table 2.3, with the first schedule evaluation and the first tick (step 15 of Table 2.1, step 11 of
Table 2.2). A HOLD that the image sets runs from here (R144). -/
def State.firstRun (s : State) : State :=
  let at_ := if s.bit SCH_CTL.HOLD then some s.clk else none
  let s := { s.put LFE_CTL.EN 1 with sch := { s.sch with lastSec := some s.ntSec, holdAt := at_ } }
  let s := if s.bit SCH_CTL.HOLD then s else s.quiet State.evaluate
  (lfeTick s.setTick).endTick

/-- Image header ISLAND is set. -/
def State.imageIsland (s : State) : Bool := ((s.cfg.image.map fun x => x.2.2.2 % 2).getD 0) == 1

/-- The end of KINDLING: SERVICE, SOAK where the image header sets ISLAND, or FIRING (rows 8 to 10 of Table 3.1), and what follows
it (R53, R71, R430, R436, R458). An earlier island order stays in force, and the module enters FIRING all the same. -/
def State.endKindling (s : State) (ok : Bool) : State :=
  let s := if ok && s.imageIsland then s.put PWR_STAT.ISLAND 1 else s
  let s := s.idleRestart
  let s := if !ok then s.setMode .service else if s.imageIsland then s.setMode .soak else s.setMode .firing
  let s := if s.pwr.mode = .firing then storeRewrite s else s
  let s := if s.running then (s.verifyAgain).confirmStart else s
  (if s.up .rad then s.pubRads else s).elect

/-- Steps 9 to 16 of Table 2.1, or 6 to 12 of Table 2.2, on an image that is not the recovery image. A refused image leaves
the snapshot's contexts unrestored and every block after order 2 disabled (assumption 58). -/
def State.configure (s : State) (warm : Bool) : State :=
  let r := cfgStart warm (keyStart s)
  let s := r.2
  let s := if warm then s else (if r.1 then s.restoreContexts else s).restoreMetering
  let s := (s.redigest).roleForStart
  let s := s.enableFirst warm
  let s := if r.1 then s.enableRest warm else s
  let s := s.restoreSlots
  let s := if r.1 then s.firstRun else s.setTick
  s.endKindling r.1

/-- KINDLING from the reset of the domains on: firmware (R34, R35, R435), then configuration. A log erase that was cut short
completes (R473). The recovery image applies no image and no store, and enters SERVICE (R34). -/
def State.kindle (s : State) (warm : Bool) : State :=
  let s := ((s.withHlt fun h => { h with hold := false }).finishClear.boot).loadEngines
  if s.upd.running = 2 then
    let s := { s with cfg := { s.cfg with image := none, baseline := [] } }
    let s := (keyStart s).ntuStart true
    let s := if warm then s else (ntuCold none s).restoreMetering
    ((s.healthStart).restoreSlots).endKindling false
  else s.configure warm

/-- A cold start, with the causes that `s` records already. PCYCLE counts starts by power-up (R470), and a supply loss without
warning is logged (R83). -/
def State.coldStart (s : State) (power : Bool) : State :=
  let s := (((s.setMode .kindling).withPwr fun p => { p with rc0At := none }).resetDomains false).avsStart
  let s := if power then { s with log := { s.log with pcycle := (s.log.pcycle + 1) % 2 ^ 24 } } else s
  let s := (s.kindle false).publishLog
  if s.pwr.snapOld then
    (s.withPwr fun p => { p with snapOld := false }).logEv 2 2 (leBytes 4 ((s.nvm.map (·.optime)).getD 0))
  else s

/-- A warm start. A commanded one restores the live slots, another loses them (R23, R204). -/
def State.warmStart (s : State) (planned : Bool) : State :=
  let s := if planned then s.recordSlots s.slotWords else (s.loseSlots).recordSlots []
  ((s.setMode .kindling).resetDomains true).kindle true |>.publishLog

/-- The configuration flash as a start of the module's own finds it: it may have been written since the last read (R36; assumption
140). -/
def State.newFlash (s : State) : State :=
  { s.useFree with cfg := { s.cfg with cfgf := Config.flashAt s.free s.cfg.cfgf } }

/-- The configuration flash as a start that comes of this event reads it, where it was written since the last read (R36). -/
def State.withFlash (s : State) (flash : Option (List Byte)) : State :=
  match flash with
  | none => s
  | some b => { s with cfg := { s.cfg with cfgf := b } }

/-- A restart can begin: FIRING, SOAK or SERVICE (row 7 of Table 3.1), and no entry to BANKED goes on. -/
def State.canRestart (s : State) : Bool := (s.running || s.pwr.mode == .service) && s.pwr.entry.isNone

/-- A start trigger during an entry to BANKED is latched with its cause (R79). -/
def State.latchStart (s : State) (cause : Fld) : State :=
  if s.pwr.entry.isSome then (s.put cause 1).withPwr fun p => { p with trigger := true } else s

/-! ### Rows -/

/-- POWER_UP: VSYS and VAUX are both in range (row 3 of Table 3.1). -/
def powerUp (s : State) : State :=
  if s.pwr.mode != .ember then s
  else
    let s := s.withPwr fun p => { p with vaux := true, vsys := true, vauxAt := s.clk }
    let s := (s.put SYS_RST_CAUSE.COLD_POWER 1).putB SYS_RST_CAUSE.EMBER_POR s.emb.por
    ((s.withEmb fun e => { e with por := false }).coldStart true).offlineEvents

/-- What ALWAYS-ON holds is lost with VAUX; only the words of the ember domain stay (R25). -/
def State.loseAlwaysOn (s : State) : State :=
  let s := { s with regs := s.regs.filter fun x => 0x30000 ≤ x.1 && x.1 < 0x40000, shadow := [], latch := []
                    lbus := { s.lbus with aoPads := List.replicate 12 .unpowered },
                    sys := State.reset.sys, hb := State.reset.hb, pair := State.reset.pair, log := { s.log with staged := [] } }
  s.withHlt fun h => { h with hold := false, coolFrom := none }

/-- A supply goes: whether the snapshot is an old one (R83). -/
def State.noteLoss (s : State) : State :=
  if s.coreOn then s.withPwr fun p => { p with snapOld := p.snapOld || !p.pfail } else s

/-- VAUX_LOSS: row 1 of Table 3.1. -/
def vauxLoss (s : State) : State :=
  if !s.pwr.vaux then s
  else
    let s := ((storeCut (s.noteLoss.noteCounts)).haltEngines false).loseAlwaysOn
    s.withPwr fun p => { State.reset.pwr with mode := .ember, snapOld := p.snapOld, vsys := p.vsys }

/-- The clamp of an analogue output: the hold stage keeps its last voltage (Table 3.4). -/
def AoPad.clamp : AoPad → AoPad
  | .driven mv => .held mv
  | p => p

/-- The domains on VCORE are clamped and lose power: their registers clear, a STORE or CLEAR_STORE is cut short, and no engine runs
(R31, R55, R57, R76). -/
def State.clampCore (s : State) : State :=
  let s := ((storeCut s).keepWords coldKeeps).withHlt fun h => { h with hold := false }
  let s := { s with latch := [], lbus := { s.lbus with aoPads := s.lbus.aoPads.map AoPad.clamp } }
  s.haltEngines false

/-- BANKED is reached: an ENTER_BANKED that was PENDING is DONE (R78). -/
def State.reachBanked (s : State) : State :=
  let s := if s.isPending .pwr 5 then finishCmd .pwr stDone s else s
  (s.setMode .banked).withPwr fun p => { p with rc0At := none, entry := none }

/-- VSYS_LOSS: row 2 of Table 3.1. -/
def vsysLoss (s : State) : State :=
  if !s.pwr.vaux then s
  else
    let s := ((s.noteLoss.loseAct).clampCore).reachBanked
    s.withPwr fun p => { p with vsys := false, trigger := false }

/-- SYS_RESTART_COLD (R25). -/
def restartCold (s : State) : State :=
  if s.canRestart then (s.put SYS_RST_CAUSE.COLD_CMD 1).coldStart false else s.latchStart SYS_RST_CAUSE.COLD_CMD

/-- SYS_RESTART_WARM (R21, R23). -/
def restartWarm (s : State) : State :=
  if s.canRestart then (s.put SYS_RST_CAUSE.WARM_CMD 1).warmStart true else s.latchStart SYS_RST_CAUSE.WARM_CMD

/-- An unplanned warm start came less than 60 s ago (R24). -/
def State.escalates (s : State) : Bool :=
  match s.sys.lastUnplanned with
  | some t => s.clk ≤ t + 60 * secs
  | none => false

def State.noteUnplanned (s : State) : State := { s with sys := { s.sys with lastUnplanned := some s.clk } }

/-- An unplanned start: warm, or cold with ESCALATED where another came within the last 60 s (R24). -/
def State.unplanned (s : State) : State :=
  if s.escalates then (s.put SYS_RST_CAUSE.ESCALATED 1).newFlash.coldStart false else s.noteUnplanned.newFlash.warmStart false

/-- WATCHDOG. -/
def watchdog (s : State) : State :=
  if s.canRestart then (s.put SYS_RST_CAUSE.WATCHDOG 1).unplanned else s.latchStart SYS_RST_CAUSE.WATCHDOG

/-- LOCKSTEP_MISMATCH. -/
def lockstepMismatch (s : State) : State :=
  if s.canRestart then (s.put SYS_RST_CAUSE.LOCKSTEP 1).unplanned else s.latchStart SYS_RST_CAUSE.LOCKSTEP

/-- A window of 32 ember-clock cycles whose count of TCXO cycles is off by more than 122 (R20). -/
def badWindow (count : Nat) : Bool := 122 < max count 24414 - min count 24414

/-- What the clock monitor has seen fails the clock: its last two windows off, or the root PLL out of lock for longer than 10 µs
(R20). -/
def State.clockBad (s : State) : Bool := (s.pwr.tcxo.length == 2 && s.pwr.tcxo.all badWindow) || 10000 < s.pwr.unlock

/-- CLOCK_FAIL: the clock monitor has found the clock bad. PAIR_OWN is released (R447), and the module restarts cold wherever its
clocks run (R20); during an entry to BANKED the start is latched. The monitor begins anew. -/
def clockFail (s : State) : State :=
  if !s.clockBad || !s.coreOn then s
  else
    let s := (if s.own then s.letGo stInterrupted else s).withPwr fun p => { p with tcxo := [], unlock := 0 }
    if s.pwr.entry.isSome then s.latchStart SYS_RST_CAUSE.CLOCK_FAIL
    else (s.put SYS_RST_CAUSE.CLOCK_FAIL 1).newFlash.coldStart false

/-- PFAIL: the snapshot, and the firing log's staged records (R83, R471). -/
def pfail (s : State) : State :=
  if s.up .epc && s.up .log then (s.snapshot.flushLog).withPwr fun p => { p with pfail := true } else s

/-- PERIODIC_SNAPSHOT (R83). -/
def snapshotPeriodic (s : State) : State :=
  if s.running && s.up .epc then s.snapshot.withPwr fun p => { p with pfail := false } else s

/-- THERMAL_TRIP: T_J has stood at 140 °C for 1 ms: NETWORK and COMPUTE are held in reset. It counts as an unplanned warm start
(R24, R462), a second one within 60 s is a cold start (assumption 52). -/
def thermalTrip (readings : List Int) (s : State) : State :=
  let r := hottest 0 readings
  if !s.canRestart || r.1 < 1400 then s
  else
    let s := (s.put HLT_STAT.TRIPPED 1).logEv 4 4 (tjBytes r.1 ++ leBytes 1 r.2)
    if s.escalates then (s.put SYS_RST_CAUSE.ESCALATED 1).newFlash.coldStart false
    else
      let s := ((s.noteUnplanned.loseSlots).setMode .kindling).resetDomains true
      s.withHlt fun h => { h with hold := true, coolFrom := none }

/-- TRIP_RELEASE: T_J has been below RESTORE for 10 s: a warm start without a cause (R462). -/
def tripRelease (s : State) : State :=
  if s.hlt.hold && s.since s.hlt.coolFrom (10 * secs) then (s.newFlash.kindle true).publishLog else s

/-- ACTIVATION: at the instant, the start that the activation asks for (R433). -/
def activation (s : State) : State :=
  match s.actDue with
  | none => s
  | some a =>
    if !s.canRestart then s
    else if a.cold then (s.put SYS_RST_CAUSE.COLD_CMD 1).newFlash.coldStart false
    else (s.put SYS_RST_CAUSE.WARM_UPDATE 1).newFlash.warmStart true

end Sys2Proof.Machine
end

