-- ==== Sys2Proof/Machine/Modes.lean ====
section
/-! DEFINITION. The mode commands, the entry to BANKED, and what wakes the module (chapter 03, R69 to R82, R91, R92, R94, R115),
with the reversions of chapter 16 that begin a start (R436). The entry to BANKED lies wholly within the command or event that
decides it. -/

namespace Sys2Proof.Machine

/-! ### SERVICE (R72, R73, R75) -/

/-- The mode has changed at run time: the policy of SERVICE applies, and the radios follow (Table 3.3). -/
def State.modeFollow (s : State) : State :=
  let s := servicePolicy s
  if s.up .rad then s.pubRads else s

/-- ENTER_SERVICE (row 11 of Table 3.1). The count of CONFIRM_S stands (R436). -/
def enterServiceBody (s : State) : Nat × State :=
  if s.running && s.pwr.entry.isNone then (stDone, ((s.confirmPause).setMode .service).modeFollow) else (stRefusedState, s)

def pwrEnterService (src : Src) (s : State) : State := runCmd .pwr 1 (privileged src enterServiceBody) s

/-- LEAVE_SERVICE (R72): SOAK under an island order, FIRING otherwise; the SOAK timer restarts (R70). -/
def leaveServiceBody (s : State) : Nat × State :=
  if s.pwr.mode != .service || !s.bit CFG_STAT.IMG_OK || s.pwr.entry.isSome then (stRefusedState, s)
  else
    let s := (s.setMode (if s.island then .soak else .firing)).toFiring
    let s := (s.withPwr fun p => { p with soakFrom := s.clk }).idleRestart
    (stDone, ((s.confirmResume).verifyAgain).modeFollow)

def pwrLeaveService (s : State) : State := runCmd .pwr 2 leaveServiceBody s

/-! ### BANKED (R77 to R79) -/

/-- Local time is not valid, and some program in use puts out a level above 0 without it (R140). -/
def State.litWithoutTime (s : State) : Bool :=
  !s.localValid && s.usedProgs.any fun p => s.cf (SCH_PROG_ATTR.NO_TIME p) != 0

/-- The schedule wake, UTC seconds since 1970: SCH_NEXT_LIT − 4 s, or 48 h ahead where local time gives none (assumption 59). -/
def State.scheduleWake (s : State) : Int :=
  match s.nextLitSec with
  | some n => (n : Int) - s.sfld NTU_UTC.OFS - 4
  | none => (epochSecs + s.emb.rtc : Nat) + 48 * 3600 - 4

/-- UTC now, by network time where the schedule wake came from it. -/
def State.wakeNow (s : State) : Int :=
  if s.nextLitSec.isSome then (s.ntSec : Int) - s.sfld NTU_UTC.OFS else (epochSecs + s.emb.rtc : Nat)

/-- The module refuses entry to BANKED (R78). -/
def State.bankedRefused (s : State) : Bool :=
  !s.bit PWR_BANKED_ALLOW.ALLOW || s.pairEn || !s.liveSlots.isEmpty || s.litWithoutTime || s.scheduleWake < s.wakeNow + 60

/-- EMB_ALARM[1] takes the schedule wake, enabled (R78). -/
def State.setWakeAlarm (s : State) : State :=
  let t := (s.scheduleWake - epochSecs).toNat
  (s.wr (EMB_ALARM.adr 1) (2 ^ 31 + timeWord t)).wr (EMB_ALARM_DATE.adr 1) (bitsOf (dateWord (t / 86400)) 0 24)

/-- The queues of the switch, of the radio channels and of the DL ports are emptied (step 2 of Table 3.5). -/
def State.dropQueues (s : State) : State :=
  let s := radStart (swcStart s.radLost)
  { s with lbus := { s.lbus with ports := s.lbus.ports.map fun (d : DlPort) => { d with levels := [], queue := [], committed := [] } } }

/-- Step 1 of Table 3.5: an armed activation is lost (R433), the intake and the command generator stop, queues are discarded, and
the schedule wake is written. -/
def State.beginBanked (s : State) : State :=
  let s := ((s.setWakeAlarm).loseAct).dropQueues
  { s with lfe := { s.lfe with closed := true, intake := [] }, pwr := { s.pwr with entry := some s.clk, idleWarned := false } }

/-- The entry to BANKED goes on and its 1,100 ms have passed. -/
def State.bankedDue (s : State) : Bool := s.pwr.entry.any fun t => t + 1100 * msec ≤ s.clk

/-- Wake sources and a start trigger that an entry to BANKED has latched start the module (R79). -/
def State.latchedStart (s : State) : State :=
  if !s.pwr.trigger && s.pwr.latched = 0 then s
  else
    let s := if s.pwr.latched = 0 then s else (s.put PWR_WAKE_SRC.SRC s.pwr.latched).put SYS_RST_CAUSE.BANKED_WAKE 1
    (s.withPwr fun p => { p with trigger := false, latched := 0 }).newFlash.coldStart false

/-- Steps 3 to 6 of Table 3.5: the snapshot is written, the domains lose power, and the module is in BANKED; then what has been
latched starts it (R79). -/
def State.finishBanked (s : State) : State := (((s.snapshot).clampCore).reachBanked).latchedStart

/-- ENTER_BANKED (rows 5 and 6 of Table 3.1): PENDING until the entry ends. From SERVICE too, whatever IMG_OK says: R72 speaks of
leaving SERVICE for FIRING or SOAK (assumption 123). -/
def enterBankedBody (s : State) : Nat × State :=
  if !s.canRestart || s.bankedRefused then (stRefusedState, s) else (stPending, s.beginBanked)

def pwrEnterBanked (src : Src) (s : State) : State := runCmd .pwr 5 (privileged src enterBankedBody) s

/-- IDLE_TIMEOUT: the idle timer reaches its time; a refused entry and a lit output restart it (R77, R78). -/
def idleTimeout (s : State) : State :=
  if !s.idleDue 0 then s
  else if s.anyLit || s.bankedRefused then s.idleRestart
  else s.beginBanked

/-- A code of PWR_CMD (Table 3.2). -/
def pwrCmd (src : Src) (code : Nat) (s : State) : State :=
  match code with
  | 1 => pwrEnterService src s
  | 2 => pwrLeaveService s
  | 3 => pwrIsland s
  | 4 => pwrUnisland s
  | 5 => pwrEnterBanked src s
  | c => runCmd .pwr c (fun s => (stRefusedArg, s)) s

/-! ### Wakes (R80, Table 3.6) -/

/-- A wake begins a cold start, with its sources recorded. -/
def State.wakeStart (s : State) (b : Nat) : State :=
  let s := (s.put PWR_WAKE_SRC.SRC (b ||| s.pwr.latched)).put SYS_RST_CAUSE.BANKED_WAKE 1
  (s.withPwr fun p => { p with latched := 0, wokeAt := some s.clk }).newFlash.coldStart false

/-- Wake sources, as bits of PWR_WAKE_EN, are recognised: those enabled begin a cold start. During an entry to BANKED they are
latched (R79). Without VSYS the module stays in BANKED (row 2 of Table 3.1), and they are recorded for the start that follows. A
source recognised at the instant of another's wake is recorded with it (R80). -/
def State.wake (s : State) (src : Nat) : State :=
  let b := src &&& (s.fld PWR_WAKE_EN.EN ||| 2 ^ 8)
  if b = 0 then s
  else if s.pwr.entry.isSome then s.withPwr fun p => { p with latched := p.latched ||| b }
  else if s.pwr.wokeAt = some s.clk && s.pwr.mode != .banked then s.put PWR_WAKE_SRC.SRC (s.fld PWR_WAKE_SRC.SRC ||| b)
  else if s.pwr.mode != .banked then s
  else if !s.pwr.vsys then
    (s.withPwr fun p => { p with latched := p.latched ||| b }).put PWR_WAKE_SRC.SRC (s.pwr.latched ||| b)
  else s.wakeStart b

/-- WAKE_WSP: an address byte; a match is acknowledged (R81). -/
def wakeWsp (adr : Nat) (s : State) : State :=
  if adr != s.fld PWR_WSP_ADDR.ADDR || !s.pwr.vaux then s
  else if s.pwr.mode = .banked then (s.emit .wsp []).wake 1
  else s.wake 1

/-- WAKE_FIO: an edge on FIO `i` has held for DEB. -/
def wakeFio (i : Nat) (rising : Bool) (s : State) : State :=
  if bitOf (s.fld PWR_WAKE_FIO.SEL) i && bitOf (s.fld PWR_WAKE_FIO.EDGE) i == rising then s.wake 16 else s

/-- WAKE_MZ: signal detect on MZ_A or MZ_B. -/
def wakeMz (s : State) : State := s.wake 64

/-- WAKE_HSPI: chip-select low. -/
def wakeHspi (s : State) : State := s.wake 128

/-- VSYS_RETURN: VSYS has been in range for 10 ms after row 2 of Table 3.1. -/
def vsysReturn (s : State) : State :=
  if s.pwr.mode != .banked || s.pwr.vsys then s
  else
    let l := s.pwr.latched
    let s := s.withPwr fun p => { p with vsys := true, latched := 0, wokeAt := some s.clk }
    let s := ((s.put PWR_WAKE_SRC.SRC (256 ||| l)).put SYS_RST_CAUSE.BANKED_WAKE 1).put SYS_RST_CAUSE.COLD_POWER 1
    s.newFlash.coldStart true

/-- WAKE: a TEP WAKE frame heard on RC0 wakes a BANKED module of its SEG and CODE (R80, R82, R115). -/
def wakeTep (seg code : Nat) (s : State) : State :=
  if s.rc0Hears && seg == s.fld SYS_ID_SEG.SEG && code == s.fld PWR_RC0_CODE.CODE then s.wake 32 else s

/-- Alarms that match wake the module. -/
def State.alarmWake (r : List Nat × State) : State :=
  r.2.wake ((if r.1.contains 0 then 2 else 0) + (if r.1.contains 1 then 4 else 0))

/-- EMB_WRITE_LAND: the oldest queued write lands, and a time that does begins its second (R87, R88, R91). -/
def embWriteLand (s : State) : State := State.alarmWake s.landWrite

/-- RTC_SECOND: the RTC enters its next second; alarms match and wake (R86, R91). -/
def rtcSecond (s : State) : State := State.alarmWake s.rtcTick

/-- PERIODIC_WAKE (R91). -/
def periodicWake (s : State) : State := if s.periodDue then s.periodFire.wake 8 else s

/-- DOOR_EVENT (R92, Table 3.6). -/
def doorEvent (s : State) : State :=
  let s := s.doorFire
  if s.bit EMB_TAMP_CTL.WAKE then s.wake 512 else s

/-- PWR_ON_WRITE: EMB_PWRON_CTL is written with LEVEL 0 and its three SET_ON bits (R87, R94). -/
def pwrOnWrite (on : Nat) (s : State) : State :=
  embMirrorWrite { adr := EMB_PWRON_CTL.adr, val := BitVec.ofNat 32 (on % 8 * 2), pair := none, own := false } s

/-! ### Reversions (R436; assumption 60) -/

/-- The fired bank is restored and a start follows: warm, or cold where the bundles differ in STATE_ABI. REVERTED reads 1 after
it. -/
def State.revertStart (s : State) : State :=
  let r := s.revertNow
  let s := if r.1 then (r.2.put SYS_RST_CAUSE.COLD_CMD 1).newFlash.coldStart false
    else (r.2.put SYS_RST_CAUSE.WARM_UPDATE 1).newFlash.warmStart true
  s.reverted

/-- REVERT: privileged, on a glaze image. The start resets UPD_CMD_STAT. -/
def updRevert (src : Src) (s : State) : State :=
  let go := s.up .upd && s.cmdStatus .upd != stPending && s.upd.glaze && s.canRestart && (s.authorise src).isSome
  let s := runCmd .upd 6 (privileged src fun s => (if go then stDone else stRefusedState, s)) s
  if go then s.revertStart else s

/-- CONFIRM_TIMEOUT. -/
def confirmTimeout (s : State) : State :=
  match s.upd.confirmAt with
  | some t => if s.upd.glaze && s.running && t ≤ s.clk then s.revertStart else s
  | none => s

end Sys2Proof.Machine
end

