-- ==== Sys2Proof/Machine/Settle.lean ====
section
/-! DEFINITION. What every command ends with: stale digests are noted, interrupts and event frames follow, the register store
takes its canonical form, and the queue is what it was (R30, R58, R64, R369). -/

namespace Sys2Proof.Machine

/-! ### The canonical register store -/

/-- The bits of a word that its register names; none in reserved space. Reserved bits read 0 (R6, R58). -/
def namedBits (a : Nat) : Nat := maskAt a fun _ => true

/-- A listed word joins a store, its reserved bits 0. -/
def canonAdd (x : Nat × Word) (l : List (Nat × Word)) : List (Nat × Word) :=
  let w := x.2 &&& BitVec.ofNat 32 (namedBits x.1)
  if w = resetWord x.1 then regDel l x.1 else regIns l x.1 w

/-- The canonical form of a store: offsets rising, no word at its reset value, reserved bits 0. -/
def canonRegs (l : List (Nat × Word)) : List (Nat × Word) := l.foldr canonAdd []

/-- The register store in its canonical form. -/
def State.canon (s : State) : State := { s with regs := canonRegs s.regs }

/-! ### The end of a command -/

/-- Set digests that the command has left stale (R64). A start has computed every one anew. -/
def State.noteStale (s₀ s : State) : State :=
  if s.cfg.starts = s₀.cfg.starts then
    { s with cfg := { s.cfg with stale := (s.cfg.stale ++ staleSets s₀ s).eraseDups } }
  else s

/-- What follows a command that took `s₀` to `s`. -/
def settle (s₀ s : State) : State :=
  { (irqFollow s₀ (State.noteStale s₀ s)).canon with pending := s₀.pending }

/-- A command's outcome: the state after its effect, settled. -/
def finish (s₀ s : State) : Host.Outcome State Fault Refusal := .next (settle s₀ s)

end Sys2Proof.Machine
end

