-- ==== Sys2Proof/Machine/Access.lean ====
section
/-! DEFINITION. Register accesses: width and alignment, reserved space, read side effects, what a write of each word does, and
the record of refused accesses (R6, R12, R13, R28, R58 to R60, R130, R187, R331, R492, R493). -/

namespace Sys2Proof.Machine

/-! ### Words -/

/-- The blocks in address order: the first offset past each (Table 1.8). -/
def blkEnds : List (Nat × Option Blk) := [
  (0x2000, some .sys), (0x3000, some .epc), (0x10000, some .sys), (0x20000, some .cfg), (0x30000, some .pwr),
  (0x40000, some .emb), (0x50000, some .hlt), (0x60000, some .log), (0x70000, some .key), (0x80000, some .upd),
  (0x90000, some .ntu), (0xA0000, some .pair), (0x100000, none), (0x300000, some .epc), (0x340000, some .sch),
  (0x380000, some .lfe), (0x400000, some .trn), (0x440000, some .drv), (0x480000, some .lbus), (0x500000, some .mtr),
  (0x580000, some .rad), (0x5C0000, some .swc), (0x600000, some .hmq), (0x640000, some .bbn), (0x680000, some .mzl),
  (0x6C0000, some .hbr), (0x700000, some .usb)]

/-- The block an offset lies in; nothing in a reserved range. -/
def blkOf (a : Nat) : Option Blk := ((blkEnds.find? fun x => a < x.1).map (·.2)).getD none

/-- An access at this offset is answered (R28). -/
def State.answers (s : State) (a : Nat) : Bool :=
  match wordDom a with
  | some d => s.domUp d
  | none =>
    match blkOf a with
    | some b => s.up b
    | none => s.up .sys

/-- The register of a word; nothing in reserved space (R6, R27). -/
def regAt (a : Nat) : Option RegDesc := if hmqReserved a then none else (findReg a).map (·.1)

/-- The context of a word in the EPC window. -/
def ctxOf (a : Nat) : Nat := (a - 0x100000) / 512

/-- A word of a context whose bank is lost (R130). -/
def State.lostWord (s : State) (a : Nat) : Bool :=
  0x100000 ≤ a && a < 0x300000 && s.epc.lostBanks.contains (ctxOf a / 256)

/-! ### The record of access errors (R60, R493) -/

/-- The flags of SYS_ACCESS_ERR. -/
inductive AccErr where
  | align | width | reserved | static | roWrite
deriving DecidableEq, Repr

/-- The flag's bit. -/
def AccErr.fld : AccErr → Fld
  | .align => SYS_ACCESS_ERR.ALIGN
  | .width => SYS_ACCESS_ERR.WIDTH
  | .reserved => SYS_ACCESS_ERR.RESERVED
  | .static => SYS_ACCESS_ERR.STATIC
  | .roWrite => SYS_ACCESS_ERR.RO_WRITE

/-- An access: its source, whether it writes, the power of two of its bytes (0 to 3), and its module offset. -/
structure Access where
  src : Src
  wr : Bool
  sz : Nat
  off : Nat
deriving DecidableEq, Repr

/-- No flag of SYS_ACCESS_ERR is set. -/
def State.noAccErr (s : State) : Bool := bitsOf (s.rd SYS_ACCESS_ERR.adr) 0 5 == 0

/-- An access error: the first is captured, later ones set OVF; a flag that rises sets SYS_EVT_STAT.ACCESS_ERR. -/
def State.accErr (s : State) (c : Access) (e : AccErr) : State :=
  let t := if s.noAccErr then
      (((s.put SYS_ACCESS_ERR.SOURCE c.src.code).put SYS_ACCESS_ERR.SIZE c.sz).putB SYS_ACCESS_ERR.DIR c.wr).put
        SYS_ACCESS_ADDR.OFFSET c.off
    else s.put SYS_ACCESS_ERR.OVF 1
  let t := if s.bit e.fld then t else t.raise SYS_EVT_STAT.ACCESS_ERR
  t.put e.fld 1

/-! ### What a word reads -/

/-- Words latched by the read of another (R492), but SCH_STAT, of which one bit is. -/
def isLatched (a : Nat) : Bool :=
  (0x10024 ≤ a && a < 0x10040) || a == CFG_EPOCH_LATCH.adr || a == EMB_RTC_DATE.adr || a == EMB_RTC_SUBSEC.adr ||
    a == SCH_LOCAL_DATE.adr || a == SCH_NEXT_LIT_HI.adr || a == LFE_TICK_NT_HI.adr || a == TRN_CMD_T_SEC_HI.adr ||
    (0x381000 ≤ a && a < 0x382000 && a % 64 == 12) || a == NTU_TIME_HI.adr || a == NTU_TIME_EXT.adr ||
    a == NTU_TIME_FRC_LO.adr || a == NTU_TIME_FRC_HI.adr || a == NTU_FRC_HI.adr ||
    (0x482000 ≤ a && a < 0x482100 && 12 ≤ a % 64 && a % 64 ≤ 28) ||
    (0x483000 ≤ a && a < 0x483C00 && 0x14 ≤ a % 256 && a % 256 ≤ 0x50)

/-- One word of a byte string. -/
def wordAt (b : List Byte) (k : Nat) : Nat := leAt b (4 * k) 4

/-- What the KEY words read that are not in the register store (R418, Table 15.11). -/
def State.keyWord (s : State) (src a : Nat) : Option Nat :=
  let b := s.bank src
  let o := a - 0x60000
  if a = KEY_CMD.adr then some b.code
  else if a = KEY_CMD_STAT.adr then some (b.cmd * 256 + b.status)
  else if a = KEY_CMD_ARG.adr then some (b.arg * 256 + b.slot)
  else if a = KEY_STAT.adr then
    some (s.rd a / 256 % 2 * 256 + s.key.sessions.foldl (fun n (x : Session) => n ||| 2 ^ (4 + x.src % 4)) 0 +
      (if s.key.intent.isSome then 8 else 0) + s.key.lc)
  else if a = KEY_SESS_ID.adr then some b.sessId
  else if 0x20 ≤ o ∧ o < 0x40 then some (wordAt ((b.nonce.map (·.1)).getD []) ((o - 0x20) / 4))
  else if 0x60 ≤ o ∧ o < 0x80 then some (wordAt s.key.lcNonce ((o - 0x60) / 4))
  else if 0x100 ≤ o ∧ o < 0x140 then some (wordAt ((List.range 64).map Config.devPub) ((o - 0x100) / 4))
  else if 0x400 ≤ o ∧ o < 0x4F0 then some (wordAt b.attResp ((o - 0x400) / 4))
  else if 0x40 ≤ o ∧ o < 0x60 ∨ 0x140 ≤ o ∧ o < 0x320 then some 0
  else if 0x1000 ≤ o ∧ o < 0x2000 then some (s.slotWord ((o - 0x1000) / 16) (o % 16 / 4))
  else none

/-- HBR_SLOT_STAT: the slots in use, and those that hold a destructive read. -/
def State.slotStat (s : State) : Nat :=
  let m := fun (l : List HostOp) => l.foldl (fun n (o : HostOp) => n ||| 2 ^ (o.slot.getD 0)) 0
  let l := s.hb.ops.filter (·.slot.isSome)
  m (l.filter (·.destr)) * 256 + m l

/-- Words that read what the state holds elsewhere than in the register store. -/
def State.overlay (s : State) (src a : Nat) : Option Nat :=
  if s.lostWord a then some (if a % 512 = 0 then ctxOf a * 65536 + 7 else 0)
  else if isLatched a then some (s.latched a)
  else if a = SYS_IRQ_STAT.adr then some s.irqStat
  else if a = CFG_STAT.adr then some (putBits (s.rd a) 7 1 (if s.cfg.stale.isEmpty then 0 else 1))
  else if a = PWR_WAKE_EN.adr then some (s.rd a ||| 2 ^ 8)
  else if a = EMB_RTC_TIME.adr then some s.rtcTime
  else if 0x60000 ≤ a ∧ a < 0x70000 then s.keyWord src a
  else if 0x70000 ≤ a ∧ a < 0x80000 then s.updWord a
  else if a = NTU_TIME_LO.adr then some (ntuTimeRead s).1
  else if a = NTU_FRC_LO.adr then some (ntuFrcRead s).1
  else if a = PAIR_STAT.adr then
    some (if s.pairEn then putBits (s.rd a) 0 8 s.pairCond else s.rd a)
  else if 0x90000 ≤ a ∧ a < 0xA0000 then s.pairWord a
  else if a = SCH_STAT.adr then some (putBits (s.rd a) 2 1 (s.latched a))
  else if a = HBR_SLOT_STAT.adr then some s.slotStat
  else none

/-- What a word reads, without its side effects. Reserved bits read 0 (R58). -/
def State.view (s : State) (src a : Nat) : Nat := (s.overlay src a).getD (s.rd a) &&& namedBits a

/-! ### RAR pairs (R12) -/

/-- An RAR pair: its words and its PENDING and REREAD bits. -/
structure RarPair where
  lo : Nat
  hi : Nat
  pending : Fld
  reread : Fld
deriving DecidableEq, Repr

/-- The RAR pair of a word, and whether the word is its high half. -/
def rarOf (a : Nat) : Option (RarPair × Bool) :=
  if a = EPC_REMOVED_EN_LO.adr ∨ a = EPC_REMOVED_EN_HI.adr then
    some (⟨EPC_REMOVED_EN_LO.adr, EPC_REMOVED_EN_HI.adr, EPC_REMOVED_EN_STAT.PENDING, EPC_REMOVED_EN_STAT.REREAD⟩,
      a == EPC_REMOVED_EN_HI.adr)
  else if 0x100000 ≤ a ∧ a < 0x300000 ∧ (a % 512 = 0x120 ∨ a % 512 = 0x124) then
    let n := ctxOf a
    some (⟨EPC_EN_LO.adr n, EPC_EN_HI.adr n, EPC_EN_STAT.PENDING n, EPC_EN_STAT.REREAD n⟩, a % 512 == 0x124)
  else if 0x400200 ≤ a ∧ a < 0x400400 ∧ (a % 64 = 0x20 ∨ a % 64 = 0x24) then
    let g := (a - 0x400200) / 64
    some (⟨DRV_GRP_EN_LO.adr g, DRV_GRP_EN_HI.adr g, DRV_GRP_EN_STAT.PENDING g, DRV_GRP_EN_STAT.REREAD g⟩, a % 64 == 0x24)
  else if 0x483000 ≤ a ∧ a < 0x483C00 ∧ 0x60 ≤ a % 256 ∧ a % 256 < 0x98 then
    let f := (a - 0x483000) / 256
    let j := (a % 256 - 0x60) / 8
    some (⟨MTR_FDR_ACC_LO.adr f j, MTR_FDR_ACC_HI.adr f j, accPending f j, accReread f j⟩, a % 8 == 4)
  else none

/-- A read of the low word: a new snapshot, or the pending one again. -/
def State.rarLow (s : State) (p : RarPair) : Nat × State :=
  if s.bit p.pending then (s.rarShadow p.lo % 2 ^ 32, s.put p.reread 1)
  else
    let s := (s.rarSnap p.lo p.hi).put p.pending 1
    (s.rarShadow p.lo % 2 ^ 32, s)

/-- A read of the high word. -/
def State.rarHigh (s : State) (p : RarPair) : Nat × State := (s.rarShadow p.lo / 2 ^ 32, s.put p.pending 0)

/-! ### Reads -/

/-- Bits of read-clears fields. -/
def rcMask (a : Nat) : Nat := maskAt a fun f => f.acc == .rc

/-- A read of this word has a side effect that a narrow read must not have: RC, RAR, or a destructive read (Table 2.12). -/
def readActs (a : Nat) : Bool := rcMask a != 0 || (rarOf a).isSome || a == EPC_JOIN_EPA.adr

/-- A 32-bit read of an RC register: its value, and the RC fields cleared. -/
def State.rcRead (s : State) (src a : Nat) : Nat × State :=
  (s.view src a, s.wr a (maskIn (s.rd a) 0 (rcMask a)))

/-- A 32-bit read of a word whose read latches another; nothing for the others (R492). -/
def State.latchRead (s : State) (a : Nat) : Option (Nat × State) :=
  if a = CFG_DIGEST.adr 0 then some (digestRead s)
  else if a = EMB_RTC_TIME.adr then some (rtcTimeRead s)
  else if a = SCH_LOCAL_TIME.adr then some (schLocalRead s)
  else if a = SCH_NEXT_LIT_LO.adr then some (schNextLitRead s)
  else if a = LFE_TICK_NT_LO.adr then some (lfeTickNtRead s)
  else if a = TRN_CMD_T_SEC_LO.adr then some (trnTimeRead a (a + 4) s)
  else if 0x381000 ≤ a ∧ a < 0x382000 ∧ a % 64 = 8 then some (trnTimeRead a (a + 4) s)
  else if a = NTU_TIME_LO.adr then some (ntuTimeRead s)
  else if a = NTU_FRC_LO.adr then some (ntuFrcRead s)
  else if 0x482000 ≤ a ∧ a < 0x482100 ∧ a % 64 = 8 then some (mtrResultRead a (a + 4) (a + 20) s)
  else if 0x483000 ≤ a ∧ a < 0x483C00 ∧ a % 256 = 0x10 then some (mtrResultRead a (a + 4) (a + 64) s)
  else none

/-- A 32-bit read of a named word, with its side effects. -/
def State.readWord (s : State) (src : Src) (a : Nat) : Nat × State :=
  if s.lostWord a then (s.view src.code a, s)
  else if a = SWC_CLAIM.adr then swcClaim src s
  else if a = LBUS_EVT.adr then lbusEvtRead s
  else if a = EPC_JOIN_EPA.adr then joinEpaRead s
  else if 0x598000 ≤ a ∧ a < 0x598100 then cellRead src ((a - 0x598000) / 4) s
  else if 0x5C1000 ≤ a ∧ a < 0x5C1800 ∧ a % 64 = 0x18 then hmqPop ((a - 0x5C1000) / 64) false s
  else
    match rarOf a with
    | some (p, hi) => if hi then s.rarHigh p else s.rarLow p
    | none =>
      match s.latchRead a with
      | some r => r
      | none => if rcMask a = 0 then (s.view src.code a, s) else s.rcRead src.code a

/-- A 32-bit read, reserved space included. -/
def State.read32 (s : State) (c : Access) : Nat × State :=
  match regAt c.off with
  | none => (0, s.accErr c .reserved)
  | some _ => s.readWord c.src c.off

/-- An 8- or 16-bit read. Latching is none of the side effects that Table 2.12 keeps from a narrow read, so a narrow read of a
latching word latches too (R66; assumption 119). -/
def State.readNarrow (s : State) (c : Access) : Nat × State :=
  let a := c.off / 4 * 4
  match regAt a with
  | none => (0, s.accErr c .reserved)
  | some _ =>
    if readActs a && !s.lostWord a then (2 ^ (8 * 2 ^ c.sz) - 1, s.accErr c .width)
    else
      let r := if 0x598000 ≤ a ∧ a < 0x598100 then cellRead c.src ((a - 0x598000) / 4) s
        else (s.latchRead a).getD (s.view c.src.code a, s)
      (bitsOf r.1 (8 * (c.off % 4)) (8 * 2 ^ c.sz), r.2)

/-- First words of the pairs marked 64-bit, by register. -/
def pairRegs : List Nat := [
  SYS_ID_SERIAL_LO.adr, CFG_REQ_MASK_LO.adr, EMB_RTC_TIME.adr, EPC_CMD_ARG1.adr, EPC_REMOVED_EN_LO.adr, EPC_EUI_LO.adr 0,
  EPC_EN_LO.adr 0, SCH_LOCAL_TIME.adr, SCH_NEXT_LIT_LO.adr, LFE_TICK_NT_LO.adr, LFE_SRC_W0.adr 0, LFE_SRC_W2.adr 0,
  TRN_CMD_T_SEC_LO.adr, TRN_SLOT_T_SEC_LO.adr 0, DRV_FAULT_MAP_LO.adr, DRV_GRP_EN_LO.adr 0, LBUS_DL_DUP.adr 0 0,
  RAD_EUI_LO.adr, HMQ_Q_POP_LO.adr 0, NTU_TIME_LO.adr, NTU_TIME_FRC_LO.adr, NTU_FRC_LO.adr, NTU_STEP_LO.adr,
  NTU_STEP_LAST_LO.adr, NTU_CAP_NS.adr, NTU_CMP_W2.adr 0, BBN_MAC_LO.adr, HBR_CASC_PEND_LO.adr, MTR_FREEZE_T_SEC_LO.adr,
  MTR_FDR_ACC_LO.adr 0 0, UPD_ACT_T_SEC_LO.adr, PAIR_PEER_SERIAL_LO.adr, PAIR_DIGEST_MASK_LO.adr]

/-- The low word of a pair marked 64-bit. DUP is one register of two words. -/
def pairLow (a : Nat) : Bool :=
  match regAt a with
  | none => false
  | some d => pairRegs.contains d.base && !(d.base == LBUS_DL_DUP.adr 0 0 && a % 8 == 0)

/-- A read of the access's size at its size-aligned offset. A pair reads its low word first, so that a latching read and the
words it latches, and an RAR snapshot, come of one access. -/
def State.readAt (s : State) (c : Access) : Nat × State :=
  if c.sz < 2 then s.readNarrow c
  else if c.sz = 2 then s.read32 c
  else
    let c := if pairLow c.off then c else { c with sz := 2 }
    let l := s.read32 c
    let h := l.2.read32 { c with off := (c.off + 4) % 2 ^ 26 }
    (l.1 + 2 ^ 32 * h.1, h.2)

/-! ### Commands (R14) -/

/-- SLOT_FLUSH (R360): every fetch slot is freed; HBR_SLOT_FLUSH gives the destructive ones. -/
def slotFlush (s : State) : State :=
  runCmd .hbr 1 (fun s =>
    let n := s.hb.ops.countP fun (o : HostOp) => o.slot.isSome && o.destr
    let s := { s with hb := { s.hb with ops := s.hb.ops.filter (·.slot.isNone) } }
    (stDone, s.logEv 22 1 (leBytes 1 n))) s

/-- PROVE, OPEN_SESSION and the other KEY codes bank their own status. The scan that SCAN_NOW makes through a register finds
what a scan of sound pads finds (assumption 61). -/
def State.command (src : Src) (b : Blk) (code : Nat) (s : State) : State :=
  match b, code with
  | .cfg, c => cfgCmd c s
  | .pwr, c => pwrCmd src c s
  | .emb, 1 => embCapture s
  | .log, 1 => logClear src s
  | .log, 2 => logFlush s
  | .upd, 1 => updBegin s
  | .upd, 2 => updVerify s
  | .upd, 3 => updActivate src s
  | .upd, 4 => cancelAct s
  | .upd, 5 => updConfirm src s
  | .upd, 6 => updRevert src s
  | .upd, 0x10 => epStart src s
  | .upd, 0x11 => epStop s
  | .ntu, 1 => ntuStep s
  | .ntu, 2 => ntuStepForce src s
  | .ntu, 3 => ntuSrcSelect s
  | .ntu, 4 => ntuCmpArm s
  | .ntu, 5 => ntuCmpDisarm s
  | .pair, 1 => pairHandover src s
  | .pair, 2 => pairAbdicate src s
  | .pair, 3 => pairResync s
  | .epc, 1 => (epcCmd 1 activateBody s).commissionNew
  | .epc, 2 => epcCmd 2 suspendBody s
  | .epc, 3 => (epcCmd 3 resumeBody s).commissionNew
  | .epc, 4 => (epcCmd 4 replaceBody s).commissionNew
  | .epc, 5 => epcCmd 5 removeBody s
  | .epc, 6 => epcCmd 6 clearFaultBody s
  | .epc, 7 => epcCmd 7 (fun _ => snapshotBody) s
  | .sch, 1 => solarNow s
  | .lfe, 1 => lfeInject s
  | .lfe, 2 => clearSources s
  | .trn, 1 => trnArm s
  | .trn, 2 => trnCancel s
  | .trn, 3 => trnRelease s
  | .trn, 4 => patStart s
  | .trn, 5 => patStop s
  | .drv, 1 => drvClearFault s
  | .drv, 2 => scanSoon s
  | .lbus, 1 => dlCommission s
  | .lbus, 2 => dlRequery s
  | .lbus, 3 => dlRaw s
  | .lbus, 4 => fioClear s
  | .mtr, 1 => freezeAll s
  | .rad, 1 => radAirtime s
  | .rad, 2 => chFlush s
  | .swc, 1 => swcEnqueue src s
  | .swc, 2 => swcQFlush s
  | .hmq, 1 => hmqFlush s
  | .mzl, 1 => mzReenum s
  | .hbr, 1 => slotFlush s
  | b, c => runCmd b c (fun s => (stRefusedArg, s)) s

/-- The block whose command register a word is; KEY's stands apart (R418). -/
def cmdBlk (a : Nat) : Option Blk :=
  match blkOf a with
  | none => none
  | some b => match b.cmdRegs with
    | some r => if r.code.adr = a then some b else none
    | none => none

/-! ### Writes -/

/-- Bits of RW fields that a write of this word does not store, but a hook of their own. -/
def heldBits (a : Nat) : Nat :=
  if 0x401000 ≤ a ∧ a < 0x402000 ∧ a % 64 = 0 then 2 ^ 31
  else if 0x406000 ≤ a ∧ a < 0x406400 ∧ a % 64 = 0 then 2 ^ 31
  else if 0x441000 ≤ a ∧ a < 0x441400 ∧ a % 64 = 0 then 2 ^ 31
  else if 0x443000 ≤ a ∧ a < 0x443900 ∧ a % 32 = 0 then 2 ^ 31
  else if 0x445000 ≤ a ∧ a < 0x445200 ∧ a % 64 = 0 then 2 ^ 31
  else if 0x501000 ≤ a ∧ a < 0x501400 ∧ a % 128 = 0 then 2 ^ 31
  else if a = PAIR_CFG.adr then 2 ^ 31
  else if a = LFE_CTL.adr then 2 ^ LFE_CTL.EN.lo + 2 ^ LFE_CTL.PROP_EN.lo
  else 0

/-- A write of a word by its fields' access and class (R13, R59): whether an S field would have changed, and the state after. -/
def State.plainWrite (s : State) (a v be : Nat) : Bool × State :=
  let m := be - (be &&& heldBits a)
  let r := s.classWrite ⟨a, v, m⟩ (s.locked a)
  let c := maskAt a (fun f => f.acc == .w1c) &&& be
  (r.1 != 0, r.2.wr a (r.2.rd a - (r.2.rd a &&& v &&& c)))

/-- A word list with one word replaced. -/
def setWordAt (n : Nat) (l : List Word) (k v : Nat) : List Word :=
  (List.range n).map fun i => if i = k then BitVec.ofNat 32 v else l.getD i 0

/-- A write of a KEY word that is banked per source (R418); nothing for the others. -/
def State.keyStore (s : State) (src : Src) (a v : Nat) : Option State :=
  let b := s.bank src.code
  let o := a - 0x60000
  if a = KEY_CMD.adr then some (keyWrite src (v % 256) s)
  else if a = KEY_CMD_ARG.adr then some (s.setBank { b with slot := v % 256, arg := v / 256 % 256 })
  else if 0x40 ≤ o ∧ o < 0x60 then some (s.setBank { b with proof := setWordAt 8 b.proof ((o - 0x40) / 4) v })
  else if 0x140 ≤ o ∧ o < 0x180 then some (s.setBank { b with eph := setWordAt 16 b.eph ((o - 0x140) / 4) v })
  else if 0x180 ≤ o ∧ o < 0x1E0 then some (s.setBank { b with sig := setWordAt 24 b.sig ((o - 0x180) / 4) v })
  else if 0x200 ≤ o ∧ o < 0x2A0 then some (s.setBank { b with blob := setWordAt 40 b.blob ((o - 0x200) / 4) v })
  else if 0x300 ≤ o ∧ o < 0x320 then some (s.setBank { b with attNonce := setWordAt 8 b.attNonce ((o - 0x300) / 4) v })
  else none

/-- The host does not own the steering registers, or the cores do not (R331): the write is ignored, and one of the host is
flagged. -/
def State.steer (s : State) (src : Src) (f : State → State) : State :=
  if s.bit NTU_CTL.SERVO = (src == .core) then (if src == .core then s else s.put NTU_STAT.SERVO_OWNED 1) else f s

/-- NTU_RATE as a write stores it: within ±500 ppm. -/
def rateWord (v : Nat) : Nat := ofSignedSat 32 (clampI (-1099511628) 1099511628 (toSigned 32 v))

/-- A write of a word that is an action of its own; nothing for the others. -/
def State.special (s : State) (src : Src) (a v be : Nat) : Option State :=
  if (cmdBlk a).isSome then (cmdBlk a).map fun b => s.command src b (v % 256)
  else if 0x60000 ≤ a ∧ a < 0x70000 then s.keyStore src a v
  else if isMirror a then some (embMirrorWrite { adr := a, val := BitVec.ofNat 32 v, pair := none, own := false } s)
  else if a = PWR_HEARTBEAT.adr then some (if bitOf v 0 then pwrHeartbeat src s else s)
  else if a = LOG_RD_SEQ.adr then some (logRead v s)
  else if a = NTU_PHASE.adr then some (ntuPhaseWrite src v s)
  else if a = NTU_RATE.adr then some (s.steer src fun s => s.wr a (rateWord v))
  else if a = NTU_STEP_LO.adr ∨ a = NTU_STEP_HI.adr then some (s.steer src fun s => s.wr a v)
  else if a = NTU_UTC.adr then
    some ((s.setOfs (toSigned 16 (v % 65536))).wr a (v &&& (rwMask a)))
  else if 0x100000 ≤ a ∧ a < 0x300000 ∧ 0x40 ≤ a % 512 ∧ a % 512 < 0x60 then
    some (epcGrpWrite (ctxOf a) ((a % 512 - 0x40) / 4) v s)
  else if 0x100000 ≤ a ∧ a < 0x300000 ∧ a % 512 = 0x24 then some (reportCfgWrite (ctxOf a) v s)
  else if 0x381000 ≤ a ∧ a < 0x382000 ∧ !s.slotFree ((a - 0x381000) / 64) then some (s.put TRN_STAT.BUSY_WRITE 1)
  else if a = SWC_FREE.adr then some (swcFree src (v % 2 ^ 15) s)
  else if a = SWC_CELL_SEL.adr then some (swcCellSel src v s)
  else if 0x598000 ≤ a ∧ a < 0x598100 then some (cellWrite src ((a - 0x598000) / 4) v be s)
  else if 0x5C1000 ≤ a ∧ a < 0x5C1400 ∧ (a % 64 = 0x10 ∨ a % 64 = 0x14) then
    some (hmqPush ((a - 0x5C1000) / 64) v (a % 64 == 0x14) s)
  else none

/-- A bit that a write changes. -/
def flips (old v k : Nat) : Bool := bitOf old k != bitOf v k

/-- What follows a write of an enable or of a word that something watches: `v` as written, `s₀` the state before. -/
def State.afterLight (s₀ : State) (a v : Nat) (s : State) : State :=
  let on := bitOf v 31
  let old := s₀.rd a
  if 0x401000 ≤ a ∧ a < 0x402000 ∧ a % 64 = 0 then (if flips old v 31 then drvChEn ((a - 0x401000) / 64) on s else s)
  else if 0x406000 ≤ a ∧ a < 0x406400 ∧ a % 64 = 0 then (if flips old v 31 then drvSetEn ((a - 0x406000) / 64) on s else s)
  else if 0x441000 ≤ a ∧ a < 0x441400 ∧ a % 64 = 0 then (if flips old v 31 then dlEnable ((a - 0x441000) / 64) on s else s)
  else if 0x400200 ≤ a ∧ a < 0x400400 ∧ a % 64 = 0 then s.alignWritten ((a - 0x400200) / 64)
  else if 0x443000 ≤ a ∧ a < 0x443900 ∧ a % 32 = 0 then 
    (if flips old v 31 then fioEnable ((a - 0x443000) / 32) on s else fioInvert ((a - 0x443000) / 32) (bitOf old 27) s)
  else if 0x445000 ≤ a ∧ a < 0x445200 ∧ a % 64 = 0 then (if flips old v 31 then sbEnable ((a - 0x445000) / 64) on s else s)
  else if a = LFE_CTL.adr then
    (lfeCtlWrite (bitOf v LFE_CTL.EN.lo) (bitOf v LFE_CTL.PROP_EN.lo) s).setTick
  else if 0x440030 ≤ a ∧ a < 0x44003C then fioOutWritten s
  else if 0x442000 ≤ a ∧ a < 0x442180 ∧ a % 32 = 0 then
    aoRangeWrite ((a - 0x442000) / 32) (s₀.cf (LBUS_AO_CFG.RANGE ((a - 0x442000) / 32))) s
  else if 0x442000 ≤ a ∧ a < 0x442180 ∧ a % 32 = 4 then s.aoUpdate ((a - 0x442000) / 32)
  else if 0x444800 ≤ a ∧ a < 0x444C00 then (List.range 12).foldl State.aoUpdate s
  else if 0x341000 ≤ a ∧ a < 0x341400 then
    (match regAt a with
    | some d => if clampWord d.base v = v then s else s.put LFE_STAT.BAD_PROF 1
    | none => s)
  else if a = SCH_CTL.adr then
    let h := if !s.bit SCH_CTL.HOLD then none else if s₀.bit SCH_CTL.HOLD then s.sch.holdAt else some s.clk
    { s with sch := { s.sch with holdAt := h } }
  else if 0x100000 ≤ a ∧ a < 0x300000 ∧ a % 512 = 0x14 then
    (if s.reach ((a - 0x100000) / 512) = 4 then s.aoUpdate (s.fld (EPC_REACH.PORT ((a - 0x100000) / 512)) % 12) else s)
  else if a = EPC_JOIN_CTL.adr then
    (if s.bit EPC_JOIN_CTL.OPEN && !s₀.bit EPC_JOIN_CTL.OPEN then { s with epc := { s.epc with openAt := s.clk } } else s)
  else s

/-- The same, outside the lighting blocks. -/
def State.afterRest (s₀ : State) (a v : Nat) (s : State) : State :=
  if 0x501000 ≤ a ∧ a < 0x501400 then
    let ch := (a - 0x501000) / 128
    let s := if a % 128 = 0 && flips (s₀.rd a) v 31 then radChEnWrite ch (bitOf v 31) s else s
    s.pubChan ch
  else if a = RAD_CTL.adr ∨ (0x500200 ≤ a ∧ a < 0x500300) then s.pubRads
  else if a = PAIR_CFG.adr then pairEnWrite (bitOf v 31) s
  else if a = PAIR_ABD_MASK.adr then s.pairFollow
  else if a = PWR_SVC_CTL.adr then s.modeFollow
  else if a = PWR_IDLE_CFG.adr ∨ a = PWR_BANKED_ALLOW.adr then
    (if s.idleCounts && !s₀.idleCounts then s.idleRestart else s)
  else if a = KEY_RADIO_CFG.adr then rootSlotChange s
  else if a = MTR_CTL.adr then (if s.bit MTR_CTL.EN && !s₀.bit MTR_CTL.EN then mtrEnable s else s)
  else if a = MTR_HARM_CTL.adr then s.harmSwap
  else s

/-- SCH_SOLAR is the cores' own while SCH_SOLAR_CTL.HOST is 0 (R135, R148). -/
def State.solarClosed (s : State) (a : Nat) : Bool :=
  0x300080 ≤ a && a < 0x3000D4 && s.cf SCH_SOLAR_CTL.HOST == 0

/-- A 32-bit write of a word's enabled bytes: what it is flagged for, and the state after. -/
def State.storeWord (s : State) (src : Src) (a v be : Nat) : Option AccErr × State :=
  match regAt a with
  | none => (some .reserved, s)
  | some d =>
    if s.lostWord a || s.solarClosed a || d.fields.all (·.acc == .ro) then (some .roWrite, s)
    else
      match s.special src a v be with
      | some t => (none, t)
      | none =>
        let r := s.plainWrite a v be
        (if r.1 then some .static else none, s.afterRest a v (s.afterLight a v r.2))

/-- A 32-bit write, with its flag recorded. -/
def State.write32 (s : State) (c : Access) (v : Nat) : State :=
  let r := s.storeWord c.src c.off v 0xFFFFFFFF
  match r.1 with
  | some e => r.2.accErr c e
  | none => r.2

/-- Registers that the tables mark byte-writable (Table 2.12). -/
def byteWritable (a : Nat) : Bool := ((regAt a).map (·.byteW)).getD false

/-- An 8- or 16-bit write. One to a register that is not byte-writable is WIDTH, also where every field of it is RO
(assumption 136). -/
def State.writeNarrow (s : State) (c : Access) (v : Nat) : State :=
  let a := c.off / 4 * 4
  let sh := 8 * (c.off % 4)
  let m := 2 ^ (8 * 2 ^ c.sz) - 1
  match regAt a with
  | none => s.accErr c .reserved
  | some _ =>
    if !byteWritable a then s.accErr c .width
    else
      let r := s.storeWord c.src a ((v &&& m) * 2 ^ sh) (m * 2 ^ sh)
      match r.1 with
      | some e => r.2.accErr c e
      | none => r.2

/-- A 64-bit write of a pair: both words, and at most one flag. The RTC pair enters the ember write queue as one write (R88). -/
def State.writePair (s : State) (c : Access) (v : Nat) : State :=
  if c.off = EMB_RTC_TIME.adr then
    embMirrorWrite { adr := c.off, val := BitVec.ofNat 32 v, pair := some (BitVec.ofNat 32 (v / 2 ^ 32)), own := false } s
  else
    let l := s.storeWord c.src c.off (v % 2 ^ 32) 0xFFFFFFFF
    let h := l.2.storeWord c.src (c.off + 4) (v / 2 ^ 32) 0xFFFFFFFF
    match (if l.1.isSome then l.1 else h.1) with
    | some e => h.2.accErr c e
    | none => h.2

/-- A write of the access's size at its size-aligned offset. -/
def State.writeAt (s : State) (c : Access) (v : Nat) : State :=
  if c.sz < 2 then s.writeNarrow c v
  else if c.sz = 2 then s.write32 c (v % 2 ^ 32)
  else if pairLow c.off then s.writePair c v
  else
    let s := s.write32 { c with sz := 2 } (v % 2 ^ 32)
    s.write32 { c with sz := 2, off := (c.off + 4) % 2 ^ 26 } (v / 2 ^ 32)

/-! ### Accesses -/

/-- The offset is a multiple of the access's size, or of 4 for a 64-bit access (R58). -/
def Access.aligned (c : Access) : Bool := c.off % (if c.sz = 3 then 4 else 2 ^ c.sz) == 0

/-- The 61 µs after VAUX returns, in which a read of EMB by HSPI ends in RETRY (R87). -/
def State.embBlind (s : State) (c : Access) : Bool :=
  c.src == .hspi && !c.wr && 0x30000 ≤ c.off && c.off < 0x40000 && s.clk < s.pwr.vauxAt + 61 * usec

/-- The access is answered, both words of a 64-bit one (R28). -/
def State.reaches (s : State) (c : Access) : Bool :=
  s.answers c.off && (c.sz != 3 || s.answers ((c.off + 4) % 2 ^ 26)) && !s.embBlind c

/-- A register access: RETRY (1) with no effect where it is not answered, otherwise OK (0); the value read; the state after. -/
def State.access (s : State) (c : Access) (v : Nat) : Nat × Nat × State :=
  if !s.reaches c then (1, 0, s)
  else if !c.aligned then (0, if c.wr then 0 else 2 ^ (8 * 2 ^ c.sz) - 1, s.accErr c .align)
  else if c.wr then (0, 0, s.writeAt c v)
  else
    let r := s.readAt c
    (0, r.1, r.2)

/-- The bytes a read returns go to its requester. -/
def State.reply (s : State) (c : Access) (v : Nat) : State := s.emit (.reg c.src.code) (leBytes (2 ^ c.sz) v)

end Sys2Proof.Machine
end

