-- ==== Sys2Proof/Machine/Host.lean ====
section
/-! DEFINITION. The paths of register access: HSPI with its windows, posted writes and fetch slots; operations over Mistazil; RAF
requests; USB vendor requests and packets; JTAG (R353 to R360, R362, R367, R368, R373, R377 to R380, R489). -/

namespace Sys2Proof.Machine

def State.withHb (s : State) (f : HbState → HbState) : State := { s with hb := f s.hb }

def State.withUsb (s : State) (f : UsbState → UsbState) : State := { s with usb := f s.usb }

/-! ### Windows (R355 to R357) -/

/-- A window covers an offset. -/
def State.winCovers (s : State) (w off : Nat) : Bool :=
  s.fld (HBR_WIN.SIZE w) != 0 && s.fld (HBR_WIN.BASE w) ≤ off / 65536 &&
    off / 65536 < s.fld (HBR_WIN.BASE w) + s.fld (HBR_WIN.SIZE w)

/-- The lowest-numbered window that covers an offset. -/
def State.window (s : State) (off : Nat) : Nat := ((List.range 16).find? fun w => s.winCovers w off).getD 15

/-- A source may write at an offset. SERVICE lifts the enables of HSPI and USB, not that of RAF. -/
def State.mayWrite (s : State) (src : Src) (off : Nat) : Bool :=
  let w := s.window off
  match src with
  | .hspi => s.pwr.mode == .service || s.bit (HBR_WIN.WR_HSPI w)
  | .raf _ _ _ => s.bit (HBR_WIN.WR_RAF w)
  | .usb => s.pwr.mode == .service || s.bit (HBR_WIN.WR_USB w)
  | _ => true

/-- Data bytes of a value, and back, in the order of the window's RULE. -/
def State.ruleBytes (s : State) (off n v : Nat) : List Byte :=
  if s.bit (HBR_WIN.RULE (s.window off)) then beBytes n v else leBytes n v

def State.ruleVal (s : State) (off : Nat) (l : List Byte) : Nat :=
  if s.bit (HBR_WIN.RULE (s.window off)) then beVal l else leVal l

/-- A read of R360: a read of an RC register, of the low word of an RAR pair, HMQ_POP_LO, SWC_CLAIM or LBUS_EVT. -/
def destructive (a : Nat) : Bool :=
  rcMask a != 0 || (match rarOf a with
    | some (_, hi) => !hi
    | none => false)

/-! ### HSPI operations (R357 to R360) -/

/-- Parts of an operation's command and address. -/
def HostOp.op (o : HostOp) : Nat := bitsOf o.cmd 6 2
def HostOp.sz (o : HostOp) : Nat := bitsOf o.cmd 4 2
def HostOp.pos (o : HostOp) : Nat := o.addr / 2 ^ 26
def HostOp.off (o : HostOp) : Nat := o.addr % 2 ^ 26
def HostOp.posted (o : HostOp) : Bool := o.slot.isNone
def HostOp.reads (o : HostOp) : Bool := o.op == 0
def HostOp.bytes (o : HostOp) : Nat := 2 ^ o.sz

/-- Its access, at the module it targets. -/
def HostOp.access (o : HostOp) : Access := { src := .hspi, wr := !o.reads, sz := o.sz, off := o.off }

/-- A status byte (Table 13.3) and read data leave on MISO. Without valid data MISO carries 0xFF. -/
def State.hspiOut (s : State) (slot : Option Nat) (code : Nat) (data : List Byte) : State :=
  let st := (match slot with
    | some k => k * 16 + 8
    | none => 0) + (if s.irqCond then 4 else 0) + code
  s.emit .hspi (leBytes 1 st ++ data)

/-- The answer to a transaction: its data, or as many bytes of 0xFF, after a read. -/
def State.hspiReply (s : State) (o : HostOp) (slot : Option Nat) (code v : Nat) : State :=
  s.hspiOut slot code
    (if !o.reads then [] else if code = 0 then s.ruleBytes o.off o.bytes v else List.replicate o.bytes 0xFF)

/-- An operation in the bridge replaced, or taken away. -/
def State.updOp (s : State) (seq : Nat) (f : HostOp → HostOp) : State :=
  s.withHb fun h => { h with ops := h.ops.map fun (o : HostOp) => if o.seq == seq then f o else o }

def State.dropOp (s : State) (seq : Nat) : State := s.withHb fun h => { h with ops := h.ops.filter (·.seq != seq) }

/-- The OP code of Table 13.8 for an access. -/
def opCode (wr : Bool) (sz : Nat) : Nat := if sz = 3 then (if wr then 4 else 3) else (if wr then 2 else 1)

/-- Table 13.8 has no narrow operation: a narrow write to another position, or a narrow read of a register with a read side
effect there, completes with ERROR; another narrow read is made of its word (assumption 62). -/
def HostOp.remoteBad (o : HostOp) : Bool := o.sz < 2 && (!o.reads || readActs (o.off / 4 * 4) || o.off % o.bytes != 0)

/-- An operation's bytes (Table 13.8). -/
def State.remoteBytes (s : State) (o : HostOp) : List Byte :=
  opBytes (opCode (!o.reads) o.sz) (if o.sz < 2 then o.off / 4 * 4 else o.off) (s.ruleVal o.off o.data)

/-- The read value of an operation that another position has answered. -/
def HostOp.part (o : HostOp) (v : Nat) : Nat := if o.sz < 2 then bitsOf v (8 * (o.off % 4)) (8 * o.bytes) else v

/-- An operation has ended: a posted write leaves the buffer, its ERROR or DENIED captured (R357); another keeps its result. -/
def State.endOp (s : State) (o : HostOp) (code v : Nat) : State :=
  if o.posted then
    let s := s.dropOp o.seq
    if 2 ≤ code then s.postErr o.addr code else s
  else s.updOp o.seq fun o => { o with begun := true, result := some (code, v), doneAt := s.clk }

/-- An operation begins: at this module at once, or with a REQ. -/
def State.beginOp (s : State) (o : HostOp) : State :=
  if o.pos = s.pos then
    let r := s.access o.access (s.ruleVal o.off o.data)
    r.2.2.endOp o r.1 r.2.1
  else if o.remoteBad then s.endOp o 2 0
  else if s.reachable o.pos then (s.updOp o.seq fun o => { o with begun := true }).sendReq o.pos (s.remoteBytes o) (.hspi o.seq)
  else s.endOp o (s.lostCode o.pos) 0

/-- The next operation for a position that can begin. Posted writes at this module end at POSTED_WRITE_DONE; a read or a
non-posted write waits for every posted write before it. -/
def State.nextOp (s : State) (pos : Nat) : Option HostOp :=
  match (s.hb.ops.filter fun (o : HostOp) => o.pos == pos).find? (!·.begun) with
  | none => none
  | some o =>
    if o.posted then (if pos = s.pos then none else some o)
    else if s.hb.ops.any fun (x : HostOp) => x.pos == pos && x.posted && x.seq < o.seq then none
    else some o

/-- Operations for a position begin while they can. -/
def State.kickOps (pos : Nat) : Nat → State → State
  | 0, s => s
  | n + 1, s =>
    match s.nextOp pos with
    | none => s
    | some o => State.kickOps pos n (s.beginOp o)

def State.kick (s : State) (pos : Nat) : State := State.kickOps pos (s.hb.ops.length + 1) s

/-- A new operation can begin now. -/
def State.canBegin (s : State) (pos : Nat) : Bool := !s.hb.ops.any fun (o : HostOp) => o.pos == pos && (!o.begun || o.posted)

/-- The lowest free fetch slot. -/
def State.freeFetch (s : State) : Option Nat := (List.range 8).find? fun k => !s.hb.ops.any fun (o : HostOp) => o.slot == some k

/-- Slots that hold destructive reads. -/
def State.destrSlots (s : State) : Nat := s.hb.ops.countP fun (o : HostOp) => o.slot.isSome && o.destr

/-- An operation takes its place in the bridge, and begins where it can. -/
def State.acceptOp (s : State) (o : HostOp) : State :=
  (s.withHb fun h => { h with ops := h.ops ++ [{ o with seq := h.nextSeq }], nextSeq := h.nextSeq + 1 }).kick o.pos

/-- A new read or non-posted write (R358, R360). At this module it completes before the turnaround ends; a destructive read takes
a slot all the same. -/
def State.newSlotOp (s : State) (o : HostOp) : State :=
  let here := o.pos == s.pos
  if here && !s.reaches o.access then s.hspiReply o none 1 0
  else if !here && !s.reachable o.pos then s.hspiReply o none (s.lostCode o.pos) 0
  else if here && !o.destr && s.canBegin o.pos then
    let r := s.access o.access (s.ruleVal o.off o.data)
    r.2.2.hspiReply o none r.1 r.2.1
  else if o.destr && 6 ≤ s.destrSlots then s.hspiReply o none 1 0
  else
    match s.freeFetch with
    | none => s.hspiReply o none 1 0
    | some k => (s.acceptOp { o with slot := some k }).hspiReply o (some k) 1 0

/-- A repeat of a transaction in a slot (R358 to R360): `full` where the last data bit is clocked before CS_N rises. An operation
that its target answered with RETRY is not complete: it continues in its slot (R354). -/
def State.repeatOp (s : State) (x : HostOp) (full : Bool) : State :=
  match x.result with
  | none => s.hspiReply x x.slot 1 0
  | some (code, v) =>
    let s := s.hspiReply x x.slot code v
    if code = 1 then (s.updOp x.seq fun o => { o with begun := false, result := none }).kick x.pos
    else if !x.destr || (code == 0 && full) then s.dropOp x.seq else s

/-- The operation in a slot that a transaction repeats. -/
def State.matching (s : State) (cmd addr : Nat) (data : List Byte) : Option HostOp :=
  s.hb.ops.find? fun (o : HostOp) => o.slot.isSome && o.cmd == cmd && o.addr == addr && o.data == data

/-- A read with a side effect (R360); a 64-bit read has that of either word. -/
def destrRead (cmd addr : Nat) : Bool :=
  let a := addr % 2 ^ 26
  destructive a || (bitsOf cmd 4 2 == 3 && destructive (a + 4))

/-- An operation of a transaction, before it is accepted. -/
def hspiOp (cmd addr : Nat) (data : List Byte) (destr : Bool) : HostOp :=
  { seq := 0, slot := none, cmd := cmd, addr := addr, data := data, destr := destr, begun := false, result := none, doneAt := 0 }

/-- A transaction reaches the bridge. In EMBER nothing answers; in BANKED a transaction that wakes the module completes with
RETRY (R81). -/
def State.onHspi (s : State) (o : HostOp) (f : State → State) : State :=
  if s.pwr.mode = .ember then s
  else if s.pwr.mode = .banked ∧ s.pwr.vsys ∧ bitOf (s.fld PWR_WAKE_EN.EN) 7 then wakeHspi (s.hspiReply o none 1 0)
  else f s

/-- HSPI_READ: a transaction whose OP is not WRITE. -/
def hspiRead (cmd addr : Nat) (full : Bool) (s : State) : State :=
  let o := hspiOp cmd addr [] (destrRead cmd addr)
  if o.op = 1 then s
  else
    s.onHspi o fun s =>
      if o.op ≠ 0 ∨ cmd % 16 ≠ 0 then s.hspiOut none 2 []
      else
        match s.matching cmd addr [] with
        | some x => s.repeatOp x full
        | none => s.newSlotOp o

/-- A posted write enters the buffer of 16 (R357). Where its position cannot be reached for now it completes with RETRY
(R367). -/
def State.postWrite (s : State) (o : HostOp) : State :=
  if 16 ≤ s.hb.ops.countP (·.posted) || (o.pos != s.pos && !s.reachable o.pos && s.lostCode o.pos == 1) then
    s.hspiReply o none 1 0
  else (s.acceptOp o).hspiReply o none 0 0

/-- HSPI_WRITE: a transaction whose OP is WRITE. It has effect only with its last data bit. -/
def hspiWrite (cmd addr : Nat) (data : List Byte) (s : State) : State :=
  let o := hspiOp cmd addr data false
  if o.op ≠ 1 then s
  else
    s.onHspi o fun s =>
      if cmd % 16 ≠ 0 then s.hspiOut none 2 []
      else if data.length ≠ o.bytes then s
      else
        match s.matching cmd addr data with
        | some x => s.repeatOp x true
        | none =>
          if !s.mayWrite .hspi o.off then s.hspiReply o none 3 0
          else if s.bit (HBR_WIN.NP (s.window o.off)) then s.newSlotOp o
          else s.postWrite o

/-- POSTED_WRITE_DONE: the oldest posted write at this module is performed. One that R28 would answer with RETRY has no effect. -/
def postedWriteDone (s : State) : State :=
  match s.hb.ops.find? fun (o : HostOp) => o.posted && o.pos == s.pos with
  | none => s
  | some o => (s.beginOp o).kick s.pos

/-- SLOT_HOLD_EXPIRY: a completed slot, not of a destructive read, unclaimed for HOLD_US (R359). -/
def slotHoldExpiry (k : Nat) (s : State) : State :=
  match s.hb.ops.find? fun (o : HostOp) => o.slot == some k with
  | none => s
  | some o =>
    if !o.destr && o.result.isSome && o.doneAt + clampN 10 10000 (s.fld HBR_FETCH_CFG.HOLD_US) * usec ≤ s.clk then
      (s.dropOp o.seq).raise HBR_IRQ_STAT.SLOT_EXPIRED
    else s

/-! ### RAF requests (R372, R373) -/

/-- An operation as answered: its STATUS and VALUE. -/
def opAnswer (op : List Byte) (code v : Nat) : List Byte :=
  op.take 1 ++ leBytes 1 code ++ [0, 0] ++ (op.drop 4).take 4 ++
    leBytes 8 (if leAt op 0 1 = 1 ∨ leAt op 0 1 = 3 then (if code = 0 then v else 0) else leAt op 8 8)

/-- An operation's access. -/
def opAccess (op : List Byte) (src : Src) : Access :=
  let c := leAt op 0 1
  { src := src, wr := c == 2 || c == 4, sz := if c = 3 ∨ c = 4 then 3 else 2, off := leAt op 4 4 % 2 ^ 26 }

/-- A listed OP, with OFFSET's top bits 0. -/
def opListed (op : List Byte) : Bool := 1 ≤ leAt op 0 1 && leAt op 0 1 ≤ 4 && leAt op 4 4 < 2 ^ 26

/-- SEQ of a job's request. -/
def RafJob.seq (j : RafJob) : Nat := leAt j.hdr 4 4

/-- Two jobs are the same request of one source. -/
def RafJob.same (j k : RafJob) : Bool := j.ip == k.ip && j.port == k.port && j.seq == k.seq

/-- The response goes out, and is recorded for its source while no later request of it has been accepted (R373). -/
def State.rafRespond (s : State) (j : RafJob) : State :=
  match s.rafKey with
  | (s, .inr _) => s
  | (s, .inl key) =>
    let b := j.hdr.take 3 ++ leBytes 1 rafRspType ++ j.hdr.drop 4 ++ j.done
    let b := b ++ rafTag key b
    let s := s.withBb fun x => { x with
      srcs := x.srcs.map fun (r : RafSrc) => if r.ip == j.ip && r.port == j.port && r.seq == j.seq then { r with rsp := b } else r
      jobs := x.jobs.filter fun (k : RafJob) => !k.same j }
    (s.emit (.raf rafRspType j.via) b).bump (BBN_PORT_TX.FRAMES j.via)

/-- A job is kept while its next operation waits. -/
def State.keepJob (s : State) (j : RafJob) : State :=
  s.withBb fun x => { x with jobs := x.jobs.filter (fun (k : RafJob) => !k.same j) ++ [j] }

/-- A job with one more operation answered; after a RETRY none is performed. -/
def RafJob.answered (j : RafJob) (op : List Byte) (code v : Nat) : RafJob :=
  if code = 1 then
    { j with todo := [], done := j.done ++ opAnswer op 1 0 ++ (j.todo.drop 1).flatMap fun o => opAnswer o 1 0 }
  else { j with todo := j.todo.drop 1, done := j.done ++ opAnswer op code v, limit := none, tryAt := none }

/-- The interval at which an access answered RETRY is tried again inside the module (assumption 143). -/
def retryStep : Nat := usec

/-- An operation is answered RETRY: it is tried again for up to 10 ms, then reported as RETRY (R373). -/
def State.rafRetry (s : State) (j : RafJob) : State :=
  let t := j.limit.getD (s.clk + 10 * msec)
  if s.clk < t then s.keepJob { j with limit := some t, tryAt := some (s.clk + retryStep) }
  else s.rafRespond (j.answered (j.todo.headD []) 1 0)

/-- A job's operations are performed in order (R373). -/
def State.runJob : Nat → RafJob → State → State
  | 0, j, s => s.rafRespond j
  | n + 1, j, s =>
    match j.todo with
    | [] => s.rafRespond j
    | op :: _ =>
      let src := Src.raf j.ip j.port (leAt j.hdr 12 4)
      let c := opAccess op src
      let pos := leAt j.hdr 10 1
      if !opListed op then State.runJob n (j.answered op 2 0) s
      else if c.wr && !s.mayWrite src c.off then State.runJob n (j.answered op 3 0) s
      else if pos = s.pos then
        let r := s.access c (leAt op 8 8)
        if r.1 = 1 then r.2.2.rafRetry j else State.runJob n (j.answered op r.1 r.2.1) r.2.2
      else if 63 < pos then State.runJob n (j.answered op 2 0) s
      else if s.reachable pos then (s.keepJob { j with tryAt := none }).sendReq pos op (.raf j.ip j.port j.seq)
      else if s.lostCode pos = 1 then s.rafRetry j
      else State.runJob n (j.answered op 2 0) s

/-- A source takes its place among the eight; a new one displaces the least recently used (R373). -/
def State.rafSource (s : State) (ip port seq : Nat) : State :=
  let r : RafSrc := { ip := ip, port := port, seq := seq, rsp := [], used := s.clk }
  let l := s.bb.srcs.filter fun (x : RafSrc) => !(x.ip == ip && x.port == port)
  let old := l.foldl (fun m (x : RafSrc) => min m x.used) s.clk
  s.withBb fun x => { x with srcs := (if l.length < 8 then l else l.eraseP fun (y : RafSrc) => y.used == old) ++ [r] }

/-- The operations of a RAF, 16 bytes each. -/
def opsOf (n : Nat) (b : List Byte) : List (List Byte) := (List.range n).map fun k => (b.drop (16 * k)).take 16

/-- A new REQ of a source is performed (R373). -/
def State.rafStart (s : State) (p ip port : Nat) (b : List Byte) : State :=
  State.runJob (leAt b 11 1 + 1)
    { ip := ip, port := port, via := p, hdr := b.take 20, todo := opsOf (leAt b 11 1) (b.drop 20), done := [], limit := none, tryAt := none }
    (s.rafSource ip port (leAt b 4 4))

/-- What an accepted REQ does (R373): a new one is performed, a repeat of the last one gets its response again, an older one is
counted. A COUNT above 64, or one that the length does not hold, drops the frame; so does `ok` false. -/
def State.rafServe (s : State) (ok : Bool) (p ip port : Nat) (b : List Byte) : State :=
  let n := leAt b 11 1
  let seq := leAt b 4 4
  if !ok || leAt b 3 1 ≠ rafReqType || 64 < n || b.length ≠ 36 + 16 * n then s
  else
    match s.bb.srcs.find? fun (x : RafSrc) => x.ip == ip && x.port == port with
    | none => s.rafStart p ip port b
    | some x =>
      if seq < x.seq then s.bump BBN_RAF_CNT.STALE_SEQ
      else if x.seq < seq then s.rafStart p ip port b
      else
        let s := s.withBb fun y => { y with
          srcs := y.srcs.map fun (z : RafSrc) => if z.ip == ip && z.port == port then { z with used := s.clk } else z }
        if x.rsp.isEmpty then s else (s.emit (.raf rafRspType p) x.rsp).bump (BBN_PORT_TX.FRAMES p)

/-- RAF_REQ: a REQ received on BB port `p` from a UDP address and port (R372, R373). -/
def rafReq (p ip port : Nat) (b : List Byte) (s : State) : State :=
  if !s.bbUp p then s
  else
    let r := (s.bump (BBN_PORT_RX.FRAMES p)).rafAccept b
    r.2.rafServe r.1 p ip port b

/-! ### USB (R377 to R380) -/

/-- The USB port is attached. -/
def State.usbOn (s : State) : Bool := s.up .usb && s.bit USB_CTL.EN

/-- A request's answer. -/
def State.usbOut (s : State) (b : List Byte) : State := s.emit (.usb false) b
def State.usbStall (s : State) : State := s.emit (.usb true) []

/-- A transfer is over. -/
def State.usbEnd (s : State) : State := s.withUsb fun u => { u with xfer := none }

/-- A READ ends: all its words, or STALL. -/
def State.usbReadEnd (s : State) (x : UsbXfer) (code : Nat) : State :=
  if code = 0 then s.usbEnd.usbOut x.got else s.usbEnd.usbStall

/-- A WRITE ends: its outcome is kept for GET_RESULT. -/
def State.usbWriteEnd (s : State) (x : UsbXfer) (code : Nat) : State :=
  let s := s.withUsb fun u => { result := (code, x.count, x.adr), xfer := u.xfer }
  if code = 0 then s.usbEnd.usbOut [] else s.usbEnd.usbStall

/-- The next step of a READ takes a pair at once. -/
def UsbXfer.pair (x : UsbXfer) : Bool := !x.write && 2 ≤ x.count && pairLow x.adr && !destructive x.adr

/-- A READ's next word or pair has come. -/
def UsbXfer.took (x : UsbXfer) (v : Nat) : UsbXfer :=
  let n := if x.pair then 2 else 1
  { x with got := x.got ++ leBytes (4 * n) v, count := x.count - n, adr := (x.adr + 4 * n) % 2 ^ 26, limit := none, tryAt := none }

/-- A WRITE's next word has been written: `count` counts the words performed. -/
def UsbXfer.wrote (x : UsbXfer) : UsbXfer :=
  { x with words := x.words.drop 1, count := x.count + 1, adr := (x.adr + 4) % 2 ^ 26, limit := none, tryAt := none }

/-- An access of a transfer ends it, unless it is answered RETRY: then NAK holds the host while the access is tried again, for up
to 50 ms (R378). -/
def State.usbFail (s : State) (x : UsbXfer) (code : Nat) : State :=
  let t := x.limit.getD (s.clk + 50 * msec)
  if code = 1 ∧ s.clk < t then s.withUsb fun u => { u with xfer := some { x with limit := some t, tryAt := some (s.clk + retryStep) } }
  else if x.write then s.usbWriteEnd x code
  else s.usbReadEnd x code

/-- A transfer's words go on until one must wait for another position. -/
def State.usbRun : Nat → UsbXfer → State → State
  | 0, x, s => if x.write then s.usbWriteEnd x 1 else s.usbReadEnd x 1
  | n + 1, x, s =>
    let hold := fun (s : State) (op v : Nat) =>
      (s.withUsb fun u => { u with xfer := some { x with tryAt := none } }).sendReq x.pos (opBytes op x.adr v) .usb
    if x.write then
      match x.words with
      | [] => s.usbWriteEnd x 0
      | v :: _ =>
        if !s.mayWrite .usb x.adr then s.usbWriteEnd x 3
        else if x.pos = s.pos then
          let r := s.access { src := .usb, wr := true, sz := 2, off := x.adr } v
          if r.1 = 0 then State.usbRun n x.wrote r.2.2 else r.2.2.usbFail x r.1
        else if s.reachable x.pos then hold s 2 v
        else s.usbFail x (s.lostCode x.pos)
    else if x.count = 0 then s.usbReadEnd x 0
    else if destructive x.adr then State.usbRun n (x.took 0xFFFFFFFF) (s.put USB_STAT.DESTR_REFUSED 1)
    else if x.pos = s.pos then
      let r := s.access { src := .usb, wr := false, sz := if x.pair then 3 else 2, off := x.adr } 0
      if r.1 = 0 then State.usbRun n (x.took r.2.1) r.2.2 else r.2.2.usbFail x r.1
    else if s.reachable x.pos then hold s (if x.pair then 3 else 1) 0
    else s.usbFail x (s.lostCode x.pos)

/-- wLength of READ and WRITE. -/
def usbLenOk (n : Nat) : Bool := 4 ≤ n && n ≤ 512 && n % 4 == 0

/-- A control transfer of another request in progress: its access has not been answered, and the host is held with NAK. -/
def State.usbFree (s : State) : Bool := s.usbOn && s.usb.xfer.isNone

/-- USB_READ. -/
def usbRead (pos off len : Nat) (s : State) : State :=
  if !s.usbFree then s
  else if !usbLenOk len then s.usbStall
  else State.usbRun 129 { write := false, pos := pos, adr := off, count := len / 4, words := [], got := [], limit := none, tryAt := none } s

/-- USB_WRITE, its data stage complete. -/
def usbWrite (pos off : Nat) (data : List Byte) (s : State) : State :=
  if !s.usbFree then s
  else if !usbLenOk data.length then s.usbStall
  else
    let ws := (List.range (data.length / 4)).map fun k => leAt data (4 * k) 4
    State.usbRun 129 { write := true, pos := pos, adr := off, count := 0, words := ws, got := [], limit := none, tryAt := none } s

/-- GET_RESULT. -/
def getResult (len : Nat) (s : State) : State :=
  if !s.usbFree then s
  else if len ≠ 8 then s.usbStall
  else s.usbOut (leBytes 1 s.usb.result.1 ++ [0] ++ leBytes 2 s.usb.result.2.1 ++ leBytes 4 s.usb.result.2.2)

/-- GET_INFO. -/
def getInfo (len : Nat) (s : State) : State :=
  if !s.usbFree then s
  else if len ≠ 32 then s.usbStall
  else
    let w := fun (a : Nat) => leBytes 4 (s.view 2 a)
    s.usbOut (w SYS_ID_FAMILY.adr ++ w SYS_ID_PART.adr ++ serialBytes ++ w SYS_ID_SEG.adr ++ w PWR_STAT.adr ++
      w CFG_EPOCH.adr ++ w NTU_STAT.adr)

/-- USB_BULK_OUT: a transfer on EP1 is one packet into SP17. -/
def usbBulkOut (k : PacketIn) (s : State) : State := if s.usbOn then s.packetIn 17 k else s

/-- USB_BULK_IN: the next packet on SP17 is returned on EP2. -/
def usbBulkIn (s : State) : State :=
  if !s.usbOn then s
  else
    match s.schedule 17 with
    | (none, s) => s
    | (some d, s) => (s.dropDesc d).usbOut (s.egress d)

/-- USB_SET_CONFIGURATION. -/
def usbSetConfiguration (on : Bool) (s : State) : State :=
  if !s.usbOn || s.bit USB_STAT.CONFIGURED == on then s
  else (s.putB USB_STAT.CONFIGURED on).raise USB_IRQ_STAT.CONFIG_CHG

/-- USB_BUS_RESET: `inside` where a control transfer's data stage is running; the bus runs at high speed from then on where `hs`.
What has been handed to its target runs to completion, and GET_RESULT keeps its value (R380). -/
def usbBusReset (inside hs : Bool) (s : State) : State :=
  if !s.usbOn then s
  else
    let cut := inside || s.usb.xfer.isSome
    let s := (s.bump USB_CNT.BUS_RESETS).putB USB_STAT.HS hs
    if cut then ((s.bump USB_CNT.ABORTED).raise USB_IRQ_STAT.ABORTED).usbEnd else s

/-! ### Operations over Mistazil (R362, R367, R368) -/

/-- A REQ of this module has been answered, or has ended without an answer. -/
def State.complete (s : State) (r : Req) (code v : Nat) : State :=
  match r.origin with
  | .hspi seq =>
    match s.hb.ops.find? fun (o : HostOp) => o.seq == seq with
    | none => s
    | some o => (s.endOp o code (o.part v)).kick o.pos
  | .raf ip port seq =>
    match s.bb.jobs.find? fun (j : RafJob) => j.ip == ip && j.port == port && j.seq == seq with
    | none => s
    | some j => if code = 1 then s.rafRetry j else State.runJob (j.todo.length + 1) (j.answered (j.todo.headD []) code v) s
  | .usb =>
    match s.usb.xfer with
    | none => s
    | some x =>
      if code = 0 then State.usbRun 129 (if x.write then x.wrote else x.took v) s else s.usbFail x code
  | .heartbeat => s

/-- Accesses that are to be tried again now: RAF jobs, and the USB transfer. -/
def State.retryJobs (s : State) : List RafJob := s.bb.jobs.filter fun (j : RafJob) => j.tryAt.any (· ≤ s.clk)

def State.retryXfer (s : State) : Bool := s.usb.xfer.any fun (x : UsbXfer) => x.tryAt.any (· ≤ s.clk)

def State.accessRetryDue (s : State) : Bool := !s.retryJobs.isEmpty || s.retryXfer

/-- They are tried again (R373, R378). -/
def State.retryNow (s : State) : State :=
  let s := s.retryJobs.foldl (fun (s : State) j => State.runJob (j.todo.length + 1) j s) s
  match s.usb.xfer with
  | some x => if s.retryXfer then State.usbRun 129 x s else s
  | none => s

/-- A REQ is no longer open. -/
def State.closeReq (s : State) (t : Nat) : State := s.withMz fun m => { m with reqs := m.reqs.filter (·.tag != t) }

/-- MZL_REQ: a REQ frame on link `l` is forwarded, or performed and answered. -/
def mzlReq (l : Nat) (x : MzRx) (s : State) : State :=
  mzRecv l mzReq x (fun s =>
    let op := x.payload
    let r := if opListed op then s.access (opAccess op .mz) (leAt op 8 8) else (2, 0, s)
    r.2.2.mzOffer l
      { kind := mzRsp, adj := false, dst := x.src, src := s.pos, tag := x.tag, payload := opAnswer op r.1 r.2.1 } false) s

/-- MZL_RSP: an RSP frame is forwarded, or completes the REQ of its TAG. One in another module's name says that the position
cannot be reached (assumption 45). -/
def mzlRsp (l : Nat) (x : MzRx) (s : State) : State :=
  mzRecv l mzRsp x (fun s =>
    match s.mz.reqs.find? fun (r : Req) => r.tag == x.tag && r.link == l with
    | none => s
    | some r =>
      let s := (s.closeReq r.tag).mzFlow l
      if x.src = r.pos then
        let s := s.withMz fun m => { m with answered := (r.pos, s.clk) :: m.answered.filter (·.1 != r.pos) }
        s.complete r (leAt x.payload 1 1 % 4) (leAt x.payload 8 8)
      else s.complete r (s.lostCode r.pos) 0) s

/-- MZL_REQ_TIMEOUT: the REQ with this TAG has had no RSP for REQ_TO_US. -/
def mzlReqTimeout (t : Nat) (s : State) : State :=
  match s.mz.reqs.find? fun (r : Req) => r.tag == t with
  | none => s
  | some r =>
    if r.at_ + clampN 10 10000 (s.fld MZL_CFG.REQ_TO_US) * usec ≤ s.clk then
      ((s.closeReq t).bump (MZL_LINK_CNT.TIMEOUT r.link)).complete r 2 0
    else s

/-- An unsent REQ is withdrawn: its originator gets RETRY. -/
def State.withdraw (s : State) (l : Nat) (o : MzOut) : State :=
  if o.transit then (s.returnCredit (1 - l) mzReq o.frame.payload.length).mzOffer (1 - l)
    (retryRsp o.frame) false
  else
    match s.mz.reqs.find? fun (r : Req) => r.tag == o.frame.tag && r.link == l with
    | none => s
    | some r => (s.closeReq r.tag).complete r 1 0

/-- Every REQ queued on MZ_B is withdrawn. -/
def State.withdrawReqs (s : State) : State :=
  ((s.link 1).queue.filter fun (o : MzOut) => o.frame.kind == mzReq).foldl (fun (s : State) o => s.withdraw 1 o)
    (s.setLink 1 { s.link 1 with queue := (s.link 1).queue.filter (fun (o : MzOut) => o.frame.kind != mzReq), blockedAt := none })

/-- DLA_BACKOFF: in BACKOFF, REQ traffic on MZ_B, of which this module is the upstream end, has waited in both directions for
20 µs. -/
def dlaBackoff (peer : Bool) (s : State) : State :=
  let waits := match (s.link 1).blockedAt with
    | some t => t + 20 * usec ≤ s.clk
    | none => false
  if !s.mzUp 1 || !s.bit MZL_CFG.DLA || !peer || !waits then s
  else
    s.withdrawReqs

/-! ### JTAG (R489) -/

/-- JTAG_INSTRUCTION: BYPASS (0) and IDCODE (1) are served in every life-cycle state, with PART_CODE in IDCODE [27:12]; the spec
leaves the other bits of IDCODE open, but for bit 0, which IEEE 1149.1 sets (assumption 63). EXTEST (2) and debug access (3) are
refused but in BLANK, PROVISIONED and RETURN. The first byte sent is 1 for a refusal. -/
def jtagInstruction (op : Nat) (s : State) : State :=
  if !s.up .key then s
  else if op = 1 then
    let v := s.freeVal
    (s.emit .jtag ([0] ++ leBytes 4 (v % 16 * 2 ^ 28 + s.fld SYS_ID_PART.PART_CODE * 2 ^ 12 + v / 16 % 2 ^ 11 * 2 + 1))).useFree
  else if 2 ≤ op ∧ !([0, 1, 4] : List Nat).contains s.key.lc then s.emit .jtag [1]
  else s.emit .jtag [0]

end Sys2Proof.Machine
end

