-- ==== Sys2Proof/Machine/Reads.lean ====
section
/-! DEFINITION. The accesses that are rows of their own, as they reach their word after the checks of their path, and the packet
that a switch port takes (R6, R12, R13, R58, R66, R131, R148, R182, R215, R253, R300, R310, R311, R318, R330, R390, R492). -/

namespace Sys2Proof.Machine

/-- An access performed for its source: a read's value goes back to it; an access that R28 answers with RETRY has no effect. -/
def State.perform (s : State) (c : Access) (v : Nat) : State :=
  let r := s.access c v
  if c.wr || r.1 != 0 then r.2.2 else r.2.2.reply c r.2.1

/-- A read of one word, or of a pair where `wide`. -/
def readRow (src : Src) (a : Nat) (wide : Bool) (s : State) : State :=
  s.perform { src := src, wr := false, sz := if wide then 3 else 2, off := a } 0

/-- REGISTER_WRITE. -/
def registerWrite (src : Src) (off sz v : Nat) (s : State) : State :=
  s.perform { src := src, wr := true, sz := sz, off := off } v

/-- The access touches reserved space. -/
def Access.reserved (c : Access) : Bool :=
  (regAt (c.off / 4 * 4)).isNone || (c.sz == 3 && (regAt ((c.off + 4) % 2 ^ 26)).isNone)

/-- RESERVED_SPACE_ACCESS: nothing where the offset is of a named register. -/
def reservedSpaceAccess (src : Src) (wr : Bool) (off sz v : Nat) (s : State) : State :=
  let c : Access := { src := src, wr := wr, sz := sz, off := off }
  if c.aligned && c.reserved then s.perform c v else s

/-- A narrow access that its register refuses (Table 2.12). -/
def State.narrowRefused (s : State) (c : Access) : Bool :=
  let a := c.off / 4 * 4
  c.sz < 2 && (regAt a).isSome && (if c.wr then !byteWritable a else readActs a && !s.lostWord a)

/-- ACCESS_ERROR: an unaligned access, or a narrow access that its register refuses; nothing for any other. -/
def accessError (src : Src) (wr : Bool) (off sz v : Nat) (s : State) : State :=
  let c : Access := { src := src, wr := wr, sz := sz, off := off }
  if !c.aligned || s.narrowRefused c then s.perform c v else s

/-- RAR_LOW_READ: nothing where the word is no low word of an RAR pair. -/
def rarLowRead (src : Src) (a : Nat) (s : State) : State :=
  match rarOf a with
  | some (_, false) => readRow src a false s
  | _ => s

/-- RAR_HIGH_READ. -/
def rarHighRead (src : Src) (a : Nat) (s : State) : State :=
  match rarOf a with
  | some (_, true) => readRow src a false s
  | _ => s

/-- RAR_PAIR_READ: a 64-bit read at the low word. -/
def rarPairRead (src : Src) (a : Nat) (s : State) : State :=
  match rarOf a with
  | some (_, false) => readRow src a true s
  | _ => s

/-- RC_READ: nothing where the word has no read-clears field. -/
def rcReadRow (src : Src) (a : Nat) (s : State) : State :=
  if rcMask a = 0 then s else readRow src a false s

/-- TRN_TIME_READ: the low word of the command registers' T, or of a slot's. -/
def trnTimeWord : Option Nat → Nat
  | none => TRN_CMD_T_SEC_LO.adr
  | some n => TRN_SLOT_T_SEC_LO.adr n

/-- MTR_RESULT_READ: word 0 of the block of a set (0 to 3), or of a feeder (4 to 15). -/
def mtrBlockWord (k : Nat) : Nat := if k < 4 then MTR_SET_RES0.adr k else MTR_FDR_RES0.adr (k - 4)

/-- HMQ_POP: a read of HMQ_POP_LO of an up queue. -/
def hmqPopRow (src : Src) (q : Nat) (bad : Bool) (s : State) : State :=
  if !s.up .hmq then s
  else
    let r := hmqPop q bad s
    r.2.emit (.reg src.code) (leBytes 4 r.1)

/-- SWC_CELL_DATA: an access to the cell window, a write where there is a value. -/
def swcCellData (src : Src) (off sz : Nat) (w : Option Nat) (s : State) : State :=
  s.perform { src := src, wr := w.isSome, sz := sz, off := 0x598000 + off } (w.getD 0)

/-- A packet for a consumer inside the module. What the light field engine, the cores, the host bridge, the NTU and the
supervisor do with it is their own. -/
def coreDequeue (p : Nat) (s : State) : State :=
  match s.schedule p with
  | (none, s) => s
  | (some d, s) => (s.dropDesc d).emit (.core p) (s.egress d)

/-- SP13: a level command reaches its DL port (R174, R247). -/
def busDequeue (s : State) : State :=
  match s.schedule 13 with
  | (none, s) => s
  | (some d, s) =>
    match d.body with
    | .bus epa level _ fade => (s.dropDesc d).dlLevel epa level fade
    | _ => (s.dropDesc d).emit (.core 13) (s.egress d)

/-- PORT_DEQUEUE: port `p` is ready (R300). SP15 waits for room in the up queue (R321), SP17 for an IN transfer. -/
def portDequeue (p : Nat) (s : State) : State :=
  if !s.up .swc then s
  else if p < 8 then radDequeue p s
  else if p < 10 then s.bbDequeue (p - 8)
  else if p < 12 then s.mzDequeue (p - 10)
  else if p = 13 then busDequeue s
  else if p = 15 then hmqUpDeliver s
  else if p = 17 then usbBulkIn s
  else if p < 20 then coreDequeue p s
  else s

/-- A command of the endpoint block that can bring gear to be commissioned (R246). -/
def epcCommission (code : Nat) (f : Nat → State → Nat × State) (s : State) : State := (epcCmd code f s).commissionNew

/-- SNAPSHOT. -/
def epcSnapshot (s : State) : State := epcCmd 7 (fun _ => snapshotBody) s

end Sys2Proof.Machine
end

