-- ==== Sys2Proof/Machine/RowsEp.lean ====
section
/-! DEFINITION. The meanings of the commands of EPC, SCH and LFE (chapters 04 to 06): each is its effect, settled. -/

namespace Sys2Proof.Machine

/-- ACTIVATE (R100). -/
def execActivate (s : State) : Host.Outcome State Fault Refusal :=
  finish s (epcCommission 1 activateBody s)

/-- SUSPEND (R105). -/
def execSuspend (s : State) : Host.Outcome State Fault Refusal :=
  finish s (epcCmd 2 suspendBody s)

/-- RESUME (R104). -/
def execResume (s : State) : Host.Outcome State Fault Refusal :=
  finish s (epcCommission 3 resumeBody s)

/-- REPLACE (R109). -/
def execReplace (s : State) : Host.Outcome State Fault Refusal :=
  finish s (epcCommission 4 replaceBody s)

/-- REMOVE (R110). -/
def execRemove (s : State) : Host.Outcome State Fault Refusal :=
  finish s (epcCmd 5 removeBody s)

/-- EPC_CLEAR_FAULT (R125). -/
def execEpcClearFault (s : State) : Host.Outcome State Fault Refusal :=
  finish s (epcCmd 6 clearFaultBody s)

/-- SNAPSHOT (R128). -/
def execSnapshot (s : State) : Host.Outcome State Fault Refusal :=
  finish s (epcSnapshot s)

/-- SNAPSHOT_DONE (R83). -/
def execSnapshotDone (s : State) : Host.Outcome State Fault Refusal :=
  finish s (snapshotDone s)

/-- JOIN_REQ (R106). -/
def execJoinReq (ch : Fin 8) (ext : Bool) (eui : BitVec 64) (cls : BitVec 8) (nonce : List Byte) (s : State) : Host.Outcome
    State Fault Refusal :=
  finish s (joinReq ch.val ext eui.toNat cls.toNat nonce s)

/-- JOIN_LAPSE (R107). -/
def execJoinLapse (epa : Fin 4096) (s : State) : Host.Outcome State Fault Refusal :=
  finish s (joinLapse epa.val s)

/-- JOIN_OPEN_EXPIRY (R108). -/
def execJoinOpenExpiry (s : State) : Host.Outcome State Fault Refusal :=
  finish s (joinOpenExpiry s)

/-- EPC_GRP_WRITE (R111). -/
def execEpcGrpWrite (epa : Fin 4096) (w : Fin 8) (val : Word) (s : State) : Host.Outcome State Fault Refusal :=
  finish s (epcGrpWrite epa.val w.val val.toNat s)

/-- GROUPS_REPEAT (R111). -/
def execGroupsRepeat (epa : Fin 4096) (s : State) : Host.Outcome State Fault Refusal :=
  finish s (groupsRepeat epa.val s)

/-- CFG_ACK (R111). -/
def execCfgAck (epa : Fin 4096) (typ : BitVec 8) (tsn : BitVec 8) (l : LinkInfo) (s : State) : Host.Outcome State Fault Refusal
    :=
  finish s (cfgAck epa.val typ.toNat tsn.toNat l s)

/-- REPORT_CFG_WRITE (R497). -/
def execReportCfgWrite (epa : Fin 4096) (val : Word) (s : State) : Host.Outcome State Fault Refusal :=
  finish s (reportCfgWrite epa.val val.toNat s)

/-- CONFIG_REPEAT (R497). -/
def execConfigRepeat (epa : Fin 4096) (param : BitVec 8) (s : State) : Host.Outcome State Fault Refusal :=
  finish s (configRepeat epa.val param.toNat s)

/-- STATUS (R122). -/
def execStatus (epa : Fin 4096) (m : StatusMsg) (l : LinkInfo) (s : State) : Host.Outcome State Fault Refusal :=
  finish s (statusFrame epa.val m l s)

/-- ENERGY (R123). -/
def execEnergy (epa : Fin 4096) (epoch : BitVec 8) (cum : BitVec 32) (power : BitVec 16) (l : LinkInfo) (s : State) :
    Host.Outcome State Fault Refusal :=
  finish s (epcEnergy epa.val epoch.toNat cum.toNat power.toNat l s)

/-- FAULT (R125). -/
def execFault (epa : Fin 4096) (code : BitVec 8) (raised : BitVec 8) (detail : BitVec 32) (l : LinkInfo) (s : State) :
    Host.Outcome State Fault Refusal :=
  finish s (epcFault epa.val code.toNat raised.toNat detail.toNat l s)

/-- DETECT (R121). -/
def execDetect (epa : Fin 4096) (cls : BitVec 8) (heading : BitVec 8) (speed : BitVec 8) (conf : BitVec 8) (count : BitVec 8)
    (age : BitVec 8) (tEnd : Nat) (l : LinkInfo) (s : State) : Host.Outcome State Fault Refusal :=
  finish s (epcDetect epa.val cls.toNat heading.toNat speed.toNat conf.toNat count.toNat age.toNat tEnd l s)

/-- INFO (R121). -/
def execInfo (epa : Fin 4096) (fw : BitVec 32) (model : BitVec 64) (hours : BitVec 32) (l : LinkInfo) (s : State) : Host.Outcome
    State Fault Refusal :=
  finish s (epcInfo epa.val fw.toNat model.toNat hours.toNat l s)

/-- SILENT_CHECK (R126). -/
def execSilentCheck (s : State) : Host.Outcome State Fault Refusal :=
  finish s (silentCheck s)

/-- RESYNC_REPEAT (R119). -/
def execResyncRepeat (epa : Fin 4096) (s : State) : Host.Outcome State Fault Refusal :=
  finish s (resyncRepeat epa.val s)

/-- REKEY_RETRY (R414). -/
def execRekeyRetry (epa : Fin 4096) (s : State) : Host.Outcome State Fault Refusal :=
  finish s (rekeyRetry epa.val s)

/-- CONTEXT_ECC_ERROR (R129). -/
def execContextEccError (off : BitVec 26) (uncorr : Bool) (bad : Nat) (s : State) : Host.Outcome State Fault Refusal :=
  finish s ((contextEccError off.toNat uncorr bad s).pairFollow)

/-- SCHEDULE_SECOND (R143). -/
def execScheduleSecond (late : Bool) (s : State) : Host.Outcome State Fault Refusal :=
  finish s (scheduleSecond late s)

/-- SOLAR_NOW (R136). -/
def execSolarNow (s : State) : Host.Outcome State Fault Refusal :=
  finish s (solarNow s)

/-- SOLAR_PUBLISH (R135). -/
def execSolarPublish (d : Fin 3) (evs : List (Option Nat)) (s : State) : Host.Outcome State Fault Refusal :=
  finish s (solarPublish d.val evs s)

/-- HOLD_EXPIRY (R144). -/
def execHoldExpiry (s : State) : Host.Outcome State Fault Refusal :=
  finish s (holdExpiry s)

/-- LFE_TICK (R150). -/
def execLfeTick (s : State) : Host.Outcome State Fault Refusal :=
  finish s (lfeTickMirror s)

/-- DETECTION_RECORD (R151). -/
def execDetectionRecord (r : DetRec) (s : State) : Host.Outcome State Fault Refusal :=
  finish s (detectionRecord r s)

/-- SOURCE_EXPIRY (R160). -/
def execSourceExpiry (s : State) : Host.Outcome State Fault Refusal :=
  finish s (sourceExpiry s)

/-- LFE_HOLD_EXPIRY (R165). -/
def execLfeHoldExpiry (epa : Fin 4096) (s : State) : Host.Outcome State Fault Refusal :=
  finish s (lfeHoldExpiry epa.val s)

/-- INJECT (R182). -/
def execInject (s : State) : Host.Outcome State Fault Refusal :=
  finish s (lfeInject s)

/-- CLEAR_SOURCES (R182). -/
def execClearSources (s : State) : Host.Outcome State Fault Refusal :=
  finish s (clearSources s)

/-- LFE_CTL_WRITE (R181). -/
def execLfeCtlWrite (en : Bool) (prop : Bool) (s : State) : Host.Outcome State Fault Refusal :=
  finish s (lfeCtlWrite en prop s)

end Sys2Proof.Machine
end

