-- ==== Sys2Proof/Machine/RowsLight.lean ====
section
/-! DEFINITION. The meanings of the commands of TRN, DRV and LBUS (chapters 07 to 09): each is its effect, settled. -/

namespace Sys2Proof.Machine

/-- ARM (R188). -/
def execArm (s : State) : Host.Outcome State Fault Refusal :=
  finish s (trnArm s)

/-- TRN_CANCEL (R200). -/
def execTrnCancel (s : State) : Host.Outcome State Fault Refusal :=
  finish s (trnCancel s)

/-- RELEASE (R201). -/
def execRelease (s : State) : Host.Outcome State Fault Refusal :=
  finish s (trnRelease s)

/-- PAT_START (R209). -/
def execPatStart (s : State) : Host.Outcome State Fault Refusal :=
  finish s (patStart s)

/-- PAT_STOP (R210). -/
def execPatStop (s : State) : Host.Outcome State Fault Refusal :=
  finish s (patStop s)

/-- ARM_ROUND (R190). -/
def execArmRound (n : Fin 64) (s : State) : Host.Outcome State Fault Refusal :=
  finish s (armRound n.val s)

/-- SLOT_COMMIT (R192). -/
def execSlotCommit (n : Fin 64) (s : State) : Host.Outcome State Fault Refusal :=
  finish s (slotCommit n.val s)

/-- SLOT_FIRE (R197). -/
def execSlotFire (n : Fin 64) (s : State) : Host.Outcome State Fault Refusal :=
  finish s (slotFire n.val s)

/-- SLOT_HOLD_END (R197). -/
def execSlotHoldEnd (n : Fin 64) (s : State) : Host.Outcome State Fault Refusal :=
  finish s (slotHoldEnd n.val s)

/-- PATTERN_COUNT_END (R210). -/
def execPatternCountEnd (e : Fin 32) (s : State) : Host.Outcome State Fault Refusal :=
  finish s (patternCountEnd e.val s)

/-- FAST_CHASE_EDGE (R212). -/
def execFastChaseEdge (e : Fin 32) (s : State) : Host.Outcome State Fault Refusal :=
  finish s (fastChaseEdge e.val s)

/-- FADE_UNIT_UPDATE (R184). -/
def execFadeUnitUpdate (s : State) : Host.Outcome State Fault Refusal :=
  finish s (fadeUnitUpdate s)

/-- DRIVE_COMPARATOR_FIRE (R223). -/
def execDriveComparatorFire (u : Fin 92) (s : State) : Host.Outcome State Fault Refusal :=
  finish s (driveComparatorFire u.val s)

/-- PWM_PERIOD_END (R227). -/
def execPwmPeriodEnd (n : Fin 64) (s : State) : Host.Outcome State Fault Refusal :=
  finish s (pwmPeriodEnd n.val s)

/-- CURRENT_LOOP_UPDATE (R225). -/
def execCurrentLoopUpdate (n : Fin 64) (sense : BitVec 12) (vo : BitVec 24) (s : State) : Host.Outcome State Fault Refusal :=
  finish s (currentLoopUpdate n.val sense.toNat vo.toNat s)

/-- DRV_CH_EN_WRITE (R226). -/
def execDrvChEnWrite (n : Fin 64) (on : Bool) (s : State) : Host.Outcome State Fault Refusal :=
  finish s (drvChEn n.val on s)

/-- DRV_SET_EN_WRITE (R239). -/
def execDrvSetEnWrite (k : Fin 16) (on : Bool) (s : State) : Host.Outcome State Fault Refusal :=
  finish s (drvSetEn k.val on s)

/-- SOFT_START_END (R229). -/
def execSoftStartEnd (n : Fin 64) (s : State) : Host.Outcome State Fault Refusal :=
  finish s (softStartEnd n.val s)

/-- INRUSH_END (R229). -/
def execInrushEnd (n : Fin 64) (s : State) : Host.Outcome State Fault Refusal :=
  finish s (inrushEnd n.val s)

/-- FAST_TRIP (R231). -/
def execFastTrip (n : ChVal) (s : State) : Host.Outcome State Fault Refusal :=
  finish s (fastTrip n.ch.val n.x s)

/-- STRING_SHORT (R231). -/
def execStringShort (n : ChTime) (s : State) : Host.Outcome State Fault Refusal :=
  finish s (stringShort n.ch.val n.mv n.us s)

/-- STRING_OPEN (R231). -/
def execStringOpen (n : ChTime) (s : State) : Host.Outcome State Fault Refusal :=
  finish s (stringOpen n.ch.val n.mv n.us s)

/-- START_SHORT (R231). -/
def execStartShort (n : ChVal) (s : State) : Host.Outcome State Fault Refusal :=
  finish s (startShort n.ch.val n.x s)

/-- GROUP_OC (R234). -/
def execGroupOc (g : GrpTime) (s : State) : Host.Outcome State Fault Refusal :=
  finish s (groupOc g.g.val g.us s)

/-- SUPPLY_UV (R233). -/
def execSupplyUv (g : Fin 8) (vdrv : BitVec 14) (s : State) : Host.Outcome State Fault Refusal :=
  finish s (supplyUv g.val vdrv.toNat s)

/-- SUPPLY_RECOVERED (R233). -/
def execSupplyRecovered (g : Fin 8) (vdrv : BitVec 14) (s : State) : Host.Outcome State Fault Refusal :=
  finish s (supplyRecovered g.val vdrv.toNat s)

/-- HICCUP_RETRY (R232). -/
def execHiccupRetry (n : Fin 64) (s : State) : Host.Outcome State Fault Refusal :=
  finish s (hiccupRetry n.val s)

/-- RETRIES_RESET (R232). -/
def execRetriesReset (n : Fin 64) (s : State) : Host.Outcome State Fault Refusal :=
  finish s (retriesReset n.val s)

/-- GROUP_HICCUP_RETRY (R234). -/
def execGroupHiccupRetry (g : Fin 8) (s : State) : Host.Outcome State Fault Refusal :=
  finish s (groupHiccupRetry g.val s)

/-- PAD_SCAN (R236). -/
def execPadScan (visits : List PadProbe) (s : State) : Host.Outcome State Fault Refusal :=
  finish s (padScan visits s)

/-- SCAN_NOW (R240). -/
def execScanNow (visits : List PadProbe) (s : State) : Host.Outcome State Fault Refusal :=
  finish s (scanNow visits s)

/-- DRV_CLEAR_FAULT (R240). -/
def execDrvClearFault (s : State) : Host.Outcome State Fault Refusal :=
  finish s (drvClearFault s)

/-- DRV_ENERGY_UPDATE (R237). -/
def execDrvEnergyUpdate (s : State) : Host.Outcome State Fault Refusal :=
  finish s (drvEnergyUpdate s)

/-- POWER_REPORT (R237). -/
def execPowerReport (s : State) : Host.Outcome State Fault Refusal :=
  finish s (powerReport s)

/-- COMP_EVAL (R222). -/
def execCompEval (k : Fin 16) (s : State) : Host.Outcome State Fault Refusal :=
  finish s (compEval k.val s)

/-- DL_FORWARD_FRAME (R242). -/
def execDlForwardFrame (p : Fin 16) (s : State) : Host.Outcome State Fault Refusal :=
  finish s (dlForwardFrame p.val s)

/-- DL_BACKWARD_FRAME (R249). -/
def execDlBackwardFrame (p : Fin 16) (n : BitVec 8) (bad : Bool) (s : State) : Host.Outcome State Fault Refusal :=
  finish s (dlBackwardFrame p.val n.toNat bad s)

/-- DL_NO_ANSWER (R251). -/
def execDlNoAnswer (p : Fin 16) (s : State) : Host.Outcome State Fault Refusal :=
  finish s (dlNoAnswer p.val s)

/-- DL_FRAME_CORRUPTED (R251). -/
def execDlFrameCorrupted (p : Fin 16) (s : State) : Host.Outcome State Fault Refusal :=
  finish s (dlFrameCorrupted p.val s)

/-- DL_BUS_DOWN (R251). -/
def execDlBusDown (p : Fin 16) (s : State) : Host.Outcome State Fault Refusal :=
  finish s (dlBusDown p.val s)

/-- DL_BUS_UP (R251). -/
def execDlBusUp (p : Fin 16) (s : State) : Host.Outcome State Fault Refusal :=
  finish s (dlBusUp p.val s)

/-- DL_EVENT_FRAME (R253). -/
def execDlEventFrame (p : Fin 16) (f : BitVec 24) (s : State) : Host.Outcome State Fault Refusal :=
  finish s (dlEventFrame p.val f.toNat s)

/-- DL_QUERY_CYCLE (R248). -/
def execDlQueryCycle (p : Fin 16) (s : State) : Host.Outcome State Fault Refusal :=
  finish s (dlQueryCycle p.val s)

/-- DL_COMMISSION (R246). -/
def execDlCommission (s : State) : Host.Outcome State Fault Refusal :=
  finish s (dlCommission s)

/-- DL_REQUERY (R269). -/
def execDlRequery (s : State) : Host.Outcome State Fault Refusal :=
  finish s (dlRequery s)

/-- DL_RAW (R253). -/
def execDlRaw (s : State) : Host.Outcome State Fault Refusal :=
  finish s (dlRaw s)

/-- FIO_CLEAR (R263). -/
def execFioClear (s : State) : Host.Outcome State Fault Refusal :=
  finish s (fioClear s)

/-- LBUS_EVT_READ (R253). -/
def execLbusEvtRead (src : Src) (s : State) : Host.Outcome State Fault Refusal :=
  finish s (readRow src LBUS_EVT.adr false s)

/-- AO_MEASURE (R258). -/
def execAoMeasure (a : Fin 12) (mv : BitVec 16) (s : State) : Host.Outcome State Fault Refusal :=
  finish s (aoMeasure a.val mv.toNat s)

/-- FIO_INPUT_CHANGE (R259). -/
def execFioInputChange (n : Fin 72) (level : Bool) (s : State) : Host.Outcome State Fault Refusal :=
  finish s (fioInputChange n.val level s)

/-- LOOP_PAIR_TIMEOUT (R260). -/
def execLoopPairTimeout (n : Fin 72) (s : State) : Host.Outcome State Fault Refusal :=
  finish s (loopPairTimeout n.val s)

/-- CONTACTOR_EVAL (R261). -/
def execContactorEval (s : State) : Host.Outcome State Fault Refusal :=
  finish s (contactorEval s)

/-- CONTACTOR_FB_CHECK (R263). -/
def execContactorFbCheck (n : Fin 72) (s : State) : Host.Outcome State Fault Refusal :=
  finish s (contactorFbCheck n.val s)

/-- SB_FRAME_RX (R264). -/
def execSbFrameRx (p : Fin 8) (b : List Byte) (bad : Bool) (s : State) : Host.Outcome State Fault Refusal :=
  finish s (sbFrameRx p.val b bad s)

/-- SB_FRAME_TX (R265). -/
def execSbFrameTx (p : Fin 8) (bad : Bool) (s : State) : Host.Outcome State Fault Refusal :=
  finish s (sbFrameTx p.val bad s)

/-- SB_POLL (R266). -/
def execSbPoll (p : Fin 8) (k : Fin 4) (s : State) : Host.Outcome State Fault Refusal :=
  finish s (sbPoll p.val k.val s)

/-- SB_POLL_ANSWER (R266). -/
def execSbPollAnswer (p : Fin 8) (k : Fin 4) (count : BitVec 16) (kind : BitVec 16) (speed : BitVec 16) (age : BitVec 16) (bad :
    Bool) (s : State) : Host.Outcome State Fault Refusal :=
  finish s (sbPollAnswer p.val k.val count.toNat kind.toNat speed.toNat age.toNat bad s)

/-- SB_POLL_TIMEOUT (R266). -/
def execSbPollTimeout (p : Fin 8) (k : Fin 4) (s : State) : Host.Outcome State Fault Refusal :=
  finish s (sbPollTimeout p.val k.val s)

/-- TS_MEASURE (R267). -/
def execTsMeasure (t : Fin 16) (r : Nat) (s : State) : Host.Outcome State Fault Refusal :=
  finish s (tsMeasure t.val r s)

end Sys2Proof.Machine
end

