-- ==== Sys2Proof/Machine/RowsNet.lean ====
section
/-! DEFINITION. The meanings of the commands of RAD, SWC, HMQ, NTU, BBN, MZL, HBR and USB (chapters 10 to 13): each is its effect, settled. -/

namespace Sys2Proof.Machine

/-- RAD_CH_EN_WRITE (R270). -/
def execRadChEnWrite (ch : Fin 8) (on : Bool) (s : State) : Host.Outcome State Fault Refusal :=
  finish s (radChEnWrite ch.val on s)

/-- PORT_DEQUEUE (R300). -/
def execPortDequeue (p : Fin 20) (s : State) : Host.Outcome State Fault Refusal :=
  finish s (portDequeue p.val s)

/-- CSMA_BACKOFF_END (R276). -/
def execCsmaBackoffEnd (ch : Fin 8) (energy : Int) (sfd : Bool) (s : State) : Host.Outcome State Fault Refusal :=
  finish s (csmaBackoffEnd ch.val energy sfd s)

/-- TX_END (R277). -/
def execTxEnd (ch : Fin 8) (s : State) : Host.Outcome State Fault Refusal :=
  finish s (txEnd ch.val s)

/-- ENH_ACK_RX (R277). -/
def execEnhAckRx (ch : Fin 8) (s : State) : Host.Outcome State Fault Refusal :=
  finish s (enhAckRx ch.val s)

/-- ACK_TIMEOUT (R277). -/
def execAckTimeout (ch : Fin 8) (s : State) : Host.Outcome State Fault Refusal :=
  finish s (ackTimeout ch.val s)

/-- HW_ACK_SEND (R280). -/
def execHwAckSend (ch : Fin 8) (s : State) : Host.Outcome State Fault Refusal :=
  finish s (hwAckSend ch.val s)

/-- TIMED_FRAME_PREPARE (R281). -/
def execTimedFramePrepare (ch : Fin 8) (s : State) : Host.Outcome State Fault Refusal :=
  finish s (timedFramePrepare ch.val s)

/-- TIMED_FRAME_LAUNCH (R281). -/
def execTimedFrameLaunch (ch : Fin 8) (s : State) : Host.Outcome State Fault Refusal :=
  finish s (timedFrameLaunch ch.val s)

/-- TIME_FRAME (R282). -/
def execTimeFrame (s : State) : Host.Outcome State Fault Refusal :=
  finish s (timeFrame s)

/-- LEDGER_SECOND (R285). -/
def execLedgerSecond (s : State) : Host.Outcome State Fault Refusal :=
  finish s (ledgerSecond s)

/-- RX_SFD (R289). -/
def execRxSfd (ch : Fin 8) (long : Bool) (full : Bool) (s : State) : Host.Outcome State Fault Refusal :=
  finish s (rxSfd ch.val long full s)

/-- RX_FRAME (R290). -/
def execRxFrame (ch : Fin 8) (r : RxFrame) (s : State) : Host.Outcome State Fault Refusal :=
  finish s (rxFrame ch.val r s)

/-- AIRTIME (R274). -/
def execAirtime (s : State) : Host.Outcome State Fault Refusal :=
  finish s (radAirtime s)

/-- CH_FLUSH (R295). -/
def execChFlush (s : State) : Host.Outcome State Fault Refusal :=
  finish s (chFlush s)

/-- PACKET_INGRESS (R304). -/
def execPacketIngress (p : Fin 20) (fcsOk : Bool) (joined : Bool) (k : PacketIn) (s : State) : Host.Outcome State Fault Refusal
    :=
  finish s (packetIngress p.val fcsOk joined k s)

/-- SWC_CLAIM (R310). -/
def execSwcClaim (src : Src) (s : State) : Host.Outcome State Fault Refusal :=
  finish s (readRow src SWC_CLAIM.adr false s)

/-- SWC_CELL_SEL (R311). -/
def execSwcCellSel (src : Src) (val : Word) (s : State) : Host.Outcome State Fault Refusal :=
  finish s (swcCellSel src val.toNat s)

/-- SWC_CELL_DATA (R311). -/
def execSwcCellData (src : Src) (off : Fin 256) (sz : Fin 4) (val : Option (BitVec 64)) (s : State) : Host.Outcome State Fault
    Refusal :=
  finish s (swcCellData src off.val sz.val (val.map BitVec.toNat) s)

/-- SWC_FREE (R313). -/
def execSwcFree (src : Src) (cell : BitVec 15) (s : State) : Host.Outcome State Fault Refusal :=
  finish s (swcFree src cell.toNat s)

/-- ENQUEUE (R312). -/
def execEnqueue (src : Src) (s : State) : Host.Outcome State Fault Refusal :=
  finish s (swcEnqueue src s)

/-- Q_FLUSH (R325). -/
def execQFlush (s : State) : Host.Outcome State Fault Refusal :=
  finish s (swcQFlush s)

/-- QUOTA_BOUNDARY (R306). -/
def execQuotaBoundary (t : Fin 64) (s : State) : Host.Outcome State Fault Refusal :=
  finish s (quotaBoundary t.val s)

/-- HMQ_PUSH (R320). -/
def execHmqPush (q : Fin 16) (val : Word) (s : State) : Host.Outcome State Fault Refusal :=
  finish s (hmqPush q.val val.toNat false s)

/-- HMQ_PUSH_END (R320). -/
def execHmqPushEnd (q : Fin 16) (val : Word) (s : State) : Host.Outcome State Fault Refusal :=
  finish s (hmqPush q.val val.toNat true s)

/-- HMQ_POP (R318). -/
def execHmqPop (src : Src) (q : Fin 16) (bad : Bool) (s : State) : Host.Outcome State Fault Refusal :=
  finish s (hmqPopRow src (16 + q.val) bad s)

/-- HMQ_BANK_PASS (R317). -/
def execHmqBankPass (q : Fin 32) (s : State) : Host.Outcome State Fault Refusal :=
  finish s (hmqBankPass q.val s)

/-- HMQ_DOWN_PACKET (R316). -/
def execHmqDownPacket (q : Fin 16) (bad : Bool) (s : State) : Host.Outcome State Fault Refusal :=
  finish s (hmqDownPacket q.val bad s)

/-- HMQ_UP_DELIVER (R321). -/
def execHmqUpDeliver (s : State) : Host.Outcome State Fault Refusal :=
  finish s (hmqUpDeliver s)

/-- HMQ_STALE (R323). -/
def execHmqStale (q : Fin 32) (s : State) : Host.Outcome State Fault Refusal :=
  finish s (hmqStale q.val s)

/-- HMQ_FLUSH (R324). -/
def execHmqFlush (s : State) : Host.Outcome State Fault Refusal :=
  finish s (hmqFlush s)

/-- NTU_UPDATE (R329). -/
def execNtuUpdate (s : State) : Host.Outcome State Fault Refusal :=
  finish s (ntuUpdate s)

/-- NTU_PHASE_WRITE (R332). -/
def execNtuPhaseWrite (src : Src) (val : Word) (s : State) : Host.Outcome State Fault Refusal :=
  finish s (ntuPhaseWrite src val.toNat s)

/-- STEP (R333). -/
def execStep (s : State) : Host.Outcome State Fault Refusal :=
  finish s (ntuStep s)

/-- STEP_FORCE (R335). -/
def execStepForce (src : Src) (s : State) : Host.Outcome State Fault Refusal :=
  finish s (ntuStepForce src s)

/-- SRC_SELECT (R337). -/
def execSrcSelect (s : State) : Host.Outcome State Fault Refusal :=
  finish s (ntuSrcSelect s)

/-- CMP_ARM (R350). -/
def execCmpArm (s : State) : Host.Outcome State Fault Refusal :=
  finish s (ntuCmpArm s)

/-- CMP_DISARM (R350). -/
def execCmpDisarm (s : State) : Host.Outcome State Fault Refusal :=
  finish s (ntuCmpDisarm s)

/-- COMPARATOR_FIRE (R348). -/
def execComparatorFire (n : Fin 16) (s : State) : Host.Outcome State Fault Refusal :=
  finish s (comparatorFire n.val s)

/-- HOLDOVER_EXPIRY (R339). -/
def execHoldoverExpiry (s : State) : Host.Outcome State Fault Refusal :=
  finish s (holdoverExpiry s)

/-- LEAP_SECOND (R341). -/
def execLeapSecond (s : State) : Host.Outcome State Fault Refusal :=
  finish s (leapSecond s)

/-- RTC_DISCIPLINE (R351). -/
def execRtcDiscipline (s : State) : Host.Outcome State Fault Refusal :=
  finish s (rtcDiscipline s)

/-- RATE_RECORD (R340). -/
def execRateRecord (s : State) : Host.Outcome State Fault Refusal :=
  finish s (rateRecord s)

/-- PTP_RX (R336). -/
def execPtpRx (p : Fin 2) (sync : Bool) (slave : Bool) (ofs : Option Int) (utc : Option (Int × Bool × Bool)) (msg : List Byte)
    (s : State) : Host.Outcome State Fault Refusal :=
  finish s (ptpRx p.val sync slave ofs utc msg s)

/-- PTP_EGRESS (R346). -/
def execPtpEgress (p : Fin 2) (origin : Bool) (addCf : Bool) (tsReq : Bool) (bad : Bool) (b : List Byte) (s : State) :
    Host.Outcome State Fault Refusal :=
  finish s (ptpEgress p.val origin addCf tsReq bad b s)

/-- GNSS_PPS (R336). -/
def execGnssPps (rising : Bool) (s : State) : Host.Outcome State Fault Refusal :=
  finish s (gnssPps rising s)

/-- GNSS_SENTENCE (R336). -/
def execGnssSentence (fix : Bool) (utc : Nat) (s : State) : Host.Outcome State Fault Refusal :=
  finish s (gnssSentence fix utc s)

/-- TIME_EXCHANGE (R363). -/
def execTimeExchange (s : State) : Host.Outcome State Fault Refusal :=
  finish s (timeExchange s)

/-- T_REQ (R363). -/
def execTReq (l : Fin 2) (x : MzRx) (s : State) : Host.Outcome State Fault Refusal :=
  finish s (tReq l.val x s)

/-- T_RSP (R363). -/
def execTRsp (l : Fin 2) (x : MzRx) (s : State) : Host.Outcome State Fault Refusal :=
  finish s (tRsp l.val x s)

/-- HSPI_READ (R358). -/
def execHspiRead (cmd : BitVec 8) (addr : BitVec 32) (full : Bool) (s : State) : Host.Outcome State Fault Refusal :=
  finish s (hspiRead cmd.toNat addr.toNat full s)

/-- HSPI_WRITE (R357). -/
def execHspiWrite (cmd : BitVec 8) (addr : BitVec 32) (data : List Byte) (s : State) : Host.Outcome State Fault Refusal :=
  finish s (hspiWrite cmd.toNat addr.toNat data s)

/-- POSTED_WRITE_DONE (R357). -/
def execPostedWriteDone (s : State) : Host.Outcome State Fault Refusal :=
  finish s (postedWriteDone s)

/-- SLOT_HOLD_EXPIRY (R359). -/
def execSlotHoldExpiry (k : Fin 8) (s : State) : Host.Outcome State Fault Refusal :=
  finish s (slotHoldExpiry k.val s)

/-- SLOT_FLUSH (R360). -/
def execSlotFlush (s : State) : Host.Outcome State Fault Refusal :=
  finish s (slotFlush s)

/-- MZL_REQ (R362). -/
def execMzlReq (l : Fin 2) (x : MzRx) (s : State) : Host.Outcome State Fault Refusal :=
  finish s (mzlReq l.val x s)

/-- MZL_RSP (R362). -/
def execMzlRsp (l : Fin 2) (x : MzRx) (s : State) : Host.Outcome State Fault Refusal :=
  finish s (mzlRsp l.val x s)

/-- MZL_DATA (R362). -/
def execMzlData (l : Fin 2) (x : MzRx) (k : PacketIn) (s : State) : Host.Outcome State Fault Refusal :=
  finish s (mzlDataFrame l.val x k s)

/-- CREDIT (R362). -/
def execCredit (l : Fin 2) (x : MzRx) (s : State) : Host.Outcome State Fault Refusal :=
  finish s (creditFrame l.val x s)

/-- MZL_REQ_TIMEOUT (R362). -/
def execMzlReqTimeout (t : BitVec 8) (s : State) : Host.Outcome State Fault Refusal :=
  finish s (mzlReqTimeout t.toNat s)

/-- MZ_LINK_CHANGE (R362). -/
def execMzLinkChange (l : Fin 2) (on : Bool) (same : Bool) (s : State) : Host.Outcome State Fault Refusal :=
  finish s (mzLinkChange l.val on same s)

/-- ENUM (R364). -/
def execEnum (l : Fin 2) (x : MzRx) (s : State) : Host.Outcome State Fault Refusal :=
  finish s (enumFrame l.val x s)

/-- ENUM_TIMEOUT (R364). -/
def execEnumTimeout (s : State) : Host.Outcome State Fault Refusal :=
  finish s (enumTimeout s)

/-- ENUM_DONE (R364). -/
def execEnumDone (s : State) : Host.Outcome State Fault Refusal :=
  finish s (enumDone s)

/-- REENUM (R364). -/
def execReenum (s : State) : Host.Outcome State Fault Refusal :=
  finish s (mzReenum s)

/-- MZL_IRQ (R369). -/
def execMzlIrq (l : Fin 2) (x : MzRx) (s : State) : Host.Outcome State Fault Refusal :=
  finish s (mzlIrq l.val x s)

/-- IRQ_REPEAT (R369). -/
def execIrqRepeat (s : State) : Host.Outcome State Fault Refusal :=
  finish s (irqRepeat s)

/-- DLA_BACKOFF (R368). -/
def execDlaBackoff (peer : Bool) (s : State) : Host.Outcome State Fault Refusal :=
  finish s (dlaBackoff peer s)

/-- BB_LINK_CHANGE (R370). -/
def execBbLinkChange (p : Fin 2) (on : Bool) (gig : Bool) (s : State) : Host.Outcome State Fault Refusal :=
  finish s (bbLinkChange p.val on gig s)

/-- BB_SPEED_ALTERNATE (R370). -/
def execBbSpeedAlternate (p : Fin 2) (s : State) : Host.Outcome State Fault Refusal :=
  finish s (bbSpeedAlternate p.val s)

/-- RING_CHECK (R371). -/
def execRingCheck (s : State) : Host.Outcome State Fault Refusal :=
  finish s (ringCheck s)

/-- RING_CHECK_RX (R371). -/
def execRingCheckRx (p : Fin 2) (seg : BitVec 16) (seq : BitVec 32) (s : State) : Host.Outcome State Fault Refusal :=
  finish s (ringCheckRx p.val seg.toNat seq.toNat s)

/-- RING_PORT_HOLD_END (R371). -/
def execRingPortHoldEnd (p : Fin 2) (s : State) : Host.Outcome State Fault Refusal :=
  finish s (ringPortHoldEnd p.val s)

/-- RAF_REQ (R373). -/
def execRafReq (p : Fin 2) (ip : BitVec 32) (port : BitVec 16) (b : List Byte) (s : State) : Host.Outcome State Fault Refusal :=
  finish s (rafReq p.val ip.toNat port.toNat b s)

/-- USB_BUS_RESET (R380). -/
def execUsbBusReset (inside : Bool) (hs : Bool) (s : State) : Host.Outcome State Fault Refusal :=
  finish s (usbBusReset inside hs s)

/-- USB_READ (R378). -/
def execUsbRead (pos : BitVec 6) (off : BitVec 26) (len : BitVec 16) (s : State) : Host.Outcome State Fault Refusal :=
  finish s (usbRead pos.toNat off.toNat len.toNat s)

/-- USB_WRITE (R379). -/
def execUsbWrite (pos : BitVec 6) (off : BitVec 26) (data : List Byte) (s : State) : Host.Outcome State Fault Refusal :=
  finish s (usbWrite pos.toNat off.toNat data s)

/-- GET_RESULT (R378). -/
def execGetResult (len : BitVec 16) (s : State) : Host.Outcome State Fault Refusal :=
  finish s (getResult len.toNat s)

/-- GET_INFO (R378). -/
def execGetInfo (len : BitVec 16) (s : State) : Host.Outcome State Fault Refusal :=
  finish s (getInfo len.toNat s)

/-- USB_BULK_OUT (R377). -/
def execUsbBulkOut (k : PacketIn) (s : State) : Host.Outcome State Fault Refusal :=
  finish s (usbBulkOut k s)

/-- USB_BULK_IN (R377). -/
def execUsbBulkIn (s : State) : Host.Outcome State Fault Refusal :=
  finish s (usbBulkIn s)

end Sys2Proof.Machine
end

