-- ==== Sys2Proof/Machine/RowsSvc.lean ====
section
/-! DEFINITION. The meanings of the commands of MTR, KEY, UPD, PAIR, HLT and LOG (chapters 14 to 18): each is its effect, settled. -/

namespace Sys2Proof.Machine

/-- ACCUMULATION_INTERVAL (R393). -/
def execAccumulationInterval (sig : List (List Int)) (s : State) : Host.Outcome State Fault Refusal :=
  finish s (accumulationInterval sig s)

/-- AUTO_RANGE_SWITCH (R387). -/
def execAutoRangeSwitch (n : Fin 36) (to16 : Bool) (s : State) : Host.Outcome State Fault Refusal :=
  finish s (autoRangeSwitch n.val to16 s)

/-- ZERO_CROSSING (R388). -/
def execZeroCrossing (k : Fin 4) (s : State) : Host.Outcome State Fault Refusal :=
  finish s (zeroCrossing k.val s)

/-- ZC_LOST (R388). -/
def execZcLost (k : Fin 4) (s : State) : Host.Outcome State Fault Refusal :=
  finish s (zcLost k.val s)

/-- WINDOW_END (R389). -/
def execWindowEnd (k : Fin 4) (sig : List (List Int)) (s : State) : Host.Outcome State Fault Refusal :=
  finish s (windowEnd k.val sig s)

/-- MTR_TEMP_UPDATE (R386). -/
def execMtrTempUpdate (t : Int) (s : State) : Host.Outcome State Fault Refusal :=
  finish s (mtrTempUpdate t s)

/-- FREEZE_ALL (R395). -/
def execFreezeAll (s : State) : Host.Outcome State Fault Refusal :=
  finish s (freezeAll s)

/-- FREEZE_SAMPLE (R395). -/
def execFreezeSample (sig : List (List Int)) (s : State) : Host.Outcome State Fault Refusal :=
  finish s (freezeSample sig s)

/-- PULSE_DUE (R399). -/
def execPulseDue (k : Fin 16) (s : State) : Host.Outcome State Fault Refusal :=
  finish s (pulseDue k.val s)

/-- PULSE_END (R400). -/
def execPulseEnd (k : Fin 16) (s : State) : Host.Outcome State Fault Refusal :=
  finish s (pulseEnd k.val s)

/-- REC_WINDOW_END (R402). -/
def execRecWindowEnd (f : Fin 12) (s : State) : Host.Outcome State Fault Refusal :=
  finish s (recWindowEnd f.val s)

/-- MODULATOR_CHECK (R466). -/
def execModulatorCheck (ch : Fin 48) (drift : Bool) (bad : Nat) (s : State) : Host.Outcome State Fault Refusal :=
  finish s ((modulatorCheck ch.val drift bad s).pairFollow)

/-- MODULATOR_SUBSTITUTION (R383). -/
def execModulatorSubstitution (ch : Fin 48) (s : State) : Host.Outcome State Fault Refusal :=
  finish s (modulatorSubstitution ch.val s)

/-- PROVISION (R407). -/
def execProvision (src : Src) (s : State) : Host.Outcome State Fault Refusal :=
  finish s (keyWrite src 1 s)

/-- LOAD (R407). -/
def execLoad (src : Src) (s : State) : Host.Outcome State Fault Refusal :=
  finish s (keyWrite src 2 s)

/-- DESTROY (R418). -/
def execDestroy (src : Src) (s : State) : Host.Outcome State Fault Refusal :=
  finish s (keyWrite src 3 s)

/-- OPEN_SESSION (R416). -/
def execOpenSession (src : Src) (s : State) : Host.Outcome State Fault Refusal :=
  finish s (keyWrite src 4 s)

/-- PROVE (R416). -/
def execProve (src : Src) (s : State) : Host.Outcome State Fault Refusal :=
  finish s (keyWrite src 5 s)

/-- CLOSE_SESSION (R417). -/
def execCloseSession (src : Src) (s : State) : Host.Outcome State Fault Refusal :=
  finish s (keyWrite src 6 s)

/-- ATTEST (R419). -/
def execAttest (src : Src) (s : State) : Host.Outcome State Fault Refusal :=
  finish s (keyWrite src 7 s)

/-- LC_ADVANCE (R409). -/
def execLcAdvance (src : Src) (s : State) : Host.Outcome State Fault Refusal :=
  finish s (keyWrite src 8 s)

/-- LC_RETURN (R410). -/
def execLcReturn (src : Src) (s : State) : Host.Outcome State Fault Refusal :=
  finish s (keyWrite src 9 s)

/-- LC_RESET (R410). -/
def execLcReset (src : Src) (s : State) : Host.Outcome State Fault Refusal :=
  finish s (keyWrite src 10 s)

/-- LC_TRANSITION_DONE (R411). -/
def execLcTransitionDone (s : State) : Host.Outcome State Fault Refusal :=
  finish s (lcTransitionDone s)

/-- SESSION_LAPSE (R417). -/
def execSessionLapse (src : Fin 5) (s : State) : Host.Outcome State Fault Refusal :=
  finish s (sessionLapse src.val s)

/-- AUTH_LOCKOUT_END (R416). -/
def execAuthLockoutEnd (src : Fin 5) (s : State) : Host.Outcome State Fault Refusal :=
  finish s (authLockoutEnd src.val s)

/-- ROOT_SLOT_CHANGE (R413). -/
def execRootSlotChange (s : State) : Host.Outcome State Fault Refusal :=
  finish s (rootSlotChange s)

/-- BLOCK_PACKET (R427). -/
def execBlockPacket (path : BlockPath) (b : List Byte) (fails : Nat) (s : State) : Host.Outcome State Fault Refusal :=
  finish s (blockPacket path b fails s)

/-- BEGIN (R429). -/
def execBegin (s : State) : Host.Outcome State Fault Refusal :=
  finish s (updBegin s)

/-- VERIFY (R430). -/
def execVerify (s : State) : Host.Outcome State Fault Refusal :=
  finish s (updVerify s)

/-- VERIFY_VERDICT (R430). -/
def execVerifyVerdict (s : State) : Host.Outcome State Fault Refusal :=
  finish s (verifyVerdict s)

/-- UPD_ACTIVATE (R432). -/
def execUpdActivate (src : Src) (s : State) : Host.Outcome State Fault Refusal :=
  finish s (updActivate src s)

/-- CANCEL_ACT (R432). -/
def execCancelAct (s : State) : Host.Outcome State Fault Refusal :=
  finish s (cancelAct s)

/-- ACTIVATION_CHECK (R433). -/
def execActivationCheck (s : State) : Host.Outcome State Fault Refusal :=
  finish s (activationCheck s)

/-- ACTIVATION (R433). -/
def execActivation (s : State) : Host.Outcome State Fault Refusal :=
  finish s (activation s)

/-- CONFIRM (R437). -/
def execConfirm (src : Src) (s : State) : Host.Outcome State Fault Refusal :=
  finish s (updConfirm src s)

/-- REVERT (R436). -/
def execRevert (src : Src) (s : State) : Host.Outcome State Fault Refusal :=
  finish s (updRevert src s)

/-- CONFIRM_TIMEOUT (R436). -/
def execConfirmTimeout (s : State) : Host.Outcome State Fault Refusal :=
  finish s (confirmTimeout s)

/-- EP_START (R439). -/
def execEpStart (src : Src) (s : State) : Host.Outcome State Fault Refusal :=
  finish s (epStart src s)

/-- EP_STOP (R442). -/
def execEpStop (s : State) : Host.Outcome State Fault Refusal :=
  finish s (epStop s)

/-- CAMPAIGN_ROUND (R441). -/
def execCampaignRound (c : Fin 4) (s : State) : Host.Outcome State Fault Refusal :=
  finish s (campaignRound c.val s)

/-- FW_MAP (R440). -/
def execFwMap (epa : Fin 4096) (id : BitVec 16) (first : BitVec 16) (map : BitVec 256) (l : LinkInfo) (s : State) : Host.Outcome
    State Fault Refusal :=
  finish s (fwMap epa.val id.toNat first.toNat map.toNat l s)

/-- FW_RESULT (R442). -/
def execFwResult (epa : Fin 4096) (id : BitVec 16) (result : BitVec 8) (fw : BitVec 32) (l : LinkInfo) (s : State) :
    Host.Outcome State Fault Refusal :=
  finish s (fwResult epa.val id.toNat result.toNat fw.toNat l s)

/-- LEASE_RENEW (R446). -/
def execLeaseRenew (s : State) : Host.Outcome State Fault Refusal :=
  finish s (leaseRenew s)

/-- RENEW (R446). -/
def execRenew (l : Fin 2) (x : MzRx) (s : State) : Host.Outcome State Fault Refusal :=
  finish s ((renew l.val x s).pairFollow)

/-- GRANT (R446). -/
def execGrant (l : Fin 2) (x : MzRx) (s : State) : Host.Outcome State Fault Refusal :=
  finish s ((grant l.val x s).pairFollow)

/-- RENEW_GRANT_TIMEOUT (R446). -/
def execRenewGrantTimeout (s : State) : Host.Outcome State Fault Refusal :=
  finish s (renewGrantTimeout s)

/-- RELEASE_FRAME (R455). -/
def execReleaseFrame (l : Fin 2) (x : MzRx) (s : State) : Host.Outcome State Fault Refusal :=
  finish s ((releaseFrame l.val x s).pairFollow)

/-- CLAIM (R447). -/
def execClaim (l : Fin 2) (x : MzRx) (s : State) : Host.Outcome State Fault Refusal :=
  finish s (claimFrame l.val x s)

/-- LEASE_EXPIRY (R446). -/
def execLeaseExpiry (s : State) : Host.Outcome State Fault Refusal :=
  finish s (leaseExpiry s)

/-- LEASE_DEADLINE (R447). -/
def execLeaseDeadline (s : State) : Host.Outcome State Fault Refusal :=
  finish s (leaseDeadline s)

/-- CLAIM_CONFIRM (R447). -/
def execClaimConfirm (s : State) : Host.Outcome State Fault Refusal :=
  finish s (claimConfirm s)

/-- PEER_OWN_CHANGE (R452). -/
def execPeerOwnChange (low : Bool) (s : State) : Host.Outcome State Fault Refusal :=
  finish s (peerOwnChange low s)

/-- MIRROR_FRAME (R450). -/
def execMirrorFrame (l : Fin 2) (x : MzRx) (s : State) : Host.Outcome State Fault Refusal :=
  finish s (mirrorFrame l.val x s)

/-- HANDOVER (R456). -/
def execHandover (src : Src) (s : State) : Host.Outcome State Fault Refusal :=
  finish s (pairHandover src s)

/-- ABDICATE (R456). -/
def execAbdicate (src : Src) (s : State) : Host.Outcome State Fault Refusal :=
  finish s (pairAbdicate src s)

/-- PAIR_RESYNC (R456). -/
def execPairResync (s : State) : Host.Outcome State Fault Refusal :=
  finish s (pairResync s)

/-- ELECTION_TIMEOUT (R458). -/
def execElectionTimeout (s : State) : Host.Outcome State Fault Refusal :=
  finish s (electionTimeout s)

/-- RELEASED_RECLAIM (R457). -/
def execReleasedReclaim (s : State) : Host.Outcome State Fault Refusal :=
  finish s (releasedReclaim s)

/-- TEMP_SAMPLE (R460). -/
def execTempSample (readings : List Int) (s : State) : Host.Outcome State Fault Refusal :=
  finish s ((tempSample readings s).pairFollow)

/-- THROTTLE_STEP (R461). -/
def execThrottleStep (s : State) : Host.Outcome State Fault Refusal :=
  finish s (throttleStep s)

/-- THROTTLE_RESTORE (R461). -/
def execThrottleRestore (s : State) : Host.Outcome State Fault Refusal :=
  finish s (throttleRestore s)

/-- THERMAL_TRIP (R462). -/
def execThermalTrip (readings : List Int) (s : State) : Host.Outcome State Fault Refusal :=
  finish s (thermalTrip readings s)

/-- TRIP_RELEASE (R462). -/
def execTripRelease (s : State) : Host.Outcome State Fault Refusal :=
  finish s (tripRelease s)

/-- SUPPLY_ALARM (R463). -/
def execSupplyAlarm (rail : Fin 8) (mv : BitVec 16) (s : State) : Host.Outcome State Fault Refusal :=
  finish s ((supplyAlarm rail.val mv.toNat s).pairFollow)

/-- AVS_EVALUATION (R464). -/
def execAvsEvaluation (slowest : BitVec 16) (count : BitVec 16) (s : State) : Host.Outcome State Fault Refusal :=
  finish s ((avsEvaluation slowest.toNat count.toNat s).pairFollow)

/-- BUFFER_BANK_TEST (R466). -/
def execBufferBankTest (b : Fin 64) (failing : Nat) (bad : Nat) (s : State) : Host.Outcome State Fault Refusal :=
  finish s ((bufferBankTest b.val failing bad s).pairFollow)

/-- LANE_CHECK (R466). -/
def execLaneCheck (failing : List (Fin 16)) (bad : Nat) (s : State) : Host.Outcome State Fault Refusal :=
  finish s ((laneCheck (failing.map Fin.val) bad s).pairFollow)

/-- RADIO_LOOPBACK (R466). -/
def execRadioLoopback (ch : Fin 8) (worn : Bool) (bad : Nat) (s : State) : Host.Outcome State Fault Refusal :=
  finish s ((radioLoopback ch.val worn bad s).pairFollow)

/-- NVM_SECTOR_RETIRE (R468). -/
def execNvmSectorRetire (sector : Fin 896) (bad : Nat) (s : State) : Host.Outcome State Fault Refusal :=
  finish s ((nvmSectorRetire sector.val bad s).pairFollow)

/-- LOG_NVM_WRITE (R471). -/
def execLogNvmWrite (s : State) : Host.Outcome State Fault Refusal :=
  finish s (logNvmWrite s)

/-- RATE_WINDOW_CLOSE (R472). -/
def execRateWindowClose (c : Fin 256) (s : State) : Host.Outcome State Fault Refusal :=
  finish s (rateWindowClose c.val s)

/-- LOG_CLEAR (R473). -/
def execLogClear (src : Src) (s : State) : Host.Outcome State Fault Refusal :=
  finish s (logClear src s)

/-- LOG_FLUSH (R475). -/
def execLogFlush (s : State) : Host.Outcome State Fault Refusal :=
  finish s (logFlush s)

/-- LOG_RD_SEQ_WRITE (R474). -/
def execLogRdSeqWrite (seq : BitVec 32) (s : State) : Host.Outcome State Fault Refusal :=
  finish s (logRead seq.toNat s)

/-- OPTIME_SECOND (R470). -/
def execOptimeSecond (s : State) : Host.Outcome State Fault Refusal :=
  finish s (optimeSecond s)

/-- CLEAR_STORE_DONE (R57). -/
def execClearStoreDone (s : State) : Host.Outcome State Fault Refusal :=
  finish s (clearStoreDone s)

/-- LOG_CLEAR_DONE (R473). -/
def execLogClearDone (s : State) : Host.Outcome State Fault Refusal :=
  finish s (logClearDone s)

/-- CONFIRM_DONE (R437). -/
def execConfirmDone (s : State) : Host.Outcome State Fault Refusal :=
  finish s (confirmDone s)

/-- CHANNEL_RESUMES (R292). -/
def execChannelResumes (ch : Fin 8) (s : State) : Host.Outcome State Fault Refusal :=
  finish s (channelBack ch.val s)

/-- VRF_RECOVERED (R463). -/
def execVrfRecovered (s : State) : Host.Outcome State Fault Refusal :=
  finish s (vrfRecovered s)

/-- USB_SET_CONFIGURATION (R377). -/
def execUsbSetConfiguration (on : Bool) (s : State) : Host.Outcome State Fault Refusal :=
  finish s (usbSetConfiguration on s)

/-- JTAG_INSTRUCTION (R489). -/
def execJtagInstruction (op : Fin 4) (s : State) : Host.Outcome State Fault Refusal :=
  finish s (jtagInstruction op.val s)

end Sys2Proof.Machine
end

