-- ==== Sys2Proof/Machine/RowsSys.lean ====
section
/-! DEFINITION. The meanings of the commands of SYS, CFG, PWR and EMB (chapters 01 to 03, 18): each is its effect, settled. -/

namespace Sys2Proof.Machine

/-- POWER_UP (R69). -/
def execPowerUp (flash : Option (List Byte)) (s : State) : Host.Outcome State Fault Refusal :=
  finish s (powerUp (s.withFlash flash))

/-- VAUX_LOSS (R69). -/
def execVauxLoss (s : State) : Host.Outcome State Fault Refusal :=
  finish s (vauxLoss s)

/-- VSYS_LOSS (R69). -/
def execVsysLoss (s : State) : Host.Outcome State Fault Refusal :=
  finish s (vsysLoss s)

/-- EMBER_RESET (R26). -/
def execEmberReset (s : State) : Host.Outcome State Fault Refusal :=
  finish s (emberReset s)

/-- SYS_RESTART_COLD (R25). -/
def execSysRestartCold (flash : Option (List Byte)) (s : State) : Host.Outcome State Fault Refusal :=
  finish s (restartCold (s.withFlash flash))

/-- SYS_RESTART_WARM (R23). -/
def execSysRestartWarm (flash : Option (List Byte)) (s : State) : Host.Outcome State Fault Refusal :=
  finish s (restartWarm (s.withFlash flash))

/-- WATCHDOG (R24). -/
def execWatchdog (s : State) : Host.Outcome State Fault Refusal :=
  finish s (watchdog s)

/-- LOCKSTEP_MISMATCH (R24). -/
def execLockstepMismatch (s : State) : Host.Outcome State Fault Refusal :=
  finish s (lockstepMismatch s)

/-- CLOCK_FAIL (R20). -/
def execClockFail (s : State) : Host.Outcome State Fault Refusal :=
  finish s (clockFail s)

/-- PFAIL (R83). -/
def execPfail (s : State) : Host.Outcome State Fault Refusal :=
  finish s (pfail s)

/-- PERIODIC_SNAPSHOT (R83). -/
def execPeriodicSnapshot (s : State) : Host.Outcome State Fault Refusal :=
  finish s (snapshotPeriodic s)

/-- REGISTER_WRITE (R13). -/
def execRegisterWrite (src : Src) (off : BitVec 26) (sz : Fin 4) (val : BitVec 64) (s : State) : Host.Outcome State Fault
    Refusal :=
  finish s (registerWrite src off.toNat sz.val val.toNat s)

/-- RESERVED_SPACE_ACCESS (R6). -/
def execReservedSpaceAccess (src : Src) (wr : Bool) (off : BitVec 26) (sz : Fin 4) (val : BitVec 64) (s : State) : Host.Outcome
    State Fault Refusal :=
  finish s (reservedSpaceAccess src wr off.toNat sz.val val.toNat s)

/-- ACCESS_ERROR (R58). -/
def execAccessError (src : Src) (wr : Bool) (off : BitVec 26) (sz : Fin 4) (val : BitVec 64) (s : State) : Host.Outcome State
    Fault Refusal :=
  finish s (accessError src wr off.toNat sz.val val.toNat s)

/-- RAR_LOW_READ (R12). -/
def execRarLowRead (src : Src) (off : BitVec 26) (s : State) : Host.Outcome State Fault Refusal :=
  finish s (rarLowRead src off.toNat s)

/-- RAR_HIGH_READ (R12). -/
def execRarHighRead (src : Src) (off : BitVec 26) (s : State) : Host.Outcome State Fault Refusal :=
  finish s (rarHighRead src off.toNat s)

/-- RAR_PAIR_READ (R12). -/
def execRarPairRead (src : Src) (off : BitVec 26) (s : State) : Host.Outcome State Fault Refusal :=
  finish s (rarPairRead src off.toNat s)

/-- RC_READ (R58). -/
def execRcRead (src : Src) (off : BitVec 26) (s : State) : Host.Outcome State Fault Refusal :=
  finish s (rcReadRow src off.toNat s)

/-- CFG_DIGEST_READ (R66). -/
def execCfgDigestRead (src : Src) (s : State) : Host.Outcome State Fault Refusal :=
  finish s (readRow src (CFG_DIGEST.adr 0) false s)

/-- EMB_RTC_TIME_READ (R89). -/
def execEmbRtcTimeRead (src : Src) (wide : Bool) (s : State) : Host.Outcome State Fault Refusal :=
  finish s (readRow src EMB_RTC_TIME.adr wide s)

/-- SCH_LOCAL_TIME_READ (R148). -/
def execSchLocalTimeRead (src : Src) (wide : Bool) (s : State) : Host.Outcome State Fault Refusal :=
  finish s (readRow src SCH_LOCAL_TIME.adr wide s)

/-- SCH_NEXT_LIT_READ (R148). -/
def execSchNextLitRead (src : Src) (wide : Bool) (s : State) : Host.Outcome State Fault Refusal :=
  finish s (readRow src SCH_NEXT_LIT_LO.adr wide s)

/-- LFE_TICK_NT_READ (R182). -/
def execLfeTickNtRead (src : Src) (wide : Bool) (s : State) : Host.Outcome State Fault Refusal :=
  finish s (readRow src LFE_TICK_NT_LO.adr wide s)

/-- TRN_TIME_READ (R215). -/
def execTrnTimeRead (src : Src) (slot : Option (Fin 64)) (wide : Bool) (s : State) : Host.Outcome State Fault Refusal :=
  finish s (readRow src (trnTimeWord (slot.map Fin.val)) wide s)

/-- NTU_TIME_READ (R330). -/
def execNtuTimeRead (src : Src) (wide : Bool) (s : State) : Host.Outcome State Fault Refusal :=
  finish s (readRow src NTU_TIME_LO.adr wide s)

/-- NTU_FRC_READ (R330). -/
def execNtuFrcRead (src : Src) (wide : Bool) (s : State) : Host.Outcome State Fault Refusal :=
  finish s (readRow src NTU_FRC_LO.adr wide s)

/-- MTR_RESULT_READ (R390). -/
def execMtrResultRead (src : Src) (blk : Fin 16) (s : State) : Host.Outcome State Fault Refusal :=
  finish s (readRow src (mtrBlockWord blk.val) false s)

/-- EPC_JOIN_EPA_READ (R131). -/
def execEpcJoinEpaRead (src : Src) (s : State) : Host.Outcome State Fault Refusal :=
  finish s (readRow src EPC_JOIN_EPA.adr false s)

/-- EVT_HOLDOFF_END (R30). -/
def execEvtHoldoffEnd (b : Fin 32) (s : State) : Host.Outcome State Fault Refusal :=
  finish s (evtHoldoffEnd b.val s)

/-- MODULE_HB (R3). -/
def execModuleHb (p : Fin 2) (b : List Byte) (s : State) : Host.Outcome State Fault Refusal :=
  finish s (moduleHb p.val b s)

/-- MODULE_HB_SEND (R374). -/
def execModuleHbSend (s : State) : Host.Outcome State Fault Refusal :=
  finish s (moduleHbSend s)

/-- STORE (R55). -/
def execStore (s : State) : Host.Outcome State Fault Refusal :=
  finish s (cfgStore s)

/-- STORE_DONE (R55). -/
def execStoreDone (s : State) : Host.Outcome State Fault Refusal :=
  finish s (storeDone s)

/-- CLEAR_STORE (R57). -/
def execClearStore (s : State) : Host.Outcome State Fault Refusal :=
  finish s (clearStore s)

/-- DIGEST_REQ (R67). -/
def execDigestReq (s : State) : Host.Outcome State Fault Refusal :=
  finish s (digestReq s)

/-- DIGEST_REQ_DONE (R67). -/
def execDigestReqDone (s : State) : Host.Outcome State Fault Refusal :=
  finish s (digestReqDone s)

/-- DIGEST_REQ_TIMEOUT (R67). -/
def execDigestReqTimeout (s : State) : Host.Outcome State Fault Refusal :=
  finish s (digestReqTimeout s)

/-- DIGEST_UPDATE (R64). -/
def execDigestUpdate (s : State) : Host.Outcome State Fault Refusal :=
  finish s (digestUpdate s)

/-- ENTER_SERVICE (R75). -/
def execEnterService (src : Src) (s : State) : Host.Outcome State Fault Refusal :=
  finish s (pwrEnterService src s)

/-- LEAVE_SERVICE (R72). -/
def execLeaveService (s : State) : Host.Outcome State Fault Refusal :=
  finish s (pwrLeaveService s)

/-- ISLAND (R71). -/
def execIsland (s : State) : Host.Outcome State Fault Refusal :=
  finish s (pwrIsland s)

/-- UNISLAND (R71). -/
def execUnisland (s : State) : Host.Outcome State Fault Refusal :=
  finish s (pwrUnisland s)

/-- ENTER_BANKED (R78). -/
def execEnterBanked (src : Src) (s : State) : Host.Outcome State Fault Refusal :=
  finish s (pwrEnterBanked src s)

/-- PWR_HEARTBEAT (R70). -/
def execPwrHeartbeat (src : Src) (s : State) : Host.Outcome State Fault Refusal :=
  finish s (pwrHeartbeat src s)

/-- HOST_HB (R375). -/
def execHostHb (p : Fin 2) (b : List Byte) (s : State) : Host.Outcome State Fault Refusal :=
  finish s (hostHb p.val b s)

/-- SOAK_TIMEOUT (R10). -/
def execSoakTimeout (s : State) : Host.Outcome State Fault Refusal :=
  finish s (soakTimeout s)

/-- IDLE_WARN (R77). -/
def execIdleWarn (s : State) : Host.Outcome State Fault Refusal :=
  finish s (idleWarn s)

/-- IDLE_TIMEOUT (R77). -/
def execIdleTimeout (s : State) : Host.Outcome State Fault Refusal :=
  finish s (idleTimeout s)

/-- WAKE_WSP (R81). -/
def execWakeWsp (adr : BitVec 7) (s : State) : Host.Outcome State Fault Refusal :=
  finish s (wakeWsp adr.toNat s)

/-- WSP_READ (R81). -/
def execWspRead (adr : BitVec 7) (s : State) : Host.Outcome State Fault Refusal :=
  finish s (wspRead adr.toNat s)

/-- WAKE_FIO (R80). -/
def execWakeFio (n : Fin 8) (rising : Bool) (s : State) : Host.Outcome State Fault Refusal :=
  finish s (wakeFio n.val rising s)

/-- WAKE_MZ (R80). -/
def execWakeMz (s : State) : Host.Outcome State Fault Refusal :=
  finish s (wakeMz s)

/-- WAKE_HSPI (R80). -/
def execWakeHspi (s : State) : Host.Outcome State Fault Refusal :=
  finish s (wakeHspi s)

/-- VSYS_RETURN (R80). -/
def execVsysReturn (s : State) : Host.Outcome State Fault Refusal :=
  finish s (vsysReturn s)

/-- RC0_LISTEN (R82). -/
def execRc0Listen (s : State) : Host.Outcome State Fault Refusal :=
  finish s (rc0Listen s)

/-- WAKE (R115). -/
def execWake (seg : BitVec 16) (code : BitVec 16) (s : State) : Host.Outcome State Fault Refusal :=
  finish s (wakeTep seg.toNat code.toNat s)

/-- AVS_ACK (R84). -/
def execAvsAck (s : State) : Host.Outcome State Fault Refusal :=
  finish s (avsAck s)

/-- AVS_ATTEMPT_TIMEOUT (R84). -/
def execAvsAttemptTimeout (s : State) : Host.Outcome State Fault Refusal :=
  finish s (avsAttemptTimeout s)

/-- EMB_MIRROR_WRITE (R87). -/
def execEmbMirrorWrite (off : BitVec 26) (val : Word) (pair : Option Word) (s : State) : Host.Outcome State Fault Refusal :=
  finish s (embMirrorWrite { adr := off.toNat, val := val, pair := pair, own := false } s)

/-- EMB_WRITE_LAND (R87). -/
def execEmbWriteLand (s : State) : Host.Outcome State Fault Refusal :=
  finish s (embWriteLand s)

/-- CAPTURE (R90). -/
def execCapture (s : State) : Host.Outcome State Fault Refusal :=
  finish s (embCapture s)

/-- RTC_SECOND (R86). -/
def execRtcSecond (s : State) : Host.Outcome State Fault Refusal :=
  finish s (rtcSecond s)

/-- PERIODIC_WAKE (R91). -/
def execPeriodicWake (s : State) : Host.Outcome State Fault Refusal :=
  finish s (periodicWake s)

/-- DOOR_EVENT (R92). -/
def execDoorEvent (s : State) : Host.Outcome State Fault Refusal :=
  finish s (doorEvent s)

/-- TAMPER_EVENT (R92). -/
def execTamperEvent (s : State) : Host.Outcome State Fault Refusal :=
  finish s (tamperEvent s)

/-- PWR_ON_WRITE (R94). -/
def execPwrOnWrite (on : BitVec 3) (s : State) : Host.Outcome State Fault Refusal :=
  finish s (pwrOnWrite on.toNat s)

/-- VBAT_MEASURE (R95). -/
def execVbatMeasure (mv : BitVec 16) (s : State) : Host.Outcome State Fault Refusal :=
  finish s (vbatMeasure mv.toNat s)

end Sys2Proof.Machine
end

