-- ==== Sys2Proof/Machine/Dispatch.lean ====
section
/-! DEFINITION. What each command does. -/

namespace Sys2Proof.Machine

/-- A command's effect on everything but the queue. -/
def exec (i : Instr) (s : State) : Host.Outcome State Fault Refusal :=
  match i with
  | .powerUp flash => Sys2Proof.Machine.execPowerUp flash s
  | .vauxLoss => Sys2Proof.Machine.execVauxLoss s
  | .vsysLoss => Sys2Proof.Machine.execVsysLoss s
  | .emberReset => Sys2Proof.Machine.execEmberReset s
  | .sysRestartCold flash => Sys2Proof.Machine.execSysRestartCold flash s
  | .sysRestartWarm flash => Sys2Proof.Machine.execSysRestartWarm flash s
  | .watchdog => Sys2Proof.Machine.execWatchdog s
  | .lockstepMismatch => Sys2Proof.Machine.execLockstepMismatch s
  | .clockFail => Sys2Proof.Machine.execClockFail s
  | .pfail => Sys2Proof.Machine.execPfail s
  | .periodicSnapshot => Sys2Proof.Machine.execPeriodicSnapshot s
  | .registerWrite src off sz val => Sys2Proof.Machine.execRegisterWrite src off sz val s
  | .reservedSpaceAccess src wr off sz val => Sys2Proof.Machine.execReservedSpaceAccess src wr off sz val s
  | .accessError src wr off sz val => Sys2Proof.Machine.execAccessError src wr off sz val s
  | .rarLowRead src off => Sys2Proof.Machine.execRarLowRead src off s
  | .rarHighRead src off => Sys2Proof.Machine.execRarHighRead src off s
  | .rarPairRead src off => Sys2Proof.Machine.execRarPairRead src off s
  | .rcRead src off => Sys2Proof.Machine.execRcRead src off s
  | .cfgDigestRead src => Sys2Proof.Machine.execCfgDigestRead src s
  | .embRtcTimeRead src wide => Sys2Proof.Machine.execEmbRtcTimeRead src wide s
  | .schLocalTimeRead src wide => Sys2Proof.Machine.execSchLocalTimeRead src wide s
  | .schNextLitRead src wide => Sys2Proof.Machine.execSchNextLitRead src wide s
  | .lfeTickNtRead src wide => Sys2Proof.Machine.execLfeTickNtRead src wide s
  | .trnTimeRead src slot wide => Sys2Proof.Machine.execTrnTimeRead src slot wide s
  | .ntuTimeRead src wide => Sys2Proof.Machine.execNtuTimeRead src wide s
  | .ntuFrcRead src wide => Sys2Proof.Machine.execNtuFrcRead src wide s
  | .mtrResultRead src blk => Sys2Proof.Machine.execMtrResultRead src blk s
  | .epcJoinEpaRead src => Sys2Proof.Machine.execEpcJoinEpaRead src s
  | .evtHoldoffEnd b => Sys2Proof.Machine.execEvtHoldoffEnd b s
  | .moduleHb p b => Sys2Proof.Machine.execModuleHb p b s
  | .moduleHbSend => Sys2Proof.Machine.execModuleHbSend s
  | .store => Sys2Proof.Machine.execStore s
  | .storeDone => Sys2Proof.Machine.execStoreDone s
  | .clearStore => Sys2Proof.Machine.execClearStore s
  | .digestReq => Sys2Proof.Machine.execDigestReq s
  | .digestReqDone => Sys2Proof.Machine.execDigestReqDone s
  | .digestReqTimeout => Sys2Proof.Machine.execDigestReqTimeout s
  | .digestUpdate => Sys2Proof.Machine.execDigestUpdate s
  | .enterService src => Sys2Proof.Machine.execEnterService src s
  | .leaveService => Sys2Proof.Machine.execLeaveService s
  | .island => Sys2Proof.Machine.execIsland s
  | .unisland => Sys2Proof.Machine.execUnisland s
  | .enterBanked src => Sys2Proof.Machine.execEnterBanked src s
  | .pwrHeartbeat src => Sys2Proof.Machine.execPwrHeartbeat src s
  | .hostHb p b => Sys2Proof.Machine.execHostHb p b s
  | .soakTimeout => Sys2Proof.Machine.execSoakTimeout s
  | .idleWarn => Sys2Proof.Machine.execIdleWarn s
  | .idleTimeout => Sys2Proof.Machine.execIdleTimeout s
  | .wakeWsp adr => Sys2Proof.Machine.execWakeWsp adr s
  | .wspRead adr => Sys2Proof.Machine.execWspRead adr s
  | .wakeFio n rising => Sys2Proof.Machine.execWakeFio n rising s
  | .wakeMz => Sys2Proof.Machine.execWakeMz s
  | .wakeHspi => Sys2Proof.Machine.execWakeHspi s
  | .vsysReturn => Sys2Proof.Machine.execVsysReturn s
  | .rc0Listen => Sys2Proof.Machine.execRc0Listen s
  | .wake seg code => Sys2Proof.Machine.execWake seg code s
  | .avsAck => Sys2Proof.Machine.execAvsAck s
  | .avsAttemptTimeout => Sys2Proof.Machine.execAvsAttemptTimeout s
  | .embMirrorWrite off val pair => Sys2Proof.Machine.execEmbMirrorWrite off val pair s
  | .embWriteLand => Sys2Proof.Machine.execEmbWriteLand s
  | .capture => Sys2Proof.Machine.execCapture s
  | .rtcSecond => Sys2Proof.Machine.execRtcSecond s
  | .periodicWake => Sys2Proof.Machine.execPeriodicWake s
  | .doorEvent => Sys2Proof.Machine.execDoorEvent s
  | .tamperEvent => Sys2Proof.Machine.execTamperEvent s
  | .pwrOnWrite on => Sys2Proof.Machine.execPwrOnWrite on s
  | .vbatMeasure mv => Sys2Proof.Machine.execVbatMeasure mv s
  | .activate => Sys2Proof.Machine.execActivate s
  | .suspend => Sys2Proof.Machine.execSuspend s
  | .resume => Sys2Proof.Machine.execResume s
  | .replace => Sys2Proof.Machine.execReplace s
  | .remove => Sys2Proof.Machine.execRemove s
  | .epcClearFault => Sys2Proof.Machine.execEpcClearFault s
  | .snapshot => Sys2Proof.Machine.execSnapshot s
  | .snapshotDone => Sys2Proof.Machine.execSnapshotDone s
  | .joinReq ch ext eui cls nonce => Sys2Proof.Machine.execJoinReq ch ext eui cls nonce s
  | .joinLapse epa => Sys2Proof.Machine.execJoinLapse epa s
  | .joinOpenExpiry => Sys2Proof.Machine.execJoinOpenExpiry s
  | .epcGrpWrite epa w val => Sys2Proof.Machine.execEpcGrpWrite epa w val s
  | .groupsRepeat epa => Sys2Proof.Machine.execGroupsRepeat epa s
  | .cfgAck epa typ tsn l => Sys2Proof.Machine.execCfgAck epa typ tsn l s
  | .reportCfgWrite epa val => Sys2Proof.Machine.execReportCfgWrite epa val s
  | .configRepeat epa param => Sys2Proof.Machine.execConfigRepeat epa param s
  | .status epa m l => Sys2Proof.Machine.execStatus epa m l s
  | .energy epa epoch cum power l => Sys2Proof.Machine.execEnergy epa epoch cum power l s
  | .fault epa code raised detail l => Sys2Proof.Machine.execFault epa code raised detail l s
  | .detect epa cls heading speed conf count age tEnd l => Sys2Proof.Machine.execDetect epa cls heading speed conf count age tEnd l s
  | .info epa fw model hours l => Sys2Proof.Machine.execInfo epa fw model hours l s
  | .silentCheck => Sys2Proof.Machine.execSilentCheck s
  | .resyncRepeat epa => Sys2Proof.Machine.execResyncRepeat epa s
  | .rekeyRetry epa => Sys2Proof.Machine.execRekeyRetry epa s
  | .contextEccError off uncorr bad => Sys2Proof.Machine.execContextEccError off uncorr bad s
  | .scheduleSecond late => Sys2Proof.Machine.execScheduleSecond late s
  | .solarNow => Sys2Proof.Machine.execSolarNow s
  | .solarPublish d evs => Sys2Proof.Machine.execSolarPublish d evs s
  | .holdExpiry => Sys2Proof.Machine.execHoldExpiry s
  | .lfeTick => Sys2Proof.Machine.execLfeTick s
  | .detectionRecord r => Sys2Proof.Machine.execDetectionRecord r s
  | .sourceExpiry => Sys2Proof.Machine.execSourceExpiry s
  | .lfeHoldExpiry epa => Sys2Proof.Machine.execLfeHoldExpiry epa s
  | .inject => Sys2Proof.Machine.execInject s
  | .clearSources => Sys2Proof.Machine.execClearSources s
  | .lfeCtlWrite en prop => Sys2Proof.Machine.execLfeCtlWrite en prop s
  | .arm => Sys2Proof.Machine.execArm s
  | .trnCancel => Sys2Proof.Machine.execTrnCancel s
  | .release => Sys2Proof.Machine.execRelease s
  | .patStart => Sys2Proof.Machine.execPatStart s
  | .patStop => Sys2Proof.Machine.execPatStop s
  | .armRound n => Sys2Proof.Machine.execArmRound n s
  | .slotCommit n => Sys2Proof.Machine.execSlotCommit n s
  | .slotFire n => Sys2Proof.Machine.execSlotFire n s
  | .slotHoldEnd n => Sys2Proof.Machine.execSlotHoldEnd n s
  | .patternCountEnd e => Sys2Proof.Machine.execPatternCountEnd e s
  | .fastChaseEdge e => Sys2Proof.Machine.execFastChaseEdge e s
  | .fadeUnitUpdate => Sys2Proof.Machine.execFadeUnitUpdate s
  | .driveComparatorFire u => Sys2Proof.Machine.execDriveComparatorFire u s
  | .pwmPeriodEnd n => Sys2Proof.Machine.execPwmPeriodEnd n s
  | .currentLoopUpdate n sense vo => Sys2Proof.Machine.execCurrentLoopUpdate n sense vo s
  | .drvChEnWrite n on => Sys2Proof.Machine.execDrvChEnWrite n on s
  | .drvSetEnWrite k on => Sys2Proof.Machine.execDrvSetEnWrite k on s
  | .softStartEnd n => Sys2Proof.Machine.execSoftStartEnd n s
  | .inrushEnd n => Sys2Proof.Machine.execInrushEnd n s
  | .fastTrip n => Sys2Proof.Machine.execFastTrip n s
  | .stringShort n => Sys2Proof.Machine.execStringShort n s
  | .stringOpen n => Sys2Proof.Machine.execStringOpen n s
  | .startShort n => Sys2Proof.Machine.execStartShort n s
  | .groupOc g => Sys2Proof.Machine.execGroupOc g s
  | .supplyUv g vdrv => Sys2Proof.Machine.execSupplyUv g vdrv s
  | .supplyRecovered g vdrv => Sys2Proof.Machine.execSupplyRecovered g vdrv s
  | .hiccupRetry n => Sys2Proof.Machine.execHiccupRetry n s
  | .retriesReset n => Sys2Proof.Machine.execRetriesReset n s
  | .groupHiccupRetry g => Sys2Proof.Machine.execGroupHiccupRetry g s
  | .padScan visits => Sys2Proof.Machine.execPadScan visits s
  | .scanNow visits => Sys2Proof.Machine.execScanNow visits s
  | .drvClearFault => Sys2Proof.Machine.execDrvClearFault s
  | .drvEnergyUpdate => Sys2Proof.Machine.execDrvEnergyUpdate s
  | .powerReport => Sys2Proof.Machine.execPowerReport s
  | .compEval k => Sys2Proof.Machine.execCompEval k s
  | .dlForwardFrame p => Sys2Proof.Machine.execDlForwardFrame p s
  | .dlBackwardFrame p n bad => Sys2Proof.Machine.execDlBackwardFrame p n bad s
  | .dlNoAnswer p => Sys2Proof.Machine.execDlNoAnswer p s
  | .dlFrameCorrupted p => Sys2Proof.Machine.execDlFrameCorrupted p s
  | .dlBusDown p => Sys2Proof.Machine.execDlBusDown p s
  | .dlBusUp p => Sys2Proof.Machine.execDlBusUp p s
  | .dlEventFrame p f => Sys2Proof.Machine.execDlEventFrame p f s
  | .dlQueryCycle p => Sys2Proof.Machine.execDlQueryCycle p s
  | .dlCommission => Sys2Proof.Machine.execDlCommission s
  | .dlRequery => Sys2Proof.Machine.execDlRequery s
  | .dlRaw => Sys2Proof.Machine.execDlRaw s
  | .fioClear => Sys2Proof.Machine.execFioClear s
  | .lbusEvtRead src => Sys2Proof.Machine.execLbusEvtRead src s
  | .aoMeasure a mv => Sys2Proof.Machine.execAoMeasure a mv s
  | .fioInputChange n level => Sys2Proof.Machine.execFioInputChange n level s
  | .loopPairTimeout n => Sys2Proof.Machine.execLoopPairTimeout n s
  | .contactorEval => Sys2Proof.Machine.execContactorEval s
  | .contactorFbCheck n => Sys2Proof.Machine.execContactorFbCheck n s
  | .sbFrameRx p b bad => Sys2Proof.Machine.execSbFrameRx p b bad s
  | .sbFrameTx p bad => Sys2Proof.Machine.execSbFrameTx p bad s
  | .sbPoll p k => Sys2Proof.Machine.execSbPoll p k s
  | .sbPollAnswer p k count kind speed age bad => Sys2Proof.Machine.execSbPollAnswer p k count kind speed age bad s
  | .sbPollTimeout p k => Sys2Proof.Machine.execSbPollTimeout p k s
  | .tsMeasure t r => Sys2Proof.Machine.execTsMeasure t r s
  | .radChEnWrite ch on => Sys2Proof.Machine.execRadChEnWrite ch on s
  | .portDequeue p => Sys2Proof.Machine.execPortDequeue p s
  | .csmaBackoffEnd ch energy sfd => Sys2Proof.Machine.execCsmaBackoffEnd ch energy sfd s
  | .txEnd ch => Sys2Proof.Machine.execTxEnd ch s
  | .enhAckRx ch => Sys2Proof.Machine.execEnhAckRx ch s
  | .ackTimeout ch => Sys2Proof.Machine.execAckTimeout ch s
  | .hwAckSend ch => Sys2Proof.Machine.execHwAckSend ch s
  | .timedFramePrepare ch => Sys2Proof.Machine.execTimedFramePrepare ch s
  | .timedFrameLaunch ch => Sys2Proof.Machine.execTimedFrameLaunch ch s
  | .timeFrame => Sys2Proof.Machine.execTimeFrame s
  | .ledgerSecond => Sys2Proof.Machine.execLedgerSecond s
  | .rxSfd ch long full => Sys2Proof.Machine.execRxSfd ch long full s
  | .rxFrame ch r => Sys2Proof.Machine.execRxFrame ch r s
  | .airtime => Sys2Proof.Machine.execAirtime s
  | .chFlush => Sys2Proof.Machine.execChFlush s
  | .packetIngress p fcsOk joined k => Sys2Proof.Machine.execPacketIngress p fcsOk joined k s
  | .swcClaim src => Sys2Proof.Machine.execSwcClaim src s
  | .swcCellSel src val => Sys2Proof.Machine.execSwcCellSel src val s
  | .swcCellData src off sz val => Sys2Proof.Machine.execSwcCellData src off sz val s
  | .swcFree src cell => Sys2Proof.Machine.execSwcFree src cell s
  | .enqueue src => Sys2Proof.Machine.execEnqueue src s
  | .qFlush => Sys2Proof.Machine.execQFlush s
  | .quotaBoundary t => Sys2Proof.Machine.execQuotaBoundary t s
  | .hmqPush q val => Sys2Proof.Machine.execHmqPush q val s
  | .hmqPushEnd q val => Sys2Proof.Machine.execHmqPushEnd q val s
  | .hmqPop src q bad => Sys2Proof.Machine.execHmqPop src q bad s
  | .hmqBankPass q => Sys2Proof.Machine.execHmqBankPass q s
  | .hmqDownPacket q bad => Sys2Proof.Machine.execHmqDownPacket q bad s
  | .hmqUpDeliver => Sys2Proof.Machine.execHmqUpDeliver s
  | .hmqStale q => Sys2Proof.Machine.execHmqStale q s
  | .hmqFlush => Sys2Proof.Machine.execHmqFlush s
  | .ntuUpdate => Sys2Proof.Machine.execNtuUpdate s
  | .ntuPhaseWrite src val => Sys2Proof.Machine.execNtuPhaseWrite src val s
  | .step => Sys2Proof.Machine.execStep s
  | .stepForce src => Sys2Proof.Machine.execStepForce src s
  | .srcSelect => Sys2Proof.Machine.execSrcSelect s
  | .cmpArm => Sys2Proof.Machine.execCmpArm s
  | .cmpDisarm => Sys2Proof.Machine.execCmpDisarm s
  | .comparatorFire n => Sys2Proof.Machine.execComparatorFire n s
  | .holdoverExpiry => Sys2Proof.Machine.execHoldoverExpiry s
  | .leapSecond => Sys2Proof.Machine.execLeapSecond s
  | .rtcDiscipline => Sys2Proof.Machine.execRtcDiscipline s
  | .rateRecord => Sys2Proof.Machine.execRateRecord s
  | .ptpRx p sync slave ofs utc msg => Sys2Proof.Machine.execPtpRx p sync slave ofs utc msg s
  | .ptpEgress p origin addCf tsReq bad b => Sys2Proof.Machine.execPtpEgress p origin addCf tsReq bad b s
  | .gnssPps rising => Sys2Proof.Machine.execGnssPps rising s
  | .gnssSentence fix utc => Sys2Proof.Machine.execGnssSentence fix utc s
  | .timeExchange => Sys2Proof.Machine.execTimeExchange s
  | .tReq l x => Sys2Proof.Machine.execTReq l x s
  | .tRsp l x => Sys2Proof.Machine.execTRsp l x s
  | .hspiRead cmd addr full => Sys2Proof.Machine.execHspiRead cmd addr full s
  | .hspiWrite cmd addr data => Sys2Proof.Machine.execHspiWrite cmd addr data s
  | .postedWriteDone => Sys2Proof.Machine.execPostedWriteDone s
  | .slotHoldExpiry k => Sys2Proof.Machine.execSlotHoldExpiry k s
  | .slotFlush => Sys2Proof.Machine.execSlotFlush s
  | .mzlReq l x => Sys2Proof.Machine.execMzlReq l x s
  | .mzlRsp l x => Sys2Proof.Machine.execMzlRsp l x s
  | .mzlData l x k => Sys2Proof.Machine.execMzlData l x k s
  | .credit l x => Sys2Proof.Machine.execCredit l x s
  | .mzlReqTimeout t => Sys2Proof.Machine.execMzlReqTimeout t s
  | .mzLinkChange l on same => Sys2Proof.Machine.execMzLinkChange l on same s
  | .enum l x => Sys2Proof.Machine.execEnum l x s
  | .enumTimeout => Sys2Proof.Machine.execEnumTimeout s
  | .enumDone => Sys2Proof.Machine.execEnumDone s
  | .reenum => Sys2Proof.Machine.execReenum s
  | .mzlIrq l x => Sys2Proof.Machine.execMzlIrq l x s
  | .irqRepeat => Sys2Proof.Machine.execIrqRepeat s
  | .dlaBackoff peer => Sys2Proof.Machine.execDlaBackoff peer s
  | .bbLinkChange p on gig => Sys2Proof.Machine.execBbLinkChange p on gig s
  | .bbSpeedAlternate p => Sys2Proof.Machine.execBbSpeedAlternate p s
  | .ringCheck => Sys2Proof.Machine.execRingCheck s
  | .ringCheckRx p seg seq => Sys2Proof.Machine.execRingCheckRx p seg seq s
  | .ringPortHoldEnd p => Sys2Proof.Machine.execRingPortHoldEnd p s
  | .rafReq p ip port b => Sys2Proof.Machine.execRafReq p ip port b s
  | .usbBusReset inside hs => Sys2Proof.Machine.execUsbBusReset inside hs s
  | .usbRead pos off len => Sys2Proof.Machine.execUsbRead pos off len s
  | .usbWrite pos off data => Sys2Proof.Machine.execUsbWrite pos off data s
  | .getResult len => Sys2Proof.Machine.execGetResult len s
  | .getInfo len => Sys2Proof.Machine.execGetInfo len s
  | .usbBulkOut k => Sys2Proof.Machine.execUsbBulkOut k s
  | .usbBulkIn => Sys2Proof.Machine.execUsbBulkIn s
  | .accumulationInterval sig => Sys2Proof.Machine.execAccumulationInterval sig s
  | .autoRangeSwitch n to16 => Sys2Proof.Machine.execAutoRangeSwitch n to16 s
  | .zeroCrossing k => Sys2Proof.Machine.execZeroCrossing k s
  | .zcLost k => Sys2Proof.Machine.execZcLost k s
  | .windowEnd k sig => Sys2Proof.Machine.execWindowEnd k sig s
  | .mtrTempUpdate t => Sys2Proof.Machine.execMtrTempUpdate t s
  | .freezeAll => Sys2Proof.Machine.execFreezeAll s
  | .freezeSample sig => Sys2Proof.Machine.execFreezeSample sig s
  | .pulseDue k => Sys2Proof.Machine.execPulseDue k s
  | .pulseEnd k => Sys2Proof.Machine.execPulseEnd k s
  | .recWindowEnd f => Sys2Proof.Machine.execRecWindowEnd f s
  | .modulatorCheck ch drift bad => Sys2Proof.Machine.execModulatorCheck ch drift bad s
  | .modulatorSubstitution ch => Sys2Proof.Machine.execModulatorSubstitution ch s
  | .provision src => Sys2Proof.Machine.execProvision src s
  | .load src => Sys2Proof.Machine.execLoad src s
  | .destroy src => Sys2Proof.Machine.execDestroy src s
  | .openSession src => Sys2Proof.Machine.execOpenSession src s
  | .prove src => Sys2Proof.Machine.execProve src s
  | .closeSession src => Sys2Proof.Machine.execCloseSession src s
  | .attest src => Sys2Proof.Machine.execAttest src s
  | .lcAdvance src => Sys2Proof.Machine.execLcAdvance src s
  | .lcReturn src => Sys2Proof.Machine.execLcReturn src s
  | .lcReset src => Sys2Proof.Machine.execLcReset src s
  | .lcTransitionDone => Sys2Proof.Machine.execLcTransitionDone s
  | .sessionLapse src => Sys2Proof.Machine.execSessionLapse src s
  | .authLockoutEnd src => Sys2Proof.Machine.execAuthLockoutEnd src s
  | .rootSlotChange => Sys2Proof.Machine.execRootSlotChange s
  | .blockPacket path b fails => Sys2Proof.Machine.execBlockPacket path b fails s
  | .begin => Sys2Proof.Machine.execBegin s
  | .verify => Sys2Proof.Machine.execVerify s
  | .verifyVerdict => Sys2Proof.Machine.execVerifyVerdict s
  | .updActivate src => Sys2Proof.Machine.execUpdActivate src s
  | .cancelAct => Sys2Proof.Machine.execCancelAct s
  | .activationCheck => Sys2Proof.Machine.execActivationCheck s
  | .activation => Sys2Proof.Machine.execActivation s
  | .confirm src => Sys2Proof.Machine.execConfirm src s
  | .revert src => Sys2Proof.Machine.execRevert src s
  | .confirmTimeout => Sys2Proof.Machine.execConfirmTimeout s
  | .epStart src => Sys2Proof.Machine.execEpStart src s
  | .epStop => Sys2Proof.Machine.execEpStop s
  | .campaignRound c => Sys2Proof.Machine.execCampaignRound c s
  | .fwMap epa id first map l => Sys2Proof.Machine.execFwMap epa id first map l s
  | .fwResult epa id result fw l => Sys2Proof.Machine.execFwResult epa id result fw l s
  | .leaseRenew => Sys2Proof.Machine.execLeaseRenew s
  | .renew l x => Sys2Proof.Machine.execRenew l x s
  | .grant l x => Sys2Proof.Machine.execGrant l x s
  | .renewGrantTimeout => Sys2Proof.Machine.execRenewGrantTimeout s
  | .releaseFrame l x => Sys2Proof.Machine.execReleaseFrame l x s
  | .claim l x => Sys2Proof.Machine.execClaim l x s
  | .leaseExpiry => Sys2Proof.Machine.execLeaseExpiry s
  | .leaseDeadline => Sys2Proof.Machine.execLeaseDeadline s
  | .claimConfirm => Sys2Proof.Machine.execClaimConfirm s
  | .peerOwnChange low => Sys2Proof.Machine.execPeerOwnChange low s
  | .mirrorFrame l x => Sys2Proof.Machine.execMirrorFrame l x s
  | .handover src => Sys2Proof.Machine.execHandover src s
  | .abdicate src => Sys2Proof.Machine.execAbdicate src s
  | .pairResync => Sys2Proof.Machine.execPairResync s
  | .electionTimeout => Sys2Proof.Machine.execElectionTimeout s
  | .releasedReclaim => Sys2Proof.Machine.execReleasedReclaim s
  | .tempSample readings => Sys2Proof.Machine.execTempSample readings s
  | .throttleStep => Sys2Proof.Machine.execThrottleStep s
  | .throttleRestore => Sys2Proof.Machine.execThrottleRestore s
  | .thermalTrip readings => Sys2Proof.Machine.execThermalTrip readings s
  | .tripRelease => Sys2Proof.Machine.execTripRelease s
  | .supplyAlarm rail mv => Sys2Proof.Machine.execSupplyAlarm rail mv s
  | .avsEvaluation slowest count => Sys2Proof.Machine.execAvsEvaluation slowest count s
  | .bufferBankTest b failing bad => Sys2Proof.Machine.execBufferBankTest b failing bad s
  | .laneCheck failing bad => Sys2Proof.Machine.execLaneCheck failing bad s
  | .radioLoopback ch worn bad => Sys2Proof.Machine.execRadioLoopback ch worn bad s
  | .nvmSectorRetire sector bad => Sys2Proof.Machine.execNvmSectorRetire sector bad s
  | .logNvmWrite => Sys2Proof.Machine.execLogNvmWrite s
  | .rateWindowClose c => Sys2Proof.Machine.execRateWindowClose c s
  | .logClear src => Sys2Proof.Machine.execLogClear src s
  | .logFlush => Sys2Proof.Machine.execLogFlush s
  | .logRdSeqWrite seq => Sys2Proof.Machine.execLogRdSeqWrite seq s
  | .optimeSecond => Sys2Proof.Machine.execOptimeSecond s
  | .clearStoreDone => Sys2Proof.Machine.execClearStoreDone s
  | .logClearDone => Sys2Proof.Machine.execLogClearDone s
  | .confirmDone => Sys2Proof.Machine.execConfirmDone s
  | .channelResumes ch => Sys2Proof.Machine.execChannelResumes ch s
  | .vrfRecovered => Sys2Proof.Machine.execVrfRecovered s
  | .usbSetConfiguration on => Sys2Proof.Machine.execUsbSetConfiguration on s
  | .jtagInstruction op => Sys2Proof.Machine.execJtagInstruction op s

end Sys2Proof.Machine
end

