-- ==== Sys2Proof/Machine/Tick.lean ====
section
/-! DEFINITION. What happens where no command waits: one cycle of the clock, and what falls due by time alone. -/

namespace Sys2Proof.Machine

/-! ### No command waits -/

/-- One cycle of CLK_FAB, 2 ns, passes: the model's count of elapsed time rises, and with it FRC where the NTU is powered
(R327). -/
def State.elapse (s : State) : State :=
  { s with clk := s.clk + 1, ntu := if s.up .ntu then { s.ntu with frc := (s.ntu.frc + 1) % 2 ^ 64 } else s.ntu }

/-- A lit output keeps the idle timer from counting (R77). -/
def State.litNow (s : State) : Bool := s.idleCounts && s.anyLit

/-- A window of the clock monitor ends: 32 ember-clock cycles, 976.5625 µs (R20). -/
def State.windowDue (s : State) : Bool := s.coreOn && s.clk * 4 / 1953125 != (s.clk - 1) * 4 / 1953125

/-- What the clock monitor measured in the window that ends is a free value (assumption 141). -/
def State.monitorClock (s : State) : State :=
  s.useFree.withPwr fun p => { p with
    tcxo := (Config.tcxoCount s.free :: p.tcxo).take 2, unlock := max p.unlock (Config.pllUnlock s.free) }

/-- Something falls due by time alone. -/
def State.timeDue (s : State) : Bool := s.windowDue || s.avsDue || s.bankedDue || s.tickDue || s.clampDue ||
  s.litNow || s.accessRetryDue

/-- What time alone brings: the next AVSBus request has its millisecond (R84), the intake of a tick closes (R151), the clamp of an AO
ends (R257), a lit output restarts the idle timer (R77), an access of a RAF or of USB that was answered RETRY is tried again (R373,
R378), and an entry to BANKED ends (Table 3.5). Before all of it a window of the clock monitor may end (R20). -/
def State.timeEvents (s : State) : State :=
  let s := if s.windowDue then s.monitorClock else s
  let s := if s.avsDue then s.avsNext else s
  let s := s.tickOnMirror
  let s := if s.clampDue then aoRefresh s else s
  let s := if s.litNow then s.idleRestart else s
  let s := if s.accessRetryDue then s.retryNow else s
  if s.bankedDue then s.finishBanked else s

/-- One tick of the clock on an empty queue (assumption 124). -/
def State.idleTick (s : State) : State :=
  let t := s.elapse
  if t.timeDue then settle s t.timeEvents else t

end Sys2Proof.Machine
end

