-- ==== Sys2Proof/Safety.lean ====
section
/-! DEFINITION. What every state between commands keeps. -/

namespace Sys2Proof.Machine

/-- No listed word holds a bit that its register does not name; a word of reserved space names none (R6, R58). -/
def State.reservedZero (s : State) : Prop := ∀ x ∈ s.regs, x.2 &&& BitVec.ofNat 32 (namedBits x.1) = x.2

/-- The register store is canonical, so equal register contents are equal data, and its reserved bits are 0. -/
def State.Inv (s : State) : Prop := regsWf s.regs ∧ s.reservedZero

/-- A command code written to the block is carried out: its domain is up and no command of it is PENDING (R15, R28). -/
abbrev State.ready (s : State) (b : Blk) : Prop := s.up b = true ∧ s.cmdStatus b ≠ stPending

/-- CODE of a block's command register takes a code. -/
def State.taken (s : State) (b : Blk) (code : Nat) : State :=
  match b.cmdRegs with
  | some r => s.put r.code code
  | none => s

/-- CMD and STATUS of a block report a command and how it ended (R14). -/
def State.ended (s : State) (b : Blk) (code st : Nat) : State :=
  match b.cmdRegs with
  | some r => (s.put r.cmd code).put r.status st
  | none => s

end Sys2Proof.Machine
end

