-- ==== Sys2Proof/Certificates/Slice0/Obligations.lean ====
section
/-! DEFINITION. The statements for the provers: what each command does where its effect comes about, and what every command
keeps. -/

open Sys2Proof Sys2Proof.Machine

/-- Powering up from EMBER, losing VAUX or VSYS, VSYS returning in BANKED and an ember reset complete, each with the
stated state. POWER_UP records COLD_POWER (and EMBER_POR after an ember reset) and starts cold; VAUX_LOSS cuts a store
operation short and leaves EMBER with only the ember domain's words; VSYS_LOSS loses an armed activation, clamps the
core and leaves BANKED; VSYS_RETURN records its cause and every latched wake source and starts cold; EMBER_RESET
returns the EMB words and the RTC to their reset values. POWER_UP and the restarts by command read the configuration
flash as the command gives it, other starts as it then is (assumption 140). -/
def Obligations.StartsFromSupply : Prop :=
  (∀ (s : State) (flash : Option (List Byte)), s.pwr.mode = .ember →
    exec (.powerUp flash) s = .next (settle s (((((((s.withFlash flash).withPwr fun p =>
      { p with vaux := true, vsys := true, vauxAt := (s.withFlash flash).clk }).put SYS_RST_CAUSE.COLD_POWER 1).putB
      SYS_RST_CAUSE.EMBER_POR (s.withFlash flash).emb.por).withEmb
      fun e => { e with por := false }).coldStart true).offlineEvents))) ∧
  (∀ (s : State), s.pwr.vaux = true →
    exec .vauxLoss s = .next (settle s ((((storeCut (s.noteLoss.noteCounts)).haltEngines false).loseAlwaysOn).withPwr
      fun p =>
      { State.reset.pwr with mode := .ember, snapOld := p.snapOld, vsys := p.vsys }))) ∧
  (∀ (s : State), s.pwr.vaux = true →
    exec .vsysLoss s = .next (settle s ((((s.noteLoss.loseAct).clampCore).reachBanked).withPwr fun p =>
      { p with vsys := false, trigger := false }))) ∧
  (∀ (s : State), s.pwr.mode = .banked → s.pwr.vsys = false →
    exec .vsysReturn s = .next (settle s (((((s.withPwr fun p =>
      { p with vsys := true, latched := 0, wokeAt := some s.clk }).put PWR_WAKE_SRC.SRC (256 ||| s.pwr.latched)).put
      SYS_RST_CAUSE.BANKED_WAKE 1).put SYS_RST_CAUSE.COLD_POWER 1).newFlash.coldStart true))) ∧
  (∀ (s : State), s.pwr.vaux = false →
    exec .emberReset s = .next (settle s ((s.resetRange 0x30000 0x40000).withEmb fun _ =>
      { rtc := 0, secAt := s.clk, queue := [], periodAt := none, por := true, doorAtLoss := 0, tampAtLoss := 0 })))

/-- Where a restart can begin (FIRING, SOAK or SERVICE, with no entry to BANKED going on), SYS_RESTART_COLD records
its cause and starts cold, SYS_RESTART_WARM records WARM_CMD and starts warm as planned, and WATCHDOG and
LOCKSTEP_MISMATCH record theirs and start warm as unplanned, or cold with ESCALATED where another unplanned start came
within 60 s. CLOCK_FAIL acts where the monitor's last two windows are off by more than 122 cycles or the PLL has been
out of lock for more than 10 us, in every mode with the core powered: it releases an owned PAIR_OWN, begins the
monitor anew and starts cold. A trigger that comes during an entry to BANKED is latched with its cause. -/
def Obligations.RestartsByCause : Prop :=
  (∀ (s : State) (flash : Option (List Byte)), s.canRestart = true →
    exec (.sysRestartCold flash) s = .next (settle s (((s.withFlash flash).put SYS_RST_CAUSE.COLD_CMD 1).coldStart
      false))) ∧
  (∀ (s : State) (flash : Option (List Byte)), s.canRestart = true →
    exec (.sysRestartWarm flash) s = .next (settle s (((s.withFlash flash).put SYS_RST_CAUSE.WARM_CMD 1).warmStart
      true))) ∧
  (∀ (s : State), s.canRestart = true → s.escalates = false →
    exec .watchdog s = .next (settle s (((s.put SYS_RST_CAUSE.WATCHDOG 1).noteUnplanned).newFlash.warmStart false))) ∧
  (∀ (s : State), s.canRestart = true → s.escalates = true →
    exec .watchdog s = .next (settle s (((s.put SYS_RST_CAUSE.WATCHDOG 1).put SYS_RST_CAUSE.ESCALATED
      1).newFlash.coldStart false))) ∧
  (∀ (s : State), s.canRestart = true → s.escalates = false →
    exec .lockstepMismatch s = .next (settle s (((s.put SYS_RST_CAUSE.LOCKSTEP 1).noteUnplanned).newFlash.warmStart
      false))) ∧
  (∀ (s : State), s.canRestart = true → s.escalates = true →
    exec .lockstepMismatch s = .next (settle s (((s.put SYS_RST_CAUSE.LOCKSTEP 1).put SYS_RST_CAUSE.ESCALATED
      1).newFlash.coldStart false))) ∧
  (∀ (s : State), s.clockBad = true → s.coreOn = true → s.pwr.entry = none → s.own = false →
    exec .clockFail s = .next (settle s (((s.withPwr fun p => { p with tcxo := [], unlock := 0 }).put
      SYS_RST_CAUSE.CLOCK_FAIL 1).newFlash.coldStart false))) ∧
  (∀ (s : State), s.clockBad = true → s.coreOn = true → (s.letGo stInterrupted).pwr.entry = none → s.own = true →
    exec .clockFail s = .next (settle s ((((s.letGo stInterrupted).withPwr fun p =>
      { p with tcxo := [], unlock := 0 }).put SYS_RST_CAUSE.CLOCK_FAIL 1).newFlash.coldStart false))) ∧
  (∀ (s : State), s.pwr.entry.isSome = true →
    exec .watchdog s = .next (settle s ((s.put SYS_RST_CAUSE.WATCHDOG 1).withPwr fun p =>
      { p with trigger := true })))

/-- PFAIL_N falling writes the snapshot and the staged log records; the periodic snapshot is written in FIRING and
SOAK; SNAPSHOT reports PENDING with the snapshot written, and SNAPSHOT_DONE ends it with DONE. -/
def Obligations.SnapshotsComplete : Prop :=
  (∀ (s : State), s.up .epc = true → s.up .log = true →
    exec .pfail s = .next (settle s ((s.snapshot.flushLog).withPwr fun p => { p with pfail := true }))) ∧
  (∀ (s : State), s.running = true → s.up .epc = true →
    exec .periodicSnapshot s = .next (settle s (s.snapshot.withPwr fun p => { p with pfail := false }))) ∧
  (∀ (s : State), s.ready .epc →
    exec .snapshot s = .next (settle s (((fun t : State => { t with epc := { t.epc with snapping := true } }) (s.taken
      .epc 7).snapshot).ended .epc 7 stPending))) ∧
  (∀ (s : State), s.epc.snapping = true → s.isPending .epc 7 = true →
    exec .snapshotDone s = .next (settle s (finishCmd .epc stDone
      { s with epc := { s.epc with snapping := false } })))

/-- Where the word is answered (R28): an aligned REGISTER_WRITE performs the write at its size; RESERVED_SPACE_ACCESS
records a RESERVED error and a read of it returns 0; an unaligned ACCESS_ERROR records ALIGN, a narrow access that its
register refuses records WIDTH, and a refused read returns all ones; the RAR reads and RC_READ perform the read and
return its value to the requester. -/
def Obligations.WritesAndReadsComplete : Prop :=
  (∀ (s : State) (src : Src) (off : BitVec 26) (sz : Fin 4) (val : BitVec 64), State.reaches s
    { src := src, wr := true, sz := sz.val, off := off.toNat } = true → Access.aligned
    { src := src, wr := true, sz := sz.val, off := off.toNat } = true →
    exec (.registerWrite src off sz val) s = .next (settle s (s.writeAt
      { src := src, wr := true, sz := sz.val, off := off.toNat } val.toNat))) ∧
  (∀ (s : State) (src : Src) (off : BitVec 26) (val : BitVec 64), State.reaches s
    { src := src, wr := false, sz := 2, off := off.toNat } = true → off.toNat % 4 = 0 → regAt off.toNat = none →
    exec (.reservedSpaceAccess src false off 2 val) s = .next (settle s ((s.accErr
      { src := src, wr := false, sz := 2, off := off.toNat } .reserved).reply
      { src := src, wr := false, sz := 2, off := off.toNat } 0))) ∧
  (∀ (s : State) (src : Src) (off : BitVec 26) (val : BitVec 64), State.reaches s
    { src := src, wr := true, sz := 2, off := off.toNat } = true → off.toNat % 4 = 0 → regAt off.toNat = none →
    exec (.reservedSpaceAccess src true off 2 val) s = .next (settle s (s.accErr
      { src := src, wr := true, sz := 2, off := off.toNat } .reserved))) ∧
  (∀ (s : State) (src : Src) (off : BitVec 26) (sz : Fin 4) (val : BitVec 64), State.reaches s
    { src := src, wr := false, sz := sz.val, off := off.toNat } = true → Access.aligned
    { src := src, wr := false, sz := sz.val, off := off.toNat } = false →
    exec (.accessError src false off sz val) s = .next (settle s ((s.accErr
      { src := src, wr := false, sz := sz.val, off := off.toNat } .align).reply
      { src := src, wr := false, sz := sz.val, off := off.toNat } (2 ^ (8 * 2 ^ sz.val) - 1)))) ∧
  (∀ (s : State) (src : Src) (off : BitVec 26) (sz : Fin 4) (val : BitVec 64), State.reaches s
    { src := src, wr := true, sz := sz.val, off := off.toNat } = true → Access.aligned
    { src := src, wr := true, sz := sz.val, off := off.toNat } = false →
    exec (.accessError src true off sz val) s = .next (settle s (s.accErr
      { src := src, wr := true, sz := sz.val, off := off.toNat } .align))) ∧
  (∀ (s : State) (src : Src) (off : BitVec 26) (sz : Fin 4) (val : BitVec 64), State.reaches s
    { src := src, wr := false, sz := sz.val, off := off.toNat } = true → Access.aligned
    { src := src, wr := false, sz := sz.val, off := off.toNat } = true → State.narrowRefused s
    { src := src, wr := false, sz := sz.val, off := off.toNat } = true →
    exec (.accessError src false off sz val) s = .next (settle s ((s.accErr
      { src := src, wr := false, sz := sz.val, off := off.toNat } .width).reply
      { src := src, wr := false, sz := sz.val, off := off.toNat } (2 ^ (8 * 2 ^ sz.val) - 1)))) ∧
  (∀ (s : State) (src : Src) (off : BitVec 26) (sz : Fin 4) (val : BitVec 64), State.reaches s
    { src := src, wr := true, sz := sz.val, off := off.toNat } = true → Access.aligned
    { src := src, wr := true, sz := sz.val, off := off.toNat } = true → State.narrowRefused s
    { src := src, wr := true, sz := sz.val, off := off.toNat } = true →
    exec (.accessError src true off sz val) s = .next (settle s (s.accErr
      { src := src, wr := true, sz := sz.val, off := off.toNat } .width))) ∧
  (∀ (s : State) (src : Src) (off : BitVec 26), State.reaches s { src := src, wr := false, sz := 2, off := off.toNat }
    = true → off.toNat % 4 = 0 → (∃ p, rarOf off.toNat = some (p, false)) →
    exec (.rarLowRead src off) s = .next (settle s ((s.readAt
      { src := src, wr := false, sz := 2, off := off.toNat }).2.reply
      { src := src, wr := false, sz := 2, off := off.toNat } (s.readAt
      { src := src, wr := false, sz := 2, off := off.toNat }).1))) ∧
  (∀ (s : State) (src : Src) (off : BitVec 26), State.reaches s { src := src, wr := false, sz := 2, off := off.toNat }
    = true → off.toNat % 4 = 0 → (∃ p, rarOf off.toNat = some (p, true)) →
    exec (.rarHighRead src off) s = .next (settle s ((s.readAt
      { src := src, wr := false, sz := 2, off := off.toNat }).2.reply
      { src := src, wr := false, sz := 2, off := off.toNat } (s.readAt
      { src := src, wr := false, sz := 2, off := off.toNat }).1))) ∧
  (∀ (s : State) (src : Src) (off : BitVec 26), State.reaches s { src := src, wr := false, sz := 3, off := off.toNat }
    = true → off.toNat % 4 = 0 → (∃ p, rarOf off.toNat = some (p, false)) →
    exec (.rarPairRead src off) s = .next (settle s ((s.readAt
      { src := src, wr := false, sz := 3, off := off.toNat }).2.reply
      { src := src, wr := false, sz := 3, off := off.toNat } (s.readAt
      { src := src, wr := false, sz := 3, off := off.toNat }).1))) ∧
  (∀ (s : State) (src : Src) (off : BitVec 26), State.reaches s { src := src, wr := false, sz := 2, off := off.toNat }
    = true → off.toNat % 4 = 0 → rcMask off.toNat ≠ 0 →
    exec (.rcRead src off) s = .next (settle s ((s.readAt
      { src := src, wr := false, sz := 2, off := off.toNat }).2.reply
      { src := src, wr := false, sz := 2, off := off.toNat } (s.readAt
      { src := src, wr := false, sz := 2, off := off.toNat }).1)))

/-- With its block up, each read row whose word latches others (the digest, the RTC, local and network times, the
free-running counter, the transition time, the result blocks, the join record) performs the read and returns its value
to the requester, as one 32-bit or one 64-bit access. -/
def Obligations.LatchReadsComplete : Prop :=
  (∀ (s : State) (src : Src), s.up .cfg = true →
    exec (.cfgDigestRead src) s = .next (settle s ((s.readAt
      { src := src, wr := false, sz := 2, off := CFG_DIGEST.adr 0 }).2.reply
      { src := src, wr := false, sz := 2, off := CFG_DIGEST.adr 0 } (s.readAt
      { src := src, wr := false, sz := 2, off := CFG_DIGEST.adr 0 }).1))) ∧
  (∀ (s : State) (src : Src) (wide : Bool), s.up .emb = true → ((src == .hspi) = false ∨ s.pwr.vauxAt + 61 * usec ≤
    s.clk) →
    exec (.embRtcTimeRead src wide) s = .next (settle s ((s.readAt
      { src := src, wr := false, sz := if wide then 3 else 2, off := EMB_RTC_TIME.adr }).2.reply
      { src := src, wr := false, sz := if wide then 3 else 2, off := EMB_RTC_TIME.adr } (s.readAt
      { src := src, wr := false, sz := if wide then 3 else 2, off := EMB_RTC_TIME.adr }).1))) ∧
  (∀ (s : State) (src : Src) (wide : Bool), s.up .sch = true →
    exec (.schLocalTimeRead src wide) s = .next (settle s ((s.readAt
      { src := src, wr := false, sz := if wide then 3 else 2, off := SCH_LOCAL_TIME.adr }).2.reply
      { src := src, wr := false, sz := if wide then 3 else 2, off := SCH_LOCAL_TIME.adr } (s.readAt
      { src := src, wr := false, sz := if wide then 3 else 2, off := SCH_LOCAL_TIME.adr }).1))) ∧
  (∀ (s : State) (src : Src) (wide : Bool), s.up .sch = true →
    exec (.schNextLitRead src wide) s = .next (settle s ((s.readAt
      { src := src, wr := false, sz := if wide then 3 else 2, off := SCH_NEXT_LIT_LO.adr }).2.reply
      { src := src, wr := false, sz := if wide then 3 else 2, off := SCH_NEXT_LIT_LO.adr } (s.readAt
      { src := src, wr := false, sz := if wide then 3 else 2, off := SCH_NEXT_LIT_LO.adr }).1))) ∧
  (∀ (s : State) (src : Src) (wide : Bool), s.up .lfe = true →
    exec (.lfeTickNtRead src wide) s = .next (settle s ((s.readAt
      { src := src, wr := false, sz := if wide then 3 else 2, off := LFE_TICK_NT_LO.adr }).2.reply
      { src := src, wr := false, sz := if wide then 3 else 2, off := LFE_TICK_NT_LO.adr } (s.readAt
      { src := src, wr := false, sz := if wide then 3 else 2, off := LFE_TICK_NT_LO.adr }).1))) ∧
  (∀ (s : State) (src : Src) (wide : Bool), s.up .ntu = true →
    exec (.ntuTimeRead src wide) s = .next (settle s ((s.readAt
      { src := src, wr := false, sz := if wide then 3 else 2, off := NTU_TIME_LO.adr }).2.reply
      { src := src, wr := false, sz := if wide then 3 else 2, off := NTU_TIME_LO.adr } (s.readAt
      { src := src, wr := false, sz := if wide then 3 else 2, off := NTU_TIME_LO.adr }).1))) ∧
  (∀ (s : State) (src : Src) (wide : Bool), s.up .ntu = true →
    exec (.ntuFrcRead src wide) s = .next (settle s ((s.readAt
      { src := src, wr := false, sz := if wide then 3 else 2, off := NTU_FRC_LO.adr }).2.reply
      { src := src, wr := false, sz := if wide then 3 else 2, off := NTU_FRC_LO.adr } (s.readAt
      { src := src, wr := false, sz := if wide then 3 else 2, off := NTU_FRC_LO.adr }).1))) ∧
  (∀ (s : State) (src : Src), s.up .epc = true →
    exec (.epcJoinEpaRead src) s = .next (settle s ((s.readAt
      { src := src, wr := false, sz := 2, off := EPC_JOIN_EPA.adr }).2.reply
      { src := src, wr := false, sz := 2, off := EPC_JOIN_EPA.adr } (s.readAt
      { src := src, wr := false, sz := 2, off := EPC_JOIN_EPA.adr }).1))) ∧
  (∀ (s : State) (src : Src) (slot : Option (Fin 64)) (wide : Bool), s.up .trn = true →
    exec (.trnTimeRead src slot wide) s = .next (settle s ((s.readAt
      { src := src, wr := false, sz := if wide then 3 else 2, off := trnTimeWord (slot.map Fin.val) }).2.reply
      { src := src, wr := false, sz := if wide then 3 else 2, off := trnTimeWord (slot.map Fin.val) } (s.readAt
      { src := src, wr := false, sz := if wide then 3 else 2, off := trnTimeWord (slot.map Fin.val) }).1))) ∧
  (∀ (s : State) (src : Src) (blk : Fin 16), s.up .mtr = true →
    exec (.mtrResultRead src blk) s = .next (settle s ((s.readAt
      { src := src, wr := false, sz := 2, off := mtrBlockWord blk.val }).2.reply
      { src := src, wr := false, sz := 2, off := mtrBlockWord blk.val } (s.readAt
      { src := src, wr := false, sz := 2, off := mtrBlockWord blk.val }).1)))

/-- EVT_HOLDOFF_END ends an open hold-off and sends the event frame kept back if its summary bit is still 1; MODULE_HB
on a live port counts the frame, authenticates it and reports a second module of the segment; MODULE_HB_SEND sends
when its interval is over; HOST_HB counts its frame and, where it is accepted, is a heartbeat here and at the
positions it names; PWR_HEARTBEAT from HSPI restarts the SOAK timer; SOAK_TIMEOUT enters SOAK; IDLE_WARN flags the
nearing end of the idle time, and IDLE_TIMEOUT restarts the timer while an output is lit, and otherwise begins the
entry to BANKED. -/
def Obligations.ReportsComplete : Prop :=
  (∀ (s : State) (b : Fin 32), (s.sys.evtHold.any (fun x => x.1 == b.val && x.2 ≤ s.clk) = true) →
    exec (.evtHoldoffEnd b) s = .next (settle s ((fun t : State => if s.sys.evtPend.contains b.val && t.bit
      SYS_IRQ_CTL.EVT_EN && t.summary b.val then t.sendEvent b.val else t)
      { s with sys := { s.sys with evtHold := s.sys.evtHold.filter (·.1 != b.val), evtPend := s.sys.evtPend.filter (· != b.val) } })))
        ∧
  (∀ (s : State) (p : Fin 2) (b : List Byte), s.bbUp p.val = true →
    exec (.moduleHb p b) s = .next (settle s ((fun u : State =>
      if (u.rafAuth b).1 && u.bit SYS_ID_SEG.VALID && leAt b 8 2 % 2 ^ 14 == u.seg &&
        !(u.bit PAIR_CFG.EN && leAt b 20 8 == u.peerSerial) then (u.rafAuth b).2.segDup (leAt b 20 8) else (u.rafAuth
          b).2)
      (s.bump (BBN_PORT_RX.FRAMES p.val))))) ∧
  (∀ (s : State), s.bbOn = true → s.bit BBN_HB_CFG.EN = true → (s.bb.hbAt = none ∨ ∃ t, s.bb.hbAt = some t ∧ t +
    clampN 100 60000 (s.fld BBN_HB_CFG.MS) * msec ≤ s.clk) →
    exec .moduleHbSend s = .next (settle s ((s.withBb fun b => { b with hbAt := some s.clk }).rafSend rafModuleHb
      s.hbBody))) ∧
  (∀ (s : State) (p : Fin 2) (b : List Byte), s.bbUp p.val = true →
    exec (.hostHb p b) s = .next (settle s ((fun r : Bool × State =>
      if !r.1 || leAt b 3 1 != rafHostHb then r.2
      else (fun u : State => (u.hbTargets (leAt b 10 1)).foldl (fun (t : State) k =>
        if t.reachable k then t.sendReq k (opBytes 2 PWR_HEARTBEAT.adr 1) .heartbeat else t) u)
        (if leAt b 10 1 = 255 ∨ leAt b 10 1 = r.2.pos then r.2.heartbeat else r.2))
      ((s.bump (BBN_PORT_RX.FRAMES p.val)).rafAccept b)))) ∧
  (∀ (s : State), s.up .pwr = true →
    exec (.pwrHeartbeat .hspi) s = .next (settle s (s.heartbeat))) ∧
  (∀ (s : State), s.pwr.mode = .firing → s.pwr.soakFrom + clampN 1 3600 (s.fld PWR_SOAK_TO.SEC) * secs ≤ s.clk →
    exec .soakTimeout s = .next (settle s (s.setMode .soak))) ∧
  (∀ (s : State), s.idleDue (60 * secs) = true → s.pwr.idleWarned = false → s.anyLit = false →
    exec .idleWarn s = .next (settle s ((s.raise PWR_IRQ_STAT.IDLE_WARN).withPwr fun p =>
      { p with idleWarned := true }))) ∧
  (∀ (s : State), s.idleDue 0 = true → s.anyLit = true →
    exec .idleTimeout s = .next (settle s (s.idleRestart))) ∧
  (∀ (s : State), s.idleDue 0 = true → s.anyLit = false → s.bankedRefused = false →
    exec .idleTimeout s = .next (settle s (s.beginBanked)))

/-- Accepted by CFG with its domain up and no command of it pending (R15), STORE outside KINDLING collects the triples
of the configuration that differ from the baseline, with the join records of that moment, and stays PENDING where an
image is accepted and they are 10,240 or fewer (R54, R56). CLEAR_STORE stays PENDING, DIGEST_REQ stays PENDING from
its instant. STORE_DONE puts three equal copies in place, clears CONFLICT and STORE_STALE, ends the join records that
the STORE collected and reports DONE; that STORE_APPLIED and CFG_STORE_GEN then name the new store is the model's
choice (assumption 117). DIGEST_REQ_DONE publishes the digest over the requested sets when none of them is stale and
50 ms have not passed, the sets being those of CFG_REQ_MASK at that moment by the model's choice (assumption 116).
DIGEST_REQ_TIMEOUT reports TIMEOUT once 50 ms have passed. DIGEST_UPDATE computes the stale digests. -/
def Obligations.ConfigurationCommandsComplete : Prop :=
  (∀ (s : State) (i : Nat × Nat × Nat × Nat), s.ready .cfg → s.pwr.mode ≠ .kindling → s.cfg.image = some i → (s.taken
    .cfg 1).triples.length ≤ 10240 →
    exec .store s = .next (settle s (((fun t : State => { t with cfg := { t.cfg with
        storing := some (copyBytes ((t.cfg.lastGen + 1) % 2 ^ 32) i.1 i.2.1 t.triples), storeJoins := t.epc.joins } })
      (s.taken .cfg 1)).ended .cfg 1 stPending))) ∧
  (∀ (s : State) (b : List Byte), s.up .cfg = true → s.cfg.storing = some b →
    exec .storeDone s = .next (settle s (finishCmd .cfg stDone ((((((
      { s with cfg := { s.cfg with areas := [.bytes b, .bytes b, .bytes b], storing := none, storeJoins := [], lastGen := leAt b 4 4 },
               epc := { s.epc with joins := s.epc.joins.filter fun x => !s.cfg.storeJoins.contains x } } : State).put
      CFG_STAT.CONFLICT 0).put CFG_STAT.STORE_STALE 0).put
      CFG_STAT.STORE_APPLIED 1).put CFG_STORE_GEN.GEN (leAt b 4 4)).pubEpoch)))) ∧
  (∀ (s : State), s.ready .cfg →
    exec .clearStore s = .next (settle s ((s.taken .cfg 2).ended .cfg 2 stPending))) ∧
  (∀ (s : State), s.ready .cfg →
    exec .digestReq s = .next (settle s (((fun t : State => { t with cfg := { t.cfg with reqAt := some s.clk } })
      (s.taken .cfg 3)).ended .cfg 3 stPending))) ∧
  (∀ (s : State) (a : Nat), s.up .cfg = true → s.isPending .cfg 3 = true → s.reqStale = false → s.cfg.reqAt = some a →
    s.clk ≤ a + 50 * msec →
    exec .digestReqDone s = .next (settle s (finishCmd .cfg stDone ((fun t : State =>
      { t with cfg := { t.cfg with reqAt := none } }) (s.putDigest CFG_REQ_DIGEST.WORD (s.digestOver s.reqMask)))))) ∧
  (∀ (s : State) (a : Nat), s.up .cfg = true → s.isPending .cfg 3 = true → s.cfg.reqAt = some a → a + 50 * msec <
    s.clk →
    exec .digestReqTimeout s = .next (settle s (finishCmd .cfg stTimeout ((fun t : State =>
      { t with cfg := { t.cfg with reqAt := none } }) (s))))) ∧
  (∀ (s : State), s.up .cfg = true → s.cfg.stale ≠ [] →
    exec .digestUpdate s = .next (settle s (s.redigest)))

/-- Accepted by PWR with no command pending: ENTER_SERVICE from FIRING or SOAK under a session enters SERVICE with the
confirmation count paused; LEAVE_SERVICE under an accepted image goes to SOAK under an island order and otherwise to
FIRING and restarts the SOAK and idle timers; ISLAND sets the order and turns FIRING to SOAK; UNISLAND clears it and
turns SOAK to FIRING; each reports DONE; ENTER_BANKED under a session and where no condition refuses it begins the
entry and is PENDING until BANKED is reached. -/
def Obligations.ModeCommandsComplete : Prop :=
  (∀ (s : State) (src : Src) (a : State), s.ready .pwr → (s.taken .pwr 1).authorise src = some a → a.running = true →
    a.pwr.entry = none →
    exec (.enterService src) s = .next (settle s ((((a.confirmPause).setMode .service).modeFollow).ended .pwr 1
      stDone))) ∧
  (∀ (s : State), s.ready .pwr → s.pwr.mode = .service → (s.taken .pwr 2).bit CFG_STAT.IMG_OK = true → s.pwr.entry =
    none →
    exec .leaveService s = .next (settle s (((fun t : State => ((((t.withPwr fun p =>
      { p with soakFrom := t.clk }).idleRestart).confirmResume).verifyAgain).modeFollow)
      (((s.taken .pwr 2).setMode (if (s.taken .pwr 2).island then .soak else .firing)).toFiring)).ended .pwr 2
        stDone))) ∧
  (∀ (s : State), s.ready .pwr → s.pwr.mode = .firing →
    exec .island s = .next (settle s ((((s.taken .pwr 3).put PWR_STAT.ISLAND 1).setMode .soak).ended .pwr 3 stDone)))
      ∧
  (∀ (s : State), s.ready .pwr → s.pwr.mode ≠ .firing →
    exec .island s = .next (settle s (((s.taken .pwr 3).put PWR_STAT.ISLAND 1).ended .pwr 3 stDone))) ∧
  (∀ (s : State), s.ready .pwr → s.pwr.mode = .soak →
    exec .unisland s = .next (settle s (((((s.taken .pwr 4).put PWR_STAT.ISLAND 0).setMode .firing).toFiring).ended
      .pwr 4 stDone))) ∧
  (∀ (s : State), s.ready .pwr → s.pwr.mode ≠ .soak →
    exec .unisland s = .next (settle s (((s.taken .pwr 4).put PWR_STAT.ISLAND 0).ended .pwr 4 stDone))) ∧
  (∀ (s : State) (src : Src) (a : State), s.ready .pwr → (s.taken .pwr 5).authorise src = some a → a.canRestart = true
    → a.bankedRefused = false →
    exec (.enterBanked src) s = .next (settle s ((a.beginBanked).ended .pwr 5 stPending)))

/-- In BANKED with VSYS present and the source enabled: WAKE_WSP at the module's address is acknowledged and wakes;
WAKE_FIO on a selected edge, WAKE_MZ, WAKE_HSPI and a TEP WAKE of the module's SEG and CODE wake; a wake records its
enabled sources and starts cold, and one that comes during an entry to BANKED is latched. WSP_READ outside BANKED and
EMBER answers PWR_STAT[7:0]; RC0_LISTEN samples when due; AVS_ACK records the acknowledged voltage and goes on to the
target; AVS_ATTEMPT_TIMEOUT repeats, and after the third attempt keeps the voltage and reports AVS_FAIL. -/
def Obligations.WakesComplete : Prop :=
  (∀ (s : State) (adr : BitVec 7) , s.pwr.mode = .banked → s.pwr.vsys = true → s.pwr.entry = none → 1 &&& (s.fld
    PWR_WAKE_EN.EN ||| 2 ^ 8) = 1 → adr.toNat = s.fld PWR_WSP_ADDR.ADDR → s.pwr.vaux = true →
    exec (.wakeWsp adr) s = .next (settle s ((s.emit .wsp []).wakeStart 1))) ∧
  (∀ (s : State) (n : Fin 8) (rising : Bool) , s.pwr.mode = .banked → s.pwr.vsys = true → s.pwr.entry = none → 16 &&&
    (s.fld PWR_WAKE_EN.EN ||| 2 ^ 8) = 16 → bitOf (s.fld PWR_WAKE_FIO.SEL) n.val = true → bitOf (s.fld
    PWR_WAKE_FIO.EDGE) n.val = rising →
    exec (.wakeFio n rising) s = .next (settle s ((s).wakeStart 16))) ∧
  (∀ (s : State), s.pwr.mode = .banked → s.pwr.vsys = true → s.pwr.entry = none → 64 &&& (s.fld PWR_WAKE_EN.EN ||| 2 ^
    8) = 64 →
    exec .wakeMz s = .next (settle s ((s).wakeStart 64))) ∧
  (∀ (s : State), s.pwr.mode = .banked → s.pwr.vsys = true → s.pwr.entry = none → 128 &&& (s.fld PWR_WAKE_EN.EN ||| 2
    ^ 8) = 128 →
    exec .wakeHspi s = .next (settle s ((s).wakeStart 128))) ∧
  (∀ (s : State), s.pwr.entry.isSome = true → 64 &&& (s.fld PWR_WAKE_EN.EN ||| 2 ^ 8) = 64 →
    exec .wakeMz s = .next (settle s (s.withPwr fun p => { p with latched := p.latched ||| 64 }))) ∧
  (∀ (s : State) (seg : BitVec 16) (code : BitVec 16) , s.pwr.mode = .banked → s.pwr.vsys = true → s.pwr.entry = none
    → 32 &&& (s.fld PWR_WAKE_EN.EN ||| 2 ^ 8) = 32 → s.rc0Hears = true → seg.toNat = s.fld SYS_ID_SEG.SEG → code.toNat
    = s.fld PWR_RC0_CODE.CODE →
    exec (.wake seg code) s = .next (settle s ((s).wakeStart 32))) ∧
  (∀ (s : State) (adr : BitVec 7), s.pwr.mode ≠ .ember → s.pwr.mode ≠ .banked → adr.toNat = s.fld PWR_WSP_ADDR.ADDR →
    exec (.wspRead adr) s = .next (settle s (s.emit .wsp (leBytes 1 (s.rd PWR_STAT.adr))))) ∧
  (∀ (s : State), s.rc0On = true → (s.pwr.rc0At = none ∨ ∃ t, s.pwr.rc0At = some t ∧ t + s.rc0Time ≤ s.clk) →
    exec .rc0Listen s = .next (settle s (s.withPwr fun p => { p with rc0At := some s.clk }))) ∧
  (∀ (s : State) (r : AvsReq), s.pwr.avsReq = some r → r.waits = none → s.pwr.avsTarget = r.req →
    exec .avsAck s = .next (settle s (((s.put PWR_AVS_STAT.MV r.req).put PWR_AVS_STAT.FAIL 0).withPwr fun p =>
      { p with avsReq := none, avsAcked := true }))) ∧
  (∀ (s : State) (r : AvsReq), s.pwr.avsReq = some r → r.waits = none → s.pwr.avsTarget ≠ r.req →
    exec .avsAck s = .next (settle s ((((s.put PWR_AVS_STAT.MV r.req).put PWR_AVS_STAT.FAIL 0).withPwr fun p =>
      { p with avsReq := none, avsAcked := true }).avsSend
      { req := avsStep r.req s.pwr.avsTarget, tries := 1, waits := none }))) ∧
  (∀ (s : State) (r : AvsReq), s.pwr.avsReq = some r → r.waits = none → r.tries < 3 →
    exec .avsAttemptTimeout s = .next (settle s (s.avsSend { r with tries := r.tries + 1 }))) ∧
  (∀ (s : State) (r : AvsReq), s.pwr.avsReq = some r → r.waits = none → 3 ≤ r.tries → s.pwr.avsAcked = true →
    exec .avsAttemptTimeout s = .next (settle s (((((s.withPwr fun p =>
      { p with avsReq := none, avsTarget := s.fld PWR_AVS_STAT.MV }).put PWR_AVS_STAT.MV (s.fld PWR_AVS_STAT.MV)).put
      PWR_AVS_STAT.FAIL 1).raise PWR_IRQ_STAT.AVS_FAIL).logEv 2 1 (leBytes 2 s.pwr.avsTarget ++ leBytes 2 (s.fld
        PWR_AVS_STAT.MV)))))

/-- EMB_MIRROR_WRITE of a mirrored word enters the write queue or, when four writes wait, sets WLOST; EMB_WRITE_LAND
takes the oldest write, which lands, with the alarms of the second that it begins, or sets BADVAL; CAPTURE captures
and reports DONE; RTC_SECOND enters the next second and wakes by the alarms that match; a due PERIODIC_WAKE fires and
wakes; DOOR_EVENT and TAMPER_EVENT count and record, and TAMPER_EVENT with ERASE clears the backup registers;
PWR_ON_WRITE queues a write of EMB_PWRON_CTL; VBAT_MEASURE follows VBAT_LOW with its hysteresis. -/
def Obligations.EmberCommandsComplete : Prop :=
  (∀ (s : State) (off : BitVec 26) (val : Word) (pair : Option Word), s.up .emb = true → isMirror off.toNat = true →
    isAlarm1 off.toNat = false → s.emb.queue.length < 4 →
    exec (.embMirrorWrite off val pair) s = .next (settle s ((s.withEmb fun e =>
      { e with queue := e.queue ++ [{ adr := off.toNat, val := val, pair := pair, own := false }] }).put
      EMB_STAT.WBUSY 1))) ∧
  (∀ (s : State) (off : BitVec 26) (val : Word) (pair : Option Word), s.up .emb = true → isMirror off.toNat = true →
    isAlarm1 off.toNat = false → 4 ≤ s.emb.queue.length →
    exec (.embMirrorWrite off val pair) s = .next (settle s (s.put EMB_STAT.WLOST 1))) ∧
  (∀ (s : State) (w : EmbWrite) (l : List EmbWrite) , s.up .emb = true → s.emb.queue = w :: l → w.bad = false →
    exec .embWriteLand s = .next (settle s ((fun t : State => State.alarmWake (((t.withEmb fun e =>
      { e with queue := l }).putB EMB_STAT.WBUSY (!l.isEmpty)).embLand w)) s))) ∧
  (∀ (s : State) (w : EmbWrite) (l : List EmbWrite) , s.up .emb = true → s.emb.queue = w :: l → w.bad = true →
    exec .embWriteLand s = .next (settle s ((fun t : State => State.alarmWake ([], ((t.withEmb fun e =>
      { e with queue := l }).putB EMB_STAT.WBUSY (!l.isEmpty)).put EMB_STAT.BADVAL 1)) s))) ∧
  (∀ (s : State), s.ready .emb →
    exec .capture s = .next (settle s (((s.taken .emb 1).capture).ended .emb 1 stDone))) ∧
  (∀ (s : State),
    exec .rtcSecond s = .next (settle s (s.rtcTick.2.wake ((if s.rtcTick.1.contains 0 then 2 else 0) + (if
      s.rtcTick.1.contains 1 then 4 else 0))))) ∧
  (∀ (s : State), s.periodDue = true →
    exec .periodicWake s = .next (settle s (s.periodFire.wake 8))) ∧
  (∀ (s : State),
    exec .doorEvent s = .next (settle s ((fun t : State => if t.bit EMB_TAMP_CTL.WAKE then t.wake 512 else t)
      s.doorFire))) ∧
  (∀ (s : State),
    exec .tamperEvent s = .next (settle s ((fun t : State => if t.bit EMB_TAMP_CTL.ERASE then (List.range 32).foldl
      (fun t k => t.put (EMB_BKP.DATA k) 0) t else t)
      (((s.bump EMB_EVT_CNT.TAMPER).embEvent true).raise EMB_IRQ_STAT.TAMPER)))) ∧
  (∀ (s : State) (on : BitVec 3), s.up .emb = true → s.emb.queue.length < 4 →
    exec (.pwrOnWrite on) s = .next (settle s ((s.withEmb fun e =>
      { e with queue := e.queue ++ [{ adr := EMB_PWRON_CTL.adr, val := BitVec.ofNat 32 (on.toNat % 8 * 2), pair := none, own := false }] }).put
      EMB_STAT.WBUSY 1))) ∧
  (∀ (s : State) (mv : BitVec 16), s.domUp .alwaysOn = true → mv.toNat < 2000 → s.bit EMB_STAT.VBAT_LOW = false →
    exec (.vbatMeasure mv) s = .next (settle s ((s.put EMB_STAT.VBAT_LOW 1).raise EMB_IRQ_STAT.VBAT_LOW))) ∧
  (∀ (s : State) (mv : BitVec 16), s.domUp .alwaysOn = true → 2100 ≤ mv.toNat →
    exec (.vbatMeasure mv) s = .next (settle s (s.put EMB_STAT.VBAT_LOW 0)))

/-- Accepted by EPC for the context that EPC_CMD_ARG0 names: ACTIVATE of an EMPTY context whose class and reach agree,
are not held by another and not refused makes a radio endpoint RESERVED and any other ACTIVE; SUSPEND of a context
RESERVED or ACTIVE makes it SUSPENDED; RESUME of a SUSPENDED one makes it ACTIVE where it is joined or no radio,
otherwise RESERVED; REPLACE of a wired context in service takes the new EUI, clears its reports and makes it ACTIVE;
REMOVE sends LEAVE, saves the energy and clears the context; CLEAR_FAULT clears its active faults. Each reports DONE,
and gear that came into service is commissioned. -/
def Obligations.EndpointCommandsComplete : Prop :=
  (∀ (s : State) (t : State) (e : Nat), s.ready .epc → t = s.taken .epc 1 → e = t.fld EPC_CMD_ARG0.EPA → t.epState e =
    stEmpty → classOk (t.fld (EPC_STATE.CLASS e)) (t.reach e) (t.fld (EPC_REACH.PORT e)) (t.fld (EPC_REACH.ADDR e)) =
    true → t.duplicate e (t.euiOf e) = false → t.reachRefused e = false →
    exec .activate s = .next (settle s ((((fun v : State => v.setEpState e (if v.isRadio e then stReserved else
      stActive)) (t.setRun { t.run e with heardAt := t.clk })).ended .epc 1 stDone).commissionNew))) ∧
  (∀ (s : State) (t : State) (e : Nat), s.ready .epc → t = s.taken .epc 2 → e = t.fld EPC_CMD_ARG0.EPA → (t.epState e
    = stReserved ∨ t.epState e = stActive) →
    exec .suspend s = .next (settle s ((t.setEpState e stSuspended).ended .epc 2 stDone))) ∧
  (∀ (s : State) (t : State) (e : Nat), s.ready .epc → t = s.taken .epc 3 → e = t.fld EPC_CMD_ARG0.EPA → t.epState e =
    stSuspended →
    exec .resume s = .next (settle s (((t.setEpState e (if t.bit (EPC_SEC.JOINED e) || !t.isRadio e then stActive else
      stReserved)).ended .epc 3 stDone).commissionNew))) ∧
  (∀ (s : State) (t v w : State) (e : Nat), s.ready .epc → t = s.taken .epc 4 → e = t.fld EPC_CMD_ARG0.EPA → t.epLive
    e = true → t.isRadio e = false → v = ((t.put (EPC_EUI_LO.EUI_LO e) (t.fld EPC_CMD_ARG1.EUI_LO + 2 ^ 32 * t.fld
    EPC_CMD_ARG2.EUI_HI)).put (EPC_EUI_HI.EUI_HI e)
      ((t.fld EPC_CMD_ARG1.EUI_LO + 2 ^ 32 * t.fld EPC_CMD_ARG2.EUI_HI) / 2 ^ 32)).clearReports e → w = v.setRun
        { v.run e with baseline := true, mismatches := 0, energyAt := none, energyNt := none, heardAt := v.clk } →
        w.isRadio e = false →
    exec .replace s = .next (settle s ((((w.setEpState e stActive).joinRecord e).ended .epc 4 stDone).commissionNew)))
      ∧
  (∀ (s : State) (t : State) (e : Nat), s.ready .epc → t = s.taken .epc 5 → e = t.fld EPC_CMD_ARG0.EPA → t.epLive e =
    true →
    exec .remove s = .next (settle s ((((((t.sendLeave e).saveEnergy e).clearCtx e).dropLinkKey e).joinRecord e).ended
      .epc 5 stDone))) ∧
  (∀ (s : State) (t : State) (e : Nat), s.ready .epc → t = s.taken .epc 6 → e = t.fld EPC_CMD_ARG0.EPA → t.epLive e =
    true →
    exec .epcClearFault s = .next (settle s ((t.put (EPC_FAULT_ACT.ACTIVE e) 0).ended .epc 6 stDone)))

/-- With EPC up: a JOIN_REQ without an extended source, or from an unknown EUI with joining closed, counts
UNKNOWN_SRC; one from the EUI of a context in service begins its join; one from an unknown EUI of a radio class with
joining open takes a context. JOIN_LAPSE of a join past its deadline clears a context taken by open joining, and
otherwise restores the generation and state and raises fault 0x85; REKEY_RETRY rekeys when due; JOIN_OPEN_EXPIRY
clears OPEN. -/
def Obligations.JoiningCompletes : Prop :=
  (∀ (s : State) (ch : Fin 8) (eui : BitVec 64) (cls : BitVec 8) (nonce : List Byte), s.up .epc = true →
    exec (.joinReq ch false eui cls nonce) s = .next (settle s (s.bump EPC_RX_DROP.UNKNOWN_SRC))) ∧
  (∀ (s : State) (ch : Fin 8) (eui : BitVec 64) (cls : BitVec 8) (nonce : List Byte) (n : Nat), s.up .epc = true →
    s.holder eui.toNat = some n →
    exec (.joinReq ch true eui cls nonce) s = .next (settle s ((s.beginJoin n (if s.epState n = stReserved then 1 else
      2) (s.epState n) nonce).idleRestart))) ∧
  (∀ (s : State) (ch : Fin 8) (eui : BitVec 64) (cls : BitVec 8) (nonce : List Byte), s.up .epc = true → s.holder
    eui.toNat = none → s.bit EPC_JOIN_CTL.OPEN = true → radioClass cls.toNat = true →
    exec (.joinReq ch true eui cls nonce) s = .next (settle s (s.openJoin ch.val eui.toNat cls.toNat nonce))) ∧
  (∀ (s : State) (ch : Fin 8) (eui : BitVec 64) (cls : BitVec 8) (nonce : List Byte), s.up .epc = true → s.holder
    eui.toNat = none → s.bit EPC_JOIN_CTL.OPEN = false →
    exec (.joinReq ch true eui cls nonce) s = .next (settle s (s.bump EPC_RX_DROP.UNKNOWN_SRC))) ∧
  (∀ (s : State) (epa : Fin 4096) (j : JoinPend), (s.run epa.val).join = some j → j.deadline ≤ s.clk → s.up .epc =
    true → s.standby = false → j.kind = 3 →
    exec (.joinLapse epa) s = .next (settle s ((s.clearCtx epa.val).dropLinkKey epa.val))) ∧
  (∀ (s : State) (epa : Fin 4096) (j : JoinPend), (s.run epa.val).join = some j → j.deadline ≤ s.clk → s.up .epc =
    true → s.standby = false → j.kind ≠ 3 →
    exec (.joinLapse epa) s = .next (settle s ((fun t : State => (if t.bit (EPC_SEC.JOINED epa.val) then t.deriveLink
      epa.val else t.dropLinkKey epa.val).raiseFault epa.val 0x85 0)
      ((((s.setRun
        { s.run epa.val with join := none, rekeyAt := if j.kind = 4 then some (s.clk + 60 * secs) else none }).put
        (EPC_RPT_FLAGS.JOIN_PENDING epa.val) 0).put (EPC_SEC.KEY_GEN epa.val) j.oldGen).setEpState epa.val
          j.oldState)))) ∧
  (∀ (s : State), s.up .epc = true → s.bit EPC_JOIN_CTL.OPEN = true → s.epc.openAt + clampN 1 1440 (s.fld
    EPC_JOIN_CTL.OPEN_MIN) * 60 * secs ≤ s.clk →
    exec .joinOpenExpiry s = .next (settle s (s.put EPC_JOIN_CTL.OPEN 0))) ∧
  (∀ (s : State) (epa : Fin 4096) (a : Nat), (s.run epa.val).rekeyAt = some a → a ≤ s.clk → s.up .epc = true →
    s.mayCommand = true →
    exec (.rekeyRetry epa) s = .next (settle s ((s.setRun { s.run epa.val with rekeyAt := none }).rekey epa.val)))

/-- A write of a membership word that changes it in a radio context in service queues GROUPS, and one of any other
available context only stores it; a write of EPC_REPORT_CFG stores it, and queues CONFIG for each changed interval of
a joined radio endpoint; GROUPS_REPEAT, CONFIG_REPEAT and RESYNC_REPEAT send again 30 s after the last; CFG_ACK of an
endpoint in service ends what it acknowledges. -/
def Obligations.EndpointConfigurationCompletes : Prop :=
  (∀ (s : State) (epa : Fin 4096) (w : Fin 8) (val : Word) (t : State), s.up .epc = true → s.epState epa.val ≠
    stUnavailable → t = s.put (EPC_GRP.MEMBER epa.val w.val) val.toNat → (t.epLive epa.val && t.isRadio epa.val) =
    false →
    exec (.epcGrpWrite epa w val) s = .next (settle s (t))) ∧
  (∀ (s : State) (epa : Fin 4096) (w : Fin 8) (val : Word) (t : State), s.up .epc = true → s.epState epa.val ≠
    stUnavailable → s.fld (EPC_GRP.MEMBER epa.val w.val) ≠ val.toNat → t = s.put (EPC_GRP.MEMBER epa.val w.val)
    val.toNat → (t.epLive epa.val && t.isRadio epa.val) = true →
    exec (.epcGrpWrite epa w val) s = .next (settle s (t.sendGroups epa.val))) ∧
  (∀ (s : State) (epa : Fin 4096) (a : AckWait), (s.run epa.val).grp = some a → s.up .swc = true → s.mayCommand = true
    → s.bit (EPC_RPT_FLAGS.GRP_PENDING epa.val) = true → a.at_ + 30 * secs ≤ s.clk →
    exec (.groupsRepeat epa) s = .next (settle s (s.sendGroups epa.val))) ∧
  (∀ (s : State) (epa : Fin 4096) (typ : BitVec 8) (tsn : BitVec 8) (l : LinkInfo), s.ingests epa.val = true →
    exec (.cfgAck epa typ tsn l) s = .next (settle s ((s.linkUpdate epa.val l).acked epa.val typ.toNat tsn.toNat))) ∧
  (∀ (s : State) (epa : Fin 4096) (val : Word) (t : State), s.up .epc = true → s.epState epa.val ≠ stUnavailable → t =
    s.wr (EPC_REPORT_CFG.adr epa.val) val.toNat → (t.epLive epa.val && t.isRadio epa.val && t.bit (EPC_SEC.JOINED
    epa.val)) = false →
    exec (.reportCfgWrite epa val) s = .next (settle s (t))) ∧
  (∀ (s : State) (epa : Fin 4096) (val : Word) (t : State), s.up .epc = true → s.epState epa.val ≠ stUnavailable → t =
    s.wr (EPC_REPORT_CFG.adr epa.val) val.toNat → (t.epLive epa.val && t.isRadio epa.val && t.bit (EPC_SEC.JOINED
    epa.val)) = true →
    exec (.reportCfgWrite epa val) s = .next (settle s ((fun v : State => if v.fld (EPC_REPORT_CFG.ENERGY_S epa.val) =
      s.fld (EPC_REPORT_CFG.ENERGY_S epa.val) then v else v.sendConfig epa.val 2)
      (if t.fld (EPC_REPORT_CFG.STATUS_S epa.val) = s.fld (EPC_REPORT_CFG.STATUS_S epa.val) then t else t.sendConfig
        epa.val 1)))) ∧
  (∀ (s : State) (epa : Fin 4096) (param : BitVec 8) (a : AckWait), (if param.toNat = 1 then (s.run epa.val).cfg1 else
    (s.run epa.val).cfg2) = some a → s.up .swc = true → s.mayCommand = true → a.at_ + 30 * secs ≤ s.clk →
    exec (.configRepeat epa param) s = .next (settle s (s.sendConfig epa.val param.toNat))) ∧
  (∀ (s : State) (epa : Fin 4096) (a : AckWait), (s.run epa.val).resync = some a → s.up .swc = true → s.mayCommand =
    true → s.bit (EPC_RPT_FLAGS.RESYNC epa.val) = true → a.at_ + 30 * secs ≤ s.clk →
    exec (.resyncRepeat epa) s = .next (settle s (s.sendResync epa.val)))

/-- For a context in service: STATUS sets what it reports and catches up the slots it falls under; ENERGY adds its
energy; FAULT raises or clears its fault; DETECT hands a record to the light field engine; INFO sets its information
words; each also records the link. SILENT_CHECK judges every endpoint in service; CONTEXT_ECC_ERROR of a correctable
error counts against its bank. -/
def Obligations.EndpointReportsComplete : Prop :=
  (∀ (s : State) (epa : Fin 4096) (m : StatusMsg) (l : LinkInfo), s.ingests epa.val = true →
    exec (.status epa m l) s = .next (settle s ((fun t : State => if t.up .trn && t.epState epa.val == stActive &&
      t.isRadio epa.val then
        (List.range 64).foldl (fun t n => t.catchUpSlot epa.val m.level n) t else t) (epcStatus epa.val m l s)))) ∧
  (∀ (s : State) (epa : Fin 4096) (epoch : BitVec 8) (cum : BitVec 32) (power : BitVec 16) (l : LinkInfo), s.ingests
    epa.val = true →
    exec (.energy epa epoch cum power l) s = .next (settle s ((s.linkUpdate epa.val l).addEnergy epa.val epoch.toNat
      cum.toNat power.toNat))) ∧
  (∀ (s : State) (epa : Fin 4096) (code raised : BitVec 8) (detail : BitVec 32) (l : LinkInfo), s.ingests epa.val =
    true → raised = 1 →
    exec (.fault epa code raised detail l) s = .next (settle s ((s.linkUpdate epa.val l).faultUp epa.val code.toNat
      detail.toNat))) ∧
  (∀ (s : State) (epa : Fin 4096) (code raised : BitVec 8) (detail : BitVec 32) (l : LinkInfo), s.ingests epa.val =
    true → raised = 0 →
    exec (.fault epa code raised detail l) s = .next (settle s ((s.linkUpdate epa.val l).clearFault epa.val
      code.toNat))) ∧
  (∀ (s : State) (epa : Fin 4096) (cls heading speed conf count age : BitVec 8) (tEnd : Nat) (l : LinkInfo), s.ingests
    epa.val = true → (s.linkUpdate epa.val l).up .lfe = true →
    exec (.detect epa cls heading speed conf count age tEnd l) s = .next (settle s ((s.linkUpdate epa.val
      l).takeRecord
      ⟨epa.val, cls.toNat, heading.toNat, speed.toNat, conf.toNat, count.toNat, age.toNat, tEnd, false⟩))) ∧
  (∀ (s : State) (epa : Fin 4096) (fw : BitVec 32) (model : BitVec 64) (hours : BitVec 32) (l : LinkInfo), s.ingests
    epa.val = true →
    exec (.info epa fw model hours l) s = .next (settle s (((((s.linkUpdate epa.val l).put (EPC_INFO_FW.FW epa.val)
      fw.toNat).put (EPC_INFO_HOURS.HOURS epa.val) hours.toNat).put
      (EPC_INFO_MODEL.MODEL epa.val 0) model.toNat).put (EPC_INFO_MODEL.MODEL epa.val 1) (model.toNat / 2 ^ 32)))) ∧
  (∀ (s : State), s.up .epc = true → s.standby = false →
    exec .silentCheck s = .next (settle s ((s.epas fun _ => true).foldl State.silentEp s))) ∧
  (∀ (s : State) (off : BitVec 26) (bad : Nat) (t : State), s.up .epc = true → 0x100000 ≤ off.toNat → off.toNat <
    0x300000 → off.toNat % 4 = 0 → (t = s.withHlt fun h =>
    { h with ecc := (h.ecc.filter fun x => s.clk < x.2 + 86400 * secs) ++ [((off.toNat - 0x100000) / 0x200 / 256, s.clk)] })
    → t.hlt.ecc.countP (·.1 == (off.toNat - 0x100000) / 0x200 / 256) < 8 →
    exec (.contextEccError off false bad) s = .next (settle s (t.pairFollow)))

/-- With SCH up outside KINDLING, SCHEDULE_SECOND of a new NT second evaluates (as the standby allows) unless HOLD is
set, and flags LATE where it was late; HOLD_EXPIRY clears a HOLD of 10 s; SOLAR_NOW reports DONE where local time is
valid and the cores compute; SOLAR_PUBLISH publishes a slot. With LFE up, LFE_TICK of a boundary not yet ticked ends a
tick that is still open, samples the state at the boundary and opens its intake, and LFE_TICK once 150 us have passed
closes the intake and computes the tick, which is mirrored; a DETECTION_RECORD reaches the intake; SOURCE_EXPIRY and
LFE_HOLD_EXPIRY end what is past; INJECT takes the record in the injection registers; CLEAR_SOURCES clears at once or
stays PENDING while the engine runs; LFE_CTL_WRITE stores EN and PROP_EN. -/
def Obligations.SchedulesAndFieldComplete : Prop :=
  (∀ (s : State) (late : Bool), s.up .sch = true → s.pwr.mode ≠ .kindling → s.sch.lastSec ≠ some s.ntSec → s.bit
    SCH_CTL.HOLD = true →
    exec (.scheduleSecond late) s = .next (settle s (({ s with sch := { s.sch with lastSec := some s.ntSec } } :
      State)))) ∧
  (∀ (s : State) (late : Bool), s.up .sch = true → s.pwr.mode ≠ .kindling → s.sch.lastSec ≠ some s.ntSec → s.bit
    SCH_CTL.HOLD = false →
    exec (.scheduleSecond late) s = .next (settle s ((fun t : State => if late then (t.put SCH_STAT.LATE 1).raise
      SCH_IRQ_STAT.LATE else t) (({ s with sch := { s.sch with lastSec := some s.ntSec } } : State).quiet
      State.evaluate)))) ∧
  (∀ (s : State), s.ready .sch → (s.taken .sch 1).cf SCH_SOLAR_CTL.HOST ≠ 1 → (s.taken .sch 1).localValid = true →
    exec .solarNow s = .next (settle s (((fun t : State => { t with sch := { t.sch with solarBusy := true } })
      (s.taken .sch 1)).ended .sch 1 stDone))) ∧
  (∀ (s : State) (d : Fin 3) (evs : List (Option Nat)), s.up .sch = true → s.cf SCH_SOLAR_CTL.HOST ≠ 1 →
    exec (.solarPublish d evs) s = .next (settle s ((fun t : State => if (List.range 21).all fun k => t.bit
      (SCH_SOLAR.VALID (k / 7) (k % 7)) then { t with sch := { t.sch with solarBusy := false } } else t)
      ((List.range 7).foldl (fun t e => t.publishEvent d.val e ((evs[e]?).getD none)) s)))) ∧
  (∀ (s : State) (a : Nat), s.sch.holdAt = some a → s.up .sch = true → s.bit SCH_CTL.HOLD = true → a + 10 * secs ≤
    s.clk →
    exec .holdExpiry s = .next (settle s (((({ s with sch := { s.sch with holdAt := none } } : State).put SCH_CTL.HOLD
      0).put SCH_STAT.HOLD_EXPIRED 1).raise SCH_IRQ_STAT.HOLD_EXPIRED))) ∧
  (∀ (s : State), s.up .lfe = true → s.bit LFE_CTL.EN = true → (s.lfe.ticked = false ∨ s.lfe.lastTick < s.nt /
    s.tickNs * s.tickNs) →
    exec .lfeTick s = .next (settle s ((fun t : State => if t.lfe.ticks = s.lfe.ticks then t else t.mirrorTick)
      ((s.endTick.quiet fun t => t.openTick (s.nt / s.tickNs * s.tickNs)).tickOn)))) ∧
  (∀ (s : State) (o : TickOpen), s.up .lfe = true → s.bit LFE_CTL.EN = true → s.lfe.ticked = true → s.nt / s.tickNs *
    s.tickNs ≤ s.lfe.lastTick → s.lfe.opened = some o → o.at_ + 150000 ≤ s.nt →
    exec .lfeTick s = .next (settle s ((fun t : State => if t.lfe.ticks = s.lfe.ticks then t else t.mirrorTick)
      (s.quiet fun t => t.closeTick o)))) ∧
  (∀ (s : State) (r : DetRec), s.up .lfe = true →
    exec (.detectionRecord r) s = .next (settle s (s.takeRecord r))) ∧
  (∀ (s : State), s.up .lfe = true → s.bit LFE_CTL.EN = true →
    exec .sourceExpiry s = .next (settle s ((s.expire (s.nt / s.tickNs * s.tickNs)).pubSources (s.nt / s.tickNs *
      s.tickNs) s.slotsUsed))) ∧
  (∀ (s : State) (epa : Fin 4096), s.up .lfe = true → s.bit LFE_CTL.EN = true → s.onUntil epa.val ≤ s.nt / s.tickNs *
    s.tickNs → s.bit LFE_STAT.NO_LANES = false →
    exec (.lfeHoldExpiry epa) s = .next (settle s (s.quiet fun t =>
      ({ t with lfe := { t.lfe with onUntil := t.lfe.onUntil.filter (·.1 != epa.val) } } : State).put
      (EPC_LVL_BASE.LFE epa.val) 0))) ∧
  (∀ (s : State) (t : State), s.ready .lfe → t = s.taken .lfe 1 → t.intakeOpen = true → t.pwr.mode ≠ .soak →
    t.intakeFull t.injectRec = false →
    exec .inject s = .next (settle s ((t.takeRecord ⟨t.fld LFE_INJ_0.ORIGIN, t.fld LFE_INJ_0.CLASS, t.fld
      LFE_INJ_0.HEADING, t.fld LFE_INJ_1.SPEED, t.fld LFE_INJ_1.CONF,
      t.fld LFE_INJ_1.COUNT, t.fld LFE_INJ_1.AGE, t.nt, true⟩).ended .lfe 1 stDone))) ∧
  (∀ (s : State), s.ready .lfe → (s.taken .lfe 2).bit LFE_CTL.EN = true →
    exec .clearSources s = .next (settle s (((fun t : State => { t with lfe := { t.lfe with clearing := true } })
      (s.taken .lfe 2)).ended .lfe 2 stPending))) ∧
  (∀ (s : State), s.ready .lfe → (s.taken .lfe 2).bit LFE_CTL.EN = false →
    exec .clearSources s = .next (settle s (((s.taken .lfe 2).noSources).ended .lfe 2 stDone))) ∧
  (∀ (s : State) (en : Bool) (prop : Bool), s.up .lfe = true →
    exec (.lfeCtlWrite en prop) s = .next (settle s ((fun t : State => if !en && t.lfe.clearing then t.clearAt else t)
      ((fun t : State => if en then t else { t with lfe := { t.lfe with opened := none } })
        ((fun t : State => if prop then { t with lfe := { t.lfe with closed := false } } else t)
          ((s.putB LFE_CTL.EN en).putB LFE_CTL.PROP_EN prop))))))

/-- Accepted by TRN for the slot or engine that TRN_CMD_ARG names: ARM of a free slot with valid time and words in
order arms it and sends the rounds that are due; CANCEL of an ARMED slot cancels it; RELEASE of a HELD slot marks its
release; PAT_START of an engine in order starts it at the next tick or at the instant given; PAT_STOP marks its stop.
Each reports DONE. -/
def Obligations.TransitionCommandsComplete : Prop :=
  (∀ (s : State) (t : State), s.ready .trn → t = s.taken .trn 1 → t.fld TRN_CMD_ARG.INDEX < 64 → t.ntValid = true →
    t.pwr.mode ≠ .service → t.slotFree (t.fld TRN_CMD_ARG.INDEX) = true → t.armArgOk (t.fld TRN_CMD_ARG.INDEX) = true
    →
    exec .arm s = .next (settle s ((armRound (t.fld TRN_CMD_ARG.INDEX) (t.armSlot (t.fld TRN_CMD_ARG.INDEX))).ended
      .trn 1 stDone))) ∧
  (∀ (s : State) (t : State), s.ready .trn → t = s.taken .trn 2 → t.fld TRN_CMD_ARG.INDEX < 64 → t.slotState (t.fld
    TRN_CMD_ARG.INDEX) = 1 →
    exec .trnCancel s = .next (settle s ((t.cancelSlot (t.fld TRN_CMD_ARG.INDEX)).ended .trn 2 stDone))) ∧
  (∀ (s : State) (t : State), s.ready .trn → t = s.taken .trn 3 → t.fld TRN_CMD_ARG.INDEX < 64 → t.slotState (t.fld
    TRN_CMD_ARG.INDEX) = 3 →
    exec .release s = .next (settle s ((t.setSlotRun
      { t.slotRun (t.fld TRN_CMD_ARG.INDEX) with release := true }).ended .trn 3 stDone))) ∧
  (∀ (s : State) (t : State), s.ready .trn → t = s.taken .trn 4 → t.patOk (t.fld TRN_CMD_ARG.INDEX) = true → t.bit
    TRN_CMD_ARG.AT = false →
    exec .patStart s = .next (settle s ((t.patRunFrom (t.fld TRN_CMD_ARG.INDEX) t.nextTick false).ended .trn 4
      stDone))) ∧
  (∀ (s : State) (t : State), s.ready .trn → t = s.taken .trn 4 → t.patOk (t.fld TRN_CMD_ARG.INDEX) = true → t.bit
    TRN_CMD_ARG.AT = true → t.nt ≤ t.trnCmdT → t.trnCmdT ≤ t.nt + 549000000000 →
    exec .patStart s = .next (settle s ((t.patRunFrom (t.fld TRN_CMD_ARG.INDEX) t.trnCmdT false).ended .trn 4
      stDone))) ∧
  (∀ (s : State) (t : State), s.ready .trn → t = s.taken .trn 5 → t.fld TRN_CMD_ARG.INDEX < 32 →
    exec .patStop s = .next (settle s ((({ t with trn := { t.trn with
      pats := t.trn.pats.map (fun (r : PatRun) => if r.engine == t.fld TRN_CMD_ARG.INDEX then { r with stop := true }
        else r),
      blocked := if t.lfe.emerg && t.cfB (TRN_PAT_CTL.START_ON_EMERG (t.fld TRN_CMD_ARG.INDEX)) then
        t.fld TRN_CMD_ARG.INDEX :: t.trn.blocked else t.trn.blocked } } : State)).ended .trn 5 stDone)))

/-- With TRN up on a module that may command: ARM_ROUND of an ARMED slot sends the rounds that have fallen due as one;
SLOT_COMMIT from the commit boundary on loads comparators, port frames and FIREs for T, or in SERVICE cancels the
slot; SLOT_FIRE at T holds the slot and records its level; SLOT_HOLD_END ends it; PATTERN_COUNT_END stops an engine
whose cycles have passed; FAST_CHASE_EDGE makes the next edge of a chase, and in SERVICE passes over it. -/
def Obligations.TransitionEventsComplete : Prop :=
  (∀ (s : State) (n : Fin 64) (d : List Nat), s.up .trn = true → s.mayCommand = true → s.slotState n.val = 1 → (d =
    (List.range s.armRepeat).filter fun k => (s.slotRun n.val).round ≤ k && s.roundAt n.val k ≤ s.nt) → d ≠ [] →
    exec (.armRound n) s = .next (settle s ((s.setSlotRun
      { s.slotRun n.val with round := (s.slotRun n.val).round + d.length }).sendArmRound n.val ((s.slotRun
      n.val).round == 0)))) ∧
  (∀ (s : State) (n : Fin 64), s.up .trn = true → s.mayCommand = true → s.slotState n.val = 1 → s.commitAt n.val ≤
    s.nt → s.nt < s.slotT n.val → s.pwr.mode ≠ .service →
    exec (.slotCommit n) s = .next (settle s (s.commitSlot n.val))) ∧
  (∀ (s : State) (n : Fin 64), s.up .trn = true → s.mayCommand = true → s.slotState n.val = 1 → s.commitAt n.val ≤
    s.nt → s.nt < s.slotT n.val → s.pwr.mode = .service →
    exec (.slotCommit n) s = .next (settle s ((s.cancelSlot n.val).slotLog 5 n.val))) ∧
  (∀ (s : State) (n : Fin 64), s.up .trn = true → s.mayCommand = true → s.slotState n.val = 2 → s.slotT n.val ≤ s.nt →
    exec (.slotFire n) s = .next (settle s (((fun t : State => ((s.slotRun n.val).armed.filter fun e => t.inScope
      n.val e).foldl (fun v e =>
        (v.recordCmd e (t.fld (TRN_SLOT_LVL.LEVEL n.val)) (t.fld (TRN_SLOT_LVL.CCT n.val)) false).launched e (v.fld
          (TRN_SLOT_FADE.FADE n.val))) t)
      (s.holdSlot n.val)).setSlotRun (s.slotRun n.val)))) ∧
  (∀ (s : State) (n : Fin 64), s.up .trn = true → s.mayCommand = true → s.slotState n.val = 3 → s.fld
    (TRN_SLOT_FADE.HOLD_S n.val) ≠ 0 → s.slotT n.val + s.fld (TRN_SLOT_FADE.HOLD_S n.val) * 1000000000 ≤ s.nt →
    exec (.slotHoldEnd n) s = .next (settle s (s.endSlot n.val))) ∧
  (∀ (s : State) (e : Fin 32) (r : PatRun), s.up .trn = true → s.mayCommand = true → (s.trn.pats.find? (fun r =>
    r.engine == e.val) = some r) → s.patOver r (s.nt / s.tickNs * s.tickNs) = true →
    exec (.patternCountEnd e) s = .next (settle s (s.patStopNow e.val))) ∧
  (∀ (s : State) (e : Fin 32) (c : Chase), s.up .drv = true → s.drives = true → (s.drv.chases.find? (fun c => c.engine
    == e.val) = some c) → c.edge c.k ≤ s.nt → s.pwr.mode ≠ .service →
    exec (.fastChaseEdge e) s = .next (settle s ((fun t : State =>
      { t with drv := { t.drv with chases := t.drv.chases.map fun (x : Chase) =>
        if x.engine == e.val then { x with k := x.k + 1, live := true } else x } })
      ((List.range c.units.length).foldl (fun t i => t.chaseStep c i) s)))) ∧
  (∀ (s : State) (e : Fin 32) (c : Chase), s.up .drv = true → s.drives = true → (s.drv.chases.find? (fun c => c.engine
    == e.val) = some c) → c.edge c.k ≤ s.nt → s.pwr.mode = .service →
    exec (.fastChaseEdge e) s = .next (settle s ((fun t : State =>
      { t with drv := { t.drv with chases := t.drv.chases.map fun (x : Chase) =>
        if x.engine == e.val then { x with k := x.k + 1, live := x.live } else x } })
      (s))))

/-- With DRV up (and, for outputs, on a module that may command): FADE_UNIT_UPDATE steps every ramp that is not timed,
and the analogue outputs follow; DRIVE_COMPARATOR_FIRE fires a load whose instant has come, or makes the next step of
a timed fade; PWM_PERIOD_END begins the channel's next period; CURRENT_LOOP_UPDATE steps a gating channel's loop;
COMP_EVAL follows the temperature of an enabled set; a write of DRV_CH_CTL.EN enables a channel in order, disables
one, or raises BAD_CFG, and a write of DRV_SET_CFG.EN enables a set in order, clears it, or raises BAD_CFG. -/
def Obligations.DriveOutputsComplete : Prop :=
  (∀ (s : State), s.up .drv = true → s.drives = true →
    exec .fadeUnitUpdate s = .next (settle s ((List.range 12).foldl State.aoUpdate
      { s with drv := { s.drv with units := s.drv.units.map FadeUnit.tick } }))) ∧
  (∀ (s : State) (u : Fin 92) (l : Load), s.up .drv = true → s.drives = true → (s.drv.loads.find? (fun l => l.unit ==
    u.val && l.at_ ≤ s.nt) = some l) →
    exec (.driveComparatorFire u) s = .next (settle s
      (((({ s with drv := { s.drv with loads := s.drv.loads.filter fun (x : Load) => x != l } } : State).updUnit u.val
      fun x =>
      x.fire l.level l.cct l.fade
        (({ s with drv := { s.drv with loads := s.drv.loads.filter fun (x : Load) => x != l } } : State).unitBase
        u.val) l.at_).applyUnit l.at_ u.val)))) ∧
  (∀ (s : State) (u : Fin 92) (at_ : Nat), s.up .drv = true → s.drives = true → (s.drv.loads.find? (fun l => l.unit ==
    u.val && l.at_ ≤ s.nt) = none) → (s.unit u.val).nextTimed = some at_ → at_ ≤ s.nt →
    exec (.driveComparatorFire u) s = .next (settle s ((s.updUnit u.val fun x => x.stepTimed at_).applyUnit at_
      u.val))) ∧
  (∀ (s : State) (n : Fin 64), s.up .drv = true → s.drives = true → (s.chRun n.val).pEnd ≤ s.clk →
    exec (.pwmPeriodEnd n) s = .next (settle s (s.pwmEnd n.val))) ∧
  (∀ (s : State) (n : Fin 64) (sense : BitVec 12) (vo : BitVec 24), s.up .drv = true → s.gating n.val = true →
    exec (.currentLoopUpdate n sense vo) s = .next (settle s (s.loopStep n.val sense.toNat vo.toNat))) ∧
  (∀ (s : State) (k : Fin 16), s.up .drv = true → s.bit (DRV_SET_CFG.EN k.val) = true →
    exec (.compEval k) s = .next (settle s (s.compStep k.val))) ∧
  (∀ (s : State) (n : Fin 64), s.up .drv = true →
    exec (.drvChEnWrite n false) s = .next (settle s (s.disableCh n.val))) ∧
  (∀ (s : State) (n : Fin 64), s.up .drv = true → s.bit (DRV_CH_CTL.EN n.val) = false → s.chOk n.val = true →
    s.standby = false →
    exec (.drvChEnWrite n true) s = .next (settle s (s.enableCh n.val))) ∧
  (∀ (s : State) (n : Fin 64), s.up .drv = true → s.bit (DRV_CH_CTL.EN n.val) = false → s.chOk n.val = false →
    exec (.drvChEnWrite n true) s = .next (settle s (s.raise DRV_IRQ_STAT.BAD_CFG))) ∧
  (∀ (s : State) (k : Fin 16), s.up .drv = true →
    exec (.drvSetEnWrite k false) s = .next (settle s (s.put (DRV_SET_CFG.EN k.val) 0))) ∧
  (∀ (s : State) (k : Fin 16), s.up .drv = true → s.bit (DRV_SET_CFG.EN k.val) = false → s.setOk k.val = true →
    exec (.drvSetEnWrite k true) s = .next (settle s (s.setEnabled k.val))) ∧
  (∀ (s : State) (k : Fin 16), s.up .drv = true → s.bit (DRV_SET_CFG.EN k.val) = false → s.setOk k.val = false →
    exec (.drvSetEnWrite k true) s = .next (settle s (s.raise DRV_IRQ_STAT.BAD_CFG)))

/-- With DRV up: SOFT_START_END takes a channel whose ramp is over to RUN; INRUSH_END closes the inrush window; a
channel that is watched (gating, or stopped in this same cycle by a fault of higher code) takes FAST_TRIP above its
threshold, STRING_SHORT outside the window below SHORT_MV for its time, STRING_OPEN above OPEN_MV for its time and
START_SHORT in the window below SHORT_MV once SS_SHORT_MS have passed, each with its code; GROUP_OC of a group above
its limit and in-rush allowance for GOC_US stops the group's gating channels, or latches them when the retries are
used; SUPPLY_UV and SUPPLY_RECOVERED follow the group's supply; HICCUP_RETRY, RETRIES_RESET and GROUP_HICCUP_RETRY act
when due. -/
def Obligations.DriveFaultsComplete : Prop :=
  (∀ (s : State) (n : Fin 64), s.up .drv = true → s.chState n.val = 2 → (s.chRun n.val).rampAt + s.ssTime n.val ≤
    s.clk →
    exec (.softStartEnd n) s = .next (settle s (s.softStartDone n.val))) ∧
  (∀ (s : State) (n : Fin 64), s.up .drv = true → s.bit (DRV_CH_STAT.IN_INRUSH n.val) = true → (s.chRun
    n.val).inrushAt + s.inrushTime n.val ≤ s.clk →
    exec (.inrushEnd n) s = .next (settle s ((s.put (DRV_CH_STAT.IN_INRUSH n.val) 0).pubDrv))) ∧
  (∀ (s : State) (n : Fin 64) (sense : Nat), s.up .drv = true → s.sees n.val 1 = true → s.tripAt n.val < sense →
    exec (.fastTrip ⟨n, sense⟩) s = .next (settle s (s.ownFault n.val 1))) ∧
  (∀ (s : State) (n : Fin 64) (vo us : Nat), s.up .drv = true → s.sees n.val 2 = true → s.chState n.val ≠ 2 →
    s.inWindow n.val = false → vo < s.cf (DRV_CH_VTH.SHORT_MV n.val) → max 1 (s.cf (DRV_CH_VTIME.SHORT_10US n.val)) *
    10 ≤ us →
    exec (.stringShort ⟨n, vo, us⟩) s = .next (settle s (s.ownFault n.val 2))) ∧
  (∀ (s : State) (n : Fin 64) (vo us : Nat), s.up .drv = true → s.sees n.val 3 = true → s.cf (DRV_CH_VTH.OPEN_MV
    n.val) < vo → max 1 (s.cf (DRV_CH_VTIME.OPEN_US n.val)) ≤ us →
    exec (.stringOpen ⟨n, vo, us⟩) s = .next (settle s (s.ownFault n.val 3))) ∧
  (∀ (s : State) (n : Fin 64) (vo : Nat), s.up .drv = true → s.sees n.val 4 = true → s.inWindow n.val = true → vo <
    s.cf (DRV_CH_VTH.SHORT_MV n.val) → (s.chRun n.val).rampAt + clampN 1 50 (s.cf (DRV_CH_VTIME.SS_SHORT_MS n.val)) *
    msec ≤ s.clk →
    exec (.startShort ⟨n, vo⟩) s = .next (settle s (s.ownFault n.val 4))) ∧
  (∀ (s : State) (g : Fin 8) (us : Nat) (latch : Bool), s.up .drv = true → s.groupLimit g.val < s.groupMa g.val →
    clampN 10 10000 (s.cf (DRV_GRP_LIMIT.GOC_US g.val)) ≤ us → latch = decide (s.cf (DRV_GRP_CTL.HICCUP_N g.val) ≤
    s.fld (DRV_GRP_STAT.RETRIES g.val)) →
    exec (.groupOc ⟨g, us⟩) s = .next (settle s (((((fun t : State => (t.put (DRV_GRP_STAT.STATE g.val) (if latch then
      3 else 2)).updGrp g.val fun r => { r with ocAt := t.clk })
      ((s.gatingOf g.val).foldl (fun t n =>
        ((t.put (DRV_CH_STAT.STATE n) (if latch then 5 else 4)).drvFault n 6 latch).updCh n fun r =>
          { r with byGroup := true }) s)).raise
      DRV_IRQ_STAT.GROUP_OC).pubDrv)))) ∧
  (∀ (s : State) (g : Fin 8) (vdrv : BitVec 14), s.up .drv = true → vdrv.toNat < s.cf (DRV_GRP_UV.UV_10MV g.val) →
    exec (.supplyUv g vdrv) s = .next (settle s (s.uvTrip g.val vdrv.toNat))) ∧
  (∀ (s : State) (g : Fin 8) (vdrv : BitVec 14), s.up .drv = true → (s.grpRun g.val).uv = true → s.cf
    (DRV_GRP_UV.UV_10MV g.val) + s.cf (DRV_GRP_UV.HYST_10MV g.val) ≤ vdrv.toNat →
    exec (.supplyRecovered g vdrv) s = .next (settle s (s.uvClear g.val vdrv.toNat))) ∧
  (∀ (s : State) (n : Fin 64), s.up .drv = true → s.retryDue n.val = true → s.fld (DRV_CH_OUT.D n.val) ≠ 0 →
    exec (.hiccupRetry n) s = .next (settle s ((s.retry n.val).pubDrv))) ∧
  (∀ (s : State) (n : Fin 64), s.up .drv = true → s.chState n.val = 3 → (s.chRun n.val).runAt + 60 * secs ≤ s.clk →
    exec (.retriesReset n) s = .next (settle s ((fun t : State => if t.groupRested (n.val / 8) then t.put
      (DRV_GRP_STAT.RETRIES (n.val / 8)) 0 else t) (s.put (DRV_CH_STAT.RETRIES n.val) 0)))) ∧
  (∀ (s : State) (g : Fin 8), s.up .drv = true → s.fld (DRV_GRP_STAT.STATE g.val) = 2 → (s.grpRun g.val).ocAt +
    s.hiccupTime g.val ≤ s.clk → (s.grpRun g.val).uv = false →
    exec (.groupHiccupRetry g) s = .next (settle s (s.groupRestart g.val)))

/-- With DRV up: PAD_SCAN takes its visits in channel order when a pass is asked for, or with scanning enabled once
DRV_SCAN_CTL.MS have passed; SCAN_NOW takes them at once and reports DONE; CLEAR_FAULT clears one channel, or a group
with its retries and state, and reports DONE; DRV_ENERGY_UPDATE adds the energy of every channel that drew some;
POWER_REPORT reports the mean power of each endpoint of a module that is not the standby. -/
def Obligations.DriveServicesComplete : Prop :=
  (∀ (s : State) (visits : List PadProbe), s.up .drv = true → s.drv.scanDue = true →
    exec (.padScan visits) s = .next (settle s (((padOrder visits).foldl State.padVisit
      { s with drv := { s.drv with scanDue := false } }).pubDrv))) ∧
  (∀ (s : State) (visits : List PadProbe), s.up .drv = true → s.drv.scanDue = false → s.bit DRV_SCAN_CTL.EN = true →
    s.drv.scanAt + clampN 1 1000 (s.fld DRV_SCAN_CTL.MS) * msec ≤ s.clk →
    exec (.padScan visits) s = .next (settle s (((padOrder visits).foldl State.padVisit
      { s with drv := { s.drv with scanAt := s.clk, scanDue := false } }).pubDrv))) ∧
  (∀ (s : State) (t : State) (visits : List PadProbe), s.ready .drv → t = s.taken .drv 2 →
    exec (.scanNow visits) s = .next (settle s ((((padOrder visits).foldl State.padVisit t).pubDrv).ended .drv 2
      stDone))) ∧
  (∀ (s : State) (t : State), s.ready .drv → t = s.taken .drv 1 → t.bit DRV_CMD_ARG.GROUP = false →
    exec .drvClearFault s = .next (settle s (((t.clearCh (t.fld DRV_CMD_ARG.INDEX)).pubDrv).ended .drv 1 stDone))) ∧
  (∀ (s : State) (t : State) (g : Nat) (u : State), s.ready .drv → t = s.taken .drv 1 → t.bit DRV_CMD_ARG.GROUP = true
    → g = t.fld DRV_CMD_ARG.INDEX → g < 8 → (u = ((List.range 8).map fun k => 8 * g + k).foldl State.clearCh t) →
    exec .drvClearFault s = .next (settle s ((((u.put (DRV_GRP_STAT.RETRIES g) 0).put (DRV_GRP_STAT.STATE g) (if
      (u.grpRun g).uv then 1 else 0)).pubDrv).ended .drv 1 stDone))) ∧
  (∀ (s : State), s.up .drv = true →
    exec .drvEnergyUpdate s = .next (settle s (((List.range 64).filter fun n => s.chEnergy n != 0).foldl
      State.addDrvEnergy s))) ∧
  (∀ (s : State), s.up .drv = true → s.standby = false →
    exec .powerReport s = .next (settle s ((s.epas fun n => s.reach n == 3).foldl (fun t epa =>
      (t.put (EPC_POWER.DW epa) (min 65535 (divRound (t.epEnergy epa).2 (100 * 64 * 100000)))).setEpEnergy epa
        (t.epEnergy epa).1 0) s)))

/-- With LBUS up and the port enabled and not DOWN: DL_FORWARD_FRAME sends the rest of a transaction in progress, or
the next one in priority order; DL_BACKWARD_FRAME takes a good answer or a corrupt one; DL_NO_ANSWER counts and
judges; DL_FRAME_CORRUPTED counts and sends again, and abandons a query after three attempts; DL_BUS_DOWN takes the
port down; DL_BUS_UP brings a DOWN port up and sends every active gear its level; DL_EVENT_FRAME stores the event or
counts it lost; DL_QUERY_CYCLE queues the cycles that are due. -/
def Obligations.LightingBusFramesComplete : Prop :=
  (∀ (s : State) (p : Fin 16) (f : DlFrame) (l : List DlFrame), s.up .lbus = true → s.dlUp p.val = true → s.mayCommand
    = true → (s.dlPort p.val).waiting = false → ((s.dlPort p.val).holdOff s.nt = false ∨ (s.dlPort p.val).slot = true)
    → (s.dlPort p.val).cur = f :: l →
    exec (.dlForwardFrame p) s = .next (settle s ((s.dlBound p.val).dlSend p.val f l))) ∧
  (∀ (s : State) (p : Fin 16), s.up .lbus = true → s.dlUp p.val = true → s.mayCommand = true → (s.dlPort
    p.val).waiting = false → (s.dlPort p.val).cur = [] → (s.dlPort p.val).committed = [] →
    exec (.dlForwardFrame p) s = .next (settle s ((s.dlBound p.val).dlNext p.val))) ∧
  (∀ (s : State) (p : Fin 16) (n : BitVec 8) (f : DlFrame), s.up .lbus = true → s.dlUp p.val = true → (s.dlPort
    p.val).waiting = true → (s.dlPort p.val).last = some f →
    exec (.dlBackwardFrame p n false) s = .next (settle s ((((s.updDl p.val fun x =>
      { x with waiting := false, last := none }).idleRestart).dlAnswer p.val f.kind n.toNat).dlBound p.val))) ∧
  (∀ (s : State) (p : Fin 16) (f : DlFrame), s.up .lbus = true → s.dlUp p.val = true → (s.dlPort p.val).waiting = true
    → (s.dlPort p.val).last = some f →
    exec (.dlNoAnswer p) s = .next (settle s ((((s.updDl p.val fun x =>
      { x with waiting := false, last := none }).bump (LBUS_DL_CNT.NOANSWER p.val)).dlNo p.val f.kind).dlBound
      p.val))) ∧
  (∀ (s : State) (p : Fin 16) (f : DlFrame), s.up .lbus = true → s.dlUp p.val = true → (s.dlPort p.val).last = some f
    → (f.asks = false ∨ (s.dlPort p.val).attempts < 3) →
    exec (.dlFrameCorrupted p) s = .next (settle s ((s.bump (LBUS_DL_CNT.COLL p.val)).updDl p.val fun x =>
      { x with cur := f :: x.cur, waiting := false }))) ∧
  (∀ (s : State) (p : Fin 16), s.up .lbus = true → s.dlUp p.val = true →
    exec (.dlBusDown p) s = .next (settle s ((fun t : State => if t.lbus.rawPort = some p.val then t.rawDone true 1 0
      else t)
      ((((s.dlDrop p.val).put (LBUS_DL_STAT.STATE p.val) 3).raise
        LBUS_IRQ_STAT.DL_DOWN).logEv 15 2 (leBytes 1 p.val))))) ∧
  (∀ (s : State) (p : Fin 16), s.up .lbus = true → s.fld (LBUS_DL_STAT.STATE p.val) = 3 →
    exec (.dlBusUp p) s = .next (settle s ((fun t : State => ((t.onPort p.val 4).filter fun n => t.epState n ==
      stActive).foldl (fun v n =>
        v.dlLevel n (v.fld (EPC_LVL_CMD.LEVEL n)) 0) t) ((s.put (LBUS_DL_STAT.STATE p.val) 1).pubDl p.val)))) ∧
  (∀ (s : State) (p : Fin 16) (f : BitVec 24), s.up .lbus = true → s.dlUp p.val = true → s.lbus.events.length < 16 →
    exec (.dlEventFrame p f) s = .next (settle s
      ((({ s with lbus := { s.lbus with events := s.lbus.events ++ [(p.val, f.toNat % 2 ^ 24)] } } :
      State).pubEvt).raise LBUS_IRQ_STAT.DL_EVENT))) ∧
  (∀ (s : State) (p : Fin 16) (f : BitVec 24), s.up .lbus = true → s.dlUp p.val = true → 16 ≤ s.lbus.events.length →
    exec (.dlEventFrame p f) s = .next (settle s (s.bump (LBUS_DL_CNT.EVT_LOST p.val)))) ∧
  (∀ (s : State) (p : Fin 16), s.up .lbus = true → s.dlUp p.val = true →
    exec (.dlQueryCycle p) s = .next (settle s (s.dlCycles p.val)))

/-- Accepted by LBUS for the port or FIO that LBUS_CMD_ARG names: DL_COMMISSION commissions the gear of an enabled
port and DL_REQUERY queries those at the address, each reporting DONE; DL_RAW queues its frame and stays PENDING;
FIO_CLEAR clears the contactor fault. LBUS_EVT_READ returns the oldest event and removes it. -/
def Obligations.LightingBusCommandsComplete : Prop :=
  (∀ (s : State) (t : State), s.ready .lbus → t = s.taken .lbus 1 → t.fld LBUS_CMD_ARG.INDEX < 16 → t.bit
    (LBUS_DL_CFG.EN (t.fld LBUS_CMD_ARG.INDEX)) = true →
    exec .dlCommission s = .next (settle s (((t.onPort (t.fld LBUS_CMD_ARG.INDEX) 4).foldl (fun v n => v.commission
      (t.fld LBUS_CMD_ARG.INDEX) n true) t).ended .lbus 1 stDone))) ∧
  (∀ (s : State) (t : State), s.ready .lbus → t = s.taken .lbus 2 → t.fld LBUS_CMD_ARG.INDEX < 16 → t.bit
    (LBUS_DL_CFG.EN (t.fld LBUS_CMD_ARG.INDEX)) = true →
    exec .dlRequery s = .next (settle s ((((t.onPort (t.fld LBUS_CMD_ARG.INDEX) 4).filter fun n => t.dlAddr n == t.fld
      LBUS_CMD_ARG.ADDR).foldl (fun v n => v.dlPush (t.fld LBUS_CMD_ARG.INDEX) 4 (v.levelQuery n)) t).ended .lbus 2
      stDone))) ∧
  (∀ (s : State) (t : State), s.ready .lbus → t = s.taken .lbus 3 → t.fld LBUS_CMD_ARG.INDEX < 16 → t.dlUp (t.fld
    LBUS_CMD_ARG.INDEX) = true →
    exec .dlRaw s = .next (settle s (((({ t with lbus := { t.lbus with rawPort := some (t.fld LBUS_CMD_ARG.INDEX) } }
      : State).put LBUS_RAW_RX.VALID 0).dlPush (t.fld LBUS_CMD_ARG.INDEX) 3
      [⟨t.fld LBUS_RAW_TX.FRAME, if t.bit LBUS_RAW_TX.LONG then 24 else 16, .raw (t.bit LBUS_RAW_TX.ANSWER)⟩]).ended
        .lbus 3 stPending))) ∧
  (∀ (s : State) (t : State), s.ready .lbus → t = s.taken .lbus 4 → t.fld LBUS_CMD_ARG.INDEX < 72 →
    exec .fioClear s = .next (settle s ((t.put (LBUS_FIO_STAT.CFAULT (t.fld LBUS_CMD_ARG.INDEX)) 0).ended .lbus 4
      stDone))) ∧
  (∀ (s : State) (src : Src), s.up .lbus = true →
    exec (.lbusEvtRead src) s = .next (settle s ((({ s with lbus := { s.lbus with events := s.lbus.events.drop 1 } } :
      State).pubEvt).reply { src := src, wr := false, sz := 2, off := LBUS_EVT.adr } (s.rd LBUS_EVT.adr))))

/-- With DRV up: AO_MEASURE judges a driven output; FIO_INPUT_CHANGE of an input that becomes inactive stores its
level; LOOP_PAIR_TIMEOUT records a loop whose pair stayed away; CONTACTOR_EVAL evaluates every contactor;
CONTACTOR_FB_CHECK clears or raises the contactor fault; TS_MEASURE stores a temperature or a fault. With LBUS up:
SB_FRAME_RX of a HOST port delivers the frame in pieces of 256 bytes; SB_FRAME_TX sends the next packet of its down
queue; SB_POLL sends a due request; SB_POLL_ANSWER and SB_POLL_TIMEOUT judge the answer. -/
def Obligations.FieldIoComplete : Prop :=
  (∀ (s : State) (a : Fin 12) (mv : BitVec 16), s.up .drv = true → s.bit (LBUS_AO_OUT.DRIVEN a.val) = true →
    exec (.aoMeasure a mv) s = .next (settle s (s.aoJudge a.val mv.toNat))) ∧
  (∀ (s : State) (n : Fin 72) (level : Bool), s.up .drv = true → (s.fioMode n.val = 1 ∨ s.fioMode n.val = 2) → level =
    s.cfB (LBUS_FIO_CFG.INV n.val) → s.fioActive n.val = true →
    exec (.fioInputChange n level) s = .next (settle s (((s.putB (LBUS_FIO_STAT.LEVEL n.val) false).putB
      ⟨LBUS_FIO_IN.adr (n.val / 32), n.val % 32, 1⟩ false).idleRestart))) ∧
  (∀ (s : State) (n : Fin 72) (x : Nat × Nat), s.up .drv = true → s.lbus.loops.find? (·.1 == n.val) = some x → x.2 +
    2550000000 ≤ s.nt →
    exec (.loopPairTimeout n) s = .next (settle s
      (({ s with lbus := { s.lbus with loops := s.lbus.loops.erase (n.val, x.2) } } : State).fioRecord n.val 0 255
      (x.2 + 2550000000)))) ∧
  (∀ (s : State), s.up .drv = true → s.mayCommand = true →
    exec .contactorEval s = .next (settle s (((List.range 72).filter fun i => s.fioMode i == 4).foldl State.contEval
      s))) ∧
  (∀ (s : State) (n : Fin 72) (c : Nat), s.up .drv = true → s.fioMode n.val = 4 → s.cfB (LBUS_FIO_CONT.FB_EN n.val) =
    true → s.cf (LBUS_FIO_CONT.FB n.val) ≤ 71 → s.sinceOut n.val (s.cf (LBUS_FIO_CTIME.FB_10MS n.val) * 10 * msec) =
    false → c = (if s.bit (LBUS_FIO_STAT.OUT n.val) = s.fioActive (s.cf (LBUS_FIO_CONT.FB n.val)) then 0 else if s.bit
    (LBUS_FIO_STAT.OUT n.val) then 1 else 2) → c ≠ s.fld (LBUS_FIO_STAT.CFAULT n.val) →
    exec (.contactorFbCheck n) s = .next (settle s (if c = 0 then s.put (LBUS_FIO_STAT.CFAULT n.val) c else ((s.put
      (LBUS_FIO_STAT.CFAULT n.val) c).raise LBUS_IRQ_STAT.CONT_FAULT).logEv 15 3 (leBytes 1 n.val ++ leBytes 1 c)))) ∧
  (∀ (s : State) (p : Fin 8) (b : List Byte), s.up .lbus = true → s.sbMode p.val = 1 → (s.sbBound p.val).sbMode p.val
    = 1 →
    exec (.sbFrameRx p b false) s = .next (settle s ((split256 b.length b).foldl (fun t x => t.sbUp (t.cf
      (LBUS_SB_HOST.HMQ p.val)) x) (s.sbBound p.val)))) ∧
  (∀ (s : State) (p : Fin 8) (b : List Byte), s.up .lbus = true → s.sbMode p.val = 1 →
    exec (.sbFrameRx p b true) s = .next (settle s ((s.sbBound p.val).bump (LBUS_SB_STAT.CRC_ERR p.val)))) ∧
  (∀ (s : State) (p : Fin 8) (bad : Bool) (r : Option (List HWord) × State), s.up .lbus = true → s.mayCommand = true →
    s.sbMode p.val = 1 → s.sbOf (s.cf (LBUS_SB_HOST.HMQ p.val)) = some p.val → r = (s.sbBound p.val).takeDown (s.cf
    (LBUS_SB_HOST.HMQ p.val)) bad →
    exec (.sbFrameTx p bad) s = .next (settle s (if bad || (r.1.getD []).any (·.poison) || r.1.isNone then r.2 else
      r.2.emit (.sb p.val) (packetBytes (r.2.fld (HMQ_Q_CFG.TAIL (s.cf (LBUS_SB_HOST.HMQ p.val)))) (r.1.getD []))))) ∧
  (∀ (s : State) (p : Fin 8) (k : Fin 4) (u : State), s.up .lbus = true → s.mayCommand = true → u = s.sbBound p.val →
    u.sbMode p.val = 2 → u.cfB (LBUS_SB_POLL_W0.EN p.val k.val) = true → (u.pollRun p.val k.val).waiting = false →
    ((u.pollRun p.val k.val).at_ = 0 ∨ (u.pollRun p.val k.val).at_ + clampN 100 60000 (u.cf (LBUS_SB_POLL_W1.POLL_MS
    p.val k.val)) * msec ≤ u.clk) →
    exec (.sbPoll p k) s = .next (settle s ((u.setPoll
      { u.pollRun p.val k.val with at_ := max 1 u.clk, waiting := true }).emit (.sb p.val) (pollRequest (u.cf
      (LBUS_SB_POLL_W0.UNIT p.val k.val)))))) ∧
  (∀ (s : State) (p : Fin 8) (k : Fin 4) (count kind speed age : BitVec 16), s.up .lbus = true → s.sbMode p.val = 2 →
    (s.pollRun p.val k.val).waiting = true →
    exec (.sbPollAnswer p k count kind speed age true) s = .next (settle s (((s.bump (LBUS_SB_STAT.CRC_ERR
      p.val)).pollBad p.val k.val).sbBound p.val))) ∧
  (∀ (s : State) (p : Fin 8) (k : Fin 4) (count kind speed age : BitVec 16), s.up .lbus = true → s.sbMode p.val = 2 →
    (s.pollRun p.val k.val).waiting = true → (s.pollRun p.val k.val).count = none → bitOf (s.fld
    (LBUS_SB_STAT.ENT_FAULT p.val)) k.val = false →
    exec (.sbPollAnswer p k count kind speed age false) s = .next (settle s ((s.setPoll
      { s.pollRun p.val k.val with count := some (count.toNat % 65536), bad := 0, waiting := false }).sbBound p.val)))
      ∧
  (∀ (s : State) (p : Fin 8) (k : Fin 4), s.up .lbus = true → s.sbMode p.val = 2 → (s.pollRun p.val k.val).waiting =
    true → (s.pollRun p.val k.val).at_ + 100 * msec ≤ s.clk →
    exec (.sbPollTimeout p k) s = .next (settle s (((s.bump (LBUS_SB_STAT.TIMEOUT p.val)).pollBad p.val k.val).sbBound
      p.val))) ∧
  (∀ (s : State) (t : Fin 16) (r : Nat), s.up .drv = true → (1500000 < r ∨ r < 50) →
    exec (.tsMeasure t r) s = .next (settle s ((((s.put (LBUS_TS_VAL.FAULT t.val) 1).putB (LBUS_TS_VAL.SHORT t.val) (r
      < 50)).put (LBUS_TS_VAL.TEMP t.val) 0x8000).raise LBUS_IRQ_STAT.TS_FAULT))) ∧
  (∀ (s : State) (t : Fin 16) (r : Nat), s.up .drv = true → 50 ≤ r → r ≤ 1500000 →
    exec (.tsMeasure t r) s = .next (settle s (((s.put (LBUS_TS_VAL.FAULT t.val) 0).put (LBUS_TS_VAL.SHORT t.val)
      0).putI (LBUS_TS_VAL.TEMP t.val) (tsTemp r (10 * s.fld (LBUS_TS_CFG.R25 t.val)) (s.fld (LBUS_TS_CFG.BETA
      t.val))))))

/-- With RAD up: writing EN enables a channel after its checks or turns it off; CSMA_BACKOFF_END of a channel that may
start and whose frame's backoff is over starts it where CCA is off or clear, and counts the channel busy otherwise;
TX_END ends a transmission: an acknowledgement, a frame that asks for none, or one that opens its listening window;
ENH_ACK_RX in the window ends the frame as acknowledged; ACK_TIMEOUT of an untimed frame fails the attempt;
HW_ACK_SEND sends a due acknowledgement, or drops one the channel may not send. -/
def Obligations.RadioSendingCompletes : Prop :=
  (∀ (s : State) (ch : Fin 8), s.up .rad = true →
    exec (.radChEnWrite ch false) s = .next (settle s ((s.put (RAD_CH_CTL.EN ch.val) 0).pubChan ch.val))) ∧
  (∀ (s : State) (ch : Fin 8), s.up .rad = true → s.bit (RAD_CH_CTL.EN ch.val) = false →
    exec (.radChEnWrite ch true) s = .next (settle s (s.enableRad ch.val (s.enabledChs ch.val)))) ∧
  (∀ (s : State) (ch : Fin 8) (energy : Int) (sfd : Bool) (x : InService), (s.chan ch.val).cur = some x → s.canStart
    ch.val = true → x.backoffAt ≤ s.clk → (s.chan ch.val).tx = none → (s.chan ch.val).window = none → (s.chan
    ch.val).rxFrom = none → x.credit = false → s.cfB (RAD_CH_CTL.CCA_EN ch.val) = false →
    exec (.csmaBackoffEnd ch energy sfd) s = .next (settle s (s.tryStart ch.val x))) ∧
  (∀ (s : State) (ch : Fin 8) (energy : Int) (sfd : Bool) (x : InService), (s.chan ch.val).cur = some x → s.canStart
    ch.val = true → x.backoffAt ≤ s.clk → (s.chan ch.val).tx = none → (s.chan ch.val).window = none → (s.chan
    ch.val).rxFrom = none → x.credit = false → s.cfB (RAD_CH_CTL.CCA_EN ch.val) = true → ((s.noteNoise ch.val
    energy).cfI (RAD_CH_MAC.CCA_DBM ch.val) < energy || sfd) = true →
    exec (.csmaBackoffEnd ch energy sfd) s = .next (settle s ((s.noteNoise ch.val energy).busy ch.val x))) ∧
  (∀ (s : State) (ch : Fin 8) (energy : Int) (sfd : Bool) (x : InService), (s.chan ch.val).cur = some x → s.canStart
    ch.val = true → x.backoffAt ≤ s.clk → (s.chan ch.val).tx = none → (s.chan ch.val).window = none → (s.chan
    ch.val).rxFrom = none → x.credit = false → s.cfB (RAD_CH_CTL.CCA_EN ch.val) = true → ((s.noteNoise ch.val
    energy).cfI (RAD_CH_MAC.CCA_DBM ch.val) < energy || sfd) = false →
    exec (.csmaBackoffEnd ch energy sfd) s = .next (settle s ((s.noteNoise ch.val energy).tryStart ch.val x))) ∧
  (∀ (s : State) (ch : Fin 8) (t : Tx), (s.chan ch.val).tx = some t → t.stop ≤ s.clk → s.up .rad = true → t.kind = 2 →
    exec (.txEnd ch) s = .next (settle s ((s.updChan ch.val fun c => { c with tx := none }).pubChan ch.val))) ∧
  (∀ (s : State) (ch : Fin 8) (t : Tx), (s.chan ch.val).tx = some t → t.stop ≤ s.clk → s.up .rad = true → t.kind ≠ 2 →
    t.frame.wantsAck = true →
    exec (.txEnd ch) s = .next (settle s ((s.dropWindow ch.val).openWindow ch.val t.stop t.frame (t.kind == 1)))) ∧
  (∀ (s : State) (ch : Fin 8) (t : Tx), (s.chan ch.val).tx = some t → t.stop ≤ s.clk → s.up .rad = true → t.kind = 0 →
    t.frame.wantsAck = false →
    exec (.txEnd ch) s = .next (settle s (((s.updChan ch.val fun c => { c with tx := none }).txOk ch.val t.frame
      .sent).endCur ch.val))) ∧
  (∀ (s : State) (ch : Fin 8) (w : Listen), (s.chan ch.val).window = some w → s.radOn ch.val = true → w.lost = false →
    w.opens ≤ s.clk → s.clk ≤ w.closes → w.timed = false →
    exec (.enhAckRx ch) s = .next (settle s (((s.updChan ch.val fun c => { c with window := none }).txOk ch.val
      w.frame .acked).endCur ch.val))) ∧
  (∀ (s : State) (ch : Fin 8) (w : Listen), (s.chan ch.val).window = some w → w.closes ≤ s.clk → s.up .rad = true →
    w.timed = false →
    exec (.ackTimeout ch) s = .next (settle s ((s.updChan ch.val fun c => { c with window := none }).attemptFailed
      ch.val w.frame (((s.chan ch.val).cur.map (·.retries)).getD 0) s.clk))) ∧
  (∀ (s : State) (ch : Fin 8) (a : AckDue) (v : State), (s.chan ch.val).ack = some a → a.at_ ≤ s.clk → s.up .rad =
    true → (v = s.updChan ch.val fun c => { c with ack := none }) → v.canStart ch.val = false →
    exec (.hwAckSend ch) s = .next (settle s (v.pubChan ch.val))) ∧
  (∀ (s : State) (ch : Fin 8) (a : AckDue) (v : State), (s.chan ch.val).ack = some a → a.at_ ≤ s.clk → s.up .rad =
    true → (v = s.updChan ch.val fun c => { c with ack := none }) → v.canStart ch.val = true → (s.chan ch.val).tx =
    none → (s.chan (partnerOf ch.val)).tx = none → s.ackDisplaced ch.val a.at_ (a.at_ + s.ackTime ch.val a.ext.isSome
    * usec) = false → s.ackTime ch.val a.ext.isSome ≤ s.chCredit ch.val true →
    exec (.hwAckSend ch) s = .next (settle s (v.startTx ch.val 2 ⟨0, [], .all, 0, none, none, .none, some (v.ackPsdu
      ch.val a)⟩ a.at_ 0 (s.ackTime ch.val a.ext.isSome))))

/-- With RAD up: TIMED_FRAME_PREPARE of a frame whose 2 ms have come books it on a channel that may send, or discards
it, or moves a TIME frame that shares a FIRE's instant by a second; TIMED_FRAME_LAUNCH starts a prepared frame at its
instant where nothing goes before it and the antenna port is free, and moves it to the end of a transmission where it
is not; TIME_FRAME at a due second queues TIME on every channel that may transmit; LEDGER_SECOND moves every window
on; AIRTIME and CH_FLUSH report DONE. -/
def Obligations.TimedFramesComplete : Prop :=
  (∀ (s : State) (ch : Fin 8) (t : Timed), ((s.chan ch.val).timed.find? (fun t => t.ready.isNone &&
    t.frame.launch.getD 0 ≤ s.nt + 2000000) = some t) → s.up .rad = true → s.radOn ch.val = true → s.mayCommand = true
    → (t.frame.typ ≠ 0x0C ∨ s.fireAt ch.val t.frame.launch = false) →
    exec (.timedFramePrepare ch) s = .next (settle s (s.bookTimed ch.val t))) ∧
  (∀ (s : State) (ch : Fin 8) (t : Timed), ((s.chan ch.val).timed.find? (fun t => t.ready.isNone &&
    t.frame.launch.getD 0 ≤ s.nt + 2000000) = some t) → s.up .rad = true → s.radOn ch.val = true → s.mayCommand = true
    → t.frame.typ = 0x0C → s.fireAt ch.val t.frame.launch = true →
    exec (.timedFramePrepare ch) s = .next (settle s ((s.dropTimed ch.val t).addTimed ch.val (timeLater t.frame)))) ∧
  (∀ (s : State) (ch : Fin 8) (t : Timed), ((s.chan ch.val).timed.find? (fun t => t.ready.isNone &&
    t.frame.launch.getD 0 ≤ s.nt + 2000000) = some t) → s.up .rad = true → s.radOn ch.val = false →
    exec (.timedFramePrepare ch) s = .next (settle s (((s.dropTimed ch.val t).outcome ch.val t.frame
      .discarded).pubChan ch.val))) ∧
  (∀ (s : State) (ch : Fin 8) (t : Timed), s.timedDue ch.val = some t → s.canStart ch.val = true → s.timedWaits ch.val
    t = false → s.portBusy ch.val = none →
    exec (.timedFrameLaunch ch) s = .next (settle s (s.launchTimed ch.val t))) ∧
  (∀ (s : State) (ch : Fin 8) (t : Timed) (e : Nat), s.timedDue ch.val = some t → s.canStart ch.val = true →
    s.timedWaits ch.val t = false → s.portBusy ch.val = some e →
    exec (.timedFrameLaunch ch) s = .next (settle s (s.updChan ch.val fun c =>
      { c with timed := c.timed.map fun (x : Timed) => if x == t then { t with notBefore := e } else x }))) ∧
  (∀ (s : State), s.up .rad = true → s.cf RAD_CTL.TIME_S ≠ 0 → s.ntValid = true → (s.ntSec + 1) % s.cf RAD_CTL.TIME_S
    = 0 → s.rad.timeAt ≠ s.ntSec + 1 →
    exec .timeFrame s = .next (settle s (((List.range 8).filter (State.radOn
      { s with rad := { s.rad with timeAt := s.ntSec + 1 } })).foldl (fun v ch =>
      (v.takeTsn 4096).2.addTimed ch ⟨0x0C, timeMsg (v.takeTsn 4096).1 (s.ntSec + 1), .all, 2, some ((s.ntSec + 1) *
        1000000000), none, .time, none⟩)
      { s with rad := { s.rad with timeAt := s.ntSec + 1 } }))) ∧
  (∀ (s : State), s.up .rad = true → s.bit RAD_CTL.EN = true → s.rad.secAt + secs ≤ s.clk →
    exec .ledgerSecond s = .next (settle s (({ s with
      rad :=
        { s.rad with ledger := s.rad.ledger.map nextBucket, secAt := s.rad.secAt + secs, chans := s.rad.chans.map fun (c : Chan) => { c with share := nextBucket c.share } },
      pair := { s.pair with ledger := s.pair.ledger.map nextBucket } } : State).pubLedger))) ∧
  (∀ (s : State) (t : State), s.ready .rad → t = s.taken .rad 1 → t.fld RAD_CMD_ARG.LEN ≠ 0 →
    exec .airtime s = .next (settle s ((t.put RAD_AIRTIME.US (t.airtime (t.fld RAD_CMD_ARG.CH) (t.fld
      RAD_CMD_ARG.LEN))).ended .rad 1 stDone))) ∧
  (∀ (s : State) (t : State), s.ready .rad → t = s.taken .rad 2 →
    exec .chFlush s = .next (settle s ((t.flushChan (t.fld RAD_CMD_ARG.CH)).ended .rad 2 stDone)))

/-- On a channel that receives: RX_SFD starts a reception, counts it BLANKED while the antenna port sends, TOO_LONG or
OVERRUN; RX_FRAME of a reception that was not lost counts a bad FCS, a foreign destination and an unsecured frame,
takes a frame from an endpoint in service through its link and one from an extended source as a join, and counts any
other source. -/
def Obligations.RadioReceptionCompletes : Prop :=
  (∀ (s : State) (ch : Fin 8) (long : Bool), s.listens ch.val = true →
    exec (.rxSfd ch long true) s = .next (settle s ((s.bump (RAD_CH_CNT_RX2.OVERRUN ch.val)).raise
      RAD_IRQ_STAT.RX_OVERRUN))) ∧
  (∀ (s : State) (ch : Fin 8), s.listens ch.val = true →
    exec (.rxSfd ch true false) s = .next (settle s (s.bump (RAD_CH_CNT_RX2.TOO_LONG ch.val)))) ∧
  (∀ (s : State) (ch : Fin 8), s.listens ch.val = true → s.portBusy ch.val = none →
    exec (.rxSfd ch false false) s = .next (settle s ((s.updChan ch.val fun c =>
      { c with rxFrom := some s.clk, rxLost := false }).pubChan ch.val))) ∧
  (∀ (s : State) (ch : Fin 8) (e : Nat), s.listens ch.val = true → s.portBusy ch.val = some e →
    exec (.rxSfd ch false false) s = .next (settle s (((s.bump (RAD_CH_CNT_RX2.BLANKED ch.val)).updChan ch.val fun c
      => { c with rxFrom := none, rxLost := true }).pubChan ch.val))) ∧
  (∀ (s : State) (ch : Fin 8) (r : RxFrame) (v : State), s.listens ch.val = true → (s.chan ch.val).rxLost = false → (v
    = (s.updChan ch.val fun c => { c with rxFrom := none, rxLost := false }).pubChan ch.val) → r.fcsOk = false →
    exec (.rxFrame ch r) s = .next (settle s (v.bump (RAD_CH_CNT_RX.FCS_ERR ch.val)))) ∧
  (∀ (s : State) (ch : Fin 8) (r : RxFrame) (v : State), s.listens ch.val = true → (s.chan ch.val).rxLost = false → (v
    = (s.updChan ch.val fun c => { c with rxFrom := none, rxLost := false }).pubChan ch.val) → r.fcsOk = true →
    v.addressed r = false →
    exec (.rxFrame ch r) s = .next (settle s (v.bump (RAD_CH_CNT_RX2.FILTERED ch.val)))) ∧
  (∀ (s : State) (ch : Fin 8) (r : RxFrame) (v : State), s.listens ch.val = true → (s.chan ch.val).rxLost = false → (v
    = (s.updChan ch.val fun c => { c with rxFrom := none, rxLost := false }).pubChan ch.val) → r.fcsOk = true →
    v.addressed r = true → r.secured = false → leAt r.payload 0 1 ≠ 0x7F →
    exec (.rxFrame ch r) s = .next (settle s (v.bump (RAD_CH_CNT_MISC.UNSECURED ch.val)))) ∧
  (∀ (s : State) (ch : Fin 8) (r : RxFrame) (v : State), s.listens ch.val = true → (s.chan ch.val).rxLost = false → (v
    = (s.updChan ch.val fun c => { c with rxFrom := none, rxLost := false }).pubChan ch.val) → r.fcsOk = true →
    v.addressed r = true → r.secured = true → r.srcExt = true →
    exec (.rxFrame ch r) s = .next (settle s (v.rxJoin ch.val r))) ∧
  (∀ (s : State) (ch : Fin 8) (r : RxFrame) (v : State), s.listens ch.val = true → (s.chan ch.val).rxLost = false → (v
    = (s.updChan ch.val fun c => { c with rxFrom := none, rxLost := false }).pubChan ch.val) → r.fcsOk = true →
    v.addressed r = true → r.secured = true → r.srcExt = false → r.src < 4096 → v.epLive r.src = true → v.isRadio
    r.src = true →
    exec (.rxFrame ch r) s = .next (settle s (v.rxLink ch.val r.src r))) ∧
  (∀ (s : State) (ch : Fin 8) (r : RxFrame) (v : State), s.listens ch.val = true → (s.chan ch.val).rxLost = false → (v
    = (s.updChan ch.val fun c => { c with rxFrom := none, rxLost := false }).pubChan ch.val) → r.fcsOk = true →
    v.addressed r = true → r.secured = true → r.srcExt = false → v.epLive r.src = false →
    exec (.rxFrame ch r) s = .next (settle s (v.bump EPC_RX_DROP.UNKNOWN_SRC)))

/-- With SWC up: PACKET_INGRESS of a packet within 9,728 bytes at a port other than SP8 and SP9 offers it to its queue
or group, a longer one is counted TOO_LONG, and at SP8 or SP9 it is an Ethernet frame of the BB port; PORT_DEQUEUE
serves the port: a radio channel free to send takes its next frame, a BB port sends the next packet, SP13 passes its
level command to the lighting bus, and any other consumer inside the module takes its next packet; QUOTA_BOUNDARY of a
tenant whose words are due brings them into force. -/
def Obligations.SwitchPacketsComplete : Prop :=
  (∀ (s : State) (p : Fin 20) (fcsOk joined : Bool) (k : PacketIn) (t : Nat × Nat) (q : Nat), p.val ≠ 8 → p.val ≠ 9 →
    s.up .swc = true → k.bytes ≠ [] → k.bytes.length ≤ 9728 → k.group = none → t = s.tenantOf p.val k.bytes → q =
    k.queue % 4256 →
    exec (.packetIngress p fcsOk joined k) s = .next (settle s ((s.offer ⟨k.bytes.length, s.tenantFor q t.1, k.cls %
      8, t.2, p.val, k.hmq % 32, .raw k.bytes, [q], none⟩).2))) ∧
  (∀ (s : State) (p : Fin 20) (fcsOk joined : Bool) (k : PacketIn) (t : Nat × Nat) (q g : Nat), p.val ≠ 8 → p.val ≠ 9
    → s.up .swc = true → k.bytes ≠ [] → k.bytes.length ≤ 9728 → k.group = some g → t = s.tenantOf p.val k.bytes → q =
    k.queue % 4256 →
    exec (.packetIngress p fcsOk joined k) s = .next (settle s (s.admitGroup ⟨k.bytes.length, t.1, k.cls % 8, t.2,
      p.val, k.hmq % 32, .raw k.bytes, [q], none⟩ (g % 1024)))) ∧
  (∀ (s : State) (p : Fin 20) (fcsOk joined : Bool) (k : PacketIn), p.val ≠ 8 → p.val ≠ 9 → s.up .swc = true → 9728 <
    k.bytes.length →
    exec (.packetIngress p fcsOk joined k) s = .next (settle s (s.bump (SWC_PORT_CNT.TOO_LONG p.val)))) ∧
  (∀ (s : State) (p : Fin 20) (fcsOk joined : Bool) (k : PacketIn), (p.val = 8 ∨ p.val = 9) →
    exec (.packetIngress p fcsOk joined k) s = .next (settle s (s.bbFrame (p.val - 8) fcsOk joined k))) ∧
  (∀ (s : State) (p : Fin 20), s.up .swc = true → p.val < 8 →
    exec (.portDequeue p) s = .next (settle s (radDequeue p.val s))) ∧
  (∀ (s : State) (p : Fin 20), s.up .swc = true → (p.val = 8 ∨ p.val = 9) →
    exec (.portDequeue p) s = .next (settle s (s.bbDequeue (p.val - 8)))) ∧
  (∀ (s : State) (p : Fin 20), s.up .swc = true → (p.val = 10 ∨ p.val = 11) →
    exec (.portDequeue p) s = .next (settle s (s.mzDequeue (p.val - 10)))) ∧
  (∀ (s : State) (p : Fin 20) (d : Desc) (v : State), s.up .swc = true → (p.val = 12 ∨ p.val = 14 ∨ p.val = 16 ∨ p.val
    = 18 ∨ p.val = 19) → (s.schedule p.val).1 = some d → v = (s.schedule p.val).2 →
    exec (.portDequeue p) s = .next (settle s ((v.dropDesc d).emit (.core p.val) (v.egress d)))) ∧
  (∀ (s : State) (p : Fin 20) (d : Desc) (v : State) (e l c f : Nat), s.up .swc = true → p.val = 13 → (s.schedule
    13).1 = some d → v = (s.schedule 13).2 → d.body = .bus e l c f →
    exec (.portDequeue p) s = .next (settle s ((v.dropDesc d).dlLevel e l f))) ∧
  (∀ (s : State) (p : Fin 20), s.up .swc = true → p.val = 15 →
    exec (.portDequeue p) s = .next (settle s (hmqUpDeliver s))) ∧
  (∀ (s : State) (p : Fin 20), s.up .swc = true → p.val = 17 →
    exec (.portDequeue p) s = .next (settle s (usbBulkIn s))) ∧
  (∀ (s : State) (t : Fin 64) (v : State), s.up .swc = true → (s.swc.writeAt.any (fun x => isTenantWord t.val x.1 &&
    s.swcDue x) = true) → (v = State.boundary
    { s with swc := { s.swc with writeAt := s.swc.writeAt.filter fun x => !isTenantWord t.val x.1 } }
    (SWC_TENANT_CFG.adr t.val) (SWC_TENANT_CFG.adr t.val + 0x40)) →
    exec (.quotaBoundary t) s = .next (settle s (if v.cf (SWC_TENANT_CFG.QUOTA t.val) < v.fld (SWC_TENANT_STAT.USE
      t.val) then (v.put (SWC_TENANT_STAT.OVER t.val) 1).raise SWC_IRQ_STAT.TENANT_OVER else v.checkOver t.val)))

/-- With SWC up: SWC_CLAIM returns the word of a free cell and claims it; SWC_CELL_SEL selects, and links a cell that
the requester holds; SWC_CELL_DATA through a 32-bit access reads or writes the selected cell's word; SWC_FREE returns
a claimed cell, and counts and records a refused one; ENQUEUE of a chain that the requester holds offers its packet,
DONE when it was admitted and NO_RESOURCE when not; Q_FLUSH discards and counts every packet of a queue. -/
def Obligations.SwitchClaimsComplete : Prop :=
  (∀ (s : State) (src : Src), s.up .swc = true →
    exec (.swcClaim src) s = .next (settle s ((swcClaim src s).2.reply
      { src := src, wr := false, sz := 2, off := SWC_CLAIM.adr } (swcClaim src s).1))) ∧
  (∀ (s : State) (src : Src) (val : Word), s.up .swc = true → bitOf val.toNat 31 = false →
    exec (.swcCellSel src val) s = .next (settle s (s.wr SWC_CELL_SEL.adr (val.toNat - bitsOf val.toNat 15 1 * 2 ^
      15)))) ∧
  (∀ (s : State) (src : Src) (val : Word) (k : Claimed), s.up .swc = true → bitOf val.toNat 31 = true → (s.wr
    SWC_CELL_SEL.adr (val.toNat - bitsOf val.toNat 15 1 * 2 ^ 15)).claimOf src (bitsOf val.toNat 0 15) = some k →
    exec (.swcCellSel src val) s = .next (settle s ((s.wr SWC_CELL_SEL.adr (val.toNat - bitsOf val.toNat 15 1 * 2 ^
      15)).setClaim { k with link := bitsOf val.toNat 16 15 }))) ∧
  (∀ (s : State) (src : Src) (val : Word), s.up .swc = true → bitOf val.toNat 31 = true → (s.wr SWC_CELL_SEL.adr
    (val.toNat - bitsOf val.toNat 15 1 * 2 ^ 15)).claimOf src (bitsOf val.toNat 0 15) = none →
    exec (.swcCellSel src val) s = .next (settle s ((s.wr SWC_CELL_SEL.adr (val.toNat - bitsOf val.toNat 15 1 * 2 ^
      15)).put SWC_STAT.WIN_DENIED 1))) ∧
  (∀ (s : State) (src : Src) (off : Fin 256) (sz : Fin 4) (val : BitVec 64), State.reaches s
    { src := src, wr := true, sz := sz.val, off := 0x598000 + off.val } = true → Access.aligned
    { src := src, wr := true, sz := sz.val, off := 0x598000 + off.val } = true →
    exec (.swcCellData src off sz (some val)) s = .next (settle s (s.writeAt
      { src := src, wr := true, sz := sz.val, off := 0x598000 + off.val } val.toNat))) ∧
  (∀ (s : State) (src : Src) (off : Fin 256) (sz : Fin 4), State.reaches s
    { src := src, wr := false, sz := sz.val, off := 0x598000 + off.val } = true → Access.aligned
    { src := src, wr := false, sz := sz.val, off := 0x598000 + off.val } = true →
    exec (.swcCellData src off sz none) s = .next (settle s ((s.readAt
      { src := src, wr := false, sz := sz.val, off := 0x598000 + off.val }).2.reply
      { src := src, wr := false, sz := sz.val, off := 0x598000 + off.val } (s.readAt
      { src := src, wr := false, sz := sz.val, off := 0x598000 + off.val }).1))) ∧
  (∀ (s : State) (src : Src) (cell : BitVec 15), s.up .swc = true → s.freeRefusal src cell.toNat = none →
    exec (.swcFree src cell) s = .next (settle s
      (({ s with swc := { s.swc with claims := s.swc.claims.filter (·.cell != cell.toNat) } } : State).pubFree))) ∧
  (∀ (s : State) (src : Src) (cell : BitVec 15) (r : Nat), s.up .swc = true → s.freeRefusal src cell.toNat = some r →
    exec (.swcFree src cell) s = .next (settle s (((((((s.bump SWC_FREE_ERR.COUNT).put SWC_FREE_LAST.REASON r).put
      SWC_FREE_LAST.REQUESTER (tagOf src)).put SWC_FREE_LAST.CELL cell.toNat).raise SWC_IRQ_STAT.FREE_ERR).logEv 18 1
      (leBytes 2 cell.toNat ++ leBytes 1 (tagOf src) ++ leBytes 1 r))))) ∧
  (∀ (s : State) (t : State) (src : Src) (cells : List Nat) (o : Offer), s.ready .swc → t = s.taken .swc 1 → 1 ≤ t.fld
    SWC_CMD_ARG0.LEN → t.fld SWC_CMD_ARG0.LEN ≤ 9728 → t.fld SWC_CMD_ARG1.QUEUE ≤ 4255 → t.chain src (cellsFor (t.fld
    SWC_CMD_ARG0.LEN)) (t.fld SWC_CMD_ARG0.CELL) = some cells → cells.eraseDups.length = cells.length → (o = ⟨t.fld
    SWC_CMD_ARG0.LEN, t.tenantFor (t.fld SWC_CMD_ARG1.QUEUE) (t.fld SWC_CMD_ARG1.TENANT), t.fld SWC_CMD_ARG1.CLASS, 0,
    ingressOf src, t.fld SWC_CMD_ARG1.HMQ, .raw ((cells.flatMap fun c => ((t.claimOf src c).map (·.data)).getD
    []).take (t.fld SWC_CMD_ARG0.LEN)), [t.fld SWC_CMD_ARG1.QUEUE], some cells⟩) → (t.offer o).1 = 0 →
    exec (.enqueue src) s = .next (settle s (((t.offer o).2).ended .swc 1 stNoResource))) ∧
  (∀ (s : State) (t : State) (src : Src) (cells : List Nat) (o : Offer), s.ready .swc → t = s.taken .swc 1 → 1 ≤ t.fld
    SWC_CMD_ARG0.LEN → t.fld SWC_CMD_ARG0.LEN ≤ 9728 → t.fld SWC_CMD_ARG1.QUEUE ≤ 4255 → t.chain src (cellsFor (t.fld
    SWC_CMD_ARG0.LEN)) (t.fld SWC_CMD_ARG0.CELL) = some cells → cells.eraseDups.length = cells.length → (o = ⟨t.fld
    SWC_CMD_ARG0.LEN, t.tenantFor (t.fld SWC_CMD_ARG1.QUEUE) (t.fld SWC_CMD_ARG1.TENANT), t.fld SWC_CMD_ARG1.CLASS, 0,
    ingressOf src, t.fld SWC_CMD_ARG1.HMQ, .raw ((cells.flatMap fun c => ((t.claimOf src c).map (·.data)).getD
    []).take (t.fld SWC_CMD_ARG0.LEN)), [t.fld SWC_CMD_ARG1.QUEUE], some cells⟩) → (t.offer o).1 ≠ 0 →
    exec (.enqueue src) s = .next (settle s
      (((({ (t.offer o).2 with swc := { (t.offer o).2.swc with claims := (t.offer o).2.swc.claims.filter fun x => !cells.contains x.cell } }
      : State).pubFree)).ended .swc 1 stDone))) ∧
  (∀ (s : State) (t : State), s.ready .swc → t = s.taken .swc 2 → t.fld SWC_CMD_ARG1.QUEUE ≤ 4255 →
    exec .qFlush s = .next (settle s (((t.swc.q.filter (·.queue == t.fld SWC_CMD_ARG1.QUEUE)).foldl (fun v d =>
      (v.dropDesc d).bump (SWC_Q_DROP.DROPS (t.fld SWC_CMD_ARG1.QUEUE))) t).ended .swc 2 stDone)))

/-- With HMQ up: HMQ_PUSH and HMQ_PUSH_END into an enabled down queue store the word, an END word counting a packet;
where one word of room is left an unfinished packet is ended poisoned and discarded, and a full or discarding queue
drops the word and counts it; HMQ_POP returns the up queue's next word, or 0 of an empty one; HMQ_BANK_PASS passes a
bank 1 µs old on; HMQ_DOWN_PACKET gives a whole packet to the cores, or to the switch where BIND says so and no word
is corrupt; HMQ_UP_DELIVER stores SP15's next packet where there is room; HMQ_STALE gives the stale notice once;
HMQ_FLUSH empties the queue and reports DONE. -/
def Obligations.HostQueuesComplete : Prop :=
  (∀ (s : State) (q : Fin 16) (val : Word), s.up .hmq = true → s.bit (HMQ_Q_CFG.EN q.val) = true → (s.hq
    q.val).discard = true →
    exec (.hmqPush q val) s = .next (settle s ((State.hmqDrop
      { s with hmq := updAt s.hmq q.val fun h => { h with discard := true } } q.val)))) ∧
  (∀ (s : State) (q : Fin 16) (val : Word), s.up .hmq = true → s.bit (HMQ_Q_CFG.EN q.val) = true → (s.hq
    q.val).discard = false → (s.hq q.val).room = 0 →
    exec (.hmqPush q val) s = .next (settle s ((State.hmqDrop
      { s with hmq := updAt s.hmq q.val fun h => { h with discard := true } } q.val)))) ∧
  (∀ (s : State) (q : Fin 16) (val : Word), s.up .hmq = true → s.bit (HMQ_Q_CFG.EN q.val) = true → (s.hq
    q.val).discard = false → (s.hq q.val).room = 1 →
    exec (.hmqPush q val) s = .next (settle s ((s.setHq q.val
      { (s.hq q.val).push ⟨0, true, true⟩ s.clk with discard := true }).countEnd q.val))) ∧
  (∀ (s : State) (q : Fin 16) (val : Word), s.up .hmq = true → s.bit (HMQ_Q_CFG.EN q.val) = true → (s.hq
    q.val).discard = false → 2 ≤ (s.hq q.val).room →
    exec (.hmqPush q val) s = .next (settle s (s.setHq q.val ((s.hq q.val).push ⟨val.toNat, false, false⟩ s.clk)))) ∧
  (∀ (s : State) (q : Fin 16) (val : Word), s.up .hmq = true → s.bit (HMQ_Q_CFG.EN q.val) = true → (s.hq
    q.val).discard = true →
    exec (.hmqPushEnd q val) s = .next (settle s ((State.hmqDrop
      { s with hmq := updAt s.hmq q.val fun h => { h with discard := false } } q.val)))) ∧
  (∀ (s : State) (q : Fin 16) (val : Word), s.up .hmq = true → s.bit (HMQ_Q_CFG.EN q.val) = true → (s.hq
    q.val).discard = false → (s.hq q.val).room = 0 →
    exec (.hmqPushEnd q val) s = .next (settle s ((State.hmqDrop
      { s with hmq := updAt s.hmq q.val fun h => { h with discard := true } } q.val)))) ∧
  (∀ (s : State) (q : Fin 16) (val : Word), s.up .hmq = true → s.bit (HMQ_Q_CFG.EN q.val) = true → (s.hq
    q.val).discard = false → (s.hq q.val).room ≠ 0 →
    exec (.hmqPushEnd q val) s = .next (settle s ((s.setHq q.val ((s.hq q.val).push ⟨val.toNat, true, false⟩
      s.clk)).countEnd q.val))) ∧
  (∀ (s : State) (src : Src) (q : Fin 16) (bad : Bool), s.up .hmq = true → (s.hq (16 + q.val)).refill.active = [] →
    exec (.hmqPop src q bad) s = .next (settle s ((s.wr (HMQ_Q_POP_HI.adr (16 + q.val)) 0).emit (.reg src.code)
      (leBytes 4 0)))) ∧
  (∀ (s : State) (src : Src) (q : Fin 16) (bad : Bool) (w : HWord) (l : List HWord) (h : Hq), s.up .hmq = true → (s.hq
    (16 + q.val)).refill.active = w :: l → h =
    { (s.hq (16 + q.val)).refill with active := l, rp := ((s.hq (16 + q.val)).refill.rp + 1) % 2048, popAt := s.clk, stale := false }
    →
    exec (.hmqPop src q bad) s = .next (settle s (((((((s.parity (16 + q.val) bad).setHq (16 + q.val) h.refill).put
      (HMQ_Q_POP_HI.VALID (16 + q.val)) 1).putB (HMQ_Q_POP_HI.POISON (16 + q.val)) (w.poison || bad)).putB
      (HMQ_Q_POP_HI.END (16 + q.val)) w.fin).put (HMQ_Q_POP_HI.WORDS (16 + q.val)) h.words.length).emit (.reg
      src.code) (leBytes 4 w.data)))) ∧
  (∀ (s : State) (q : Fin 32), s.up .hmq = true → q.val < 16 → (s.hq q.val).active ≠ [] → (s.hq q.val).pushAt + usec ≤
    s.clk →
    exec (.hmqBankPass q) s = .next (settle s (s.setHq q.val (s.hq q.val).passBank))) ∧
  (∀ (s : State) (q : Fin 16) (bad : Bool) (p : List HWord) (v : State), s.up .hmq = true → s.sbOf q.val = none →
    (s.takeDown q.val bad).1 = some p → v = (s.takeDown q.val bad).2 → v.fld (HMQ_Q_CFG.BIND q.val) = 0 →
    exec (.hmqDownPacket q bad) s = .next (settle s (v.emit (.core 14) (packetBytes 0 p)))) ∧
  (∀ (s : State) (q : Fin 16) (bad : Bool) (p : List HWord) (v : State), s.up .hmq = true → s.sbOf q.val = none →
    (s.takeDown q.val bad).1 = some p → v = (s.takeDown q.val bad).2 → v.fld (HMQ_Q_CFG.BIND q.val) ≠ 0 → (bad ||
    p.any (·.poison)) = true →
    exec (.hmqDownPacket q bad) s = .next (settle s (v))) ∧
  (∀ (s : State) (q : Fin 16) (bad : Bool) (p : List HWord) (v : State), s.up .hmq = true → s.sbOf q.val = none →
    (s.takeDown q.val bad).1 = some p → v = (s.takeDown q.val bad).2 → v.fld (HMQ_Q_CFG.BIND q.val) ≠ 0 → (bad ||
    p.any (·.poison)) = false →
    exec (.hmqDownPacket q bad) s = .next (settle s (v.hmqToSwitch q.val p))) ∧
  (∀ (s : State) (d : Desc) (v t : State), s.up .hmq = true → (s.schedule 15).1 = some d → v = (s.schedule 15).2 →
    s.fld (HMQ_Q_CFG.BIND d.hmq) ≠ 0 → 16 ≤ d.hmq → s.sbOf (d.hmq - 16) = none → v.hmqStore d.hmq (upWords d) = some t
    →
    exec .hmqUpDeliver s = .next (settle s (t.dropDesc d))) ∧
  (∀ (s : State) (q : Fin 32) (n : Nat), s.up .hmq = true → n = min 1000000 (s.cf (HMQ_Q_CFG.STALE_US q.val)) → n ≠ 0
    → (s.hq q.val).words ≠ [] → (s.hq q.val).stale = false → (s.hq q.val).popAt + n * usec ≤ s.clk →
    exec (.hmqStale q) s = .next (settle s (((({ s with hmq := updAt s.hmq q.val fun h => { h with stale := true } } :
      State).put ⟨HMQ_STALE.adr, q.val, 1⟩ 1).raise HMQ_IRQ_STAT.STALE)))) ∧
  (∀ (s : State) (t : State), s.ready .hmq → t = s.taken .hmq 1 →
    exec .hmqFlush s = .next (settle s (((t.setHq (t.fld HMQ_CMD_ARG.INDEX)
      { t.hq (t.fld HMQ_CMD_ARG.INDEX) with rp := (t.hq (t.fld HMQ_CMD_ARG.INDEX)).wp, buf := [], active := [], idle := [], discard := false })).ended
      .hmq 1 stDone)))

/-- With NTU up: a write of NTU_PHASE by the owner of the servo, within the jump limit, takes effect, one beyond it is
a refused jump, and one by a host while the internal servo owns it sets SERVO_OWNED; NTU_UPDATE at the next multiple
of 500,000 counts takes up the configuration and makes the update in order. Accepted by NTU: STEP within the limit
waits for the next update and one beyond it is refused and reported; STEP_FORCE under a session disarms what would lie
too far and waits; SRC_SELECT of an intact source within the limit follows it, with a step where it has an offset;
CMP_ARM of a target in range arms it and fires one already past; CMP_DISARM disarms. -/
def Obligations.NetworkTimeCommandsComplete : Prop :=
  (∀ (s : State) (f : Nat), s.up .ntu = true → s.bit NTU_CTL.EN = true → f = s.ntu.frc / 500000 * 500000 → s.ntu.fb <
    f →
    exec .ntuUpdate s = .next (settle s (((((((s.boundary 0x80000 0x90000).rebase
      f).stepNow.measureSrcs).countHold).selectSrc).servo)))) ∧
  (∀ (s : State) (src : Src) (val : Word), s.up .ntu = true → s.bit NTU_CTL.SERVO ≠ (src == .core) → s.jumpOver
    (toSigned 32 val.toNat) = false →
    exec (.ntuPhaseWrite src val) s = .next (settle s ((State.putI
      { s with ntu := { s.ntu with phase := toSigned 32 val.toNat * 65536 + s.ntu.slew } } NTU_PHASE.NS (toSigned 32
      val.toNat))))) ∧
  (∀ (s : State) (src : Src) (val : Word), s.up .ntu = true → s.bit NTU_CTL.SERVO ≠ (src == .core) → s.jumpOver
    (toSigned 32 val.toNat) = true →
    exec (.ntuPhaseWrite src val) s = .next (settle s (s.jumpRefused (toSigned 32 val.toNat)))) ∧
  (∀ (s : State) (src : Src) (val : Word), s.up .ntu = true → s.bit NTU_CTL.SERVO = (src == .core) → src ≠ .core →
    exec (.ntuPhaseWrite src val) s = .next (settle s (s.put NTU_STAT.SERVO_OWNED 1))) ∧
  (∀ (s : State) (t : State), s.ready .ntu → t = s.taken .ntu 1 → t.jumpOver (t.pair64 NTU_STEP_LO.adr
    NTU_STEP_HI.adr) = false →
    exec .step s = .next (settle s ((t.askStep (t.pair64 NTU_STEP_LO.adr NTU_STEP_HI.adr) false).ended .ntu 1
      stPending))) ∧
  (∀ (s : State) (t : State), s.ready .ntu → t = s.taken .ntu 1 → t.jumpOver (t.pair64 NTU_STEP_LO.adr
    NTU_STEP_HI.adr) = true →
    exec .step s = .next (settle s ((t.jumpRefused (t.pair64 NTU_STEP_LO.adr NTU_STEP_HI.adr)).ended .ntu 1
      stRefusedArg))) ∧
  (∀ (s : State) (src : Src) (a : State), s.ready .ntu → (s.taken .ntu 2).authorise src = some a →
    exec (.stepForce src) s = .next (settle s (((a.disarmFar (a.pair64 NTU_STEP_LO.adr NTU_STEP_HI.adr)).askStep
      (a.pair64 NTU_STEP_LO.adr NTU_STEP_HI.adr) true).ended .ntu 2 stPending))) ∧
  (∀ (s : State) (t : State) (o : Int), s.ready .ntu → t = s.taken .ntu 3 → t.fld NTU_CMD_ARG.INDEX ≤ 4 → t.intact
    (t.fld NTU_CMD_ARG.INDEX) = true → o = (t.offset (t.fld NTU_CMD_ARG.INDEX)).getD 0 → t.jumpOver o = false → o = 0
    →
    exec .srcSelect s = .next (settle s ((t.follow (t.fld NTU_CMD_ARG.INDEX)).ended .ntu 3 stDone))) ∧
  (∀ (s : State) (t : State) (o : Int), s.ready .ntu → t = s.taken .ntu 3 → t.fld NTU_CMD_ARG.INDEX ≤ 4 → t.intact
    (t.fld NTU_CMD_ARG.INDEX) = true → o = (t.offset (t.fld NTU_CMD_ARG.INDEX)).getD 0 → t.jumpOver o = false → o ≠ 0
    →
    exec .srcSelect s = .next (settle s (((t.askStep o false).follow (t.fld NTU_CMD_ARG.INDEX)).ended .ntu 3
      stPending))) ∧
  (∀ (s : State) (t : State) (x : Nat) (v : State), s.ready .ntu → t = s.taken .ntu 4 → x = t.cmpTarget (t.fld
    NTU_CMD_ARG.INDEX) → t.inRange x = true → v = t.armedCmp (t.fld NTU_CMD_ARG.INDEX) →
    exec .cmpArm s = .next (settle s (((if x < v.nt then v.fireCmp (t.fld NTU_CMD_ARG.INDEX) true else v)).ended .ntu
      4 stDone))) ∧
  (∀ (s : State) (t : State), s.ready .ntu → t = s.taken .ntu 5 →
    exec .cmpDisarm s = .next (settle s (((t.put (NTU_CMP_W0.ARMED (t.fld NTU_CMD_ARG.INDEX)) 0)).ended .ntu 5
      stDone)))

/-- With NTU up: COMPARATOR_FIRE of an armed comparator that is reached fires it; HOLDOVER_EXPIRY goes to FREERUN,
flagged and logged; LEAP_SECOND with valid time inserts or removes the announced second; RTC_DISCIPLINE captures when
due; RATE_RECORD keeps RATE in NVM once an hour while LOCKED; PTP_RX timestamps the message and takes what the cores
make of it; PTP_EGRESS sends the message with its timestamp inserted and its FCS; GNSS_PPS takes the selected edge;
GNSS_SENTENCE without a fix disqualifies GNSS, and with one labels a waiting pulse. -/
def Obligations.NetworkTimeEventsComplete : Prop :=
  (∀ (s : State) (n : Fin 16), s.up .ntu = true → s.bit (NTU_CMP_W0.ARMED n.val) = true → reached s.nt (s.cmpTarget
    n.val) = true →
    exec (.comparatorFire n) s = .next (settle s (s.fireCmp n.val false))) ∧
  (∀ (s : State), s.up .ntu = true → s.fld NTU_STAT.STATE = 3 → s.cf NTU_HOLD.HOLD_S * secs ≤ s.unlockedFor →
    exec .holdoverExpiry s = .next (settle s (((s.setNtu 4).raise NTU_IRQ_STAT.HOLD_EXPIRED).logEv 8 4 (leBytes 2
      (s.cf NTU_HOLD.HOLD_S))))) ∧
  (∀ (s : State), s.up .ntu = true → s.ntValid = true → s.bit NTU_UTC.LEAP61 = true → s.utcSec % 86400 = 0 →
    exec .leapSecond s = .next (settle s ((s.put NTU_UTC.LEAP61 0).setOfs (s.sfld NTU_UTC.OFS + 1)))) ∧
  (∀ (s : State), s.up .ntu = true → s.ntValid = true → s.bit NTU_UTC.LEAP59 = true → s.utcSec % 86400 = 86399 →
    exec .leapSecond s = .next (settle s ((s.put NTU_UTC.LEAP59 0).setOfs (s.sfld NTU_UTC.OFS - 1)))) ∧
  (∀ (s : State), s.up .ntu = true → s.cfB NTU_RTC_CFG.EN = true → s.bit NTU_STAT.SYNC = true → (s.ntu.capAt = none ∨
    s.ntu.ofsChg = true) →
    exec .rtcDiscipline s = .next (settle s (s.disciplineRtc))) ∧
  (∀ (s : State) (a : Nat) (u r : Int), s.up .ntu = true → s.cfB NTU_RTC_CFG.EN = true → s.bit NTU_STAT.SYNC = true →
    s.ntu.capAt = some (a, u, r) → a + clampN 1 255 (s.cf NTU_RTC_CFG.INTERVAL_MIN) * 60 * secs ≤ s.clk →
    exec .rtcDiscipline s = .next (settle s (s.disciplineRtc))) ∧
  (∀ (s : State), s.up .ntu = true → s.fld NTU_STAT.STATE = 2 → s.ntu.recAt + 3600 * secs ≤ s.ntu.frc →
    exec .rateRecord s = .next (settle s
      ({ s with ntu := { s.ntu with nvmRate := s.ntu.rate, recAt := s.ntu.frc } }))) ∧
  (∀ (s : State) (p : Fin 2) (sync slave : Bool) (ofs : Option Int) (utc : Option (Int × Bool × Bool)) (msg : List
    Byte), s.up .bbn = true → s.bit BBN_CTL.EN = true → s.up .ntu = true →
    exec (.ptpRx p sync slave ofs utc msg) s = .next (settle s (s.ptpTaken p.val sync slave ofs utc msg))) ∧
  (∀ (s : State) (p : Fin 2) (origin addCf tsReq bad : Bool) (b : List Byte) (y o : Nat) (c : List Byte), s.up .bbn =
    true → s.bit BBN_CTL.EN = true → s.up .ntu = true → s.bit (BBN_PORT_STAT.LINK p.val) = true → y = s.stamp
    (s.txCorr p.val) → ptpAt b = some (o, none) → c = ptpInsert origin addCf y o b →
    exec (.ptpEgress p origin addCf tsReq bad b) s = .next (settle s ((fun t : State => if tsReq then t.emit (.core
      18) (((c.drop (o + 30)).take 2) ++ (beBytes 6 (y / 65536 / 1000000000) ++
        beBytes 4 (y / 65536 % 1000000000) ++ beBytes 2 (y % 65536))) else t)
      ((s.emit (.bb p.val) (c ++ leBytes 4 (if bad then crc32 c ^^^ 0xFFFFFFFF else crc32 c))).bump
        (BBN_PORT_TX.FRAMES p.val))))) ∧
  (∀ (s : State) (p : Fin 2) (origin addCf tsReq bad : Bool) (b : List Byte) (y o u : Nat) (c : List Byte), s.up .bbn
    = true → s.bit BBN_CTL.EN = true → s.up .ntu = true → s.bit (BBN_PORT_STAT.LINK p.val) = true → y = s.stamp
    (s.txCorr p.val) → ptpAt b = some (o, some u) → c = (if beAt b (u + 6) 2 = 0 then ptpInsert origin addCf y o b
    else splice (ptpInsert origin addCf y o b) (u + 6) (beBytes 2 (fixCsum b (ptpInsert origin addCf y o b) (u + 8)
    (beAt b (u + 6) 2)))) →
    exec (.ptpEgress p origin addCf tsReq bad b) s = .next (settle s ((fun t : State => if tsReq then t.emit (.core
      18) (((c.drop (o + 30)).take 2) ++ (beBytes 6 (y / 65536 / 1000000000) ++
        beBytes 4 (y / 65536 % 1000000000) ++ beBytes 2 (y % 65536))) else t)
      ((s.emit (.bb p.val) (c ++ leBytes 4 (if bad then crc32 c ^^^ 0xFFFFFFFF else crc32 c))).bump
        (BBN_PORT_TX.FRAMES p.val))))) ∧
  (∀ (s : State) (rising : Bool), s.up .ntu = true → s.cfB NTU_GNSS_CFG.EN = true → rising ≠ s.cfB NTU_GNSS_CFG.EDGE →
    exec (.gnssPps rising) s = .next (settle s (s.gnssEdge))) ∧
  (∀ (s : State) (utc : Nat), s.up .ntu = true → s.cfB NTU_GNSS_CFG.EN = true →
    exec (.gnssSentence false utc) s = .next (settle s (s.updSrc 4 fun x => { x with ok := false, good := 0 }))) ∧
  (∀ (s : State) (utc : Nat), s.up .ntu = true → s.cfB NTU_GNSS_CFG.EN = true → s.ntu.pps = none →
    exec (.gnssSentence true utc) s = .next (settle s (s.updSrc 4 fun x => { x with ok := true }))) ∧
  (∀ (s : State) (utc : Nat) (f : Nat) (v : State), s.up .ntu = true → s.cfB NTU_GNSS_CFG.EN = true → s.ntu.pps = some
    f → f + 10 * msec ≤ s.ntu.frc → s.ntu.frc ≤ f + 900 * msec → (v = (s.updSrc 4 fun x => { x with ok := true })) →
    exec (.gnssSentence true utc) s = .next (settle s ((fun t : State => { t with ntu := { t.ntu with pps := none } })
      (v.updSrc 4 fun x =>
      { x.measured f (((utc : Int) + v.sfld NTU_UTC.OFS) * 1000000000) with good := x.good + 1 }))))

/-- On a link that is up: a frame with a bad header retrains the link, and one with a bad CRC is counted; a good frame
for another position is forwarded; one for this module is taken, its credit going back, and then T_REQ is answered
with the timestamps of its arrival and departure, T_RSP of the running exchange gives a measurement, MZL_REQ with a
listed operation is performed and answered, MZL_RSP completes the open REQ of its TAG, MZL_DATA enters the switch,
CREDIT returns credits up to the grant, ENUM offers a position or, at POS 0, answers one, and MZL_IRQ at POS 0 follows
in HBR_CASC_PEND. TIME_EXCHANGE sends T_REQ when due. -/
def Obligations.MistazilFramesComplete : Prop :=
  (∀ (s : State) (l : Fin 2) (x : MzRx), s.mzUp l.val = true → x.hdrOk = false →
    exec (.mzlReq l x) s = .next (settle s (s.retrain l.val))) ∧
  (∀ (s : State) (l : Fin 2) (x : MzRx), s.mzUp l.val = true → x.hdrOk = true → x.crcOk = false →
    exec (.mzlReq l x) s = .next (settle s (((s.bump (MZL_LINK_RX.FRAMES l.val)).bump (MZL_LINK_CNT.CRC_ERR
      l.val)).returnCredit l.val mzReq x.payload.length))) ∧
  (∀ (s : State) (l : Fin 2) (x : MzRx) (v : State) (out : Nat), s.mzUp l.val = true → x.hdrOk = true → x.crcOk = true
    → v = s.bump (MZL_LINK_RX.FRAMES l.val) → v.mzRoute l.val x = some out →
    exec (.mzlReq l x) s = .next (settle s (v.mzForward l.val out ⟨mzReq, x.adj, x.dst, x.src, x.tag, x.payload⟩))) ∧
  (∀ (s : State) (l : Fin 2) (x : MzRx) (v w : State), s.mzUp l.val = true → x.hdrOk = true → x.crcOk = true → v =
    s.bump (MZL_LINK_RX.FRAMES l.val) → v.mzRoute l.val x = none → w = v.mzTaken l.val mzReq x → opListed x.payload =
    true →
    exec (.mzlReq l x) s = .next (settle s ((w.access (opAccess x.payload .mz) (leAt x.payload 8 8)).2.2.mzOffer l.val
      ⟨mzRsp, false, x.src, w.pos, x.tag, opAnswer x.payload (w.access (opAccess x.payload .mz) (leAt x.payload 8
      8)).1 (w.access (opAccess x.payload .mz) (leAt x.payload 8 8)).2.1⟩ false))) ∧
  (∀ (s : State) (l : Fin 2) (x : MzRx) (v w : State), s.mzUp l.val = true → x.hdrOk = true → x.crcOk = true → v =
    s.bump (MZL_LINK_RX.FRAMES l.val) → v.mzRoute l.val x = none → w = v.mzTaken l.val mzReq x → opListed x.payload =
    false →
    exec (.mzlReq l x) s = .next (settle s (w.mzOffer l.val ⟨mzRsp, false, x.src, w.pos, x.tag, opAnswer x.payload 2
      0⟩ false))) ∧
  (∀ (s : State) (l : Fin 2) (x : MzRx) (v w : State) (r : Req) (t : State), s.mzUp l.val = true → x.hdrOk = true →
    x.crcOk = true → v = s.bump (MZL_LINK_RX.FRAMES l.val) → v.mzRoute l.val x = none → w = v.mzTaken l.val mzRsp x →
    (w.mz.reqs.find? (fun r => r.tag == x.tag && r.link == l.val) = some r) → x.src = r.pos → t = (w.closeReq
    r.tag).mzFlow l.val →
    exec (.mzlRsp l x) s = .next (settle s (State.complete (t.withMz fun m =>
      { m with answered := (r.pos, t.clk) :: m.answered.filter (·.1 != r.pos) }) r (leAt x.payload 1 1 % 4) (leAt
      x.payload 8 8)))) ∧
  (∀ (s : State) (l : Fin 2) (x : MzRx) (v w : State) (r : Req) (t : State), s.mzUp l.val = true → x.hdrOk = true →
    x.crcOk = true → v = s.bump (MZL_LINK_RX.FRAMES l.val) → v.mzRoute l.val x = none → w = v.mzTaken l.val mzRsp x →
    (w.mz.reqs.find? (fun r => r.tag == x.tag && r.link == l.val) = some r) → x.src ≠ r.pos → t = (w.closeReq
    r.tag).mzFlow l.val →
    exec (.mzlRsp l x) s = .next (settle s (t.complete r (t.lostCode r.pos) 0))) ∧
  (∀ (s : State) (l : Fin 2) (x : MzRx) (v w : State) (k : PacketIn), s.mzUp l.val = true → x.hdrOk = true → x.crcOk =
    true → v = s.bump (MZL_LINK_RX.FRAMES l.val) → v.mzRoute l.val x = none → w = v.mzTaken l.val mzData x →
    x.payload.take 3 ≠ [0x52, 0x46, 0x01] → (s.pairEn && l.val == s.pairLink && x.adj && x.payload.take 4 == [0x54,
    0x4C, 0x4D, 0x52]) = false →
    exec (.mzlData l x k) s = .next (settle s (w.packetIn (linkPort l.val) { k with bytes := x.payload }))) ∧
  (∀ (s : State) (l : Fin 2) (x : MzRx) (v w : State) (y : MzLink), s.mzUp l.val = true → x.hdrOk = true → x.crcOk =
    true → v = s.bump (MZL_LINK_RX.FRAMES l.val) → v.mzRoute l.val x = none → w = v.mzTaken l.val mzCredit x → y =
    w.link l.val →
    exec (.credit l x) s = .next (settle s ((w.setLink l.val
      { y with credits := (List.range 5).map fun k => min (MzLink.fresh.credits.getD k 0) (if k = 4 then y.credits.getD 4 0 + leAt x.payload 0 1 + leAt x.payload 1 1 else y.credits.getD k 0 + leAt x.payload k 1) }).mzFlow
      l.val))) ∧
  (∀ (s : State) (l : Fin 2) (x : MzRx) (v w : State), s.mzUp l.val = true → x.hdrOk = true → x.crcOk = true → v =
    s.bump (MZL_LINK_RX.FRAMES l.val) → v.mzRoute l.val x = none → w = v.mzTaken l.val mzEnum x → l.val = 0 →
    exec (.enum l x) s = .next (settle s (w.enumOffered (leAt x.payload 0 1) (leAt x.payload 1 1 == 1)))) ∧
  (∀ (s : State) (l : Fin 2) (x : MzRx) (v w : State), s.mzUp l.val = true → x.hdrOk = true → x.crcOk = true → v =
    s.bump (MZL_LINK_RX.FRAMES l.val) → v.mzRoute l.val x = none → w = v.mzTaken l.val mzEnum x → l.val = 1 →
    w.enumerated = true → w.pos = 0 →
    exec (.enum l x) s = .next (settle s ((fun t : State => t.withMz fun m =>
      { m with enumAt := some t.clk, answered := (leAt x.payload 0 1, t.clk) :: m.answered.filter (·.1 != leAt x.payload 0 1) })
      (if w.fld MZL_STAT.LAST_POS < leAt x.payload 0 1 then w.put MZL_STAT.LAST_POS (leAt x.payload 0 1) else w)))) ∧
  (∀ (s : State) (l : Fin 2) (x : MzRx) (v w : State), s.mzUp l.val = true → x.hdrOk = true → x.crcOk = true → v =
    s.bump (MZL_LINK_RX.FRAMES l.val) → v.mzRoute l.val x = none → w = v.mzTaken l.val mzIrq x → w.pos = 0 →
    exec (.mzlIrq l x) s = .next (settle s (w.putB ⟨if x.src < 32 then HBR_CASC_PEND_LO.adr else HBR_CASC_PEND_HI.adr,
      x.src % 32, 1⟩ (leAt x.payload 0 1 == 1)))) ∧
  (∀ (s : State) (l : Fin 2) (x : MzRx) (v w : State), s.mzUp l.val = true → x.hdrOk = true → x.crcOk = true → v =
    s.bump (MZL_LINK_RX.FRAMES l.val) → v.mzRoute l.val x = none → w = v.mzTaken l.val mzTime x → leAt x.payload 0 1 =
    1 →
    exec (.tReq l x) s = .next (settle s (w.mzAdj l.val mzTime (w.timePayload 2 (leAt x.payload 4 2) (stampBytes
      (w.stamp (w.mzRxCorr l.val))) (stampBytes (w.stamp (w.mzTxCorr l.val))))))) ∧
  (∀ (s : State) (l : Fin 2) (x : MzRx) (v w : State) (seq : Nat) (t1 : Int), s.mzUp l.val = true → x.hdrOk = true →
    x.crcOk = true → v = s.bump (MZL_LINK_RX.FRAMES l.val) → v.mzRoute l.val x = none → w = v.mzTaken l.val mzTime x →
    w.ntu.exch = some (seq, t1) → l.val = 0 → leAt x.payload 0 1 = 2 → leAt x.payload 4 2 = seq →
    exec (.tRsp l x) s = .next (settle s ((fun y : State => if y.ntuCur = some 2 then y.setOfs (toSigned 16 (leAt
      x.payload 2 2)) else y)
      ((fun y : State => { y with ntu := { y.ntu with exch := none } }) (w.updSrc 2 fun y =>
        { (y.measured w.ntu.frc ((w.ntLine w.ntu.frc + ((stampAt x.payload 8 - t1) + (stampAt x.payload 20 - (w.stamp (w.mzRxCorr 0) : Nat))) / 2) / 65536)) with
          ok := leAt x.payload 1 1 == 1, lastAt := w.ntu.frc,
          badAt := if (leAt x.payload 1 1 == 1) = true then none else some (y.badAt.getD w.ntu.frc) }))))) ∧
  (∀ (s : State), s.mzUp 0 = true → s.mz.timeAt = none →
    exec .timeExchange s = .next (settle s (s.sendTReq))) ∧
  (∀ (s : State) (a : Nat), s.mzUp 0 = true → s.mz.timeAt = some a → a + msec ≤ s.clk →
    exec .timeExchange s = .next (settle s (s.sendTReq)))

/-- With MZL up: a REQ without an RSP for REQ_TO_US ends with ERROR and is counted; MZ_LINK_CHANGE brings a link up
where both ends use the same mode, or takes one down; ENUM_TIMEOUT makes a module without an upstream link POS 0;
ENUM_DONE reports 10 ms after the last answer; REENUM at POS 0 restarts enumeration and reports DONE, and elsewhere is
REFUSED_STATE; IRQ_REPEAT repeats the notice of a standing condition; DLA_BACKOFF withdraws the REQ frames that wait
on MZ_B. -/
def Obligations.MistazilEventsComplete : Prop :=
  (∀ (s : State) (t : BitVec 8) (r : Req), (s.mz.reqs.find? (fun r => r.tag == t.toNat) = some r) → r.at_ + clampN 10
    10000 (s.fld MZL_CFG.REQ_TO_US) * usec ≤ s.clk →
    exec (.mzlReqTimeout t) s = .next (settle s (((s.closeReq t.toNat).bump (MZL_LINK_CNT.TIMEOUT r.link)).complete r
      2 0))) ∧
  (∀ (s : State) (l : Fin 2) (on same : Bool) (v w : State), s.up .mzl = true → s.bit MZL_CFG.EN = true → v = s.putB
    MZL_STAT.DLA_MISMATCH (on && !same) → (on && same) = true → v.bit (MZL_LINK_STAT.UP l.val) = false → w = v.linkUp
    l.val → (w.pairEn && l.val == w.pairLink) = false →
    exec (.mzLinkChange l on same) s = .next (settle s (w))) ∧
  (∀ (s : State) (l : Fin 2) (on same : Bool) (v w : State), s.up .mzl = true → s.bit MZL_CFG.EN = true → v = s.putB
    MZL_STAT.DLA_MISMATCH (on && !same) → (on && same) = false → v.bit (MZL_LINK_STAT.UP l.val) = true → w =
    v.linkDown l.val → (w.pairEn && l.val == w.pairLink) = false →
    exec (.mzLinkChange l on same) s = .next (settle s (w))) ∧
  (∀ (s : State) (l : Fin 2) (on same : Bool) (v w : State), s.up .mzl = true → s.bit MZL_CFG.EN = true → v = s.putB
    MZL_STAT.DLA_MISMATCH (on && !same) → (on && same) = true → v.bit (MZL_LINK_STAT.UP l.val) = false → w = v.linkUp
    l.val → (w.pairEn && l.val == w.pairLink) = true →
    exec (.mzLinkChange l on same) s = .next (settle s (w.pairLinkFollow l.val (s.bit PAIR_STAT.LINK)))) ∧
  (∀ (s : State) (l : Fin 2) (on same : Bool) (v w : State), s.up .mzl = true → s.bit MZL_CFG.EN = true → v = s.putB
    MZL_STAT.DLA_MISMATCH (on && !same) → (on && same) = false → v.bit (MZL_LINK_STAT.UP l.val) = true → w =
    v.linkDown l.val → (w.pairEn && l.val == w.pairLink) = true →
    exec (.mzLinkChange l on same) s = .next (settle s (w.pairLinkFollow l.val (s.bit PAIR_STAT.LINK)))) ∧
  (∀ (s : State), s.up .mzl = true → s.bit MZL_CFG.EN = true → s.enumerated = false → s.mz.aSeen = false →
    s.epc.coldAt + 100 * msec ≤ s.clk →
    exec .enumTimeout s = .next (settle s (s.takePos 0 false))) ∧
  (∀ (s : State) (a : Nat), s.mz.enumAt = some a → s.up .mzl = true → s.enumerated = true → s.pos = 0 → a + 10 * msec
    ≤ s.clk →
    exec .enumDone s = .next (settle s ((s.raise MZL_IRQ_STAT.ENUM_DONE).withMz fun m => { m with enumAt := none })))
      ∧
  (∀ (s : State) (t : State), s.ready .mzl → t = s.taken .mzl 1 → t.enumerated = true → t.pos = 0 →
    exec .reenum s = .next (settle s (((((t.put MZL_STAT.LAST_POS 0).sendEnum true).withMz fun m =>
      { m with enumAt := some t.clk })).ended .mzl 1 stDone))) ∧
  (∀ (s : State) (t : State), s.ready .mzl → t = s.taken .mzl 1 → t.pos ≠ 0 →
    exec .reenum s = .next (settle s ((t).ended .mzl 1 stRefusedState))) ∧
  (∀ (s : State), s.mzUp 0 = true → s.pos ≠ 0 → s.irqCond = true → s.mz.irqAt + 100 * msec ≤ s.clk →
    exec .irqRepeat s = .next (settle s (s.sendIrq))) ∧
  (∀ (s : State) (a : Nat), s.mzUp 1 = true → s.bit MZL_CFG.DLA = true → (s.link 1).blockedAt = some a → a + 20 * usec
    ≤ s.clk →
    exec (.dlaBackoff true) s = .next (settle s (s.withdrawReqs)))

/-- Outside EMBER and BANKED: HSPI_READ of this module's word that needs no slot is answered at once; a destructive
one takes a fetch slot and answers RETRY; a repeat of a transaction in a slot is answered from it; HSPI_WRITE with all
its bytes, where the window admits it, is posted, or where the window's NP is set takes the way of a read; a write
that the window forbids is DENIED and one of a reserved command is an ERROR. POSTED_WRITE_DONE performs the oldest
posted write at this module; SLOT_HOLD_EXPIRY frees a slot unclaimed for HOLD_US; SLOT_FLUSH frees every slot, logs
the destructive ones and reports DONE. -/
def Obligations.HostPortComplete : Prop :=
  (∀ (s : State) (cmd : BitVec 8) (addr : BitVec 32) (full : Bool) (o : HostOp), s.pwr.mode ≠ .ember → s.pwr.mode ≠
    .banked → o = hspiOp cmd.toNat addr.toNat [] (destrRead cmd.toNat addr.toNat) → o.op = 0 → cmd.toNat % 16 = 0 →
    s.matching cmd.toNat addr.toNat [] = none → o.pos = s.pos → s.reaches o.access = true → o.destr = false →
    s.canBegin o.pos = true →
    exec (.hspiRead cmd addr full) s = .next (settle s ((s.access o.access 0).2.2.hspiReply o none (s.access o.access
      0).1 (s.access o.access 0).2.1))) ∧
  (∀ (s : State) (cmd : BitVec 8) (addr : BitVec 32) (full : Bool) (o : HostOp) (k : Nat), s.pwr.mode ≠ .ember →
    s.pwr.mode ≠ .banked → o = hspiOp cmd.toNat addr.toNat [] (destrRead cmd.toNat addr.toNat) → o.op = 0 → cmd.toNat
    % 16 = 0 → s.matching cmd.toNat addr.toNat [] = none → o.pos = s.pos → s.reaches o.access = true → o.destr = true
    → s.destrSlots < 6 → s.freeFetch = some k →
    exec (.hspiRead cmd addr full) s = .next (settle s ((s.acceptOp { o with slot := some k }).hspiReply o (some k) 1
      0))) ∧
  (∀ (s : State) (cmd : BitVec 8) (addr : BitVec 32) (full : Bool) (o : HostOp) (k : Nat), s.pwr.mode ≠ .ember →
    s.pwr.mode ≠ .banked → o = hspiOp cmd.toNat addr.toNat [] (destrRead cmd.toNat addr.toNat) → o.op = 0 → cmd.toNat
    % 16 = 0 → s.matching cmd.toNat addr.toNat [] = none → o.pos ≠ s.pos → s.reachable o.pos = true → o.destr = false
    → s.freeFetch = some k →
    exec (.hspiRead cmd addr full) s = .next (settle s ((s.acceptOp { o with slot := some k }).hspiReply o (some k) 1
      0))) ∧
  (∀ (s : State) (cmd : BitVec 8) (addr : BitVec 32) (full : Bool) (o : HostOp) (x : HostOp), s.pwr.mode ≠ .ember →
    s.pwr.mode ≠ .banked → o = hspiOp cmd.toNat addr.toNat [] (destrRead cmd.toNat addr.toNat) → o.op = 0 → cmd.toNat
    % 16 = 0 → s.matching cmd.toNat addr.toNat [] = some x →
    exec (.hspiRead cmd addr full) s = .next (settle s (s.repeatOp x full))) ∧
  (∀ (s : State) (cmd : BitVec 8) (addr : BitVec 32) (full : Bool), s.pwr.mode ≠ .ember → s.pwr.mode ≠ .banked → (2 ≤
    bitsOf cmd.toNat 6 2 ∨ bitsOf cmd.toNat 6 2 = 0 ∧ cmd.toNat % 16 ≠ 0) →
    exec (.hspiRead cmd addr full) s = .next (settle s (s.hspiOut none 2 []))) ∧
  (∀ (s : State) (cmd : BitVec 8) (addr : BitVec 32) (data : List Byte) (o : HostOp), s.pwr.mode ≠ .ember → s.pwr.mode
    ≠ .banked → o = hspiOp cmd.toNat addr.toNat data false → o.op = 1 → cmd.toNat % 16 ≠ 0 →
    exec (.hspiWrite cmd addr data) s = .next (settle s (s.hspiOut none 2 []))) ∧
  (∀ (s : State) (cmd : BitVec 8) (addr : BitVec 32) (data : List Byte) (o : HostOp) (x : HostOp), s.pwr.mode ≠ .ember
    → s.pwr.mode ≠ .banked → o = hspiOp cmd.toNat addr.toNat data false → o.op = 1 → cmd.toNat % 16 = 0 → data.length
    = o.bytes → s.matching cmd.toNat addr.toNat data = some x →
    exec (.hspiWrite cmd addr data) s = .next (settle s (s.repeatOp x true))) ∧
  (∀ (s : State) (cmd : BitVec 8) (addr : BitVec 32) (data : List Byte) (o : HostOp), s.pwr.mode ≠ .ember → s.pwr.mode
    ≠ .banked → o = hspiOp cmd.toNat addr.toNat data false → o.op = 1 → cmd.toNat % 16 = 0 → data.length = o.bytes →
    s.matching cmd.toNat addr.toNat data = none → s.mayWrite .hspi o.off = false →
    exec (.hspiWrite cmd addr data) s = .next (settle s (s.hspiReply o none 3 0))) ∧
  (∀ (s : State) (cmd : BitVec 8) (addr : BitVec 32) (data : List Byte) (o : HostOp), s.pwr.mode ≠ .ember → s.pwr.mode
    ≠ .banked → o = hspiOp cmd.toNat addr.toNat data false → o.op = 1 → cmd.toNat % 16 = 0 → data.length = o.bytes →
    s.matching cmd.toNat addr.toNat data = none → s.mayWrite .hspi o.off = true → s.bit (HBR_WIN.NP (s.window o.off))
    = true →
    exec (.hspiWrite cmd addr data) s = .next (settle s (s.newSlotOp o))) ∧
  (∀ (s : State) (cmd : BitVec 8) (addr : BitVec 32) (data : List Byte) (o : HostOp), s.pwr.mode ≠ .ember → s.pwr.mode
    ≠ .banked → o = hspiOp cmd.toNat addr.toNat data false → o.op = 1 → cmd.toNat % 16 = 0 → data.length = o.bytes →
    s.matching cmd.toNat addr.toNat data = none → s.mayWrite .hspi o.off = true → s.bit (HBR_WIN.NP (s.window o.off))
    = false → s.hb.ops.countP (·.posted) < 16 → (o.pos = s.pos ∨ s.reachable o.pos = true) →
    exec (.hspiWrite cmd addr data) s = .next (settle s ((s.acceptOp o).hspiReply o none 0 0))) ∧
  (∀ (s : State) (o : HostOp), (s.hb.ops.find? (fun o => o.posted && o.pos == s.pos) = some o) →
    exec .postedWriteDone s = .next (settle s ((s.beginOp o).kick s.pos))) ∧
  (∀ (s : State) (k : Fin 8) (o : HostOp), (s.hb.ops.find? (fun o => o.slot == some k.val) = some o) → o.destr = false
    → o.result.isSome = true → o.doneAt + clampN 10 10000 (s.fld HBR_FETCH_CFG.HOLD_US) * usec ≤ s.clk →
    exec (.slotHoldExpiry k) s = .next (settle s ((s.dropOp o.seq).raise HBR_IRQ_STAT.SLOT_EXPIRED))) ∧
  (∀ (s : State) (t : State), s.ready .hbr → t = s.taken .hbr 1 →
    exec .slotFlush s = .next (settle s (((State.logEv
      { t with hb := { t.hb with ops := t.hb.ops.filter (·.slot.isNone) } } 22 1 (leBytes 1 (t.hb.ops.countP fun (o :
      HostOp) => o.slot.isSome && o.destr)))).ended .hbr 1 stDone)))

/-- With the USB port enabled: USB_BUS_RESET counts a reset, and aborts a transfer in progress; USB_READ and USB_WRITE
of 4 to 512 bytes in whole words run word by word, another length is stalled; GET_RESULT of 8 bytes and GET_INFO of 32
answer, another length is stalled; USB_BULK_OUT puts a packet into SP17; USB_BULK_IN returns SP17's next packet;
USB_SET_CONFIGURATION that changes CONFIGURED sets it and reports. With KEY up: JTAG_INSTRUCTION answers BYPASS and
IDCODE in every life-cycle state, and EXTEST and debug access in BLANK, PROVISIONED and RETURN only. -/
def Obligations.UsbComplete : Prop :=
  (∀ (s : State) (inside hs : Bool) (v : State), s.usbOn = true → v = (s.bump USB_CNT.BUS_RESETS).putB USB_STAT.HS hs
    → (inside || s.usb.xfer.isSome) = true →
    exec (.usbBusReset inside hs) s = .next (settle s (((v.bump USB_CNT.ABORTED).raise USB_IRQ_STAT.ABORTED).usbEnd)))
      ∧
  (∀ (s : State) (inside hs : Bool) (v : State), s.usbOn = true → v = (s.bump USB_CNT.BUS_RESETS).putB USB_STAT.HS hs
    → (inside || s.usb.xfer.isSome) = false →
    exec (.usbBusReset inside hs) s = .next (settle s (v))) ∧
  (∀ (s : State) (pos : BitVec 6) (off : BitVec 26) (len : BitVec 16), s.usbFree = true → usbLenOk len.toNat = true →
    exec (.usbRead pos off len) s = .next (settle s (State.usbRun 129 ⟨false, pos.toNat, off.toNat, len.toNat / 4, [],
      [], none, none⟩ s))) ∧
  (∀ (s : State) (pos : BitVec 6) (off : BitVec 26) (len : BitVec 16), s.usbFree = true → usbLenOk len.toNat = false →
    exec (.usbRead pos off len) s = .next (settle s (s.usbStall))) ∧
  (∀ (s : State) (pos : BitVec 6) (off : BitVec 26) (data : List Byte), s.usbFree = true → usbLenOk data.length = true
    →
    exec (.usbWrite pos off data) s = .next (settle s (State.usbRun 129 ⟨true, pos.toNat, off.toNat, 0, (List.range
      (data.length / 4)).map fun k => leAt data (4 * k) 4, [], none, none⟩ s))) ∧
  (∀ (s : State) (pos : BitVec 6) (off : BitVec 26) (data : List Byte), s.usbFree = true → usbLenOk data.length =
    false →
    exec (.usbWrite pos off data) s = .next (settle s (s.usbStall))) ∧
  (∀ (s : State) (len : BitVec 16), s.usbFree = true → len.toNat = 8 →
    exec (.getResult len) s = .next (settle s (s.usbOut (leBytes 1 s.usb.result.1 ++ [0] ++ leBytes 2 s.usb.result.2.1
      ++ leBytes 4 s.usb.result.2.2)))) ∧
  (∀ (s : State) (len : BitVec 16), s.usbFree = true → len.toNat ≠ 8 →
    exec (.getResult len) s = .next (settle s (s.usbStall))) ∧
  (∀ (s : State) (len : BitVec 16), s.usbFree = true → len.toNat = 32 →
    exec (.getInfo len) s = .next (settle s (s.usbOut (leBytes 4 (s.view 2 SYS_ID_FAMILY.adr) ++ leBytes 4 (s.view 2
      SYS_ID_PART.adr) ++ serialBytes ++ leBytes 4 (s.view 2 SYS_ID_SEG.adr) ++ leBytes 4 (s.view 2 PWR_STAT.adr) ++
      leBytes 4 (s.view 2 CFG_EPOCH.adr) ++ leBytes 4 (s.view 2 NTU_STAT.adr))))) ∧
  (∀ (s : State) (len : BitVec 16), s.usbFree = true → len.toNat ≠ 32 →
    exec (.getInfo len) s = .next (settle s (s.usbStall))) ∧
  (∀ (s : State) (k : PacketIn), s.usbOn = true →
    exec (.usbBulkOut k) s = .next (settle s (s.packetIn 17 k))) ∧
  (∀ (s : State) (d : Desc) (v : State), s.usbOn = true → (s.schedule 17).1 = some d → v = (s.schedule 17).2 →
    exec .usbBulkIn s = .next (settle s ((v.dropDesc d).usbOut (v.egress d)))) ∧
  (∀ (s : State) (on : Bool), s.usbOn = true → s.bit USB_STAT.CONFIGURED ≠ on →
    exec (.usbSetConfiguration on) s = .next (settle s ((s.putB USB_STAT.CONFIGURED on).raise
      USB_IRQ_STAT.CONFIG_CHG))) ∧
  (∀ (s : State) (op : Fin 4) (v : Nat), s.up .key = true → op.val = 1 → v = s.freeVal →
    exec (.jtagInstruction op) s = .next (settle s ((s.emit .jtag ([0] ++ leBytes 4 (v % 16 * 2 ^ 28 + s.fld
      SYS_ID_PART.PART_CODE * 2 ^ 12 + v / 16 % 2 ^ 11 * 2 + 1))).useFree))) ∧
  (∀ (s : State) (op : Fin 4), s.up .key = true → 2 ≤ op.val → ([0, 1, 4] : List Nat).contains s.key.lc = false →
    exec (.jtagInstruction op) s = .next (settle s (s.emit .jtag [1]))) ∧
  (∀ (s : State) (op : Fin 4), s.up .key = true → (op.val = 0 ∨ 2 ≤ op.val ∧ ([0, 1, 4] : List Nat).contains s.key.lc
    = true) →
    exec (.jtagInstruction op) s = .next (settle s (s.emit .jtag [0])))

/-- With BBN up and enabled: BB_LINK_CHANGE of a port whose link is found or lost follows it; BB_SPEED_ALTERNATE of a
port without a link and with SPEED 0 or 3 changes over every 500 ms; RING_CHECK of the ring owner sends a check when
due; RING_CHECK_RX at the owner closes the ring when its own check comes back on BB1, and elsewhere forwards it;
RING_PORT_HOLD_END ends a hold that is over; RAF_REQ on a link that is up counts the frame, judges its tag and
addressing, and serves it where they hold. -/
def Obligations.BackboneComplete : Prop :=
  (∀ (s : State) (p : Fin 2) (on gig : Bool), s.bbOn = true → s.bit (BBN_PORT_STAT.LINK p.val) ≠ on →
    exec (.bbLinkChange p on gig) s = .next (settle s (s.bbLink p.val on gig))) ∧
  (∀ (s : State) (p : Fin 2), s.bbOn = true → s.bit (BBN_PORT_STAT.LINK p.val) = false → (s.fld (BBN_PORT_CFG.SPEED
    p.val) = 0 ∨ s.fld (BBN_PORT_CFG.SPEED p.val) = 3) → s.bb.altAt.getD p.val 0 + 500 * msec ≤ s.clk →
    exec (.bbSpeedAlternate p) s = .next (settle s ((s.putB (BBN_PORT_STAT.GIG p.val) (!s.bit (BBN_PORT_STAT.GIG
      p.val))).withBb fun b => { b with altAt := updAt b.altAt p.val fun _ => s.clk }))) ∧
  (∀ (s : State), s.ringOwner = true → s.bb.ringAt + 10 * msec ≤ s.clk →
    exec .ringCheck s = .next (settle s (s.ringCheckNow))) ∧
  (∀ (s : State) (seg : BitVec 16) (seq : BitVec 32) (v : State), s.bbUp 1 = true → v = s.bump (BBN_PORT_RX.FRAMES 1)
    → v.ringOwner = true → seg.toNat = v.seg →
    exec (.ringCheckRx 1 seg seq) s = .next (settle s ((if v.bit (BBN_PORT_STAT.BLOCKED 1) then v else (v.put
      (BBN_PORT_STAT.BLOCKED 1) 1).raise BBN_IRQ_STAT.RING_CLOSED).withBb fun b =>
      { b with back := true, missing := 0 }))) ∧
  (∀ (s : State) (p : Fin 2) (seg : BitVec 16) (seq : BitVec 32) (v : State), s.bbUp p.val = true → v = s.bump
    (BBN_PORT_RX.FRAMES p.val) → (v.ringOwner = false ∨ seg.toNat ≠ v.seg) → v.bit BBN_CTL.RING = true → v.bbUp (1 -
    p.val) = true →
    exec (.ringCheckRx p seg seq) s = .next (settle s (v.bbPut (1 - p.val) (v.checkFrame seg.toNat seq.toNat)))) ∧
  (∀ (s : State) (p : Fin 2),
    exec (.ringPortHoldEnd p) s = .next (settle s (s.withBb fun b =>
      { b with holdUntil := b.holdUntil.filter fun x => !(x.1 == p.val && x.2 ≤ s.clk) }))) ∧
  (∀ (s : State) (p : Fin 2) (ip : BitVec 32) (port : BitVec 16) (b : List Byte) (r : Bool × State), s.bbUp p.val =
    true → r = (s.bump (BBN_PORT_RX.FRAMES p.val)).rafAccept b →
    exec (.rafReq p ip port b) s = .next (settle s (r.2.rafServe r.1 p.val ip.toNat port.toNat b)))

/-- CLEAR_STORE_DONE of a pending clear leaves the three image areas blank and ends it DONE; LOG_CLEAR_DONE finishes a
clear of the log, and ends a pending command DONE; CONFIRM_DONE verifies the other bank of a confirmed image;
CHANNEL_RESUMES puts a substituted channel back to work; VRF_RECOVERED releases the radios and launches what fell due.
-/
def Obligations.LongCommandsEnd : Prop :=
  (∀ (s : State), s.up .cfg = true → s.isPending .cfg 2 = true →
    exec .clearStoreDone s = .next (settle s (finishCmd .cfg stDone
      { s with cfg := { s.cfg with areas := [.blank, .blank, .blank] } }))) ∧
  (∀ (s : State) (v : State), s.log.clearing.isSome = true → s.up .log = true → v = s.finishClear →
    exec .logClearDone s = .next (settle s (if v.isPending .log 1 then finishCmd .log stDone v else v))) ∧
  (∀ (s : State) (r : Nat × State) (v t : State), s.up .upd = true → s.upd.confirming = true → r = s.verifyBank (1 -
    s.upd.running) → (v = r.2.withUpd fun u => { u with confirming := false }) → t = (if r.1 = 0 then v.setFwBank (1 -
    s.upd.running) bankBisque 0 else v.bankFails (1 - s.upd.running) failDigest 1) →
    exec .confirmDone s = .next (settle s (if t.isPending .upd 5 then finishCmd .upd stDone t else t))) ∧
  (∀ (s : State) (ch : Fin 8) (v t : State), s.up .rad = true → (s.chan ch.val).swap = true → (v = ((((s.updChan
    ch.val fun c => { c with swap := false }).resumeTimed ch.val).put RAD_STAT.SPARE_USED 1).put RAD_STAT.SPARE_FOR
    ch.val)) → t = timedFrameLaunch ch.val ((v.raise RAD_IRQ_STAT.SPARE_IN).pubChan ch.val) → (s.hlt.busy.find? (fun x
    => x.1 == 3 && x.2.1 == ch.val) = none) →
    exec (.channelResumes ch) s = .next (settle s (t))) ∧
  (∀ (s : State) (ch : Fin 8) (v t : State) (n : Nat × Nat × Nat), s.up .rad = true → (s.chan ch.val).swap = true → (v
    = ((((s.updChan ch.val fun c => { c with swap := false }).resumeTimed ch.val).put RAD_STAT.SPARE_USED 1).put
    RAD_STAT.SPARE_FOR ch.val)) → t = timedFrameLaunch ch.val ((v.raise RAD_IRQ_STAT.SPARE_IN).pubChan ch.val) →
    (s.hlt.busy.find? (fun x => x.1 == 3 && x.2.1 == ch.val) = some n) →
    exec (.channelResumes ch) s = .next (settle s ((t.spareIn 3 ch.val n.2.2).serveUnits 3 0 9))) ∧
  (∀ (s : State), s.up .hlt = true → s.hlt.vrfHold = true →
    exec .vrfRecovered s = .next (settle s ((List.range 8).foldl (fun v ch => timedFrameLaunch ch (v.resumeTimed ch))
      (s.withHlt fun h => { h with vrfHold := false }))))

/-- With MTR up and enabled: ACCUMULATION_INTERVAL after 160 samples transfers energy and takes up configuration,
ranges and compensation; AUTO_RANGE_SWITCH of an intact AUTO channel changes its range and counts 4 interpolated
samples; MTR_TEMP_UPDATE publishes the temperature and evaluates the compensation; ZERO_CROSSING accepted on an
enabled set starts, counts or ends its window; ZC_LOST after the timeout flags and logs the loss; WINDOW_END of an
ended window gives the set's and its feeders' results. MODULATOR_CHECK of a drifting channel declares its modulator
worn, and MODULATOR_SUBSTITUTION after 1 s of trimming switches the channel to its spare. -/
def Obligations.MeteringIntervalsComplete : Prop :=
  (∀ (s : State) (sig : List (List Int)), s.mtrOn = true → s.mtr.intAt + 10 * msec ≤ s.clk →
    exec (.accumulationInterval sig) s = .next (settle s (s.endInterval sig))) ∧
  (∀ (s : State) (n : Fin 36) (to16 : Bool), s.mtrOn = true → s.bit (MTR_CH_CTL.AUTO (12 + n.val)) = true →
    s.mtrFailed (12 + n.val) = false → s.bit (MTR_CH_STAT.RANGE16 (12 + n.val)) = !to16 →
    exec (.autoRangeSwitch n to16) s = .next (settle s ((s.putB (MTR_CH_STAT.RANGE16 (12 + n.val)) to16).bumpBy
      (MTR_CH_STAT.INTERP (12 + n.val)) 4))) ∧
  (∀ (s : State) (t : Int), s.up .mtr = true →
    exec (.mtrTempUpdate t) s = .next (settle s ((s.putI MTR_TEMP.T t).withMtr fun m => { m with
      comps := (List.range 48).map fun ch => (s.compAt (MTR_COMP.GAIN_PPM ch) t, s.compAt (MTR_COMP.PHASE_NS ch) t)
        }))) ∧
  (∀ (s : State) (k : Fin 4) (x : SetRun), s.setOn k.val = true → s.crossingOk k.val = true → x = s.setRun' k.val →
    s.bit (MTR_SET_RES0.ZC_LOST k.val) = true →
    exec (.zeroCrossing k) s = .next (settle s ((s.put (MTR_SET_RES0.ZC_LOST k.val) 0).putSet k.val
      { x with last := some s.clk, first := some s.clk, start := s.clk, count := 0, ended := some none }))) ∧
  (∀ (s : State) (k : Fin 4) (x : SetRun), s.setOn k.val = true → s.crossingOk k.val = true → x = s.setRun' k.val →
    s.bit (MTR_SET_RES0.ZC_LOST k.val) = false → x.first = none →
    exec (.zeroCrossing k) s = .next (settle s (s.putSet k.val
      { x with last := some s.clk, first := some s.clk, start := s.clk, count := 0 }))) ∧
  (∀ (s : State) (k : Fin 4) (x : SetRun) (t : Nat), s.setOn k.val = true → s.crossingOk k.val = true → x = s.setRun'
    k.val → s.bit (MTR_SET_RES0.ZC_LOST k.val) = false → x.first = some t → x.count + 1 = s.periodsK →
    exec (.zeroCrossing k) s = .next (settle s (s.putSet k.val
      { x with last := some s.clk, first := some s.clk, start := s.clk, count := 0, ended := some (some (s.clk - t)) })))
      ∧
  (∀ (s : State) (k : Fin 4) (x : SetRun) (t : Nat), s.setOn k.val = true → s.crossingOk k.val = true → x = s.setRun'
    k.val → s.bit (MTR_SET_RES0.ZC_LOST k.val) = false → x.first = some t → x.count + 1 ≠ s.periodsK →
    exec (.zeroCrossing k) s = .next (settle s (s.putSet k.val { x with last := some s.clk, count := x.count + 1 })))
      ∧
  (∀ (s : State) (k : Fin 4), s.setOn k.val = true → s.bit (MTR_SET_RES0.ZC_LOST k.val) = false → (s.setRun'
    k.val).last.getD (s.setRun' k.val).start + max 1 (s.cf (MTR_SET_ALARM.ZC_TO k.val)) * s.nomPeriod / 10 ≤ s.clk →
    exec (.zcLost k) s = .next (settle s (s.loseZc k.val))) ∧
  (∀ (s : State) (k : Fin 4) (sig : List (List Int)) (span : Option Nat), s.windowOver k.val = some span → s.setOn
    k.val = true →
    exec (.windowEnd k sig) s = .next (settle s (s.closeWindow k.val sig span))) ∧
  (∀ (s : State) (ch : Fin 48) (bad : Nat), s.mtrOn = true → s.mtrFailed ch.val = false →
    exec (.modulatorCheck ch true bad) s = .next (settle s ((s.declareUnit 4 ch.val false bad).pairFollow))) ∧
  (∀ (s : State) (ch : Fin 48) (m a : Nat) (v : State), s.up .mtr = true → (s.mtr.trims.find? (fun x => x.1 == ch.val)
    = some (ch.val, m, a)) → a + secs ≤ s.clk → (v = s.withMtr fun y =>
    { y with trims := y.trims.filter fun x => x.1 != ch.val }) →
    exec (.modulatorSubstitution ch) s = .next (settle s (((((v.put (MTR_CH_STAT.SPARE ch.val) 1).put (MTR_CH_STAT.MOD
      ch.val) m).spareIn 4 ch.val (m - 48)).serveUnits 4 0 49))))

/-- Accepted by MTR, FREEZE_ALL is PENDING for the next sample, or for an instant in range not yet past; FREEZE_SAMPLE
at that sample transfers the energy, takes the snapshots and ends the command. PULSE_DUE of an enabled generator whose
residue has reached CONST makes, queues or loses the pulse; PULSE_END ends the running pulse, and a waiting one starts
once the output has been low for its width. REC_WINDOW_END closes a window that has run its length. -/
def Obligations.FreezesPulsesAndReconciliationComplete : Prop :=
  (∀ (s : State) (t : State), s.ready .mtr → t = s.taken .mtr 1 → t.bit MTR_CMD_ARG.AT = false →
    exec .freezeAll s = .next (settle s ((t.withMtr fun m => { m with freezeAt := some 0 }).ended .mtr 1 stPending)))
      ∧
  (∀ (s : State) (t : State) (n : Nat), s.ready .mtr → t = s.taken .mtr 1 → t.bit MTR_CMD_ARG.AT = true → n = t.fld
    MTR_FREEZE_T_NS.NS + (t.fld MTR_FREEZE_T_SEC_LO.SEC_LO + 2 ^ 32 * t.fld MTR_FREEZE_T_SEC_HI.SEC_HI) * 1000000000 →
    t.nt ≤ n → t.inRange n = true →
    exec .freezeAll s = .next (settle s ((t.withMtr fun m => { m with freezeAt := some n }).ended .mtr 1 stPending)))
      ∧
  (∀ (s : State) (sig : List (List Int)) (t : Nat), s.mtrOn = true → s.mtr.freezeAt = some t → t ≤ s.nt →
    exec (.freezeSample sig) s = .next (settle s (s.freezeNow sig))) ∧
  (∀ (s : State) (k : Fin 16) (p : PulseRun), s.mtrOn = true → s.cfB (MTR_PULSE_CFG.EN k.val) = true → p = s.pulse
    k.val → s.pulseConst k.val ≤ p.residue + (p.spread * min 160 ((s.clk - p.start) / sampleCounts) / 160 : Nat) →
    exec (.pulseDue k) s = .next (settle s (s.pulseNow k.val (s.pulseConst k.val)))) ∧
  (∀ (s : State) (k : Fin 16) (t : Nat), (s.pulse k.val).highUntil = some t → t ≤ s.clk →
    exec (.pulseEnd k) s = .next (settle s (((s.setPulse k.val { s.pulse k.val with highUntil := none }).pulsePin
      k.val false).pulseNext k.val))) ∧
  (∀ (s : State) (k : Fin 16) (p : PulseRun) (w : Nat) (l : List Nat), p = s.pulse k.val → p.highUntil = none →
    p.lowUntil ≤ s.clk → p.waiting = w :: l →
    exec (.pulseEnd k) s = .next (settle s ((s.setPulse k.val { p with waiting := l }).startPulse k.val w))) ∧
  (∀ (s : State) (f : Fin 12) (r : RecRun), s.mtrOn = true → (s.mtr.recs.find? (fun r => r.feeder == f.val) = some r)
    → r.start + r.len ≤ s.ntu.frc →
    exec (.recWindowEnd f) s = .next (settle s (s.closeRec r)))

/-- Accepted by LOG, CLEAR by a source with a session erases the records and is PENDING, and FLUSH writes the staging
buffer at once; LOG_CLEAR_DONE makes LOG_CLEARED the first record and ends the command; LOG_NVM_WRITE writes the
staged records; RATE_WINDOW_CLOSE ends a window whose period is over, with a summary of what it kept back;
LOG_RD_SEQ_WRITE copies a record in NVM or staged, and reports one that is gone; OPTIME_SECOND counts a powered
second. -/
def Obligations.LogCommandsComplete : Prop :=
  (∀ (s : State) (src : Src) (a : State), s.ready .log → (s.taken .log 1).authorise src = some a →
    exec (.logClear src) s = .next (settle s ((State.publishLog
      { a with log := { a.log with clearing := some (a.log.head, a.log.recs.length, src.code), recs := [] } }).ended
      .log 1 stPending))) ∧
  (∀ (s : State) (t : State), s.ready .log → t = s.taken .log 2 →
    exec .logFlush s = .next (settle s ((t.flushLog).ended .log 2 stDone))) ∧
  (∀ (s : State), s.up .log = true →
    exec .logNvmWrite s = .next (settle s (s.flushLog))) ∧
  (∀ (s : State) (c : Fin 256) (w : RateWin) (v : State), (s.log.wins.find? (fun w => w.cls == c.val && w.endAt ≤
    s.clk) = some w) → (v = { s with log := { s.log with wins := s.log.wins.filter fun y => y.cls != c.val } }) →
    w.count = 0 →
    exec (.rateWindowClose c) s = .next (settle s (v))) ∧
  (∀ (s : State) (c : Fin 256) (w : RateWin) (v : State), (s.log.wins.find? (fun w => w.cls == c.val && w.endAt ≤
    s.clk) = some w) → (v = { s with log := { s.log with wins := s.log.wins.filter fun y => y.cls != c.val } }) →
    w.count ≠ 0 → v.coreOn = true →
    exec (.rateWindowClose c) s = .next (settle s (v.suppressed w))) ∧
  (∀ (s : State) (seq : BitVec 32) (v : State) (q : Nat) (b : List Byte), s.up .log = true → v = s.put LOG_RD_SEQ.SEQ
    seq.toNat → (v.log.recs.find? (fun r => r.1 == seq.toNat) = some (q, b)) →
    exec (.logRdSeqWrite seq) s = .next (settle s ((v.copyRec b).rdStat true (leAt b 28 4 != crc32 (b.take 28)) false
      false))) ∧
  (∀ (s : State) (seq : BitVec 32) (v : State), s.up .log = true → v = s.put LOG_RD_SEQ.SEQ seq.toNat →
    (v.log.recs.find? (fun r => r.1 == seq.toNat) = none) → seq.toNat < v.log.head →
    exec (.logRdSeqWrite seq) s = .next (settle s (v.rdStat false false true false))) ∧
  (∀ (s : State) (seq : BitVec 32) (v : State) (r : LogRec), s.up .log = true → v = s.put LOG_RD_SEQ.SEQ seq.toNat →
    (v.log.recs.find? (fun r => r.1 == seq.toNat) = none) → v.log.head ≤ seq.toNat → v.log.staged[seq.toNat -
    v.log.head]? = some r →
    exec (.logRdSeqWrite seq) s = .next (settle s ((v.copyRec r.bytes).rdStat true false false true))) ∧
  (∀ (s : State) (seq : BitVec 32) (v : State), s.up .log = true → v = s.put LOG_RD_SEQ.SEQ seq.toNat →
    (v.log.recs.find? (fun r => r.1 == seq.toNat) = none) → v.log.head ≤ seq.toNat → v.log.staged[seq.toNat -
    v.log.head]? = none →
    exec (.logRdSeqWrite seq) s = .next (settle s (v.rdStat false false true false))) ∧
  (∀ (s : State), s.coreOn = true → s.up .log = true →
    exec .optimeSecond s = .next (settle s (State.publishLog
      { s with log := { s.log with optime := s.log.optime + 1 } }))) ∧
  (∀ (s : State), s.coreOn = true → s.up .log = false →
    exec .optimeSecond s = .next (settle s ({ s with log := { s.log with optime := s.log.optime + 1 } })))

/-- With HLT up, TEMP_SAMPLE publishes the highest reading and its sensor, keeps the flags and their hysteresis, takes
a throttle step at THROTTLE where none was timed, and stops the timing below it; without HLT a powered module still
notes how long it has been cool. THROTTLE_STEP adds a step 10 s after the last, THROTTLE_RESTORE takes one back 60 s
below RESTORE; a THERMAL_TRIP at 140 °C is logged and holds NETWORK and COMPUTE in reset, or starts cold as a second
unplanned start, and TRIP_RELEASE after 10 s below RESTORE restarts; SUPPLY_ALARM publishes and judges the rail's
voltage, AVS_EVALUATION the margin. -/
def Obligations.HealthMonitorsComplete : Prop :=
  (∀ (s : State) (readings : List Int) (r : Int × Nat) (v : State), s.coreOn = true → readings ≠ [] → s.up .hlt = true
    → r = hottest 0 readings → v = (((s.putI HLT_TEMP.TJ r.1).put HLT_TEMP.HOT r.2).tempFlags r.1 r.2).noteCool r.1 →
    v.tempThrottle ≤ r.1 → v.hlt.throttleFrom = none →
    exec (.tempSample readings) s = .next (settle s (v.addStep.pairFollow))) ∧
  (∀ (s : State) (readings : List Int) (r : Int × Nat) (v : State), s.coreOn = true → readings ≠ [] → s.up .hlt = true
    → r = hottest 0 readings → v = (((s.putI HLT_TEMP.TJ r.1).put HLT_TEMP.HOT r.2).tempFlags r.1 r.2).noteCool r.1 →
    v.tempThrottle ≤ r.1 → v.hlt.throttleFrom ≠ none →
    exec (.tempSample readings) s = .next (settle s (v.pairFollow))) ∧
  (∀ (s : State) (readings : List Int) (r : Int × Nat) (v : State), s.coreOn = true → readings ≠ [] → s.up .hlt = true
    → r = hottest 0 readings → v = (((s.putI HLT_TEMP.TJ r.1).put HLT_TEMP.HOT r.2).tempFlags r.1 r.2).noteCool r.1 →
    r.1 < v.tempThrottle →
    exec (.tempSample readings) s = .next (settle s ((v.withHlt fun h =>
      { h with throttleFrom := none }).pairFollow))) ∧
  (∀ (s : State) (readings : List Int), s.coreOn = true → readings ≠ [] → s.up .hlt = false →
    exec (.tempSample readings) s = .next (settle s ((s.noteCool (hottest 0 readings).1).pairFollow))) ∧
  (∀ (s : State) (a : Nat), s.up .hlt = true → s.hlt.throttleFrom = some a → a + 10 * secs ≤ s.clk →
    exec .throttleStep s = .next (settle s (s.addStep))) ∧
  (∀ (s : State) (a : Nat), s.up .hlt = true → s.hlt.coolFrom = some a → a + 60 * secs ≤ s.clk → s.fld
    RAD_STAT.TX_STEP ≠ 0 →
    exec .throttleRestore s = .next (settle s ((s.setStep (s.fld RAD_STAT.TX_STEP - 1)).withHlt fun h =>
      { h with coolFrom := some s.clk }))) ∧
  (∀ (s : State) (readings : List Int) (r : Int × Nat) (v : State), r = hottest 0 readings → s.canRestart = true →
    1400 ≤ r.1 → v = (s.put HLT_STAT.TRIPPED 1).logEv 4 4 (tjBytes r.1 ++ leBytes 1 r.2) → v.escalates = true →
    exec (.thermalTrip readings) s = .next (settle s ((v.put SYS_RST_CAUSE.ESCALATED 1).newFlash.coldStart false))) ∧
  (∀ (s : State) (readings : List Int) (r : Int × Nat) (v : State), r = hottest 0 readings → s.canRestart = true →
    1400 ≤ r.1 → v = (s.put HLT_STAT.TRIPPED 1).logEv 4 4 (tjBytes r.1 ++ leBytes 1 r.2) → v.escalates = false →
    exec (.thermalTrip readings) s = .next (settle s ((((v.noteUnplanned.loseSlots).setMode .kindling).resetDomains
      true).withHlt fun h => { h with hold := true, coolFrom := none }))) ∧
  (∀ (s : State) (a : Nat), s.hlt.hold = true → s.hlt.coolFrom = some a → a + 10 * secs ≤ s.clk →
    exec .tripRelease s = .next (settle s ((s.newFlash.kindle true).publishLog))) ∧
  (∀ (s : State) (rail : Fin 8) (mv : BitVec 16), s.up .hlt = true →
    exec (.supplyAlarm rail mv) s = .next (settle s ((s.railState rail.val mv.toNat).pairFollow))) ∧
  (∀ (s : State) (slowest count : BitVec 16), s.up .hlt = true →
    exec (.avsEvaluation slowest count) s = .next (settle s ((s.evalMargin slowest.toNat count.toNat).pairFollow)))

/-- Where its test says so and its block is up, a BUFFER_BANK_TEST with two failing cells, a LANE_CHECK with failing
lanes, the RADIO_LOOPBACK of an idle channel found worn and an NVM_SECTOR_RETIRE declare the unit to the stockpile,
which serves it with the next spare or retires it; an uncorrectable CONTEXT_ECC_ERROR reloads, clears or restores its
word by region, flags and logs it and declares its bank. -/
def Obligations.StockpileComplete : Prop :=
  (∀ (s : State) (b : Fin 64) (failing bad : Nat), s.up .swc = true → 2 ≤ failing →
    exec (.bufferBankTest b failing bad) s = .next (settle s ((s.declareUnit 0 b.val false bad).pairFollow))) ∧
  (∀ (s : State) (failing : List (Fin 16)) (bad : Nat), s.up .lfe = true →
    exec (.laneCheck failing bad) s = .next (settle s ((((failing.map Fin.val).zip (bad :: (failing.map Fin.val).map
      fun _ => 0)).foldl (fun (t : State) x => t.declareUnit 2 x.1 false x.2) s).pairFollow))) ∧
  (∀ (s : State) (ch : Fin 8) (bad : Nat), s.up .rad = true → (s.chan ch.val).tx = none →
    exec (.radioLoopback ch true bad) s = .next (settle s ((s.declareUnit 3 ch.val false bad).pairFollow))) ∧
  (∀ (s : State) (sector : Fin 896) (bad : Nat), s.up .hlt = true →
    exec (.nvmSectorRetire sector bad) s = .next (settle s ((s.declareUnit 5 sector.val false bad).pairFollow))) ∧
  (∀ (s : State) (off : BitVec 26) (bad : Nat), s.up .epc = true → 0x100000 ≤ off.toNat → off.toNat < 0x300000 →
    off.toNat % 4 = 0 →
    exec (.contextEccError off true bad) s = .next (settle s ((s.eccError off.toNat true bad).pairFollow)))

/-- Accepted by KEY from a source whose last command is over, with no transition running: PROVISION and LOAD of a blob
in rule whose wrapping key is at hand open it and fill its slot, or report the check that failed; DESTROY of a free
slot from 4 up empties it; OPEN_SESSION on a slot with AUTH usage gives a nonce; PROVE in time uses the slot and opens
a session on the right proof; CLOSE_SESSION ends the source's session; ATTEST answers with a tag; LC_ADVANCE by one
state, and LC_RETURN and LC_RESET under a good signature, begin a transition. Every command writes the source's
status. LC_TRANSITION_DONE completes the transition that runs, is flagged, logged and reported DONE to its source, and
the commands that waited follow; SESSION_LAPSE ends a source's sessions unused for TTL_S; AUTH_LOCKOUT_END ends a lock
that is over; ROOT_SLOT_CHANGE to a slot with another KCV builds the link key table anew, and where a root was in use
before clears EPC_GTX_CTR and STALE. -/
def Obligations.KeyCommandsComplete : Prop :=
  (∀ (s : State) (src : Src) (v : State) (w : State) (b key : List Byte), s.up .key = true → (s.bank src.code).status
    ≠ stPending → s.key.intent = none → v = s.setBank { s.bank src.code with code := 1 } → v.key.lc = 0 → b =
    wordBytes 40 (v.bank src.code).blob → blobOk b 4 63 = true → v.wrapKey (leAt b 9 1) (some (wordBytes 16 (v.bank
    src.code).eph)) src.code = (w, .inl key) →
    exec (.provision src) s = .next (settle s (((w.fillSlot b key).2).keyStatus src.code 1 ((w.fillSlot b key).1)))) ∧
  (∀ (s : State) (src : Src) (v : State) (a w : State) (b key : List Byte), s.up .key = true → (s.bank
    src.code).status ≠ stPending → s.key.intent = none → v = s.setBank { s.bank src.code with code := 1 } →
    v.authorise src = some a → b = wordBytes 40 (a.bank src.code).blob → blobOk b 4 63 = true → a.wrapKey (leAt b 9 1)
    (some (wordBytes 16 (a.bank src.code).eph)) src.code = (w, .inl key) → v.key.lc ≠ 0 →
    exec (.provision src) s = .next (settle s (((w.fillSlot b key).2).keyStatus src.code 1 ((w.fillSlot b key).1)))) ∧
  (∀ (s : State) (src : Src) (v : State) (a w : State) (b key : List Byte), s.up .key = true → (s.bank
    src.code).status ≠ stPending → s.key.intent = none → v = s.setBank { s.bank src.code with code := 2 } →
    v.authorise src = some a → b = wordBytes 40 (a.bank src.code).blob → blobOk b 64 255 = true → a.wrapKey (leAt b 9
    1) none src.code = (w, .inl key) →
    exec (.load src) s = .next (settle s (((w.fillSlot b key).2).keyStatus src.code 2 ((w.fillSlot b key).1)))) ∧
  (∀ (s : State) (src : Src) (v : State) (a : State) (n : Nat), s.up .key = true → (s.bank src.code).status ≠
    stPending → s.key.intent = none → v = s.setBank { s.bank src.code with code := 3 } → v.authorise src = some a → n
    = (a.bank src.code).slot → 4 ≤ n → a.slotNamed n = false →
    exec (.destroy src) s = .next (settle s ((a.withSlots (a.key.slots.filter fun k => k.idx != n)).keyStatus src.code
      3 (stDone)))) ∧
  (∀ (s : State) (src : Src) (v : State) (b : KeyBank) (k : KeySlot), s.up .key = true → (s.bank src.code).status ≠
    stPending → s.key.intent = none → v = s.setBank { s.bank src.code with code := 4 } → b = v.bank src.code →
    b.lockUntil = none → (v.slotFor b.slot useAuth (fun t => t == 3) = .inl k) →
    exec (.openSession src) s = .next (settle s (((v.setBank
      { b with nonce := some (v.random 32, b.slot, v.clk) }).useFree).keyStatus src.code 4 (stDone)))) ∧
  (∀ (s : State) (src : Src) (v : State) (b : KeyBank) (k : KeySlot) (t : Nat), s.up .key = true → (s.bank
    src.code).status ≠ stPending → s.key.intent = none → v = s.setBank { s.bank src.code with code := 4 } → b = v.bank
    src.code → b.lockUntil = some t → t ≤ v.clk → (v.slotFor b.slot useAuth (fun t => t == 3) = .inl k) →
    exec (.openSession src) s = .next (settle s (((v.setBank
      { b with nonce := some (v.random 32, b.slot, v.clk) }).useFree).keyStatus src.code 4 (stDone)))) ∧
  (∀ (s : State) (src : Src) (v : State) (b : KeyBank) (w u : State) (nonce key : List Byte) (n t : Nat), s.up .key =
    true → (s.bank src.code).status ≠ stPending → s.key.intent = none → v = s.setBank
    { s.bank src.code with code := 5 } → b = v.bank src.code → b.nonce = some (nonce, n, t) → u = v.setBank
    { b with nonce := none } → u.clk ≤ t + 10 * secs → (u.useSlot n useAuth (fun t => t == 3) src.code = (w, .inl
    key)) →
    exec (.prove src) s = .next (settle s ((if wordBytes 8 b.proof = proofOf key nonce src.code then w.openSession src
      else w.authFail src.code n).keyStatus src.code 5 (if wordBytes 8 b.proof = proofOf key nonce src.code then
      stDone else stCheckFailed)))) ∧
  (∀ (s : State) (src : Src) (v : State), s.up .key = true → (s.bank src.code).status ≠ stPending → s.key.intent =
    none → v = s.setBank { s.bank src.code with code := 6 } → (v.key.sessions.any (fun x => x.fits src) = true) →
    exec (.closeSession src) s = .next (settle s ((State.setBank
      { v with key := { v.key with sessions := v.key.sessions.filter fun x => !x.fits src } }
      { v.bank src.code with sessId := 0 }).keyStatus src.code 6 (stDone)))) ∧
  (∀ (s : State) (src : Src) (v : State) (w u : State) (key r : List Byte), s.up .key = true → (s.bank
    src.code).status ≠ stPending → s.key.intent = none → v = s.setBank { s.bank src.code with code := 7 } → (v.useSlot
    (v.bank src.code).slot useAttest (fun t => t == 3) src.code = (w, .inl key)) → u =
    { w with key := { w.key with attCtr := w.key.attCtr + 1 } } → r = u.attestBody (wordBytes 8 (v.bank
    src.code).attNonce) →
    exec (.attest src) s = .next (settle s ((u.setBank
      { v.bank src.code with attResp := r ++ Config.hmac256 key r }).keyStatus src.code 7 (stDone)))) ∧
  (∀ (s : State) (src : Src) (v : State), s.up .key = true → (s.bank src.code).status ≠ stPending → s.key.intent =
    none → v = s.setBank { s.bank src.code with code := 8 } → v.key.lc = 0 → (v.bank src.code).arg = 1 → v.hasUsage
    useAuth = true → v.hasUsage useCfgVerify = true →
    exec (.lcAdvance src) s = .next (settle s ((State.freshLcNonce
      { v with key := { v.key with intent := some { old := v.key.lc, new := 1, src := src.code } } }).keyStatus
      src.code 8 (stPending)))) ∧
  (∀ (s : State) (src : Src) (v : State) (a : State) (n : Nat), s.up .key = true → (s.bank src.code).status ≠
    stPending → s.key.intent = none → v = s.setBank { s.bank src.code with code := 8 } → v.authorise src = some a →
    (v.key.lc = 1 ∨ v.key.lc = 2) → n = v.key.lc + 1 → (v.bank src.code).arg = n →
    exec (.lcAdvance src) s = .next (settle s ((State.freshLcNonce
      { a with key := { a.key with intent := some { old := a.key.lc, new := n, src := src.code } } }).keyStatus
      src.code 8 (stPending)))) ∧
  (∀ (s : State) (src : Src) (v : State) (w : State) (pub : List Byte), s.up .key = true → (s.bank src.code).status ≠
    stPending → s.key.intent = none → v = s.setBank { s.bank src.code with code := 9 } → (v.key.lc = 1 ∨ v.key.lc = 2
    ∨ v.key.lc = 3) → (v.useSlot 3 useReturn (fun t => t == 5) src.code = (w, .inl pub)) →
    exec (.lcReturn src) s = .next (settle s ((State.freshLcNonce (if Config.ecdsaP384 pub (Config.sha384 (w.lcMessage
      4)) ((wordBytes 24 (w.bank src.code).sig).take 48) ((wordBytes 24 (w.bank src.code).sig).drop 48) = true then
      { w with key := { w.key with intent := some { old := w.key.lc, new := 4, src := src.code } } } else
      w)).keyStatus src.code 9 (if Config.ecdsaP384 pub (Config.sha384 (w.lcMessage 4)) ((wordBytes 24 (w.bank
      src.code).sig).take 48) ((wordBytes 24 (w.bank src.code).sig).drop 48) = true then stPending else
      stCheckFailed)))) ∧
  (∀ (s : State) (src : Src) (v : State) (w : State) (pub : List Byte), s.up .key = true → (s.bank src.code).status ≠
    stPending → s.key.intent = none → v = s.setBank { s.bank src.code with code := 10 } → v.key.lc = 4 → (v.useSlot 3
    useReturn (fun t => t == 5) src.code = (w, .inl pub)) →
    exec (.lcReset src) s = .next (settle s ((State.freshLcNonce (if Config.ecdsaP384 pub (Config.sha384 (w.lcMessage
      0)) ((wordBytes 24 (w.bank src.code).sig).take 48) ((wordBytes 24 (w.bank src.code).sig).drop 48) = true then
      { w with key := { w.key with intent := some { old := w.key.lc, new := 0, src := src.code } } } else
      w)).keyStatus src.code 10 (if Config.ecdsaP384 pub (Config.sha384 (w.lcMessage 0)) ((wordBytes 24 (w.bank
      src.code).sig).take 48) ((wordBytes 24 (w.bank src.code).sig).drop 48) = true then stPending else
      stCheckFailed)))) ∧
  (∀ (s : State) (i : LcIntent) (v w : State), s.key.intent = some i → s.up .key = true → v = ((lcComplete i s).raise
    KEY_IRQ_STAT.LC_CHANGE).logEv 6 2 (leBytes 1 i.old ++ leBytes 1 i.new) → w = (v.setBank
    { v.bank i.src with status := stDone }).raise KEY_IRQ_STAT.CMD_DONE →
    exec .lcTransitionDone s = .next (settle s (keyDrain w.key.waiting
      { w with key := { w.key with waiting := [] } }))) ∧
  (∀ (s : State) (src : Fin 5) (v : State), (s.key.sessions.any (fun x => x.src == src.val && x.last + s.sessTtl ≤
    s.clk) = true) → (v =
    { s with key := { s.key with sessions := s.key.sessions.filter fun x => x.src != src.val } }) →
    exec (.sessionLapse src) s = .next (settle s ((v.setBank { v.bank src.val with sessId := 0 }).raise
      KEY_IRQ_STAT.SESS_LAPSED))) ∧
  (∀ (s : State) (src : Fin 5) (t : Nat), (s.bank src.val).lockUntil = some t → t ≤ s.clk →
    exec (.authLockoutEnd src) s = .next (settle s (s.setBank { s.bank src.val with lockUntil := none }))) ∧
  (∀ (s : State) (k : KeySlot), s.up .key = true → s.rootKey = some k → s.key.rootKcv = none →
    exec .rootSlotChange s = .next (settle s (s.rebuildLinks))) ∧
  (∀ (s : State) (k : KeySlot), s.up .key = true → s.rootKey = some k → s.key.rootKcv.isSome = true → s.key.rootKcv ≠
    some k.kcv →
    exec .rootSlotChange s = .next (settle s (((s.rebuildLinks).put EPC_GTX_CTR.CTR 0).put PAIR_STAT.STALE 0)))

/-- With UPD up, a BLOCK_PACKET by an open path that is malformed is counted, a half block waits for its partner, and
with it the block is stored in the inactive bank or the campaign. Accepted by UPD: BEGIN with nothing in the way
empties the inactive bank to GREENWARE; VERIFY of a complete bank starts verification, and VERIFY_VERDICT ends it
BISQUE or BAD; UPD_ACTIVATE under a session arms an allowed activation in 1 s or at its instant; CANCEL_ACT disarms
one not begun. ACTIVATION_CHECK at T less 100 ms puts off an activation with a slot in its way, cancels it after 60
deferrals, and otherwise writes the selector; ACTIVATION at T starts the module. -/
def Obligations.FirmwareCommandsComplete : Prop :=
  (∀ (s : State) (path : BlockPath) (p : List Byte) (fails : Nat), s.up .upd = true → s.pathOk path = true →
    s.packetBad p = true →
    exec (.blockPacket path p fails) s = .next (settle s (s.bump UPD_RX_CNT.DROPPED))) ∧
  (∀ (s : State) (path : BlockPath) (p : List Byte) (fails : Nat) (h : Half), s.up .upd = true → s.pathOk path = true
    → s.packetBad p = false → h =
    { target := leAt p 8 1, index := leAt p 9 1, block := leAt p 4 4, part := leAt p 10 1, data := p.drop 16 } →
    (s.upd.halves.find? (fun x => (x.target == h.target && x.block == h.block && (h.target == 0 || x.index ==
    h.index)) && x.part != h.part) = none) →
    exec (.blockPacket path p fails) s = .next (settle s (s.withUpd fun u =>
      { u with halves := h :: u.halves.filter fun x => !(x.target == h.target && x.block == h.block && (h.target == 0 || x.index == h.index)) })))
      ∧
  (∀ (s : State) (path : BlockPath) (p : List Byte) (fails : Nat) (h o : Half) (v : State) (d : List Byte), s.up .upd
    = true → s.pathOk path = true → s.packetBad p = false → h =
    { target := leAt p 8 1, index := leAt p 9 1, block := leAt p 4 4, part := leAt p 10 1, data := p.drop 16 } →
    (s.upd.halves.find? (fun x => (x.target == h.target && x.block == h.block && (h.target == 0 || x.index ==
    h.index)) && x.part != h.part) = some o) → (v = s.withUpd fun u =>
    { u with halves := u.halves.filter fun x => !(x.target == h.target && x.block == h.block && (h.target == 0 || x.index == h.index)) })
    → d = (if h.part = 0 then h.data ++ o.data else o.data ++ h.data) → h.target = 0 →
    exec (.blockPacket path p fails) s = .next (settle s (v.storeBlock v.inactive h.block fails d))) ∧
  (∀ (s : State) (path : BlockPath) (p : List Byte) (fails : Nat) (h o : Half) (v : State) (d : List Byte), s.up .upd
    = true → s.pathOk path = true → s.packetBad p = false → h =
    { target := leAt p 8 1, index := leAt p 9 1, block := leAt p 4 4, part := leAt p 10 1, data := p.drop 16 } →
    (s.upd.halves.find? (fun x => (x.target == h.target && x.block == h.block && (h.target == 0 || x.index ==
    h.index)) && x.part != h.part) = some o) → (v = s.withUpd fun u =>
    { u with halves := u.halves.filter fun x => !(x.target == h.target && x.block == h.block && (h.target == 0 || x.index == h.index)) })
    → d = (if h.part = 0 then h.data ++ o.data else o.data ++ h.data) → h.target ≠ 0 →
    exec (.blockPacket path p fails) s = .next (settle s (v.storeCampaign h.index h.block d))) ∧
  (∀ (s : State) (t : State) (v : State), s.ready .upd → t = s.taken .upd 1 → t.upd.glaze = false → t.upd.armed = none
    → (t.upd.banks.any (fun x => x.st == bankVerifying) = false) → t.pwr.mode ≠ .kindling → (v = t.withUpd fun u =>
    { u with work := if t.fld UPD_CMD_ARG.INDEX = 0 then 0 else 1 }) →
    exec .begin s = .next (settle s ((v.updBank v.inactive fun x =>
      { x with st := bankGreen, fail := 0, factory := false, bitmap := [], blocks := [], total := 0, secVer := 0, version := 0, abi := 0, coldOnly := false, digest := [] }).ended
      .upd 1 stDone))) ∧
  (∀ (s : State) (t : State) (x : Bank), s.ready .upd → t = s.taken .upd 2 → x = t.fwBank t.inactive → (x.st =
    bankGreen ∨ x.st = bankBad ∧ (x.fail = failDigest ∨ x.fail = failTrial)) → x.total ≠ 0 → (List.range x.total).all
    x.bitmap.contains = true →
    exec .verify s = .next (settle s ((t.setFwBank t.inactive bankVerifying x.fail).ended .upd 2 stPending))) ∧
  (∀ (s : State) (b : Nat) (r : Nat × State) (v : State), s.up .upd = true → ((List.range 2).find? (fun b => (s.fwBank
    b).st == bankVerifying) = some b) → r = s.verifyBank b → v = (r.2.setFwBank b (if r.1 = 0 then bankBisque else
    bankBad) r.1).raise UPD_IRQ_STAT.VERDICT →
    exec .verifyVerdict s = .next (settle s (if v.isPending .upd 2 then finishCmd .upd (if r.1 = 0 then stDone else
      stCheckFailed) v else v))) ∧
  (∀ (s : State) (src : Src) (a : State), s.ready .upd → (s.taken .upd 3).authorise src = some a → a.upd.running ≠ 2 →
    a.canActivate = true → a.upd.glaze = false → a.upd.armed = none → a.abiOk = true → a.bit UPD_CMD_ARG.AT = false →
    a.partnerBlocks (a.nt + 1000000000) = false →
    exec (.updActivate src) s = .next (settle s ((a.withUpd fun u =>
      { u with armed := some { at_ := a.nt + 1000000000, cold := a.bit UPD_CMD_ARG.COLD, deferrals := 0, begun := false } }).ended
      .upd 3 stDone))) ∧
  (∀ (s : State) (src : Src) (a : State), s.ready .upd → (s.taken .upd 3).authorise src = some a → a.upd.running ≠ 2 →
    a.canActivate = true → a.upd.glaze = false → a.upd.armed = none → a.abiOk = true → a.bit UPD_CMD_ARG.AT = true →
    a.partnerBlocks a.actInstant = false → a.nt + 2000000000 ≤ a.actInstant → a.actInstant ≤ a.nt + 549000000000 →
    exec (.updActivate src) s = .next (settle s ((a.withUpd fun u =>
      { u with armed := some { at_ := a.actInstant, cold := a.bit UPD_CMD_ARG.COLD, deferrals := 0, begun := false } }).ended
      .upd 3 stDone))) ∧
  (∀ (s : State) (src : Src) (a : State), s.ready .upd → (s.taken .upd 3).authorise src = some a → a.upd.running = 2 →
    a.canActivate = true → a.upd.armed = none → a.bit UPD_CMD_ARG.AT = false →
    exec (.updActivate src) s = .next (settle s ((a.withUpd fun u =>
      { u with armed := some { at_ := a.nt + 1000000000, cold := true, deferrals := 0, begun := false } }).ended .upd
      3 stDone))) ∧
  (∀ (s : State) (t : State) (a : Armed), s.ready .upd → t = s.taken .upd 4 → t.upd.armed = some a → a.begun = false →
    exec .cancelAct s = .next (settle s ((t.disarmAct).ended .upd 4 stDone))) ∧
  (∀ (s : State) (a : Armed), s.up .upd = true → s.upd.armed = some a → a.begun = false → a.at_ ≤ s.nt + 100000000 →
    s.slotInWay a.at_ = true → a.deferrals < 60 →
    exec .activationCheck s = .next (settle s ((s.withUpd fun u =>
      { u with armed := some { a with at_ := a.at_ + 1000000000, deferrals := a.deferrals + 1 } }).put
      UPD_STAT.DEFERRED 1))) ∧
  (∀ (s : State) (a : Armed), s.up .upd = true → s.upd.armed = some a → a.begun = false → a.at_ ≤ s.nt + 100000000 →
    s.slotInWay a.at_ = true → 60 ≤ a.deferrals →
    exec .activationCheck s = .next (settle s (s.disarmAct.logEv 7 3 (leBytes 4 (a.at_ / 1000000000))))) ∧
  (∀ (s : State) (a : Armed), s.up .upd = true → s.upd.armed = some a → a.begun = false → a.at_ ≤ s.nt + 100000000 →
    s.slotInWay a.at_ = false →
    exec .activationCheck s = .next (settle s ((((s.writeSel fun x =>
      { x with active := s.inactive, trial := 0, trialMax := s.fld UPD_CFG.TRIAL_MAX, confirmS := clampN 60 65535 (s.fld UPD_CFG.CONFIRM_S) }).setFwBank
      s.inactive bankGlaze 0).withUpd fun u => { u with armed := some { a with begun := true } })))) ∧
  (∀ (s : State) (a : Armed), s.actDue = some a → s.canRestart = true → a.cold = true →
    exec .activation s = .next (settle s ((s.put SYS_RST_CAUSE.COLD_CMD 1).newFlash.coldStart false))) ∧
  (∀ (s : State) (a : Armed), s.actDue = some a → s.canRestart = true → a.cold = false →
    exec .activation s = .next (settle s ((s.put SYS_RST_CAUSE.WARM_UPDATE 1).newFlash.warmStart true)))

/-- Accepted by UPD from a source with a session: CONFIRM on a glaze image fires the running bank at once and stays
PENDING; REVERT on one starts the reversion, as CONFIRM_TIMEOUT does in FIRING or SOAK when the count ends; EP_START
of a loaded campaign with a good key addresses its targets; EP_STOP ends a running campaign. CAMPAIGN_ROUND of a
running campaign sends its blocks and map requests; FW_MAP and FW_RESULT of a live endpoint update its link, and of a
target note the blocks it holds, with FW_COMMIT at the first complete map, or its result. -/
def Obligations.FirmwareTrialsComplete : Prop :=
  (∀ (s : State) (src : Src) (a v w : State), s.ready .upd → (s.taken .upd 5).authorise src = some a → a.upd.glaze =
    true → (v = (a.writeSel fun x => { x with fired := x.active, trial := 0 }).setFwBank a.upd.running bankFired 0) →
    (w = v.withUpd fun u =>
    { u with glaze := false, confirmAt := none, confirmLeft := 0, confirming := true, secMin := max u.secMin (v.fwBank a.upd.running).secVer })
    →
    exec (.confirm src) s = .next (settle s ((w.logEv 7 7 (leBytes 1 a.upd.running ++ leBytes 4 (w.fwBank
      a.upd.running).version)).ended .upd 5 stPending))) ∧
  (∀ (s : State) (src : Src) (a : State), s.ready .upd → (s.taken .upd 6).authorise src = some a → (s.authorise
    src).isSome = true → s.upd.glaze = true → s.canRestart = true →
    exec (.revert src) s = .next (settle s (State.revertStart (a.ended .upd 6 stDone)))) ∧
  (∀ (s : State) (t : Nat), s.upd.confirmAt = some t → s.upd.glaze = true → s.running = true → t ≤ s.clk →
    exec .confirmTimeout s = .next (settle s (s.revertStart))) ∧
  (∀ (s : State) (src : Src) (a v : State) (n : Nat) (key : List Byte), s.ready .upd → (s.taken .upd 0x10).authorise
    src = some a → n = a.fld UPD_CMD_ARG.INDEX → n < 4 → a.campLoaded n = true → (a.camp n).run = false → (a.useSlot
    (a.fld (UPD_EP_CFG.KEY_SLOT n)) useEpFw (fun t => t == 1) src.code = (v, .inl key)) →
    exec (.epStart src) s = .next (settle s (((v.updCamp n fun x =>
      { x with run := true, targets := ((v.campTargets n).map fun e => { epa := e, first := 0, map := 0, complete := false, committed := false, silent := 0, result := none }), rounds := 0, installed := 0 }).put
      (UPD_EP_CFG.RUN n) 1).ended .upd 0x10 stDone))) ∧
  (∀ (s : State) (t : State) (n : Nat), s.ready .upd → t = s.taken .upd 0x11 → n = t.fld UPD_CMD_ARG.INDEX → n < 4 →
    (t.camp n).run = true →
    exec .epStop s = .next (settle s ((t.campEnd n).ended .upd 0x11 stDone))) ∧
  (∀ (s : State) (c : Fin 4), s.up .upd = true → (s.camp c.val).run = true →
    exec (.campaignRound c) s = .next (settle s ((((s.updCamp c.val fun x =>
      { x with rounds := min 65535 (x.rounds + 1) }).campBlocks c.val).campAsk c.val).campOver c.val))) ∧
  (∀ (s : State) (epa : Fin 4096) (id first : BitVec 16) (map : BitVec 256) (l : LinkInfo) (v : State), s.up .upd =
    true → s.ingests epa.val = true → v = s.linkUpdate epa.val l → v.campOf epa.val id.toNat = none →
    exec (.fwMap epa id first map l) s = .next (settle s (v))) ∧
  (∀ (s : State) (epa : Fin 4096) (id first : BitVec 16) (map : BitVec 256) (l : LinkInfo) (v : State) (c : Nat) (d :
    Bool), s.up .upd = true → s.ingests epa.val = true → v = s.linkUpdate epa.val l → v.campOf epa.val id.toNat = some
    c → (first ≠ 0xFFFF ∨ (v.camp c).targets.any (fun t => t.epa == epa.val && t.committed) = true) → d = (first.toNat
    == 0xFFFF) →
    exec (.fwMap epa id first map l) s = .next (settle s ((v.updTarget c epa.val fun t =>
      { t with first := first.toNat, map := map.toNat, complete := d, silent := 0, committed := t.committed || d }))))
      ∧
  (∀ (s : State) (epa : Fin 4096) (id first : BitVec 16) (map : BitVec 256) (l : LinkInfo) (v : State) (c : Nat) (t :
    State) (n : Nat), s.up .upd = true → s.ingests epa.val = true → v = s.linkUpdate epa.val l → v.campOf epa.val
    id.toNat = some c → first = 0xFFFF → ((v.camp c).targets.any (fun t => t.epa == epa.val && t.committed) = false) →
    (t = (v.updTarget c epa.val fun t =>
    { t with first := first.toNat, map := map.toNat, complete := true, silent := 0, committed := t.committed || true }))
    → n = t.nt + clampN 2 540 (t.fld (UPD_EP_CTL.COMMIT_S c)) * 1000000000 →
    exec (.fwMap epa id first map l) s = .next (settle s (t.campUni c epa.val 0x24 (leBytes 2 id.toNat ++ [0, 0] ++
      leBytes 6 (n / 1000000000) ++ leBytes 4 (n % 1000000000))))) ∧
  (∀ (s : State) (epa : Fin 4096) (id : BitVec 16) (result : BitVec 8) (fw : BitVec 32) (l : LinkInfo) (v : State),
    s.up .upd = true → s.ingests epa.val = true → v = s.linkUpdate epa.val l → v.campOf epa.val id.toNat = none →
    exec (.fwResult epa id result fw l) s = .next (settle s (v))) ∧
  (∀ (s : State) (epa : Fin 4096) (id : BitVec 16) (result : BitVec 8) (fw : BitVec 32) (l : LinkInfo) (v : State) (c
    : Nat) (t : State), s.up .upd = true → s.ingests epa.val = true → v = s.linkUpdate epa.val l → v.campOf epa.val
    id.toNat = some c → (t = v.updTarget c epa.val fun x => { x with result := some result.toNat }) → result = 0 →
    exec (.fwResult epa id result fw l) s = .next (settle s (((t.put (EPC_INFO_FW.FW epa.val) fw.toNat).updCamp c fun
      x => { x with installed := x.installed + 1 }).campOver c))) ∧
  (∀ (s : State) (epa : Fin 4096) (id : BitVec 16) (result : BitVec 8) (fw : BitVec 32) (l : LinkInfo) (v : State) (c
    : Nat) (t : State), s.up .upd = true → s.ingests epa.val = true → v = s.linkUpdate epa.val l → v.campOf epa.val
    id.toNat = some c → (t = v.updTarget c epa.val fun x => { x with result := some result.toNat }) → result ≠ 0 →
    exec (.fwResult epa id result fw l) s = .next (settle s ((t.raiseFault epa.val 0x0C result.toNat).campOver c)))

/-- A good lease frame on the pair link of a paired module tells of the partner; and then RENEW newer than the last
sets a standby's deadline and is granted, one heard while electing makes the module standby first, and an old one
changes nothing more; GRANT of a RENEW outstanding extends the active's lease from its sending, and abdicates where
HANDOVER waited for it; RELEASE lets a standby claim at once or as soon as it may; CLAIM puts the election off, and
side B gives its own claim up. MIRROR_FRAME is taken by a standby whose configuration matches. Conditions are then
followed up. -/
def Obligations.LeaseFramesComplete : Prop :=
  (∀ (s : State) (l : Fin 2) (x : MzRx) (v w y : State), s.mzUp l.val = true → x.hdrOk = true → x.crcOk = true → v =
    s.bump (MZL_LINK_RX.FRAMES l.val) → v.mzRoute l.val x = none → w = v.mzTaken l.val mzTime x → w.leaseOk l.val 3 x
    = true → y = w.peerHeard x.payload → y.role = 3 → y.freshSeq (leaseSeq x) = true →
    exec (.renew l x) s = .next (settle s (((y.withPair fun p =>
      { p with seqIn := some (leaseSeq x), deadline := y.clk + leaseL + leaseG }).sendLease 4 (leaseSeq
      x)).pairFollow))) ∧
  (∀ (s : State) (l : Fin 2) (x : MzRx) (v w y : State), s.mzUp l.val = true → x.hdrOk = true → x.crcOk = true → v =
    s.bump (MZL_LINK_RX.FRAMES l.val) → v.mzRoute l.val x = none → w = v.mzTaken l.val mzTime x → w.leaseOk l.val 3 x
    = true → y = w.peerHeard x.payload → y.role = 3 → y.freshSeq (leaseSeq x) = false →
    exec (.renew l x) s = .next (settle s ((y).pairFollow))) ∧
  (∀ (s : State) (l : Fin 2) (x : MzRx) (v w y : State) (z : State), s.mzUp l.val = true → x.hdrOk = true → x.crcOk =
    true → v = s.bump (MZL_LINK_RX.FRAMES l.val) → v.mzRoute l.val x = none → w = v.mzTaken l.val mzTime x → w.leaseOk
    l.val 3 x = true → y = w.peerHeard x.payload → y.role = 1 → z = (if y.own then y.put PAIR_STAT.OWN 0 else
    y).becomeStandby →
    exec (.renew l x) s = .next (settle s ((z.takeRenew (leaseSeq x)).pairFollow))) ∧
  (∀ (s : State) (l : Fin 2) (x : MzRx) (v w y : State) (r : Nat × Nat × Bool), s.mzUp l.val = true → x.hdrOk = true →
    x.crcOk = true → v = s.bump (MZL_LINK_RX.FRAMES l.val) → v.mzRoute l.val x = none → w = v.mzTaken l.val mzTime x →
    w.leaseOk l.val 4 x = true → y = w.peerHeard x.payload → y.role = 2 → (y.pair.sentSeqs.find? (fun r => r.1 ==
    leaseSeq x) = some r) → y.pair.handover ≠ some (some (leAt x.payload 16 4)) →
    exec (.grant l x) s = .next (settle s ((y.granted r).pairFollow))) ∧
  (∀ (s : State) (l : Fin 2) (x : MzRx) (v w y : State) (r : Nat × Nat × Bool), s.mzUp l.val = true → x.hdrOk = true →
    x.crcOk = true → v = s.bump (MZL_LINK_RX.FRAMES l.val) → v.mzRoute l.val x = none → w = v.mzTaken l.val mzTime x →
    w.leaseOk l.val 4 x = true → y = w.peerHeard x.payload → y.role = 2 → (y.pair.sentSeqs.find? (fun r => r.1 ==
    leaseSeq x) = some r) → y.pair.handover = some (some (leAt x.payload 16 4)) →
    exec (.grant l x) s = .next (settle s (((y.granted r).abdicate 1).pairFollow))) ∧
  (∀ (s : State) (l : Fin 2) (x : MzRx) (v w y : State), s.mzUp l.val = true → x.hdrOk = true → x.crcOk = true → v =
    s.bump (MZL_LINK_RX.FRAMES l.val) → v.mzRoute l.val x = none → w = v.mzTaken l.val mzTime x → w.leaseOk l.val 5 x
    = true → y = w.peerHeard x.payload → y.role = 3 → y.freeToClaim = true → y.mayTake = true →
    exec (.releaseFrame l x) s = .next (settle s ((y.startClaim).pairFollow))) ∧
  (∀ (s : State) (l : Fin 2) (x : MzRx) (v w y : State), s.mzUp l.val = true → x.hdrOk = true → x.crcOk = true → v =
    s.bump (MZL_LINK_RX.FRAMES l.val) → v.mzRoute l.val x = none → w = v.mzTaken l.val mzTime x → w.leaseOk l.val 5 x
    = true → y = w.peerHeard x.payload → y.role = 3 → (y.freeToClaim = false ∨ y.mayTake = false) →
    exec (.releaseFrame l x) s = .next (settle s ((y.withPair fun p => { p with deadline := y.clk }).pairFollow))) ∧
  (∀ (s : State) (l : Fin 2) (x : MzRx) (v w y : State) (z : State), s.mzUp l.val = true → x.hdrOk = true → x.crcOk =
    true → v = s.bump (MZL_LINK_RX.FRAMES l.val) → v.mzRoute l.val x = none → w = v.mzTaken l.val mzTime x → w.leaseOk
    l.val 6 x = true → y = w.peerHeard x.payload → (z = y.withPair fun p => { p with electAt := y.clk }) →
    z.pair.claimAt.isSome = true → z.bit PAIR_CFG.SIDE = true →
    exec (.claim l x) s = .next (settle s ((z.put PAIR_STAT.OWN 0).withPair fun p => { p with claimAt := none }))) ∧
  (∀ (s : State) (l : Fin 2) (x : MzRx) (v w y : State) (z : State), s.mzUp l.val = true → x.hdrOk = true → x.crcOk =
    true → v = s.bump (MZL_LINK_RX.FRAMES l.val) → v.mzRoute l.val x = none → w = v.mzTaken l.val mzTime x → w.leaseOk
    l.val 6 x = true → y = w.peerHeard x.payload → (z = y.withPair fun p => { p with electAt := y.clk }) →
    (z.pair.claimAt = none ∨ z.bit PAIR_CFG.SIDE = false) →
    exec (.claim l x) s = .next (settle s (z))) ∧
  (∀ (s : State) (l : Fin 2) (x : MzRx) (v w : State), s.mzUp l.val = true → x.hdrOk = true → x.crcOk = true → v =
    s.bump (MZL_LINK_RX.FRAMES l.val) → v.mzRoute l.val x = none → w = v.mzTaken l.val mzData x → w.pairEn = true →
    l.val = w.pairLink → x.adj = true → x.payload.take 4 = [0x54, 0x4C, 0x4D, 0x52] → w.standby = true → w.bit
    PAIR_STAT.CFG_MISMATCH = false →
    exec (.mirrorFrame l x) s = .next (settle s (w.takeMirror x.payload)))

/-- On a paired module: LEASE_RENEW of the active sends the next RENEW when due, and RENEW_GRANT_TIMEOUT counts those
unanswered for 100 ms; at LEASE_EXPIRY the active lets go, and a module that claims stops; LEASE_DEADLINE,
ELECTION_TIMEOUT and RELEASED_RECLAIM start a claim when their time has passed and no other owns; CLAIM_CONFIRM after
1 ms makes the module active; PEER_OWN_CHANGE publishes the pad and settles who owns. Accepted by PAIR, HANDOVER under
a session on the active with a ready partner waits, ABDICATE abdicates at once, and PAIR_RESYNC on the standby asks
for a full copy. -/
def Obligations.LeaseEventsComplete : Prop :=
  (∀ (s : State) (n : Nat) (v : State), s.pairEn = true → s.up .pair = true → s.role = 2 → s.pair.renewAt ≤ s.clk → n
    = (s.pair.seqOut + 1) % 65536 → (v = s.withPair fun p =>
    { p with seqOut := n, renewAt := s.clk + renewInterval, sentSeqs := p.sentSeqs ++ [(n, s.clk, false)] }) →
    exec .leaseRenew s = .next (settle s (v.sendLease 3 n))) ∧
  (∀ (s : State) (d : Nat × Nat × Bool → Bool), (d = fun (r : Nat × Nat × Bool) => !r.2.2 && r.2.1 + renewInterval ≤
    s.clk) →
    exec .renewGrantTimeout s = .next (settle s ((s.withPair fun p =>
      { p with sentSeqs := (p.sentSeqs.filter fun r => s.clk < r.2.1 + leaseL).map fun r => (r.1, r.2.1, r.2.2 || d r) }).bumpBy
      PAIR_CNT.RENEW_LOST (s.pair.sentSeqs.countP d)))) ∧
  (∀ (s : State) (t : Nat), s.pair.expiry = some t → s.pairEn = true → s.up .pair = true → s.own = true → t ≤ s.clk →
    s.role = 2 →
    exec .leaseExpiry s = .next (settle s (s.letGo stTimeout))) ∧
  (∀ (s : State) (t : Nat), s.pair.expiry = some t → s.pairEn = true → s.up .pair = true → s.own = true → t ≤ s.clk →
    s.role ≠ 2 →
    exec .leaseExpiry s = .next (settle s ((s.put PAIR_STAT.OWN 0).withPair fun p =>
      { p with expiry := none, claimAt := none }))) ∧
  (∀ (s : State) (v : State), s.pairEn = true → s.role = 3 → v = s.pubPair → v.freeToClaim = true → v.role = 3 →
    v.pair.deadline ≤ v.clk → v.bit PAIR_STAT.ELIGIBLE = true → v.mayTake = true →
    exec .leaseDeadline s = .next (settle s (v.startClaim))) ∧
  (∀ (s : State) (t : Nat), s.pair.claimAt = some t → s.pairEn = true → s.own = true → s.peerOwn = false → t + msec ≤
    s.clk →
    exec .claimConfirm s = .next (settle s (s.becomeActive))) ∧
  (∀ (s : State), s.freeToClaim = true → s.role = 1 → s.pair.electAt + leaseL + leaseG ≤ s.clk →
    exec .electionTimeout s = .next (settle s (s.startClaim))) ∧
  (∀ (s : State), s.freeToClaim = true → s.role = 4 → s.pair.releasedAt + leaseL + leaseG ≤ s.clk →
    exec .releasedReclaim s = .next (settle s (s.startClaim))) ∧
  (∀ (s : State) (low : Bool) (v : State), s.up .pair = true → v = s.putB PAIR_STAT.PEER_OWN low → v.pairEn = false →
    exec (.peerOwnChange low) s = .next (settle s (v))) ∧
  (∀ (s : State) (v w : State), s.up .pair = true → v = s.putB PAIR_STAT.PEER_OWN true → v.pairEn = true → w =
    v.peerDrives → (w.role = 1 ∨ w.role = 4) → w.pair.claimAt = none →
    exec (.peerOwnChange true) s = .next (settle s ((w.put PAIR_STAT.OWN 0).becomeStandby))) ∧
  (∀ (s : State) (v w : State), s.up .pair = true → v = s.putB PAIR_STAT.PEER_OWN true → v.pairEn = true → w =
    v.peerDrives → (w.role ≠ 1 ∧ w.role ≠ 4 ∨ w.pair.claimAt.isSome = true) →
    exec (.peerOwnChange true) s = .next (settle s (w))) ∧
  (∀ (s : State) (v : State), s.up .pair = true → v = s.putB PAIR_STAT.PEER_OWN false → v.pairEn = true →
    v.pair.claimAt.isSome = true →
    exec (.peerOwnChange false) s = .next (settle s (v.withPair fun p => { p with claimAt := some v.clk }))) ∧
  (∀ (s : State) (v : State), s.up .pair = true → v = s.putB PAIR_STAT.PEER_OWN false → v.pairEn = true →
    v.pair.claimAt = none →
    exec (.peerOwnChange false) s = .next (settle s (v))) ∧
  (∀ (s : State) (src : Src) (a : State), s.ready .pair → (s.taken .pair 1).authorise src = some a → a.role = 2 →
    a.peerReady = true →
    exec (.handover src) s = .next (settle s ((a.withPair fun p => { p with handover := some none }).ended .pair 1
      stPending))) ∧
  (∀ (s : State) (src : Src) (a : State), s.ready .pair → (s.taken .pair 2).authorise src = some a → a.role = 2 →
    exec (.abdicate src) s = .next (settle s ((a.abdicate 2).ended .pair 2 stDone))) ∧
  (∀ (s : State) (t : State), s.ready .pair → t = s.taken .pair 3 → t.role = 3 →
    exec .pairResync s = .next (settle s ((t.withPair fun p => { p with wantResync := true }).ended .pair 3 stDone)))

/-- While a block's command is PENDING, a new command code written to the same block is refused: the state stays as it
is, so the running command goes on and the block's status keeps reporting it. KEY keeps one command and status for
each source. The commands of each block, by name, are then settled with nothing changed. -/
def Obligations.PendingRefusesAnother : Prop :=
  (∀ (b : Blk) (code : Nat) (f : State → Nat × State) (s : State), s.cmdStatus b = stPending → runCmd b code f s = s)
    ∧
  (∀ (src : Src) (code : Nat) (s : State), (s.bank src.code).status = stPending → keyWrite src code s = s) ∧
  (∀ (s : State), s.cmdStatus .cfg = stPending → exec .store s = .next (settle s s)) ∧
  (∀ (s : State), s.cmdStatus .cfg = stPending → exec .clearStore s = .next (settle s s)) ∧
  (∀ (s : State), s.cmdStatus .cfg = stPending → exec .digestReq s = .next (settle s s)) ∧
  (∀ (s : State) (src : Src), s.cmdStatus .pwr = stPending → exec (.enterService src) s = .next (settle s s)) ∧
  (∀ (s : State), s.cmdStatus .pwr = stPending → exec .leaveService s = .next (settle s s)) ∧
  (∀ (s : State), s.cmdStatus .pwr = stPending → exec .island s = .next (settle s s)) ∧
  (∀ (s : State), s.cmdStatus .pwr = stPending → exec .unisland s = .next (settle s s)) ∧
  (∀ (s : State) (src : Src), s.cmdStatus .pwr = stPending → exec (.enterBanked src) s = .next (settle s s)) ∧
  (∀ (s : State), s.cmdStatus .emb = stPending → exec .capture s = .next (settle s s)) ∧
  (∀ (s : State), s.cmdStatus .sch = stPending → exec .solarNow s = .next (settle s s)) ∧
  (∀ (s : State), s.cmdStatus .lfe = stPending → exec .inject s = .next (settle s s)) ∧
  (∀ (s : State), s.cmdStatus .lfe = stPending → exec .clearSources s = .next (settle s s)) ∧
  (∀ (s : State), s.cmdStatus .trn = stPending → exec .arm s = .next (settle s s)) ∧
  (∀ (s : State), s.cmdStatus .trn = stPending → exec .trnCancel s = .next (settle s s)) ∧
  (∀ (s : State), s.cmdStatus .trn = stPending → exec .release s = .next (settle s s)) ∧
  (∀ (s : State), s.cmdStatus .trn = stPending → exec .patStart s = .next (settle s s)) ∧
  (∀ (s : State), s.cmdStatus .trn = stPending → exec .patStop s = .next (settle s s)) ∧
  (∀ (s : State) (visits : List PadProbe), s.cmdStatus .drv = stPending → exec (.scanNow visits) s = .next (settle s
    s)) ∧
  (∀ (s : State), s.cmdStatus .drv = stPending → exec .drvClearFault s = .next (settle s s)) ∧
  (∀ (s : State), s.cmdStatus .lbus = stPending → exec .dlCommission s = .next (settle s s)) ∧
  (∀ (s : State), s.cmdStatus .lbus = stPending → exec .dlRequery s = .next (settle s s)) ∧
  (∀ (s : State), s.cmdStatus .lbus = stPending → exec .dlRaw s = .next (settle s s)) ∧
  (∀ (s : State), s.cmdStatus .lbus = stPending → exec .fioClear s = .next (settle s s)) ∧
  (∀ (s : State), s.cmdStatus .rad = stPending → exec .airtime s = .next (settle s s)) ∧
  (∀ (s : State), s.cmdStatus .rad = stPending → exec .chFlush s = .next (settle s s)) ∧
  (∀ (s : State) (src : Src), s.cmdStatus .swc = stPending → exec (.enqueue src) s = .next (settle s s)) ∧
  (∀ (s : State), s.cmdStatus .swc = stPending → exec .qFlush s = .next (settle s s)) ∧
  (∀ (s : State), s.cmdStatus .hmq = stPending → exec .hmqFlush s = .next (settle s s)) ∧
  (∀ (s : State), s.cmdStatus .ntu = stPending → exec .step s = .next (settle s s)) ∧
  (∀ (s : State) (src : Src), s.cmdStatus .ntu = stPending → exec (.stepForce src) s = .next (settle s s)) ∧
  (∀ (s : State), s.cmdStatus .ntu = stPending → exec .srcSelect s = .next (settle s s)) ∧
  (∀ (s : State), s.cmdStatus .ntu = stPending → exec .cmpArm s = .next (settle s s)) ∧
  (∀ (s : State), s.cmdStatus .ntu = stPending → exec .cmpDisarm s = .next (settle s s)) ∧
  (∀ (s : State), s.cmdStatus .mzl = stPending → exec .reenum s = .next (settle s s)) ∧
  (∀ (s : State), s.cmdStatus .hbr = stPending → exec .slotFlush s = .next (settle s s)) ∧
  (∀ (s : State), s.cmdStatus .mtr = stPending → exec .freezeAll s = .next (settle s s)) ∧
  (∀ (s : State) (src : Src), s.cmdStatus .log = stPending → exec (.logClear src) s = .next (settle s s)) ∧
  (∀ (s : State), s.cmdStatus .log = stPending → exec .logFlush s = .next (settle s s)) ∧
  (∀ (s : State), s.cmdStatus .upd = stPending → exec .begin s = .next (settle s s)) ∧
  (∀ (s : State), s.cmdStatus .upd = stPending → exec .verify s = .next (settle s s)) ∧
  (∀ (s : State) (src : Src), s.cmdStatus .upd = stPending → exec (.updActivate src) s = .next (settle s s)) ∧
  (∀ (s : State), s.cmdStatus .upd = stPending → exec .cancelAct s = .next (settle s s)) ∧
  (∀ (s : State) (src : Src), s.cmdStatus .upd = stPending → exec (.confirm src) s = .next (settle s s)) ∧
  (∀ (s : State) (src : Src), s.cmdStatus .upd = stPending → exec (.revert src) s = .next (settle s s)) ∧
  (∀ (s : State) (src : Src), s.cmdStatus .upd = stPending → exec (.epStart src) s = .next (settle s s)) ∧
  (∀ (s : State), s.cmdStatus .upd = stPending → exec .epStop s = .next (settle s s)) ∧
  (∀ (s : State) (src : Src), s.cmdStatus .pair = stPending → exec (.handover src) s = .next (settle s s)) ∧
  (∀ (s : State) (src : Src), s.cmdStatus .pair = stPending → exec (.abdicate src) s = .next (settle s s)) ∧
  (∀ (s : State), s.cmdStatus .pair = stPending → exec .pairResync s = .next (settle s s))

/-- When a watchdog or a lockstep mismatch calls for an unplanned warm start no more than 60 s after the last
unplanned one, the module sets SYS_RST_CAUSE.ESCALATED and starts cold. -/
def Obligations.SecondUnplannedStartIsCold : Prop :=
  (∀ (s : State) (a : Nat), s.canRestart = true → s.sys.lastUnplanned = some a → s.clk ≤ a + 60 * secs →
    exec .watchdog s = .next (settle s (((s.put SYS_RST_CAUSE.WATCHDOG 1).put SYS_RST_CAUSE.ESCALATED
      1).newFlash.coldStart false))) ∧
  (∀ (s : State) (a : Nat), s.canRestart = true → s.sys.lastUnplanned = some a → s.clk ≤ a + 60 * secs →
    exec .lockstepMismatch s = .next (settle s (((s.put SYS_RST_CAUSE.LOCKSTEP 1).put SYS_RST_CAUSE.ESCALATED
      1).newFlash.coldStart false)))

/-- Accepted by PWR from a source without a valid session, ENTER_SERVICE and ENTER_BANKED each report REFUSED_AUTH and
do nothing else; a code written to PWR_CMD that Table 3.2 does not list reports REFUSED_ARG. -/
def Obligations.ModeCommandsRefused : Prop :=
  (∀ (src : Src) (s : State), s.ready .pwr → (s.taken .pwr 1).authorise src = none →
    exec (.enterService src) s = .next (settle s ((s.taken .pwr 1).ended .pwr 1 stRefusedAuth))) ∧
  (∀ (src : Src) (s : State), s.ready .pwr → (s.taken .pwr 5).authorise src = none →
    exec (.enterBanked src) s = .next (settle s ((s.taken .pwr 5).ended .pwr 5 stRefusedAuth))) ∧
  (∀ (src : Src) (code : Nat) (s : State), s.ready .pwr → code ∉ [1, 2, 3, 4, 5] →
    State.command src .pwr code s = (s.taken .pwr code).ended .pwr code stRefusedArg)

/-- Bit 5 of the abdication conditions is 1 exactly while any of CRIT_TEMP, CRIT_VOLT, CRIT_PROC and NVM_LOW is set in
HLT_STAT. -/
def Obligations.CriticalHealthIsACondition : Prop :=
  ∀ s : State, bitOf s.pairCond 5 =
    (s.bit HLT_STAT.CRIT_TEMP || s.bit HLT_STAT.CRIT_VOLT || s.bit HLT_STAT.CRIT_PROC || s.bit HLT_STAT.NVM_LOW)

/-- In a canonical register store, a word reads as it was last written and every other word as before, and the store
stays canonical; a field of a word takes its value modulo its width and leaves every other field, of that word or
another, as it was. -/
def Obligations.RegisterStoreKeepsWords : Prop :=
  (∀ (s : State) (a b : Nat) (w : Word), regsWf s.regs →
    (s.setWord a w).word b = (if b = a then w else s.word b) ∧ regsWf (s.setWord a w).regs) ∧
  (∀ (s : State) (f : Fld) (v : Nat), regsWf s.regs → f.lo + f.w ≤ 32 → (s.put f v).fld f = v % 2 ^ f.w) ∧
  (∀ (s : State) (f g : Fld) (v : Nat), regsWf s.regs → f.lo + f.w ≤ 32 →
    (g.adr ≠ f.adr ∨ g.lo + g.w ≤ f.lo ∨ f.lo + f.w ≤ g.lo) → (s.put f v).fld g = s.fld g)

/-- A refused access is recorded: with every flag of SYS_ACCESS_ERR clear, its SIZE, DIR and SOURCE are captured there
and its offset in SYS_ACCESS_ADDR; with a flag set, its own flag and OVF are set and the captured values stay. -/
def Obligations.AccessErrorsAreCaptured : Prop :=
  (∀ (s : State) (c : Access) (e : AccErr), s.Inv → c.sz < 4 → c.off < 2 ^ 26 → s.noAccErr = true →
    (s.accErr c e).bit e.fld = true ∧ (s.accErr c e).fld SYS_ACCESS_ERR.SIZE = c.sz ∧
    (s.accErr c e).bit SYS_ACCESS_ERR.DIR = c.wr ∧ (s.accErr c e).fld SYS_ACCESS_ERR.SOURCE = c.src.code ∧
    (s.accErr c e).fld SYS_ACCESS_ADDR.OFFSET = c.off) ∧
  (∀ (s : State) (c : Access) (e : AccErr), s.Inv → s.noAccErr = false →
    (s.accErr c e).bit e.fld = true ∧ (s.accErr c e).bit SYS_ACCESS_ERR.OVF = true ∧
    (s.accErr c e).fld SYS_ACCESS_ERR.SIZE = s.fld SYS_ACCESS_ERR.SIZE ∧
    (s.accErr c e).fld SYS_ACCESS_ERR.DIR = s.fld SYS_ACCESS_ERR.DIR ∧
    (s.accErr c e).fld SYS_ACCESS_ERR.SOURCE = s.fld SYS_ACCESS_ERR.SOURCE ∧
    (s.accErr c e).fld SYS_ACCESS_ADDR.OFFSET = s.fld SYS_ACCESS_ADDR.OFFSET )

/-- After its own effect u, a command that began in s is settled: stale digests are noted, interrupts and event frames
follow, and the register store takes its one form. This keeps the queue as it was before the command, and leaves as u
has them the record of unplanned starts, the values in force, the clock, the model's counts, modes and rails, EMB, CFG
but for the stale sets, KEY but for its slots, NTU, EPC, the RAR snapshots, the NVM copy, SCH, latched words, DRV,
LFE, TRN, LBUS, SWC, HMQ, RAD, HBR, USB, MTR, UPD, PAIR and HLT. (It is the model's way to end a command, assumption
64; the frames themselves are those of the rules cited.) -/
def Obligations.SettleKeepsComponents : Prop :=
  ∀ s u : State,
    (settle s u).pending = s.pending ∧ (settle s u).sys.lastUnplanned = u.sys.lastUnplanned ∧
    (settle s u).cfg = { u.cfg with stale := (settle s u).cfg.stale } ∧ (settle s u).key =
      { u.key with slots := (settle s u).key.slots } ∧
    (settle s u).shadow = u.shadow ∧ (settle s u).clk = u.clk ∧ (settle s u).free = u.free ∧ (settle s u).pwr = u.pwr
      ∧
    (settle s u).emb = u.emb ∧ (settle s u).ntu = u.ntu ∧ (settle s u).epc = u.epc ∧ (settle s u).rar = u.rar ∧
    (settle s u).nvm = u.nvm ∧ (settle s u).sch = u.sch ∧ (settle s u).latch = u.latch ∧ (settle s u).drv = u.drv ∧
    (settle s u).lfe = u.lfe ∧ (settle s u).trn = u.trn ∧ (settle s u).lbus = u.lbus ∧ (settle s u).swc = u.swc ∧
    (settle s u).hmq = u.hmq ∧ (settle s u).rad = u.rad ∧ (settle s u).hb = u.hb ∧ (settle s u).usb = u.usb ∧
    (settle s u).mtr = u.mtr ∧ (settle s u).upd = u.upd ∧ (settle s u).pair = u.pair ∧ (settle s u).hlt = u.hlt

/-- Settling a command leaves every word outside the register windows of LOG, KEY, BBN and MZL as the command's effect
u has it, its reserved bits 0: a word that u lists keeps its named bits, and one that it does not list is at its reset
value. -/
def Obligations.SettleKeepsWords : Prop :=
  ∀ (s u : State) (a : Nat), (a < 0x50000 ∨ 0x70000 ≤ a ∧ a < 0x600000 ∨ 0x680000 ≤ a) →
    (settle s u).word a = (if (regFind u.regs a).isSome then u.word a &&& BitVec.ofNat 32 (namedBits a) else resetWord
      a)

/-- State.reset is the module right after an ember reset: mode EMBER, no commands waiting, every word at the value its
register resets to, nothing sent, the life cycle BLANK, no key slot but the factory ones filled, and the register
store canonical. (Where the spec gives no reset value, assumption 5 names the model's.) -/
def Obligations.ResetState : Prop :=
  State.reset.Inv ∧ State.reset.pending = [] ∧ State.reset.sent = [] ∧ State.reset.pwr.mode = .ember ∧
    State.reset.key.lc = 0 ∧
  State.reset.nvm = none ∧ ∀ a : Nat, State.reset.word a = resetWord a

/-- With a command at the front of the queue, a step is that command's effect on the state with the queue's rest; with
an empty queue one cycle of the model's clock passes (assumption 3), and where something is then due at a time of its
own (assumption 124) the state is settled with it done. -/
def Obligations.StepRunsFrontCommand : Prop :=
  (∀ (c : Instr) (rest : List Instr) (s : State), s.pending = c :: rest → step s = exec c { s with pending := rest })
    ∧
  (∀ s : State, s.pending = [] → step s = .next (if s.elapse.timeDue then settle s s.elapse.timeEvents else s.elapse))

/-- Whatever the command and the state, exec answers a next state: no command faults and none is refused. The next
state keeps the queue, its register store is in the one canonical form and its reserved bits are 0. -/
def Obligations.EveryCommandCompletes : Prop :=
  ∀ (c : Instr) (s : State), ∃ t : State, exec c s = .next t ∧ t.pending = s.pending ∧ t.Inv

/-- From any state whose register store is canonical with its reserved bits 0, every step answers a state of which the
same holds, with at most the front command gone from the queue. -/
def Obligations.StepKeepsInv : Prop :=
  ∀ s t : State, s.Inv → step s = .next t → t.Inv ∧ t.pending = s.pending.tail

/-- For every RAR pair: a low read with PENDING clear returns the accumulator's low half, snapshots the whole of it,
resets the accumulator and sets PENDING, and the high read after it gives the rest, so no count is lost; a low read
while PENDING returns the low half of that snapshot again, keeps the accumulator and sets REREAD; a high read returns
the snapshot's high half, clears PENDING and keeps the accumulator. -/
def Obligations.RarReadsLoseNothing : Prop :=
  (∀ (s : State) (a : Nat) (p : RarPair) (hi : Bool), regsWf s.regs → rarOf a = some (p, hi) → s.bit p.pending = false
    →
    (s.rarLow p).1 = s.acc p.lo p.hi % 2 ^ 32 ∧ (s.rarLow p).2.rarShadow p.lo = s.acc p.lo p.hi ∧
    (s.rarLow p).2.acc p.lo p.hi = 0 ∧ (s.rarLow p).2.bit p.pending = true ∧
    (s.rarLow p).1 + 2 ^ 32 * ((s.rarLow p).2.rarHigh p).1 = s.acc p.lo p.hi) ∧
  (∀ (s : State) (a : Nat) (p : RarPair) (hi : Bool), regsWf s.regs → rarOf a = some (p, hi) → s.bit p.pending = true
    →
    (s.rarLow p).1 = s.rarShadow p.lo % 2 ^ 32 ∧ (s.rarLow p).2.rarShadow p.lo = s.rarShadow p.lo ∧
    (s.rarLow p).2.acc p.lo p.hi = s.acc p.lo p.hi ∧ (s.rarLow p).2.bit p.pending = true ∧
    (s.rarLow p).2.bit p.reread = true) ∧
  (∀ (s : State) (a : Nat) (p : RarPair) (hi : Bool), regsWf s.regs → rarOf a = some (p, hi) →
    (s.rarHigh p).1 = s.rarShadow p.lo / 2 ^ 32 ∧ (s.rarHigh p).2.bit p.pending = false ∧
    (s.rarHigh p).2.acc p.lo p.hi = s.acc p.lo p.hi)
end

