-- ==== Sys2Proof/Laws/Bytes.lean ====
section
/-! SUPPORT. Fields of a word as numbers, bytes of a number, and the range of the CRC. -/

namespace Sys2Proof.Machine

/-- A field of a number reads as it was put, modulo its width. -/
theorem bitsOf_putBits_same (n lo w v : Nat) : bitsOf (putBits n lo w v) lo w = v % 2 ^ w := by
  unfold bitsOf putBits
  have h0 : 0 < 2 ^ lo := Nat.two_pow_pos lo
  have e : n / 2 ^ (lo + w) * 2 ^ (lo + w) + v % 2 ^ w * 2 ^ lo + n % 2 ^ lo = n % 2 ^ lo + 2 ^ lo * (v % 2 ^ w + 2 ^ w * (n / 2 ^ (lo + w))) := by
    rw [Nat.pow_add, Nat.mul_add, Nat.add_comm, Nat.mul_comm (n / _) _, Nat.mul_assoc, Nat.mul_comm (v % _) _, Nat.add_comm (2 ^ lo * (2 ^ w * _)) _]
  rw [e, Nat.add_mul_div_left _ _ h0, Nat.div_eq_of_lt (Nat.mod_lt _ h0), Nat.zero_add, Nat.add_mul_mod_self_left, Nat.mod_mod]

/-- A bit of a number after a field of it is put. -/
theorem putBits_testBit (n lo w v i : Nat) : (putBits n lo w v).testBit i =
    if i < lo then n.testBit i else if i < lo + w then v.testBit (i - lo) else n.testBit i := by
  have e : putBits n lo w v = 2 ^ lo * (2 ^ w * (n / 2 ^ (lo + w)) + v % 2 ^ w) + n % 2 ^ lo := by
    unfold putBits; rw [Nat.pow_add, Nat.mul_add, Nat.mul_comm (n / _) _, Nat.mul_assoc, Nat.mul_comm (v % _) _]
  rw [e, Nat.testBit_two_pow_mul_add _ (Nat.mod_lt _ (Nat.two_pow_pos lo)), Nat.testBit_two_pow_mul_add _ (Nat.mod_lt _ (Nat.two_pow_pos w))]
  by_cases h : i < lo
  · simp [h, Nat.testBit_mod_two_pow]
  · simp only [h, if_false]
    by_cases h2 : i < lo + w
    · simp [h2, show i - lo < w by omega, Nat.testBit_mod_two_pow]
    · simp only [h2, show ¬ i - lo < w by omega, if_false, Nat.testBit_div_two_pow]
      congr 1; omega

/-- A field of a number is as it was where another is put. -/
theorem bitsOf_putBits_other (n lo w v l k : Nat) (h : l + k ≤ lo ∨ lo + w ≤ l) : bitsOf (putBits n lo w v) l k = bitsOf n l k := by
  unfold bitsOf
  apply Nat.eq_of_testBit_eq
  intro i
  rw [Nat.testBit_mod_two_pow, Nat.testBit_mod_two_pow, Nat.testBit_div_two_pow, Nat.testBit_div_two_pow, putBits_testBit]
  by_cases hi : i < k
  · rcases h with h | h
    · rw [if_pos (by omega)]
    · rw [if_neg (by omega), if_neg (by omega)]
  · simp [hi]

/-- A word with a field put in it is a word. -/
theorem putBits_lt (n lo w v : Nat) (hn : n < 2 ^ 32) (h : lo + w ≤ 32) : putBits n lo w v < 2 ^ 32 := by
  apply Nat.lt_pow_two_of_testBit
  intro i hi
  have hz : n.testBit i = false := Nat.testBit_lt_two_pow (Nat.lt_of_lt_of_le hn (Nat.pow_le_pow_right (by decide) hi))
  rw [putBits_testBit, if_neg (by omega), if_neg (by omega), hz]

/-- The value of `n` bytes of a number is the number modulo their range. -/
theorem leVal_leBytes (n v : Nat) : leVal (leBytes n v) = v % 256 ^ n := by
  induction n generalizing v with
  | zero => simp [leBytes, leVal, Nat.mod_one]
  | succ n ih =>
    simp only [leBytes, leVal, ih, BitVec.toNat_ofNat]
    show v % 256 + 256 * (v / 256 % 256 ^ n) = v % 256 ^ (n + 1)
    rw [Nat.pow_succ', Nat.mod_mul]

theorem crcBit_lt (c : Nat) (h : c < 2 ^ 32) : crcBit c < 2 ^ 32 := by
  unfold crcBit
  split
  · exact Nat.xor_lt_two_pow (by omega) (by decide)
  · omega

theorem crcByte_lt (c : Nat) (b : Byte) (h : c < 2 ^ 32) : crcByte c b < 2 ^ 32 := by
  have hb : c ^^^ b.toNat < 2 ^ 32 := Nat.xor_lt_two_pow h (by have := b.isLt; omega)
  exact crcBit_lt _ (crcBit_lt _ (crcBit_lt _ (crcBit_lt _ (crcBit_lt _ (crcBit_lt _ (crcBit_lt _ (crcBit_lt _ hb)))))))

/-- A CRC-32 is a word. -/
theorem crc32_lt (l : List Byte) : crc32 l < 2 ^ 32 := by
  have key : ∀ (l : List Byte) (c : Nat), c < 2 ^ 32 → l.foldl crcByte c < 2 ^ 32 := by
    intro l
    induction l with
    | nil => exact fun _ h => h
    | cons b t ih => exact fun c h => ih _ (crcByte_lt c b h)
  exact Nat.xor_lt_two_pow (key l _ (by decide)) (by decide)

end Sys2Proof.Machine
end

