-- ==== Sys2Proof/Laws/State.lean ====
section
/-! SUPPORT. One lemma for each field of State and each primitive update: what the update leaves in it. -/

namespace Sys2Proof.Machine

/-! ### State.setWord -/

@[simp] theorem State.setWord_shadow (s : State) (a : Nat) (w : Word) : (s.setWord a w).shadow = s.shadow := rfl
@[simp] theorem State.setWord_clk (s : State) (a : Nat) (w : Word) : (s.setWord a w).clk = s.clk := rfl
@[simp] theorem State.setWord_free (s : State) (a : Nat) (w : Word) : (s.setWord a w).free = s.free := rfl
@[simp] theorem State.setWord_sent (s : State) (a : Nat) (w : Word) : (s.setWord a w).sent = s.sent := rfl
@[simp] theorem State.setWord_pending (s : State) (a : Nat) (w : Word) : (s.setWord a w).pending = s.pending := rfl
@[simp] theorem State.setWord_sys (s : State) (a : Nat) (w : Word) : (s.setWord a w).sys = s.sys := rfl
@[simp] theorem State.setWord_pwr (s : State) (a : Nat) (w : Word) : (s.setWord a w).pwr = s.pwr := rfl
@[simp] theorem State.setWord_emb (s : State) (a : Nat) (w : Word) : (s.setWord a w).emb = s.emb := rfl
@[simp] theorem State.setWord_cfg (s : State) (a : Nat) (w : Word) : (s.setWord a w).cfg = s.cfg := rfl
@[simp] theorem State.setWord_key (s : State) (a : Nat) (w : Word) : (s.setWord a w).key = s.key := rfl
@[simp] theorem State.setWord_log (s : State) (a : Nat) (w : Word) : (s.setWord a w).log = s.log := rfl
@[simp] theorem State.setWord_ntu (s : State) (a : Nat) (w : Word) : (s.setWord a w).ntu = s.ntu := rfl
@[simp] theorem State.setWord_epc (s : State) (a : Nat) (w : Word) : (s.setWord a w).epc = s.epc := rfl
@[simp] theorem State.setWord_rar (s : State) (a : Nat) (w : Word) : (s.setWord a w).rar = s.rar := rfl
@[simp] theorem State.setWord_nvm (s : State) (a : Nat) (w : Word) : (s.setWord a w).nvm = s.nvm := rfl
@[simp] theorem State.setWord_sch (s : State) (a : Nat) (w : Word) : (s.setWord a w).sch = s.sch := rfl
@[simp] theorem State.setWord_latch (s : State) (a : Nat) (w : Word) : (s.setWord a w).latch = s.latch := rfl
@[simp] theorem State.setWord_drv (s : State) (a : Nat) (w : Word) : (s.setWord a w).drv = s.drv := rfl
@[simp] theorem State.setWord_lfe (s : State) (a : Nat) (w : Word) : (s.setWord a w).lfe = s.lfe := rfl
@[simp] theorem State.setWord_trn (s : State) (a : Nat) (w : Word) : (s.setWord a w).trn = s.trn := rfl
@[simp] theorem State.setWord_lbus (s : State) (a : Nat) (w : Word) : (s.setWord a w).lbus = s.lbus := rfl
@[simp] theorem State.setWord_swc (s : State) (a : Nat) (w : Word) : (s.setWord a w).swc = s.swc := rfl
@[simp] theorem State.setWord_hmq (s : State) (a : Nat) (w : Word) : (s.setWord a w).hmq = s.hmq := rfl
@[simp] theorem State.setWord_rad (s : State) (a : Nat) (w : Word) : (s.setWord a w).rad = s.rad := rfl
@[simp] theorem State.setWord_mz (s : State) (a : Nat) (w : Word) : (s.setWord a w).mz = s.mz := rfl
@[simp] theorem State.setWord_bb (s : State) (a : Nat) (w : Word) : (s.setWord a w).bb = s.bb := rfl
@[simp] theorem State.setWord_hb (s : State) (a : Nat) (w : Word) : (s.setWord a w).hb = s.hb := rfl
@[simp] theorem State.setWord_usb (s : State) (a : Nat) (w : Word) : (s.setWord a w).usb = s.usb := rfl
@[simp] theorem State.setWord_mtr (s : State) (a : Nat) (w : Word) : (s.setWord a w).mtr = s.mtr := rfl
@[simp] theorem State.setWord_upd (s : State) (a : Nat) (w : Word) : (s.setWord a w).upd = s.upd := rfl
@[simp] theorem State.setWord_pair (s : State) (a : Nat) (w : Word) : (s.setWord a w).pair = s.pair := rfl
@[simp] theorem State.setWord_hlt (s : State) (a : Nat) (w : Word) : (s.setWord a w).hlt = s.hlt := rfl

/-! ### State.wr -/

@[simp] theorem State.wr_shadow (s : State) (a n : Nat) : (s.wr a n).shadow = s.shadow := rfl
@[simp] theorem State.wr_clk (s : State) (a n : Nat) : (s.wr a n).clk = s.clk := rfl
@[simp] theorem State.wr_free (s : State) (a n : Nat) : (s.wr a n).free = s.free := rfl
@[simp] theorem State.wr_sent (s : State) (a n : Nat) : (s.wr a n).sent = s.sent := rfl
@[simp] theorem State.wr_pending (s : State) (a n : Nat) : (s.wr a n).pending = s.pending := rfl
@[simp] theorem State.wr_sys (s : State) (a n : Nat) : (s.wr a n).sys = s.sys := rfl
@[simp] theorem State.wr_pwr (s : State) (a n : Nat) : (s.wr a n).pwr = s.pwr := rfl
@[simp] theorem State.wr_emb (s : State) (a n : Nat) : (s.wr a n).emb = s.emb := rfl
@[simp] theorem State.wr_cfg (s : State) (a n : Nat) : (s.wr a n).cfg = s.cfg := rfl
@[simp] theorem State.wr_key (s : State) (a n : Nat) : (s.wr a n).key = s.key := rfl
@[simp] theorem State.wr_log (s : State) (a n : Nat) : (s.wr a n).log = s.log := rfl
@[simp] theorem State.wr_ntu (s : State) (a n : Nat) : (s.wr a n).ntu = s.ntu := rfl
@[simp] theorem State.wr_epc (s : State) (a n : Nat) : (s.wr a n).epc = s.epc := rfl
@[simp] theorem State.wr_rar (s : State) (a n : Nat) : (s.wr a n).rar = s.rar := rfl
@[simp] theorem State.wr_nvm (s : State) (a n : Nat) : (s.wr a n).nvm = s.nvm := rfl
@[simp] theorem State.wr_sch (s : State) (a n : Nat) : (s.wr a n).sch = s.sch := rfl
@[simp] theorem State.wr_latch (s : State) (a n : Nat) : (s.wr a n).latch = s.latch := rfl
@[simp] theorem State.wr_drv (s : State) (a n : Nat) : (s.wr a n).drv = s.drv := rfl
@[simp] theorem State.wr_lfe (s : State) (a n : Nat) : (s.wr a n).lfe = s.lfe := rfl
@[simp] theorem State.wr_trn (s : State) (a n : Nat) : (s.wr a n).trn = s.trn := rfl
@[simp] theorem State.wr_lbus (s : State) (a n : Nat) : (s.wr a n).lbus = s.lbus := rfl
@[simp] theorem State.wr_swc (s : State) (a n : Nat) : (s.wr a n).swc = s.swc := rfl
@[simp] theorem State.wr_hmq (s : State) (a n : Nat) : (s.wr a n).hmq = s.hmq := rfl
@[simp] theorem State.wr_rad (s : State) (a n : Nat) : (s.wr a n).rad = s.rad := rfl
@[simp] theorem State.wr_mz (s : State) (a n : Nat) : (s.wr a n).mz = s.mz := rfl
@[simp] theorem State.wr_bb (s : State) (a n : Nat) : (s.wr a n).bb = s.bb := rfl
@[simp] theorem State.wr_hb (s : State) (a n : Nat) : (s.wr a n).hb = s.hb := rfl
@[simp] theorem State.wr_usb (s : State) (a n : Nat) : (s.wr a n).usb = s.usb := rfl
@[simp] theorem State.wr_mtr (s : State) (a n : Nat) : (s.wr a n).mtr = s.mtr := rfl
@[simp] theorem State.wr_upd (s : State) (a n : Nat) : (s.wr a n).upd = s.upd := rfl
@[simp] theorem State.wr_pair (s : State) (a n : Nat) : (s.wr a n).pair = s.pair := rfl
@[simp] theorem State.wr_hlt (s : State) (a n : Nat) : (s.wr a n).hlt = s.hlt := rfl

/-! ### State.put -/

@[simp] theorem State.put_shadow (s : State) (f : Fld) (v : Nat) : (s.put f v).shadow = s.shadow := rfl
@[simp] theorem State.put_clk (s : State) (f : Fld) (v : Nat) : (s.put f v).clk = s.clk := rfl
@[simp] theorem State.put_free (s : State) (f : Fld) (v : Nat) : (s.put f v).free = s.free := rfl
@[simp] theorem State.put_sent (s : State) (f : Fld) (v : Nat) : (s.put f v).sent = s.sent := rfl
@[simp] theorem State.put_pending (s : State) (f : Fld) (v : Nat) : (s.put f v).pending = s.pending := rfl
@[simp] theorem State.put_sys (s : State) (f : Fld) (v : Nat) : (s.put f v).sys = s.sys := rfl
@[simp] theorem State.put_pwr (s : State) (f : Fld) (v : Nat) : (s.put f v).pwr = s.pwr := rfl
@[simp] theorem State.put_emb (s : State) (f : Fld) (v : Nat) : (s.put f v).emb = s.emb := rfl
@[simp] theorem State.put_cfg (s : State) (f : Fld) (v : Nat) : (s.put f v).cfg = s.cfg := rfl
@[simp] theorem State.put_key (s : State) (f : Fld) (v : Nat) : (s.put f v).key = s.key := rfl
@[simp] theorem State.put_log (s : State) (f : Fld) (v : Nat) : (s.put f v).log = s.log := rfl
@[simp] theorem State.put_ntu (s : State) (f : Fld) (v : Nat) : (s.put f v).ntu = s.ntu := rfl
@[simp] theorem State.put_epc (s : State) (f : Fld) (v : Nat) : (s.put f v).epc = s.epc := rfl
@[simp] theorem State.put_rar (s : State) (f : Fld) (v : Nat) : (s.put f v).rar = s.rar := rfl
@[simp] theorem State.put_nvm (s : State) (f : Fld) (v : Nat) : (s.put f v).nvm = s.nvm := rfl
@[simp] theorem State.put_sch (s : State) (f : Fld) (v : Nat) : (s.put f v).sch = s.sch := rfl
@[simp] theorem State.put_latch (s : State) (f : Fld) (v : Nat) : (s.put f v).latch = s.latch := rfl
@[simp] theorem State.put_drv (s : State) (f : Fld) (v : Nat) : (s.put f v).drv = s.drv := rfl
@[simp] theorem State.put_lfe (s : State) (f : Fld) (v : Nat) : (s.put f v).lfe = s.lfe := rfl
@[simp] theorem State.put_trn (s : State) (f : Fld) (v : Nat) : (s.put f v).trn = s.trn := rfl
@[simp] theorem State.put_lbus (s : State) (f : Fld) (v : Nat) : (s.put f v).lbus = s.lbus := rfl
@[simp] theorem State.put_swc (s : State) (f : Fld) (v : Nat) : (s.put f v).swc = s.swc := rfl
@[simp] theorem State.put_hmq (s : State) (f : Fld) (v : Nat) : (s.put f v).hmq = s.hmq := rfl
@[simp] theorem State.put_rad (s : State) (f : Fld) (v : Nat) : (s.put f v).rad = s.rad := rfl
@[simp] theorem State.put_mz (s : State) (f : Fld) (v : Nat) : (s.put f v).mz = s.mz := rfl
@[simp] theorem State.put_bb (s : State) (f : Fld) (v : Nat) : (s.put f v).bb = s.bb := rfl
@[simp] theorem State.put_hb (s : State) (f : Fld) (v : Nat) : (s.put f v).hb = s.hb := rfl
@[simp] theorem State.put_usb (s : State) (f : Fld) (v : Nat) : (s.put f v).usb = s.usb := rfl
@[simp] theorem State.put_mtr (s : State) (f : Fld) (v : Nat) : (s.put f v).mtr = s.mtr := rfl
@[simp] theorem State.put_upd (s : State) (f : Fld) (v : Nat) : (s.put f v).upd = s.upd := rfl
@[simp] theorem State.put_pair (s : State) (f : Fld) (v : Nat) : (s.put f v).pair = s.pair := rfl
@[simp] theorem State.put_hlt (s : State) (f : Fld) (v : Nat) : (s.put f v).hlt = s.hlt := rfl

/-! ### State.putB -/

@[simp] theorem State.putB_shadow (s : State) (f : Fld) (b : Bool) : (s.putB f b).shadow = s.shadow := rfl
@[simp] theorem State.putB_clk (s : State) (f : Fld) (b : Bool) : (s.putB f b).clk = s.clk := rfl
@[simp] theorem State.putB_free (s : State) (f : Fld) (b : Bool) : (s.putB f b).free = s.free := rfl
@[simp] theorem State.putB_sent (s : State) (f : Fld) (b : Bool) : (s.putB f b).sent = s.sent := rfl
@[simp] theorem State.putB_pending (s : State) (f : Fld) (b : Bool) : (s.putB f b).pending = s.pending := rfl
@[simp] theorem State.putB_sys (s : State) (f : Fld) (b : Bool) : (s.putB f b).sys = s.sys := rfl
@[simp] theorem State.putB_pwr (s : State) (f : Fld) (b : Bool) : (s.putB f b).pwr = s.pwr := rfl
@[simp] theorem State.putB_emb (s : State) (f : Fld) (b : Bool) : (s.putB f b).emb = s.emb := rfl
@[simp] theorem State.putB_cfg (s : State) (f : Fld) (b : Bool) : (s.putB f b).cfg = s.cfg := rfl
@[simp] theorem State.putB_key (s : State) (f : Fld) (b : Bool) : (s.putB f b).key = s.key := rfl
@[simp] theorem State.putB_log (s : State) (f : Fld) (b : Bool) : (s.putB f b).log = s.log := rfl
@[simp] theorem State.putB_ntu (s : State) (f : Fld) (b : Bool) : (s.putB f b).ntu = s.ntu := rfl
@[simp] theorem State.putB_epc (s : State) (f : Fld) (b : Bool) : (s.putB f b).epc = s.epc := rfl
@[simp] theorem State.putB_rar (s : State) (f : Fld) (b : Bool) : (s.putB f b).rar = s.rar := rfl
@[simp] theorem State.putB_nvm (s : State) (f : Fld) (b : Bool) : (s.putB f b).nvm = s.nvm := rfl
@[simp] theorem State.putB_sch (s : State) (f : Fld) (b : Bool) : (s.putB f b).sch = s.sch := rfl
@[simp] theorem State.putB_latch (s : State) (f : Fld) (b : Bool) : (s.putB f b).latch = s.latch := rfl
@[simp] theorem State.putB_drv (s : State) (f : Fld) (b : Bool) : (s.putB f b).drv = s.drv := rfl
@[simp] theorem State.putB_lfe (s : State) (f : Fld) (b : Bool) : (s.putB f b).lfe = s.lfe := rfl
@[simp] theorem State.putB_trn (s : State) (f : Fld) (b : Bool) : (s.putB f b).trn = s.trn := rfl
@[simp] theorem State.putB_lbus (s : State) (f : Fld) (b : Bool) : (s.putB f b).lbus = s.lbus := rfl
@[simp] theorem State.putB_swc (s : State) (f : Fld) (b : Bool) : (s.putB f b).swc = s.swc := rfl
@[simp] theorem State.putB_hmq (s : State) (f : Fld) (b : Bool) : (s.putB f b).hmq = s.hmq := rfl
@[simp] theorem State.putB_rad (s : State) (f : Fld) (b : Bool) : (s.putB f b).rad = s.rad := rfl
@[simp] theorem State.putB_mz (s : State) (f : Fld) (b : Bool) : (s.putB f b).mz = s.mz := rfl
@[simp] theorem State.putB_bb (s : State) (f : Fld) (b : Bool) : (s.putB f b).bb = s.bb := rfl
@[simp] theorem State.putB_hb (s : State) (f : Fld) (b : Bool) : (s.putB f b).hb = s.hb := rfl
@[simp] theorem State.putB_usb (s : State) (f : Fld) (b : Bool) : (s.putB f b).usb = s.usb := rfl
@[simp] theorem State.putB_mtr (s : State) (f : Fld) (b : Bool) : (s.putB f b).mtr = s.mtr := rfl
@[simp] theorem State.putB_upd (s : State) (f : Fld) (b : Bool) : (s.putB f b).upd = s.upd := rfl
@[simp] theorem State.putB_pair (s : State) (f : Fld) (b : Bool) : (s.putB f b).pair = s.pair := rfl
@[simp] theorem State.putB_hlt (s : State) (f : Fld) (b : Bool) : (s.putB f b).hlt = s.hlt := rfl

/-! ### State.putI -/

@[simp] theorem State.putI_shadow (s : State) (f : Fld) (i : Int) : (s.putI f i).shadow = s.shadow := rfl
@[simp] theorem State.putI_clk (s : State) (f : Fld) (i : Int) : (s.putI f i).clk = s.clk := rfl
@[simp] theorem State.putI_free (s : State) (f : Fld) (i : Int) : (s.putI f i).free = s.free := rfl
@[simp] theorem State.putI_sent (s : State) (f : Fld) (i : Int) : (s.putI f i).sent = s.sent := rfl
@[simp] theorem State.putI_pending (s : State) (f : Fld) (i : Int) : (s.putI f i).pending = s.pending := rfl
@[simp] theorem State.putI_sys (s : State) (f : Fld) (i : Int) : (s.putI f i).sys = s.sys := rfl
@[simp] theorem State.putI_pwr (s : State) (f : Fld) (i : Int) : (s.putI f i).pwr = s.pwr := rfl
@[simp] theorem State.putI_emb (s : State) (f : Fld) (i : Int) : (s.putI f i).emb = s.emb := rfl
@[simp] theorem State.putI_cfg (s : State) (f : Fld) (i : Int) : (s.putI f i).cfg = s.cfg := rfl
@[simp] theorem State.putI_key (s : State) (f : Fld) (i : Int) : (s.putI f i).key = s.key := rfl
@[simp] theorem State.putI_log (s : State) (f : Fld) (i : Int) : (s.putI f i).log = s.log := rfl
@[simp] theorem State.putI_ntu (s : State) (f : Fld) (i : Int) : (s.putI f i).ntu = s.ntu := rfl
@[simp] theorem State.putI_epc (s : State) (f : Fld) (i : Int) : (s.putI f i).epc = s.epc := rfl
@[simp] theorem State.putI_rar (s : State) (f : Fld) (i : Int) : (s.putI f i).rar = s.rar := rfl
@[simp] theorem State.putI_nvm (s : State) (f : Fld) (i : Int) : (s.putI f i).nvm = s.nvm := rfl
@[simp] theorem State.putI_sch (s : State) (f : Fld) (i : Int) : (s.putI f i).sch = s.sch := rfl
@[simp] theorem State.putI_latch (s : State) (f : Fld) (i : Int) : (s.putI f i).latch = s.latch := rfl
@[simp] theorem State.putI_drv (s : State) (f : Fld) (i : Int) : (s.putI f i).drv = s.drv := rfl
@[simp] theorem State.putI_lfe (s : State) (f : Fld) (i : Int) : (s.putI f i).lfe = s.lfe := rfl
@[simp] theorem State.putI_trn (s : State) (f : Fld) (i : Int) : (s.putI f i).trn = s.trn := rfl
@[simp] theorem State.putI_lbus (s : State) (f : Fld) (i : Int) : (s.putI f i).lbus = s.lbus := rfl
@[simp] theorem State.putI_swc (s : State) (f : Fld) (i : Int) : (s.putI f i).swc = s.swc := rfl
@[simp] theorem State.putI_hmq (s : State) (f : Fld) (i : Int) : (s.putI f i).hmq = s.hmq := rfl
@[simp] theorem State.putI_rad (s : State) (f : Fld) (i : Int) : (s.putI f i).rad = s.rad := rfl
@[simp] theorem State.putI_mz (s : State) (f : Fld) (i : Int) : (s.putI f i).mz = s.mz := rfl
@[simp] theorem State.putI_bb (s : State) (f : Fld) (i : Int) : (s.putI f i).bb = s.bb := rfl
@[simp] theorem State.putI_hb (s : State) (f : Fld) (i : Int) : (s.putI f i).hb = s.hb := rfl
@[simp] theorem State.putI_usb (s : State) (f : Fld) (i : Int) : (s.putI f i).usb = s.usb := rfl
@[simp] theorem State.putI_mtr (s : State) (f : Fld) (i : Int) : (s.putI f i).mtr = s.mtr := rfl
@[simp] theorem State.putI_upd (s : State) (f : Fld) (i : Int) : (s.putI f i).upd = s.upd := rfl
@[simp] theorem State.putI_pair (s : State) (f : Fld) (i : Int) : (s.putI f i).pair = s.pair := rfl
@[simp] theorem State.putI_hlt (s : State) (f : Fld) (i : Int) : (s.putI f i).hlt = s.hlt := rfl

/-! ### State.bumpBy -/

@[simp] theorem State.bumpBy_shadow (s : State) (f : Fld) (n : Nat) : (s.bumpBy f n).shadow = s.shadow := rfl
@[simp] theorem State.bumpBy_clk (s : State) (f : Fld) (n : Nat) : (s.bumpBy f n).clk = s.clk := rfl
@[simp] theorem State.bumpBy_free (s : State) (f : Fld) (n : Nat) : (s.bumpBy f n).free = s.free := rfl
@[simp] theorem State.bumpBy_sent (s : State) (f : Fld) (n : Nat) : (s.bumpBy f n).sent = s.sent := rfl
@[simp] theorem State.bumpBy_pending (s : State) (f : Fld) (n : Nat) : (s.bumpBy f n).pending = s.pending := rfl
@[simp] theorem State.bumpBy_sys (s : State) (f : Fld) (n : Nat) : (s.bumpBy f n).sys = s.sys := rfl
@[simp] theorem State.bumpBy_pwr (s : State) (f : Fld) (n : Nat) : (s.bumpBy f n).pwr = s.pwr := rfl
@[simp] theorem State.bumpBy_emb (s : State) (f : Fld) (n : Nat) : (s.bumpBy f n).emb = s.emb := rfl
@[simp] theorem State.bumpBy_cfg (s : State) (f : Fld) (n : Nat) : (s.bumpBy f n).cfg = s.cfg := rfl
@[simp] theorem State.bumpBy_key (s : State) (f : Fld) (n : Nat) : (s.bumpBy f n).key = s.key := rfl
@[simp] theorem State.bumpBy_log (s : State) (f : Fld) (n : Nat) : (s.bumpBy f n).log = s.log := rfl
@[simp] theorem State.bumpBy_ntu (s : State) (f : Fld) (n : Nat) : (s.bumpBy f n).ntu = s.ntu := rfl
@[simp] theorem State.bumpBy_epc (s : State) (f : Fld) (n : Nat) : (s.bumpBy f n).epc = s.epc := rfl
@[simp] theorem State.bumpBy_rar (s : State) (f : Fld) (n : Nat) : (s.bumpBy f n).rar = s.rar := rfl
@[simp] theorem State.bumpBy_nvm (s : State) (f : Fld) (n : Nat) : (s.bumpBy f n).nvm = s.nvm := rfl
@[simp] theorem State.bumpBy_sch (s : State) (f : Fld) (n : Nat) : (s.bumpBy f n).sch = s.sch := rfl
@[simp] theorem State.bumpBy_latch (s : State) (f : Fld) (n : Nat) : (s.bumpBy f n).latch = s.latch := rfl
@[simp] theorem State.bumpBy_drv (s : State) (f : Fld) (n : Nat) : (s.bumpBy f n).drv = s.drv := rfl
@[simp] theorem State.bumpBy_lfe (s : State) (f : Fld) (n : Nat) : (s.bumpBy f n).lfe = s.lfe := rfl
@[simp] theorem State.bumpBy_trn (s : State) (f : Fld) (n : Nat) : (s.bumpBy f n).trn = s.trn := rfl
@[simp] theorem State.bumpBy_lbus (s : State) (f : Fld) (n : Nat) : (s.bumpBy f n).lbus = s.lbus := rfl
@[simp] theorem State.bumpBy_swc (s : State) (f : Fld) (n : Nat) : (s.bumpBy f n).swc = s.swc := rfl
@[simp] theorem State.bumpBy_hmq (s : State) (f : Fld) (n : Nat) : (s.bumpBy f n).hmq = s.hmq := rfl
@[simp] theorem State.bumpBy_rad (s : State) (f : Fld) (n : Nat) : (s.bumpBy f n).rad = s.rad := rfl
@[simp] theorem State.bumpBy_mz (s : State) (f : Fld) (n : Nat) : (s.bumpBy f n).mz = s.mz := rfl
@[simp] theorem State.bumpBy_bb (s : State) (f : Fld) (n : Nat) : (s.bumpBy f n).bb = s.bb := rfl
@[simp] theorem State.bumpBy_hb (s : State) (f : Fld) (n : Nat) : (s.bumpBy f n).hb = s.hb := rfl
@[simp] theorem State.bumpBy_usb (s : State) (f : Fld) (n : Nat) : (s.bumpBy f n).usb = s.usb := rfl
@[simp] theorem State.bumpBy_mtr (s : State) (f : Fld) (n : Nat) : (s.bumpBy f n).mtr = s.mtr := rfl
@[simp] theorem State.bumpBy_upd (s : State) (f : Fld) (n : Nat) : (s.bumpBy f n).upd = s.upd := rfl
@[simp] theorem State.bumpBy_pair (s : State) (f : Fld) (n : Nat) : (s.bumpBy f n).pair = s.pair := rfl
@[simp] theorem State.bumpBy_hlt (s : State) (f : Fld) (n : Nat) : (s.bumpBy f n).hlt = s.hlt := rfl

/-! ### State.bump -/

@[simp] theorem State.bump_shadow (s : State) (f : Fld) : (s.bump f).shadow = s.shadow := rfl
@[simp] theorem State.bump_clk (s : State) (f : Fld) : (s.bump f).clk = s.clk := rfl
@[simp] theorem State.bump_free (s : State) (f : Fld) : (s.bump f).free = s.free := rfl
@[simp] theorem State.bump_sent (s : State) (f : Fld) : (s.bump f).sent = s.sent := rfl
@[simp] theorem State.bump_pending (s : State) (f : Fld) : (s.bump f).pending = s.pending := rfl
@[simp] theorem State.bump_sys (s : State) (f : Fld) : (s.bump f).sys = s.sys := rfl
@[simp] theorem State.bump_pwr (s : State) (f : Fld) : (s.bump f).pwr = s.pwr := rfl
@[simp] theorem State.bump_emb (s : State) (f : Fld) : (s.bump f).emb = s.emb := rfl
@[simp] theorem State.bump_cfg (s : State) (f : Fld) : (s.bump f).cfg = s.cfg := rfl
@[simp] theorem State.bump_key (s : State) (f : Fld) : (s.bump f).key = s.key := rfl
@[simp] theorem State.bump_log (s : State) (f : Fld) : (s.bump f).log = s.log := rfl
@[simp] theorem State.bump_ntu (s : State) (f : Fld) : (s.bump f).ntu = s.ntu := rfl
@[simp] theorem State.bump_epc (s : State) (f : Fld) : (s.bump f).epc = s.epc := rfl
@[simp] theorem State.bump_rar (s : State) (f : Fld) : (s.bump f).rar = s.rar := rfl
@[simp] theorem State.bump_nvm (s : State) (f : Fld) : (s.bump f).nvm = s.nvm := rfl
@[simp] theorem State.bump_sch (s : State) (f : Fld) : (s.bump f).sch = s.sch := rfl
@[simp] theorem State.bump_latch (s : State) (f : Fld) : (s.bump f).latch = s.latch := rfl
@[simp] theorem State.bump_drv (s : State) (f : Fld) : (s.bump f).drv = s.drv := rfl
@[simp] theorem State.bump_lfe (s : State) (f : Fld) : (s.bump f).lfe = s.lfe := rfl
@[simp] theorem State.bump_trn (s : State) (f : Fld) : (s.bump f).trn = s.trn := rfl
@[simp] theorem State.bump_lbus (s : State) (f : Fld) : (s.bump f).lbus = s.lbus := rfl
@[simp] theorem State.bump_swc (s : State) (f : Fld) : (s.bump f).swc = s.swc := rfl
@[simp] theorem State.bump_hmq (s : State) (f : Fld) : (s.bump f).hmq = s.hmq := rfl
@[simp] theorem State.bump_rad (s : State) (f : Fld) : (s.bump f).rad = s.rad := rfl
@[simp] theorem State.bump_mz (s : State) (f : Fld) : (s.bump f).mz = s.mz := rfl
@[simp] theorem State.bump_bb (s : State) (f : Fld) : (s.bump f).bb = s.bb := rfl
@[simp] theorem State.bump_hb (s : State) (f : Fld) : (s.bump f).hb = s.hb := rfl
@[simp] theorem State.bump_usb (s : State) (f : Fld) : (s.bump f).usb = s.usb := rfl
@[simp] theorem State.bump_mtr (s : State) (f : Fld) : (s.bump f).mtr = s.mtr := rfl
@[simp] theorem State.bump_upd (s : State) (f : Fld) : (s.bump f).upd = s.upd := rfl
@[simp] theorem State.bump_pair (s : State) (f : Fld) : (s.bump f).pair = s.pair := rfl
@[simp] theorem State.bump_hlt (s : State) (f : Fld) : (s.bump f).hlt = s.hlt := rfl

/-! ### State.raise -/

@[simp] theorem State.raise_shadow (s : State) (f : Fld) : (s.raise f).shadow = s.shadow := rfl
@[simp] theorem State.raise_clk (s : State) (f : Fld) : (s.raise f).clk = s.clk := rfl
@[simp] theorem State.raise_free (s : State) (f : Fld) : (s.raise f).free = s.free := rfl
@[simp] theorem State.raise_sent (s : State) (f : Fld) : (s.raise f).sent = s.sent := rfl
@[simp] theorem State.raise_pending (s : State) (f : Fld) : (s.raise f).pending = s.pending := rfl
@[simp] theorem State.raise_sys (s : State) (f : Fld) : (s.raise f).sys = s.sys := rfl
@[simp] theorem State.raise_pwr (s : State) (f : Fld) : (s.raise f).pwr = s.pwr := rfl
@[simp] theorem State.raise_emb (s : State) (f : Fld) : (s.raise f).emb = s.emb := rfl
@[simp] theorem State.raise_cfg (s : State) (f : Fld) : (s.raise f).cfg = s.cfg := rfl
@[simp] theorem State.raise_key (s : State) (f : Fld) : (s.raise f).key = s.key := rfl
@[simp] theorem State.raise_log (s : State) (f : Fld) : (s.raise f).log = s.log := rfl
@[simp] theorem State.raise_ntu (s : State) (f : Fld) : (s.raise f).ntu = s.ntu := rfl
@[simp] theorem State.raise_epc (s : State) (f : Fld) : (s.raise f).epc = s.epc := rfl
@[simp] theorem State.raise_rar (s : State) (f : Fld) : (s.raise f).rar = s.rar := rfl
@[simp] theorem State.raise_nvm (s : State) (f : Fld) : (s.raise f).nvm = s.nvm := rfl
@[simp] theorem State.raise_sch (s : State) (f : Fld) : (s.raise f).sch = s.sch := rfl
@[simp] theorem State.raise_latch (s : State) (f : Fld) : (s.raise f).latch = s.latch := rfl
@[simp] theorem State.raise_drv (s : State) (f : Fld) : (s.raise f).drv = s.drv := rfl
@[simp] theorem State.raise_lfe (s : State) (f : Fld) : (s.raise f).lfe = s.lfe := rfl
@[simp] theorem State.raise_trn (s : State) (f : Fld) : (s.raise f).trn = s.trn := rfl
@[simp] theorem State.raise_lbus (s : State) (f : Fld) : (s.raise f).lbus = s.lbus := rfl
@[simp] theorem State.raise_swc (s : State) (f : Fld) : (s.raise f).swc = s.swc := rfl
@[simp] theorem State.raise_hmq (s : State) (f : Fld) : (s.raise f).hmq = s.hmq := rfl
@[simp] theorem State.raise_rad (s : State) (f : Fld) : (s.raise f).rad = s.rad := rfl
@[simp] theorem State.raise_mz (s : State) (f : Fld) : (s.raise f).mz = s.mz := rfl
@[simp] theorem State.raise_bb (s : State) (f : Fld) : (s.raise f).bb = s.bb := rfl
@[simp] theorem State.raise_hb (s : State) (f : Fld) : (s.raise f).hb = s.hb := rfl
@[simp] theorem State.raise_usb (s : State) (f : Fld) : (s.raise f).usb = s.usb := rfl
@[simp] theorem State.raise_mtr (s : State) (f : Fld) : (s.raise f).mtr = s.mtr := rfl
@[simp] theorem State.raise_upd (s : State) (f : Fld) : (s.raise f).upd = s.upd := rfl
@[simp] theorem State.raise_pair (s : State) (f : Fld) : (s.raise f).pair = s.pair := rfl
@[simp] theorem State.raise_hlt (s : State) (f : Fld) : (s.raise f).hlt = s.hlt := rfl

/-! ### State.emit -/

@[simp] theorem State.emit_regs (s : State) (o : OutPort) (b : List Byte) : (s.emit o b).regs = s.regs := rfl
@[simp] theorem State.emit_shadow (s : State) (o : OutPort) (b : List Byte) : (s.emit o b).shadow = s.shadow := rfl
@[simp] theorem State.emit_clk (s : State) (o : OutPort) (b : List Byte) : (s.emit o b).clk = s.clk := rfl
@[simp] theorem State.emit_free (s : State) (o : OutPort) (b : List Byte) : (s.emit o b).free = s.free := rfl
@[simp] theorem State.emit_sent (s : State) (o : OutPort) (b : List Byte) : (s.emit o b).sent = ⟨o, b⟩ :: s.sent := rfl
@[simp] theorem State.emit_pending (s : State) (o : OutPort) (b : List Byte) : (s.emit o b).pending = s.pending := rfl
@[simp] theorem State.emit_sys (s : State) (o : OutPort) (b : List Byte) : (s.emit o b).sys = s.sys := rfl
@[simp] theorem State.emit_pwr (s : State) (o : OutPort) (b : List Byte) : (s.emit o b).pwr = s.pwr := rfl
@[simp] theorem State.emit_emb (s : State) (o : OutPort) (b : List Byte) : (s.emit o b).emb = s.emb := rfl
@[simp] theorem State.emit_cfg (s : State) (o : OutPort) (b : List Byte) : (s.emit o b).cfg = s.cfg := rfl
@[simp] theorem State.emit_key (s : State) (o : OutPort) (b : List Byte) : (s.emit o b).key = s.key := rfl
@[simp] theorem State.emit_log (s : State) (o : OutPort) (b : List Byte) : (s.emit o b).log = s.log := rfl
@[simp] theorem State.emit_ntu (s : State) (o : OutPort) (b : List Byte) : (s.emit o b).ntu = s.ntu := rfl
@[simp] theorem State.emit_epc (s : State) (o : OutPort) (b : List Byte) : (s.emit o b).epc = s.epc := rfl
@[simp] theorem State.emit_rar (s : State) (o : OutPort) (b : List Byte) : (s.emit o b).rar = s.rar := rfl
@[simp] theorem State.emit_nvm (s : State) (o : OutPort) (b : List Byte) : (s.emit o b).nvm = s.nvm := rfl
@[simp] theorem State.emit_sch (s : State) (o : OutPort) (b : List Byte) : (s.emit o b).sch = s.sch := rfl
@[simp] theorem State.emit_latch (s : State) (o : OutPort) (b : List Byte) : (s.emit o b).latch = s.latch := rfl
@[simp] theorem State.emit_drv (s : State) (o : OutPort) (b : List Byte) : (s.emit o b).drv = s.drv := rfl
@[simp] theorem State.emit_lfe (s : State) (o : OutPort) (b : List Byte) : (s.emit o b).lfe = s.lfe := rfl
@[simp] theorem State.emit_trn (s : State) (o : OutPort) (b : List Byte) : (s.emit o b).trn = s.trn := rfl
@[simp] theorem State.emit_lbus (s : State) (o : OutPort) (b : List Byte) : (s.emit o b).lbus = s.lbus := rfl
@[simp] theorem State.emit_swc (s : State) (o : OutPort) (b : List Byte) : (s.emit o b).swc = s.swc := rfl
@[simp] theorem State.emit_hmq (s : State) (o : OutPort) (b : List Byte) : (s.emit o b).hmq = s.hmq := rfl
@[simp] theorem State.emit_rad (s : State) (o : OutPort) (b : List Byte) : (s.emit o b).rad = s.rad := rfl
@[simp] theorem State.emit_mz (s : State) (o : OutPort) (b : List Byte) : (s.emit o b).mz = s.mz := rfl
@[simp] theorem State.emit_bb (s : State) (o : OutPort) (b : List Byte) : (s.emit o b).bb = s.bb := rfl
@[simp] theorem State.emit_hb (s : State) (o : OutPort) (b : List Byte) : (s.emit o b).hb = s.hb := rfl
@[simp] theorem State.emit_usb (s : State) (o : OutPort) (b : List Byte) : (s.emit o b).usb = s.usb := rfl
@[simp] theorem State.emit_mtr (s : State) (o : OutPort) (b : List Byte) : (s.emit o b).mtr = s.mtr := rfl
@[simp] theorem State.emit_upd (s : State) (o : OutPort) (b : List Byte) : (s.emit o b).upd = s.upd := rfl
@[simp] theorem State.emit_pair (s : State) (o : OutPort) (b : List Byte) : (s.emit o b).pair = s.pair := rfl
@[simp] theorem State.emit_hlt (s : State) (o : OutPort) (b : List Byte) : (s.emit o b).hlt = s.hlt := rfl

/-! ### State.useFree -/

@[simp] theorem State.useFree_regs (s : State) : s.useFree.regs = s.regs := rfl
@[simp] theorem State.useFree_shadow (s : State) : s.useFree.shadow = s.shadow := rfl
@[simp] theorem State.useFree_clk (s : State) : s.useFree.clk = s.clk := rfl
@[simp] theorem State.useFree_free (s : State) : s.useFree.free = s.free + 1 := rfl
@[simp] theorem State.useFree_sent (s : State) : s.useFree.sent = s.sent := rfl
@[simp] theorem State.useFree_pending (s : State) : s.useFree.pending = s.pending := rfl
@[simp] theorem State.useFree_sys (s : State) : s.useFree.sys = s.sys := rfl
@[simp] theorem State.useFree_pwr (s : State) : s.useFree.pwr = s.pwr := rfl
@[simp] theorem State.useFree_emb (s : State) : s.useFree.emb = s.emb := rfl
@[simp] theorem State.useFree_cfg (s : State) : s.useFree.cfg = s.cfg := rfl
@[simp] theorem State.useFree_key (s : State) : s.useFree.key = s.key := rfl
@[simp] theorem State.useFree_log (s : State) : s.useFree.log = s.log := rfl
@[simp] theorem State.useFree_ntu (s : State) : s.useFree.ntu = s.ntu := rfl
@[simp] theorem State.useFree_epc (s : State) : s.useFree.epc = s.epc := rfl
@[simp] theorem State.useFree_rar (s : State) : s.useFree.rar = s.rar := rfl
@[simp] theorem State.useFree_nvm (s : State) : s.useFree.nvm = s.nvm := rfl
@[simp] theorem State.useFree_sch (s : State) : s.useFree.sch = s.sch := rfl
@[simp] theorem State.useFree_latch (s : State) : s.useFree.latch = s.latch := rfl
@[simp] theorem State.useFree_drv (s : State) : s.useFree.drv = s.drv := rfl
@[simp] theorem State.useFree_lfe (s : State) : s.useFree.lfe = s.lfe := rfl
@[simp] theorem State.useFree_trn (s : State) : s.useFree.trn = s.trn := rfl
@[simp] theorem State.useFree_lbus (s : State) : s.useFree.lbus = s.lbus := rfl
@[simp] theorem State.useFree_swc (s : State) : s.useFree.swc = s.swc := rfl
@[simp] theorem State.useFree_hmq (s : State) : s.useFree.hmq = s.hmq := rfl
@[simp] theorem State.useFree_rad (s : State) : s.useFree.rad = s.rad := rfl
@[simp] theorem State.useFree_mz (s : State) : s.useFree.mz = s.mz := rfl
@[simp] theorem State.useFree_bb (s : State) : s.useFree.bb = s.bb := rfl
@[simp] theorem State.useFree_hb (s : State) : s.useFree.hb = s.hb := rfl
@[simp] theorem State.useFree_usb (s : State) : s.useFree.usb = s.usb := rfl
@[simp] theorem State.useFree_mtr (s : State) : s.useFree.mtr = s.mtr := rfl
@[simp] theorem State.useFree_upd (s : State) : s.useFree.upd = s.upd := rfl
@[simp] theorem State.useFree_pair (s : State) : s.useFree.pair = s.pair := rfl
@[simp] theorem State.useFree_hlt (s : State) : s.useFree.hlt = s.hlt := rfl

/-! ### State.withPwr -/

@[simp] theorem State.withPwr_regs (s : State) (f : PwrState → PwrState) : (s.withPwr f).regs = s.regs := rfl
@[simp] theorem State.withPwr_shadow (s : State) (f : PwrState → PwrState) : (s.withPwr f).shadow = s.shadow := rfl
@[simp] theorem State.withPwr_clk (s : State) (f : PwrState → PwrState) : (s.withPwr f).clk = s.clk := rfl
@[simp] theorem State.withPwr_free (s : State) (f : PwrState → PwrState) : (s.withPwr f).free = s.free := rfl
@[simp] theorem State.withPwr_sent (s : State) (f : PwrState → PwrState) : (s.withPwr f).sent = s.sent := rfl
@[simp] theorem State.withPwr_pending (s : State) (f : PwrState → PwrState) : (s.withPwr f).pending = s.pending := rfl
@[simp] theorem State.withPwr_sys (s : State) (f : PwrState → PwrState) : (s.withPwr f).sys = s.sys := rfl
@[simp] theorem State.withPwr_pwr (s : State) (f : PwrState → PwrState) : (s.withPwr f).pwr = f s.pwr := rfl
@[simp] theorem State.withPwr_emb (s : State) (f : PwrState → PwrState) : (s.withPwr f).emb = s.emb := rfl
@[simp] theorem State.withPwr_cfg (s : State) (f : PwrState → PwrState) : (s.withPwr f).cfg = s.cfg := rfl
@[simp] theorem State.withPwr_key (s : State) (f : PwrState → PwrState) : (s.withPwr f).key = s.key := rfl
@[simp] theorem State.withPwr_log (s : State) (f : PwrState → PwrState) : (s.withPwr f).log = s.log := rfl
@[simp] theorem State.withPwr_ntu (s : State) (f : PwrState → PwrState) : (s.withPwr f).ntu = s.ntu := rfl
@[simp] theorem State.withPwr_epc (s : State) (f : PwrState → PwrState) : (s.withPwr f).epc = s.epc := rfl
@[simp] theorem State.withPwr_rar (s : State) (f : PwrState → PwrState) : (s.withPwr f).rar = s.rar := rfl
@[simp] theorem State.withPwr_nvm (s : State) (f : PwrState → PwrState) : (s.withPwr f).nvm = s.nvm := rfl
@[simp] theorem State.withPwr_sch (s : State) (f : PwrState → PwrState) : (s.withPwr f).sch = s.sch := rfl
@[simp] theorem State.withPwr_latch (s : State) (f : PwrState → PwrState) : (s.withPwr f).latch = s.latch := rfl
@[simp] theorem State.withPwr_drv (s : State) (f : PwrState → PwrState) : (s.withPwr f).drv = s.drv := rfl
@[simp] theorem State.withPwr_lfe (s : State) (f : PwrState → PwrState) : (s.withPwr f).lfe = s.lfe := rfl
@[simp] theorem State.withPwr_trn (s : State) (f : PwrState → PwrState) : (s.withPwr f).trn = s.trn := rfl
@[simp] theorem State.withPwr_lbus (s : State) (f : PwrState → PwrState) : (s.withPwr f).lbus = s.lbus := rfl
@[simp] theorem State.withPwr_swc (s : State) (f : PwrState → PwrState) : (s.withPwr f).swc = s.swc := rfl
@[simp] theorem State.withPwr_hmq (s : State) (f : PwrState → PwrState) : (s.withPwr f).hmq = s.hmq := rfl
@[simp] theorem State.withPwr_rad (s : State) (f : PwrState → PwrState) : (s.withPwr f).rad = s.rad := rfl
@[simp] theorem State.withPwr_mz (s : State) (f : PwrState → PwrState) : (s.withPwr f).mz = s.mz := rfl
@[simp] theorem State.withPwr_bb (s : State) (f : PwrState → PwrState) : (s.withPwr f).bb = s.bb := rfl
@[simp] theorem State.withPwr_hb (s : State) (f : PwrState → PwrState) : (s.withPwr f).hb = s.hb := rfl
@[simp] theorem State.withPwr_usb (s : State) (f : PwrState → PwrState) : (s.withPwr f).usb = s.usb := rfl
@[simp] theorem State.withPwr_mtr (s : State) (f : PwrState → PwrState) : (s.withPwr f).mtr = s.mtr := rfl
@[simp] theorem State.withPwr_upd (s : State) (f : PwrState → PwrState) : (s.withPwr f).upd = s.upd := rfl
@[simp] theorem State.withPwr_pair (s : State) (f : PwrState → PwrState) : (s.withPwr f).pair = s.pair := rfl
@[simp] theorem State.withPwr_hlt (s : State) (f : PwrState → PwrState) : (s.withPwr f).hlt = s.hlt := rfl

/-! ### State.withEmb -/

@[simp] theorem State.withEmb_regs (s : State) (f : EmbState → EmbState) : (s.withEmb f).regs = s.regs := rfl
@[simp] theorem State.withEmb_shadow (s : State) (f : EmbState → EmbState) : (s.withEmb f).shadow = s.shadow := rfl
@[simp] theorem State.withEmb_clk (s : State) (f : EmbState → EmbState) : (s.withEmb f).clk = s.clk := rfl
@[simp] theorem State.withEmb_free (s : State) (f : EmbState → EmbState) : (s.withEmb f).free = s.free := rfl
@[simp] theorem State.withEmb_sent (s : State) (f : EmbState → EmbState) : (s.withEmb f).sent = s.sent := rfl
@[simp] theorem State.withEmb_pending (s : State) (f : EmbState → EmbState) : (s.withEmb f).pending = s.pending := rfl
@[simp] theorem State.withEmb_sys (s : State) (f : EmbState → EmbState) : (s.withEmb f).sys = s.sys := rfl
@[simp] theorem State.withEmb_pwr (s : State) (f : EmbState → EmbState) : (s.withEmb f).pwr = s.pwr := rfl
@[simp] theorem State.withEmb_emb (s : State) (f : EmbState → EmbState) : (s.withEmb f).emb = f s.emb := rfl
@[simp] theorem State.withEmb_cfg (s : State) (f : EmbState → EmbState) : (s.withEmb f).cfg = s.cfg := rfl
@[simp] theorem State.withEmb_key (s : State) (f : EmbState → EmbState) : (s.withEmb f).key = s.key := rfl
@[simp] theorem State.withEmb_log (s : State) (f : EmbState → EmbState) : (s.withEmb f).log = s.log := rfl
@[simp] theorem State.withEmb_ntu (s : State) (f : EmbState → EmbState) : (s.withEmb f).ntu = s.ntu := rfl
@[simp] theorem State.withEmb_epc (s : State) (f : EmbState → EmbState) : (s.withEmb f).epc = s.epc := rfl
@[simp] theorem State.withEmb_rar (s : State) (f : EmbState → EmbState) : (s.withEmb f).rar = s.rar := rfl
@[simp] theorem State.withEmb_nvm (s : State) (f : EmbState → EmbState) : (s.withEmb f).nvm = s.nvm := rfl
@[simp] theorem State.withEmb_sch (s : State) (f : EmbState → EmbState) : (s.withEmb f).sch = s.sch := rfl
@[simp] theorem State.withEmb_latch (s : State) (f : EmbState → EmbState) : (s.withEmb f).latch = s.latch := rfl
@[simp] theorem State.withEmb_drv (s : State) (f : EmbState → EmbState) : (s.withEmb f).drv = s.drv := rfl
@[simp] theorem State.withEmb_lfe (s : State) (f : EmbState → EmbState) : (s.withEmb f).lfe = s.lfe := rfl
@[simp] theorem State.withEmb_trn (s : State) (f : EmbState → EmbState) : (s.withEmb f).trn = s.trn := rfl
@[simp] theorem State.withEmb_lbus (s : State) (f : EmbState → EmbState) : (s.withEmb f).lbus = s.lbus := rfl
@[simp] theorem State.withEmb_swc (s : State) (f : EmbState → EmbState) : (s.withEmb f).swc = s.swc := rfl
@[simp] theorem State.withEmb_hmq (s : State) (f : EmbState → EmbState) : (s.withEmb f).hmq = s.hmq := rfl
@[simp] theorem State.withEmb_rad (s : State) (f : EmbState → EmbState) : (s.withEmb f).rad = s.rad := rfl
@[simp] theorem State.withEmb_mz (s : State) (f : EmbState → EmbState) : (s.withEmb f).mz = s.mz := rfl
@[simp] theorem State.withEmb_bb (s : State) (f : EmbState → EmbState) : (s.withEmb f).bb = s.bb := rfl
@[simp] theorem State.withEmb_hb (s : State) (f : EmbState → EmbState) : (s.withEmb f).hb = s.hb := rfl
@[simp] theorem State.withEmb_usb (s : State) (f : EmbState → EmbState) : (s.withEmb f).usb = s.usb := rfl
@[simp] theorem State.withEmb_mtr (s : State) (f : EmbState → EmbState) : (s.withEmb f).mtr = s.mtr := rfl
@[simp] theorem State.withEmb_upd (s : State) (f : EmbState → EmbState) : (s.withEmb f).upd = s.upd := rfl
@[simp] theorem State.withEmb_pair (s : State) (f : EmbState → EmbState) : (s.withEmb f).pair = s.pair := rfl
@[simp] theorem State.withEmb_hlt (s : State) (f : EmbState → EmbState) : (s.withEmb f).hlt = s.hlt := rfl

/-! ### State.withHlt -/

@[simp] theorem State.withHlt_regs (s : State) (f : HltState → HltState) : (s.withHlt f).regs = s.regs := rfl
@[simp] theorem State.withHlt_shadow (s : State) (f : HltState → HltState) : (s.withHlt f).shadow = s.shadow := rfl
@[simp] theorem State.withHlt_clk (s : State) (f : HltState → HltState) : (s.withHlt f).clk = s.clk := rfl
@[simp] theorem State.withHlt_free (s : State) (f : HltState → HltState) : (s.withHlt f).free = s.free := rfl
@[simp] theorem State.withHlt_sent (s : State) (f : HltState → HltState) : (s.withHlt f).sent = s.sent := rfl
@[simp] theorem State.withHlt_pending (s : State) (f : HltState → HltState) : (s.withHlt f).pending = s.pending := rfl
@[simp] theorem State.withHlt_sys (s : State) (f : HltState → HltState) : (s.withHlt f).sys = s.sys := rfl
@[simp] theorem State.withHlt_pwr (s : State) (f : HltState → HltState) : (s.withHlt f).pwr = s.pwr := rfl
@[simp] theorem State.withHlt_emb (s : State) (f : HltState → HltState) : (s.withHlt f).emb = s.emb := rfl
@[simp] theorem State.withHlt_cfg (s : State) (f : HltState → HltState) : (s.withHlt f).cfg = s.cfg := rfl
@[simp] theorem State.withHlt_key (s : State) (f : HltState → HltState) : (s.withHlt f).key = s.key := rfl
@[simp] theorem State.withHlt_log (s : State) (f : HltState → HltState) : (s.withHlt f).log = s.log := rfl
@[simp] theorem State.withHlt_ntu (s : State) (f : HltState → HltState) : (s.withHlt f).ntu = s.ntu := rfl
@[simp] theorem State.withHlt_epc (s : State) (f : HltState → HltState) : (s.withHlt f).epc = s.epc := rfl
@[simp] theorem State.withHlt_rar (s : State) (f : HltState → HltState) : (s.withHlt f).rar = s.rar := rfl
@[simp] theorem State.withHlt_nvm (s : State) (f : HltState → HltState) : (s.withHlt f).nvm = s.nvm := rfl
@[simp] theorem State.withHlt_sch (s : State) (f : HltState → HltState) : (s.withHlt f).sch = s.sch := rfl
@[simp] theorem State.withHlt_latch (s : State) (f : HltState → HltState) : (s.withHlt f).latch = s.latch := rfl
@[simp] theorem State.withHlt_drv (s : State) (f : HltState → HltState) : (s.withHlt f).drv = s.drv := rfl
@[simp] theorem State.withHlt_lfe (s : State) (f : HltState → HltState) : (s.withHlt f).lfe = s.lfe := rfl
@[simp] theorem State.withHlt_trn (s : State) (f : HltState → HltState) : (s.withHlt f).trn = s.trn := rfl
@[simp] theorem State.withHlt_lbus (s : State) (f : HltState → HltState) : (s.withHlt f).lbus = s.lbus := rfl
@[simp] theorem State.withHlt_swc (s : State) (f : HltState → HltState) : (s.withHlt f).swc = s.swc := rfl
@[simp] theorem State.withHlt_hmq (s : State) (f : HltState → HltState) : (s.withHlt f).hmq = s.hmq := rfl
@[simp] theorem State.withHlt_rad (s : State) (f : HltState → HltState) : (s.withHlt f).rad = s.rad := rfl
@[simp] theorem State.withHlt_mz (s : State) (f : HltState → HltState) : (s.withHlt f).mz = s.mz := rfl
@[simp] theorem State.withHlt_bb (s : State) (f : HltState → HltState) : (s.withHlt f).bb = s.bb := rfl
@[simp] theorem State.withHlt_hb (s : State) (f : HltState → HltState) : (s.withHlt f).hb = s.hb := rfl
@[simp] theorem State.withHlt_usb (s : State) (f : HltState → HltState) : (s.withHlt f).usb = s.usb := rfl
@[simp] theorem State.withHlt_mtr (s : State) (f : HltState → HltState) : (s.withHlt f).mtr = s.mtr := rfl
@[simp] theorem State.withHlt_upd (s : State) (f : HltState → HltState) : (s.withHlt f).upd = s.upd := rfl
@[simp] theorem State.withHlt_pair (s : State) (f : HltState → HltState) : (s.withHlt f).pair = s.pair := rfl
@[simp] theorem State.withHlt_hlt (s : State) (f : HltState → HltState) : (s.withHlt f).hlt = f s.hlt := rfl

/-! ### State.withHb -/

@[simp] theorem State.withHb_regs (s : State) (f : HbState → HbState) : (s.withHb f).regs = s.regs := rfl
@[simp] theorem State.withHb_shadow (s : State) (f : HbState → HbState) : (s.withHb f).shadow = s.shadow := rfl
@[simp] theorem State.withHb_clk (s : State) (f : HbState → HbState) : (s.withHb f).clk = s.clk := rfl
@[simp] theorem State.withHb_free (s : State) (f : HbState → HbState) : (s.withHb f).free = s.free := rfl
@[simp] theorem State.withHb_sent (s : State) (f : HbState → HbState) : (s.withHb f).sent = s.sent := rfl
@[simp] theorem State.withHb_pending (s : State) (f : HbState → HbState) : (s.withHb f).pending = s.pending := rfl
@[simp] theorem State.withHb_sys (s : State) (f : HbState → HbState) : (s.withHb f).sys = s.sys := rfl
@[simp] theorem State.withHb_pwr (s : State) (f : HbState → HbState) : (s.withHb f).pwr = s.pwr := rfl
@[simp] theorem State.withHb_emb (s : State) (f : HbState → HbState) : (s.withHb f).emb = s.emb := rfl
@[simp] theorem State.withHb_cfg (s : State) (f : HbState → HbState) : (s.withHb f).cfg = s.cfg := rfl
@[simp] theorem State.withHb_key (s : State) (f : HbState → HbState) : (s.withHb f).key = s.key := rfl
@[simp] theorem State.withHb_log (s : State) (f : HbState → HbState) : (s.withHb f).log = s.log := rfl
@[simp] theorem State.withHb_ntu (s : State) (f : HbState → HbState) : (s.withHb f).ntu = s.ntu := rfl
@[simp] theorem State.withHb_epc (s : State) (f : HbState → HbState) : (s.withHb f).epc = s.epc := rfl
@[simp] theorem State.withHb_rar (s : State) (f : HbState → HbState) : (s.withHb f).rar = s.rar := rfl
@[simp] theorem State.withHb_nvm (s : State) (f : HbState → HbState) : (s.withHb f).nvm = s.nvm := rfl
@[simp] theorem State.withHb_sch (s : State) (f : HbState → HbState) : (s.withHb f).sch = s.sch := rfl
@[simp] theorem State.withHb_latch (s : State) (f : HbState → HbState) : (s.withHb f).latch = s.latch := rfl
@[simp] theorem State.withHb_drv (s : State) (f : HbState → HbState) : (s.withHb f).drv = s.drv := rfl
@[simp] theorem State.withHb_lfe (s : State) (f : HbState → HbState) : (s.withHb f).lfe = s.lfe := rfl
@[simp] theorem State.withHb_trn (s : State) (f : HbState → HbState) : (s.withHb f).trn = s.trn := rfl
@[simp] theorem State.withHb_lbus (s : State) (f : HbState → HbState) : (s.withHb f).lbus = s.lbus := rfl
@[simp] theorem State.withHb_swc (s : State) (f : HbState → HbState) : (s.withHb f).swc = s.swc := rfl
@[simp] theorem State.withHb_hmq (s : State) (f : HbState → HbState) : (s.withHb f).hmq = s.hmq := rfl
@[simp] theorem State.withHb_rad (s : State) (f : HbState → HbState) : (s.withHb f).rad = s.rad := rfl
@[simp] theorem State.withHb_mz (s : State) (f : HbState → HbState) : (s.withHb f).mz = s.mz := rfl
@[simp] theorem State.withHb_bb (s : State) (f : HbState → HbState) : (s.withHb f).bb = s.bb := rfl
@[simp] theorem State.withHb_hb (s : State) (f : HbState → HbState) : (s.withHb f).hb = f s.hb := rfl
@[simp] theorem State.withHb_usb (s : State) (f : HbState → HbState) : (s.withHb f).usb = s.usb := rfl
@[simp] theorem State.withHb_mtr (s : State) (f : HbState → HbState) : (s.withHb f).mtr = s.mtr := rfl
@[simp] theorem State.withHb_upd (s : State) (f : HbState → HbState) : (s.withHb f).upd = s.upd := rfl
@[simp] theorem State.withHb_pair (s : State) (f : HbState → HbState) : (s.withHb f).pair = s.pair := rfl
@[simp] theorem State.withHb_hlt (s : State) (f : HbState → HbState) : (s.withHb f).hlt = s.hlt := rfl

/-! ### State.withUsb -/

@[simp] theorem State.withUsb_regs (s : State) (f : UsbState → UsbState) : (s.withUsb f).regs = s.regs := rfl
@[simp] theorem State.withUsb_shadow (s : State) (f : UsbState → UsbState) : (s.withUsb f).shadow = s.shadow := rfl
@[simp] theorem State.withUsb_clk (s : State) (f : UsbState → UsbState) : (s.withUsb f).clk = s.clk := rfl
@[simp] theorem State.withUsb_free (s : State) (f : UsbState → UsbState) : (s.withUsb f).free = s.free := rfl
@[simp] theorem State.withUsb_sent (s : State) (f : UsbState → UsbState) : (s.withUsb f).sent = s.sent := rfl
@[simp] theorem State.withUsb_pending (s : State) (f : UsbState → UsbState) : (s.withUsb f).pending = s.pending := rfl
@[simp] theorem State.withUsb_sys (s : State) (f : UsbState → UsbState) : (s.withUsb f).sys = s.sys := rfl
@[simp] theorem State.withUsb_pwr (s : State) (f : UsbState → UsbState) : (s.withUsb f).pwr = s.pwr := rfl
@[simp] theorem State.withUsb_emb (s : State) (f : UsbState → UsbState) : (s.withUsb f).emb = s.emb := rfl
@[simp] theorem State.withUsb_cfg (s : State) (f : UsbState → UsbState) : (s.withUsb f).cfg = s.cfg := rfl
@[simp] theorem State.withUsb_key (s : State) (f : UsbState → UsbState) : (s.withUsb f).key = s.key := rfl
@[simp] theorem State.withUsb_log (s : State) (f : UsbState → UsbState) : (s.withUsb f).log = s.log := rfl
@[simp] theorem State.withUsb_ntu (s : State) (f : UsbState → UsbState) : (s.withUsb f).ntu = s.ntu := rfl
@[simp] theorem State.withUsb_epc (s : State) (f : UsbState → UsbState) : (s.withUsb f).epc = s.epc := rfl
@[simp] theorem State.withUsb_rar (s : State) (f : UsbState → UsbState) : (s.withUsb f).rar = s.rar := rfl
@[simp] theorem State.withUsb_nvm (s : State) (f : UsbState → UsbState) : (s.withUsb f).nvm = s.nvm := rfl
@[simp] theorem State.withUsb_sch (s : State) (f : UsbState → UsbState) : (s.withUsb f).sch = s.sch := rfl
@[simp] theorem State.withUsb_latch (s : State) (f : UsbState → UsbState) : (s.withUsb f).latch = s.latch := rfl
@[simp] theorem State.withUsb_drv (s : State) (f : UsbState → UsbState) : (s.withUsb f).drv = s.drv := rfl
@[simp] theorem State.withUsb_lfe (s : State) (f : UsbState → UsbState) : (s.withUsb f).lfe = s.lfe := rfl
@[simp] theorem State.withUsb_trn (s : State) (f : UsbState → UsbState) : (s.withUsb f).trn = s.trn := rfl
@[simp] theorem State.withUsb_lbus (s : State) (f : UsbState → UsbState) : (s.withUsb f).lbus = s.lbus := rfl
@[simp] theorem State.withUsb_swc (s : State) (f : UsbState → UsbState) : (s.withUsb f).swc = s.swc := rfl
@[simp] theorem State.withUsb_hmq (s : State) (f : UsbState → UsbState) : (s.withUsb f).hmq = s.hmq := rfl
@[simp] theorem State.withUsb_rad (s : State) (f : UsbState → UsbState) : (s.withUsb f).rad = s.rad := rfl
@[simp] theorem State.withUsb_mz (s : State) (f : UsbState → UsbState) : (s.withUsb f).mz = s.mz := rfl
@[simp] theorem State.withUsb_bb (s : State) (f : UsbState → UsbState) : (s.withUsb f).bb = s.bb := rfl
@[simp] theorem State.withUsb_hb (s : State) (f : UsbState → UsbState) : (s.withUsb f).hb = s.hb := rfl
@[simp] theorem State.withUsb_usb (s : State) (f : UsbState → UsbState) : (s.withUsb f).usb = f s.usb := rfl
@[simp] theorem State.withUsb_mtr (s : State) (f : UsbState → UsbState) : (s.withUsb f).mtr = s.mtr := rfl
@[simp] theorem State.withUsb_upd (s : State) (f : UsbState → UsbState) : (s.withUsb f).upd = s.upd := rfl
@[simp] theorem State.withUsb_pair (s : State) (f : UsbState → UsbState) : (s.withUsb f).pair = s.pair := rfl
@[simp] theorem State.withUsb_hlt (s : State) (f : UsbState → UsbState) : (s.withUsb f).hlt = s.hlt := rfl

/-! ### State.withBb -/

@[simp] theorem State.withBb_regs (s : State) (f : BbState → BbState) : (s.withBb f).regs = s.regs := rfl
@[simp] theorem State.withBb_shadow (s : State) (f : BbState → BbState) : (s.withBb f).shadow = s.shadow := rfl
@[simp] theorem State.withBb_clk (s : State) (f : BbState → BbState) : (s.withBb f).clk = s.clk := rfl
@[simp] theorem State.withBb_free (s : State) (f : BbState → BbState) : (s.withBb f).free = s.free := rfl
@[simp] theorem State.withBb_sent (s : State) (f : BbState → BbState) : (s.withBb f).sent = s.sent := rfl
@[simp] theorem State.withBb_pending (s : State) (f : BbState → BbState) : (s.withBb f).pending = s.pending := rfl
@[simp] theorem State.withBb_sys (s : State) (f : BbState → BbState) : (s.withBb f).sys = s.sys := rfl
@[simp] theorem State.withBb_pwr (s : State) (f : BbState → BbState) : (s.withBb f).pwr = s.pwr := rfl
@[simp] theorem State.withBb_emb (s : State) (f : BbState → BbState) : (s.withBb f).emb = s.emb := rfl
@[simp] theorem State.withBb_cfg (s : State) (f : BbState → BbState) : (s.withBb f).cfg = s.cfg := rfl
@[simp] theorem State.withBb_key (s : State) (f : BbState → BbState) : (s.withBb f).key = s.key := rfl
@[simp] theorem State.withBb_log (s : State) (f : BbState → BbState) : (s.withBb f).log = s.log := rfl
@[simp] theorem State.withBb_ntu (s : State) (f : BbState → BbState) : (s.withBb f).ntu = s.ntu := rfl
@[simp] theorem State.withBb_epc (s : State) (f : BbState → BbState) : (s.withBb f).epc = s.epc := rfl
@[simp] theorem State.withBb_rar (s : State) (f : BbState → BbState) : (s.withBb f).rar = s.rar := rfl
@[simp] theorem State.withBb_nvm (s : State) (f : BbState → BbState) : (s.withBb f).nvm = s.nvm := rfl
@[simp] theorem State.withBb_sch (s : State) (f : BbState → BbState) : (s.withBb f).sch = s.sch := rfl
@[simp] theorem State.withBb_latch (s : State) (f : BbState → BbState) : (s.withBb f).latch = s.latch := rfl
@[simp] theorem State.withBb_drv (s : State) (f : BbState → BbState) : (s.withBb f).drv = s.drv := rfl
@[simp] theorem State.withBb_lfe (s : State) (f : BbState → BbState) : (s.withBb f).lfe = s.lfe := rfl
@[simp] theorem State.withBb_trn (s : State) (f : BbState → BbState) : (s.withBb f).trn = s.trn := rfl
@[simp] theorem State.withBb_lbus (s : State) (f : BbState → BbState) : (s.withBb f).lbus = s.lbus := rfl
@[simp] theorem State.withBb_swc (s : State) (f : BbState → BbState) : (s.withBb f).swc = s.swc := rfl
@[simp] theorem State.withBb_hmq (s : State) (f : BbState → BbState) : (s.withBb f).hmq = s.hmq := rfl
@[simp] theorem State.withBb_rad (s : State) (f : BbState → BbState) : (s.withBb f).rad = s.rad := rfl
@[simp] theorem State.withBb_mz (s : State) (f : BbState → BbState) : (s.withBb f).mz = s.mz := rfl
@[simp] theorem State.withBb_bb (s : State) (f : BbState → BbState) : (s.withBb f).bb = f s.bb := rfl
@[simp] theorem State.withBb_hb (s : State) (f : BbState → BbState) : (s.withBb f).hb = s.hb := rfl
@[simp] theorem State.withBb_usb (s : State) (f : BbState → BbState) : (s.withBb f).usb = s.usb := rfl
@[simp] theorem State.withBb_mtr (s : State) (f : BbState → BbState) : (s.withBb f).mtr = s.mtr := rfl
@[simp] theorem State.withBb_upd (s : State) (f : BbState → BbState) : (s.withBb f).upd = s.upd := rfl
@[simp] theorem State.withBb_pair (s : State) (f : BbState → BbState) : (s.withBb f).pair = s.pair := rfl
@[simp] theorem State.withBb_hlt (s : State) (f : BbState → BbState) : (s.withBb f).hlt = s.hlt := rfl

/-! ### State.withMz -/

@[simp] theorem State.withMz_regs (s : State) (f : MzState → MzState) : (s.withMz f).regs = s.regs := rfl
@[simp] theorem State.withMz_shadow (s : State) (f : MzState → MzState) : (s.withMz f).shadow = s.shadow := rfl
@[simp] theorem State.withMz_clk (s : State) (f : MzState → MzState) : (s.withMz f).clk = s.clk := rfl
@[simp] theorem State.withMz_free (s : State) (f : MzState → MzState) : (s.withMz f).free = s.free := rfl
@[simp] theorem State.withMz_sent (s : State) (f : MzState → MzState) : (s.withMz f).sent = s.sent := rfl
@[simp] theorem State.withMz_pending (s : State) (f : MzState → MzState) : (s.withMz f).pending = s.pending := rfl
@[simp] theorem State.withMz_sys (s : State) (f : MzState → MzState) : (s.withMz f).sys = s.sys := rfl
@[simp] theorem State.withMz_pwr (s : State) (f : MzState → MzState) : (s.withMz f).pwr = s.pwr := rfl
@[simp] theorem State.withMz_emb (s : State) (f : MzState → MzState) : (s.withMz f).emb = s.emb := rfl
@[simp] theorem State.withMz_cfg (s : State) (f : MzState → MzState) : (s.withMz f).cfg = s.cfg := rfl
@[simp] theorem State.withMz_key (s : State) (f : MzState → MzState) : (s.withMz f).key = s.key := rfl
@[simp] theorem State.withMz_log (s : State) (f : MzState → MzState) : (s.withMz f).log = s.log := rfl
@[simp] theorem State.withMz_ntu (s : State) (f : MzState → MzState) : (s.withMz f).ntu = s.ntu := rfl
@[simp] theorem State.withMz_epc (s : State) (f : MzState → MzState) : (s.withMz f).epc = s.epc := rfl
@[simp] theorem State.withMz_rar (s : State) (f : MzState → MzState) : (s.withMz f).rar = s.rar := rfl
@[simp] theorem State.withMz_nvm (s : State) (f : MzState → MzState) : (s.withMz f).nvm = s.nvm := rfl
@[simp] theorem State.withMz_sch (s : State) (f : MzState → MzState) : (s.withMz f).sch = s.sch := rfl
@[simp] theorem State.withMz_latch (s : State) (f : MzState → MzState) : (s.withMz f).latch = s.latch := rfl
@[simp] theorem State.withMz_drv (s : State) (f : MzState → MzState) : (s.withMz f).drv = s.drv := rfl
@[simp] theorem State.withMz_lfe (s : State) (f : MzState → MzState) : (s.withMz f).lfe = s.lfe := rfl
@[simp] theorem State.withMz_trn (s : State) (f : MzState → MzState) : (s.withMz f).trn = s.trn := rfl
@[simp] theorem State.withMz_lbus (s : State) (f : MzState → MzState) : (s.withMz f).lbus = s.lbus := rfl
@[simp] theorem State.withMz_swc (s : State) (f : MzState → MzState) : (s.withMz f).swc = s.swc := rfl
@[simp] theorem State.withMz_hmq (s : State) (f : MzState → MzState) : (s.withMz f).hmq = s.hmq := rfl
@[simp] theorem State.withMz_rad (s : State) (f : MzState → MzState) : (s.withMz f).rad = s.rad := rfl
@[simp] theorem State.withMz_mz (s : State) (f : MzState → MzState) : (s.withMz f).mz = f s.mz := rfl
@[simp] theorem State.withMz_bb (s : State) (f : MzState → MzState) : (s.withMz f).bb = s.bb := rfl
@[simp] theorem State.withMz_hb (s : State) (f : MzState → MzState) : (s.withMz f).hb = s.hb := rfl
@[simp] theorem State.withMz_usb (s : State) (f : MzState → MzState) : (s.withMz f).usb = s.usb := rfl
@[simp] theorem State.withMz_mtr (s : State) (f : MzState → MzState) : (s.withMz f).mtr = s.mtr := rfl
@[simp] theorem State.withMz_upd (s : State) (f : MzState → MzState) : (s.withMz f).upd = s.upd := rfl
@[simp] theorem State.withMz_pair (s : State) (f : MzState → MzState) : (s.withMz f).pair = s.pair := rfl
@[simp] theorem State.withMz_hlt (s : State) (f : MzState → MzState) : (s.withMz f).hlt = s.hlt := rfl

/-! ### State.withMtr -/

@[simp] theorem State.withMtr_regs (s : State) (f : MtrState → MtrState) : (s.withMtr f).regs = s.regs := rfl
@[simp] theorem State.withMtr_shadow (s : State) (f : MtrState → MtrState) : (s.withMtr f).shadow = s.shadow := rfl
@[simp] theorem State.withMtr_clk (s : State) (f : MtrState → MtrState) : (s.withMtr f).clk = s.clk := rfl
@[simp] theorem State.withMtr_free (s : State) (f : MtrState → MtrState) : (s.withMtr f).free = s.free := rfl
@[simp] theorem State.withMtr_sent (s : State) (f : MtrState → MtrState) : (s.withMtr f).sent = s.sent := rfl
@[simp] theorem State.withMtr_pending (s : State) (f : MtrState → MtrState) : (s.withMtr f).pending = s.pending := rfl
@[simp] theorem State.withMtr_sys (s : State) (f : MtrState → MtrState) : (s.withMtr f).sys = s.sys := rfl
@[simp] theorem State.withMtr_pwr (s : State) (f : MtrState → MtrState) : (s.withMtr f).pwr = s.pwr := rfl
@[simp] theorem State.withMtr_emb (s : State) (f : MtrState → MtrState) : (s.withMtr f).emb = s.emb := rfl
@[simp] theorem State.withMtr_cfg (s : State) (f : MtrState → MtrState) : (s.withMtr f).cfg = s.cfg := rfl
@[simp] theorem State.withMtr_key (s : State) (f : MtrState → MtrState) : (s.withMtr f).key = s.key := rfl
@[simp] theorem State.withMtr_log (s : State) (f : MtrState → MtrState) : (s.withMtr f).log = s.log := rfl
@[simp] theorem State.withMtr_ntu (s : State) (f : MtrState → MtrState) : (s.withMtr f).ntu = s.ntu := rfl
@[simp] theorem State.withMtr_epc (s : State) (f : MtrState → MtrState) : (s.withMtr f).epc = s.epc := rfl
@[simp] theorem State.withMtr_rar (s : State) (f : MtrState → MtrState) : (s.withMtr f).rar = s.rar := rfl
@[simp] theorem State.withMtr_nvm (s : State) (f : MtrState → MtrState) : (s.withMtr f).nvm = s.nvm := rfl
@[simp] theorem State.withMtr_sch (s : State) (f : MtrState → MtrState) : (s.withMtr f).sch = s.sch := rfl
@[simp] theorem State.withMtr_latch (s : State) (f : MtrState → MtrState) : (s.withMtr f).latch = s.latch := rfl
@[simp] theorem State.withMtr_drv (s : State) (f : MtrState → MtrState) : (s.withMtr f).drv = s.drv := rfl
@[simp] theorem State.withMtr_lfe (s : State) (f : MtrState → MtrState) : (s.withMtr f).lfe = s.lfe := rfl
@[simp] theorem State.withMtr_trn (s : State) (f : MtrState → MtrState) : (s.withMtr f).trn = s.trn := rfl
@[simp] theorem State.withMtr_lbus (s : State) (f : MtrState → MtrState) : (s.withMtr f).lbus = s.lbus := rfl
@[simp] theorem State.withMtr_swc (s : State) (f : MtrState → MtrState) : (s.withMtr f).swc = s.swc := rfl
@[simp] theorem State.withMtr_hmq (s : State) (f : MtrState → MtrState) : (s.withMtr f).hmq = s.hmq := rfl
@[simp] theorem State.withMtr_rad (s : State) (f : MtrState → MtrState) : (s.withMtr f).rad = s.rad := rfl
@[simp] theorem State.withMtr_mz (s : State) (f : MtrState → MtrState) : (s.withMtr f).mz = s.mz := rfl
@[simp] theorem State.withMtr_bb (s : State) (f : MtrState → MtrState) : (s.withMtr f).bb = s.bb := rfl
@[simp] theorem State.withMtr_hb (s : State) (f : MtrState → MtrState) : (s.withMtr f).hb = s.hb := rfl
@[simp] theorem State.withMtr_usb (s : State) (f : MtrState → MtrState) : (s.withMtr f).usb = s.usb := rfl
@[simp] theorem State.withMtr_mtr (s : State) (f : MtrState → MtrState) : (s.withMtr f).mtr = f s.mtr := rfl
@[simp] theorem State.withMtr_upd (s : State) (f : MtrState → MtrState) : (s.withMtr f).upd = s.upd := rfl
@[simp] theorem State.withMtr_pair (s : State) (f : MtrState → MtrState) : (s.withMtr f).pair = s.pair := rfl
@[simp] theorem State.withMtr_hlt (s : State) (f : MtrState → MtrState) : (s.withMtr f).hlt = s.hlt := rfl

/-! ### State.withPair -/

@[simp] theorem State.withPair_regs (s : State) (f : PairState → PairState) : (s.withPair f).regs = s.regs := rfl
@[simp] theorem State.withPair_shadow (s : State) (f : PairState → PairState) : (s.withPair f).shadow = s.shadow := rfl
@[simp] theorem State.withPair_clk (s : State) (f : PairState → PairState) : (s.withPair f).clk = s.clk := rfl
@[simp] theorem State.withPair_free (s : State) (f : PairState → PairState) : (s.withPair f).free = s.free := rfl
@[simp] theorem State.withPair_sent (s : State) (f : PairState → PairState) : (s.withPair f).sent = s.sent := rfl
@[simp] theorem State.withPair_pending (s : State) (f : PairState → PairState) : (s.withPair f).pending = s.pending := rfl
@[simp] theorem State.withPair_sys (s : State) (f : PairState → PairState) : (s.withPair f).sys = s.sys := rfl
@[simp] theorem State.withPair_pwr (s : State) (f : PairState → PairState) : (s.withPair f).pwr = s.pwr := rfl
@[simp] theorem State.withPair_emb (s : State) (f : PairState → PairState) : (s.withPair f).emb = s.emb := rfl
@[simp] theorem State.withPair_cfg (s : State) (f : PairState → PairState) : (s.withPair f).cfg = s.cfg := rfl
@[simp] theorem State.withPair_key (s : State) (f : PairState → PairState) : (s.withPair f).key = s.key := rfl
@[simp] theorem State.withPair_log (s : State) (f : PairState → PairState) : (s.withPair f).log = s.log := rfl
@[simp] theorem State.withPair_ntu (s : State) (f : PairState → PairState) : (s.withPair f).ntu = s.ntu := rfl
@[simp] theorem State.withPair_epc (s : State) (f : PairState → PairState) : (s.withPair f).epc = s.epc := rfl
@[simp] theorem State.withPair_rar (s : State) (f : PairState → PairState) : (s.withPair f).rar = s.rar := rfl
@[simp] theorem State.withPair_nvm (s : State) (f : PairState → PairState) : (s.withPair f).nvm = s.nvm := rfl
@[simp] theorem State.withPair_sch (s : State) (f : PairState → PairState) : (s.withPair f).sch = s.sch := rfl
@[simp] theorem State.withPair_latch (s : State) (f : PairState → PairState) : (s.withPair f).latch = s.latch := rfl
@[simp] theorem State.withPair_drv (s : State) (f : PairState → PairState) : (s.withPair f).drv = s.drv := rfl
@[simp] theorem State.withPair_lfe (s : State) (f : PairState → PairState) : (s.withPair f).lfe = s.lfe := rfl
@[simp] theorem State.withPair_trn (s : State) (f : PairState → PairState) : (s.withPair f).trn = s.trn := rfl
@[simp] theorem State.withPair_lbus (s : State) (f : PairState → PairState) : (s.withPair f).lbus = s.lbus := rfl
@[simp] theorem State.withPair_swc (s : State) (f : PairState → PairState) : (s.withPair f).swc = s.swc := rfl
@[simp] theorem State.withPair_hmq (s : State) (f : PairState → PairState) : (s.withPair f).hmq = s.hmq := rfl
@[simp] theorem State.withPair_rad (s : State) (f : PairState → PairState) : (s.withPair f).rad = s.rad := rfl
@[simp] theorem State.withPair_mz (s : State) (f : PairState → PairState) : (s.withPair f).mz = s.mz := rfl
@[simp] theorem State.withPair_bb (s : State) (f : PairState → PairState) : (s.withPair f).bb = s.bb := rfl
@[simp] theorem State.withPair_hb (s : State) (f : PairState → PairState) : (s.withPair f).hb = s.hb := rfl
@[simp] theorem State.withPair_usb (s : State) (f : PairState → PairState) : (s.withPair f).usb = s.usb := rfl
@[simp] theorem State.withPair_mtr (s : State) (f : PairState → PairState) : (s.withPair f).mtr = s.mtr := rfl
@[simp] theorem State.withPair_upd (s : State) (f : PairState → PairState) : (s.withPair f).upd = s.upd := rfl
@[simp] theorem State.withPair_pair (s : State) (f : PairState → PairState) : (s.withPair f).pair = f s.pair := rfl
@[simp] theorem State.withPair_hlt (s : State) (f : PairState → PairState) : (s.withPair f).hlt = s.hlt := rfl

/-! ### State.withUpd -/

@[simp] theorem State.withUpd_regs (s : State) (f : UpdState → UpdState) : (s.withUpd f).regs = s.regs := rfl
@[simp] theorem State.withUpd_shadow (s : State) (f : UpdState → UpdState) : (s.withUpd f).shadow = s.shadow := rfl
@[simp] theorem State.withUpd_clk (s : State) (f : UpdState → UpdState) : (s.withUpd f).clk = s.clk := rfl
@[simp] theorem State.withUpd_free (s : State) (f : UpdState → UpdState) : (s.withUpd f).free = s.free := rfl
@[simp] theorem State.withUpd_sent (s : State) (f : UpdState → UpdState) : (s.withUpd f).sent = s.sent := rfl
@[simp] theorem State.withUpd_pending (s : State) (f : UpdState → UpdState) : (s.withUpd f).pending = s.pending := rfl
@[simp] theorem State.withUpd_sys (s : State) (f : UpdState → UpdState) : (s.withUpd f).sys = s.sys := rfl
@[simp] theorem State.withUpd_pwr (s : State) (f : UpdState → UpdState) : (s.withUpd f).pwr = s.pwr := rfl
@[simp] theorem State.withUpd_emb (s : State) (f : UpdState → UpdState) : (s.withUpd f).emb = s.emb := rfl
@[simp] theorem State.withUpd_cfg (s : State) (f : UpdState → UpdState) : (s.withUpd f).cfg = s.cfg := rfl
@[simp] theorem State.withUpd_key (s : State) (f : UpdState → UpdState) : (s.withUpd f).key = s.key := rfl
@[simp] theorem State.withUpd_log (s : State) (f : UpdState → UpdState) : (s.withUpd f).log = s.log := rfl
@[simp] theorem State.withUpd_ntu (s : State) (f : UpdState → UpdState) : (s.withUpd f).ntu = s.ntu := rfl
@[simp] theorem State.withUpd_epc (s : State) (f : UpdState → UpdState) : (s.withUpd f).epc = s.epc := rfl
@[simp] theorem State.withUpd_rar (s : State) (f : UpdState → UpdState) : (s.withUpd f).rar = s.rar := rfl
@[simp] theorem State.withUpd_nvm (s : State) (f : UpdState → UpdState) : (s.withUpd f).nvm = s.nvm := rfl
@[simp] theorem State.withUpd_sch (s : State) (f : UpdState → UpdState) : (s.withUpd f).sch = s.sch := rfl
@[simp] theorem State.withUpd_latch (s : State) (f : UpdState → UpdState) : (s.withUpd f).latch = s.latch := rfl
@[simp] theorem State.withUpd_drv (s : State) (f : UpdState → UpdState) : (s.withUpd f).drv = s.drv := rfl
@[simp] theorem State.withUpd_lfe (s : State) (f : UpdState → UpdState) : (s.withUpd f).lfe = s.lfe := rfl
@[simp] theorem State.withUpd_trn (s : State) (f : UpdState → UpdState) : (s.withUpd f).trn = s.trn := rfl
@[simp] theorem State.withUpd_lbus (s : State) (f : UpdState → UpdState) : (s.withUpd f).lbus = s.lbus := rfl
@[simp] theorem State.withUpd_swc (s : State) (f : UpdState → UpdState) : (s.withUpd f).swc = s.swc := rfl
@[simp] theorem State.withUpd_hmq (s : State) (f : UpdState → UpdState) : (s.withUpd f).hmq = s.hmq := rfl
@[simp] theorem State.withUpd_rad (s : State) (f : UpdState → UpdState) : (s.withUpd f).rad = s.rad := rfl
@[simp] theorem State.withUpd_mz (s : State) (f : UpdState → UpdState) : (s.withUpd f).mz = s.mz := rfl
@[simp] theorem State.withUpd_bb (s : State) (f : UpdState → UpdState) : (s.withUpd f).bb = s.bb := rfl
@[simp] theorem State.withUpd_hb (s : State) (f : UpdState → UpdState) : (s.withUpd f).hb = s.hb := rfl
@[simp] theorem State.withUpd_usb (s : State) (f : UpdState → UpdState) : (s.withUpd f).usb = s.usb := rfl
@[simp] theorem State.withUpd_mtr (s : State) (f : UpdState → UpdState) : (s.withUpd f).mtr = s.mtr := rfl
@[simp] theorem State.withUpd_upd (s : State) (f : UpdState → UpdState) : (s.withUpd f).upd = f s.upd := rfl
@[simp] theorem State.withUpd_pair (s : State) (f : UpdState → UpdState) : (s.withUpd f).pair = s.pair := rfl
@[simp] theorem State.withUpd_hlt (s : State) (f : UpdState → UpdState) : (s.withUpd f).hlt = s.hlt := rfl

end Sys2Proof.Machine
end

