-- ==== Sys2Proof/Laws/Store.lean ====
section
/-! SUPPORT. The register store as a list: what its primitive updates list, and that they keep its canonical form. -/

namespace Sys2Proof.Machine

theorem regFind_regIns_other (l : List (Nat × Word)) (a b : Nat) (w : Word) (h : b ≠ a) :
    regFind (regIns l a w) b = regFind l b := by
  induction l with
  | nil => simp [regIns, regFind, Ne.symm h]
  | cons x t ih =>
    obtain ⟨k, v⟩ := x
    simp only [regIns]
    split
    · simp [regFind, Ne.symm h]
    · split
      · next hk => subst hk; simp [regFind, Ne.symm h]
      · simp [regFind, ih]

theorem regFind_regDel_other (l : List (Nat × Word)) (a b : Nat) (h : b ≠ a) : regFind (regDel l a) b = regFind l b := by
  induction l with
  | nil => rfl
  | cons x t ih =>
    obtain ⟨k, v⟩ := x
    simp only [regDel]
    split
    · next hk => subst hk; simp [regFind, Ne.symm h]
    · simp [regFind, ih]

theorem regFind_none_of_lt (l : List (Nat × Word)) (a : Nat) (h : ∀ x ∈ l, a < x.1) : regFind l a = none := by
  induction l with
  | nil => rfl
  | cons x t ih =>
    obtain ⟨k, v⟩ := x
    have hk : a < k := h (k, v) (by simp)
    simp only [regFind]
    rw [if_neg (by omega)]
    exact ih fun y hy => h y (by simp [hy])

theorem regFind_regIns_same (l : List (Nat × Word)) (a : Nat) (w : Word) : regFind (regIns l a w) a = some w := by
  induction l with
  | nil => simp [regIns, regFind]
  | cons x t ih =>
    obtain ⟨k, v⟩ := x
    simp only [regIns]
    split
    · simp [regFind]
    · split
      · simp [regFind]
      · next hk => simp [regFind, hk, ih]

theorem regFind_regDel_same (l : List (Nat × Word)) (a : Nat) (h : l.Pairwise (fun x y => x.1 < y.1)) :
    regFind (regDel l a) a = none := by
  induction l with
  | nil => rfl
  | cons x t ih =>
    obtain ⟨k, v⟩ := x
    rw [List.pairwise_cons] at h
    simp only [regDel]
    split
    · next hk => subst hk; exact regFind_none_of_lt t _ fun y hy => h.1 y hy
    · next hk => simp only [regFind, if_neg hk]; exact ih h.2

theorem mem_regIns (l : List (Nat × Word)) (a : Nat) (w : Word) (x : Nat × Word) (h : x ∈ regIns l a w) : x = (a, w) ∨ x ∈ l := by
  induction l with
  | nil => simpa [regIns] using h
  | cons y t ih =>
    obtain ⟨k, v⟩ := y
    simp only [regIns] at h
    split at h
    · simpa using h
    · split at h
      · rcases List.mem_cons.mp h with h | h
        · exact .inl h
        · exact .inr (by simp [h])
      · rcases List.mem_cons.mp h with h | h
        · exact .inr (by simp [h])
        · rcases ih h with h | h
          · exact .inl h
          · exact .inr (by simp [h])

theorem mem_regDel (l : List (Nat × Word)) (a : Nat) (x : Nat × Word) (h : x ∈ regDel l a) : x ∈ l := by
  induction l with
  | nil => exact h
  | cons y t ih =>
    obtain ⟨k, v⟩ := y
    simp only [regDel] at h
    split at h
    · simp [h]
    · rcases List.mem_cons.mp h with h | h
      · simp [h]
      · simp [ih h]

theorem regIns_sorted (l : List (Nat × Word)) (a : Nat) (w : Word) (h : l.Pairwise (fun x y => x.1 < y.1)) :
    (regIns l a w).Pairwise (fun x y => x.1 < y.1) := by
  induction l with
  | nil => simp [regIns]
  | cons y t ih =>
    obtain ⟨k, v⟩ := y
    rw [List.pairwise_cons] at h
    simp only [regIns]
    split
    · next hk =>
      refine List.pairwise_cons.mpr ⟨fun x hx => ?_, List.pairwise_cons.mpr h⟩
      rcases List.mem_cons.mp hx with rfl | hx
      · exact hk
      · exact Nat.lt_trans hk (h.1 x hx)
    · split
      · next hk => subst hk; exact List.pairwise_cons.mpr h
      · next h1 h2 =>
        refine List.pairwise_cons.mpr ⟨fun x hx => ?_, ih h.2⟩
        rcases mem_regIns t a w x hx with rfl | hx
        · show k < a; omega
        · exact h.1 x hx

theorem regDel_sorted (l : List (Nat × Word)) (a : Nat) (h : l.Pairwise (fun x y => x.1 < y.1)) :
    (regDel l a).Pairwise (fun x y => x.1 < y.1) := by
  induction l with
  | nil => exact h
  | cons y t ih =>
    obtain ⟨k, v⟩ := y
    rw [List.pairwise_cons] at h
    simp only [regDel]
    split
    · exact h.2
    · exact List.pairwise_cons.mpr ⟨fun x hx => h.1 x (mem_regDel t a x hx), ih h.2⟩

/-- Listing a word that is not its reset value keeps the canonical form. -/
theorem regIns_wf (l : List (Nat × Word)) (a : Nat) (w : Word) (h : regsWf l) (hw : w ≠ resetWord a) : regsWf (regIns l a w) := by
  refine ⟨regIns_sorted l a w h.1, fun x hx => ?_⟩
  rcases mem_regIns l a w x hx with rfl | hx
  · exact hw
  · exact h.2 x hx

/-- Unlisting a word keeps the canonical form. -/
theorem regDel_wf (l : List (Nat × Word)) (a : Nat) (h : regsWf l) : regsWf (regDel l a) :=
  ⟨regDel_sorted l a h.1, fun x hx => h.2 x (mem_regDel l a x hx)⟩

/-- What one word added to a canonical store leaves: a canonical store. -/
theorem canonAdd_wf (x : Nat × Word) (l : List (Nat × Word)) (h : regsWf l) : regsWf (canonAdd x l) := by
  unfold canonAdd
  dsimp only
  split
  · exact regDel_wf l _ h
  · next hw => exact regIns_wf l _ _ h hw

/-- What one word added to a store lists at another offset: what the store did. -/
theorem regFind_canonAdd_other (x : Nat × Word) (l : List (Nat × Word)) (b : Nat) (h : b ≠ x.1) :
    regFind (canonAdd x l) b = regFind l b := by
  unfold canonAdd
  dsimp only
  split
  · exact regFind_regDel_other l _ b h
  · exact regFind_regIns_other l _ b _ h

end Sys2Proof.Machine
end

