-- ==== Sys2Proof/Laws/Settle.lean ====
section
/-! SUPPORT. What settles a command: the frame of each operation that follows one, and the canonical store. -/

namespace Sys2Proof.Machine

/-- A word that nothing which follows a command writes: outside LOG, KEY, BBN and MZL. -/
def unfollowed (a : Nat) : Prop := a < 0x50000 ∨ 0x70000 ≤ a ∧ a < 0x600000 ∨ 0x680000 ≤ a

/-- What the event frames, their key use and the interrupt frames after a command leave as it was. -/
structure Follows (u t : State) : Prop where
  shadow : t.shadow = u.shadow
  clk : t.clk = u.clk
  free : t.free = u.free
  unplanned : t.sys.lastUnplanned = u.sys.lastUnplanned
  pwr : t.pwr = u.pwr
  emb : t.emb = u.emb
  cfg : t.cfg = u.cfg
  key : t.key = { u.key with slots := t.key.slots }
  ntu : t.ntu = u.ntu
  epc : t.epc = u.epc
  rar : t.rar = u.rar
  nvm : t.nvm = u.nvm
  sch : t.sch = u.sch
  latch : t.latch = u.latch
  drv : t.drv = u.drv
  lfe : t.lfe = u.lfe
  trn : t.trn = u.trn
  lbus : t.lbus = u.lbus
  swc : t.swc = u.swc
  hmq : t.hmq = u.hmq
  rad : t.rad = u.rad
  hb : t.hb = u.hb
  usb : t.usb = u.usb
  mtr : t.mtr = u.mtr
  upd : t.upd = u.upd
  pair : t.pair = u.pair
  hlt : t.hlt = u.hlt
  words : ∀ a, unfollowed a → regFind t.regs a = regFind u.regs a

theorem Follows.refl (u : State) : Follows u u := by constructor <;> intros <;> rfl

theorem Follows.trans {u v t : State} (h : Follows u v) (k : Follows v t) : Follows u t := by
  constructor
  case words => intro a ha; rw [k.words a ha, h.words a ha]
  all_goals first | exact k.shadow.trans h.shadow | exact k.unplanned.trans h.unplanned | (have e := k.key; rw [h.key] at e; exact e) | exact k.clk.trans h.clk | exact k.free.trans h.free | exact k.pwr.trans h.pwr | exact k.emb.trans h.emb | exact k.cfg.trans h.cfg | exact k.ntu.trans h.ntu | exact k.epc.trans h.epc | exact k.rar.trans h.rar | exact k.nvm.trans h.nvm | exact k.sch.trans h.sch | exact k.latch.trans h.latch | exact k.drv.trans h.drv | exact k.lfe.trans h.lfe | exact k.trn.trans h.trn | exact k.lbus.trans h.lbus | exact k.swc.trans h.swc | exact k.hmq.trans h.hmq | exact k.rad.trans h.rad | exact k.hb.trans h.hb | exact k.usb.trans h.usb | exact k.mtr.trans h.mtr | exact k.upd.trans h.upd | exact k.pair.trans h.pair | exact k.hlt.trans h.hlt

theorem regFind_setWord (s : State) (a b : Nat) (w : Word) (h : b ≠ a) : regFind (s.setWord a w).regs b = regFind s.regs b := by
  unfold State.setWord
  dsimp only
  split
  · exact regFind_regDel_other _ _ _ h
  · exact regFind_regIns_other _ _ _ _ h

theorem follows_put (s : State) (f : Fld) (v : Nat) (h : ¬ unfollowed f.adr) : Follows s (s.put f v) := by
  constructor
  case words =>
    intro a ha
    exact regFind_setWord s _ a _ (fun e => h (e ▸ ha))
  all_goals rfl

theorem follows_bump (s : State) (f : Fld) (h : ¬ unfollowed f.adr) : Follows s (s.bump f) := follows_put s f _ h

theorem follows_emit (s : State) (o : OutPort) (b : List Byte) : Follows s (s.emit o b) := by constructor <;> intros <;> rfl

theorem follows_withMz (s : State) (f : MzState → MzState) : Follows s (s.withMz f) := by constructor <;> intros <;> rfl

theorem follows_withBb (s : State) (f : BbState → BbState) : Follows s (s.withBb f) := by constructor <;> intros <;> rfl

theorem follows_stageRec (s : State) (r : LogRec) : Follows s (s.stageRec r) := by
  unfold State.stageRec
  dsimp only
  split
  · constructor <;> intros <;> rfl
  · have := follows_bump s LOG_CNT.LOST (by unfold unfollowed LOG_CNT.LOST LOG_CNT.adr; dsimp only; omega)
    split
    · refine this.trans ?_
      constructor <;> intros <;> rfl
    · exact this

theorem follows_wins (s : State) (w : List RateWin) : Follows s { s with log := { s.log with wins := w } } := by constructor <;> intros <;> rfl

theorem follows_logEv (s : State) (b e : Nat) (p : List Byte) : Follows s (s.logEv b e p) := by
  unfold State.logEv
  dsimp only
  split
  · exact .refl s
  · split
    · exact follows_stageRec s _
    · split
      · exact (follows_wins s _).trans (follows_stageRec _ _)
      · split
        · exact (follows_wins s _).trans (follows_stageRec _ _)
        · exact follows_wins s _

theorem follows_useSlot (s : State) (n p : Nat) (t : Nat → Bool) (c : Nat) : Follows s (s.useSlot n p t c).1 := by
  unfold State.useSlot
  split
  · dsimp only
    unfold State.misuse
    exact ((follows_bump s _ (by unfold unfollowed KEY_CNT.MISUSE KEY_CNT.adr; dsimp only; omega)).trans (follows_put _ KEY_IRQ_STAT.MISUSE 1 (by unfold unfollowed KEY_IRQ_STAT.MISUSE KEY_IRQ_STAT.adr; dsimp only; omega))).trans (follows_logEv _ _ _ _)
  · constructor <;> intros <;> rfl

theorem follows_setLink (s : State) (l : Nat) (x : MzLink) : Follows s (s.setLink l x) := by constructor <;> intros <;> rfl

theorem follows_mzPut (s : State) (l : Nat) (f : MzFrame) (hl : l < 2) : Follows s (s.mzPut l f) := by
  unfold State.mzPut
  exact (follows_emit s _ _).trans (follows_bump _ _ (by unfold unfollowed MZL_LINK_TX.FRAMES MZL_LINK_TX.adr; dsimp only; omega))

theorem follows_returnCredit (s : State) (l k n : Nat) (hl : l < 2) : Follows s (s.returnCredit l k n) := by
  unfold State.returnCredit
  split
  · exact .refl s
  · exact follows_mzPut s l _ hl

theorem follows_mzLaunch (s : State) (l : Nat) (o : MzOut) (hl : l < 2) : Follows s (s.mzLaunch l o) := by
  have h : ∀ x, Follows s ((s.setLink l x).mzPut l o.frame) := fun x => (follows_setLink s l x).trans (follows_mzPut _ l o.frame hl)
  have h2 : ∀ t : State, Follows t ((t.bump (MZL_LINK_TRANSIT.FRAMES l)).returnCredit (1 - l) o.frame.kind o.frame.payload.length) := fun t =>
    (follows_bump t _ (by unfold unfollowed MZL_LINK_TRANSIT.FRAMES MZL_LINK_TRANSIT.adr; dsimp only; omega)).trans (follows_returnCredit _ _ _ _ (by omega))
  unfold State.mzLaunch
  dsimp only
  by_cases hk : o.transit = true
  · rw [if_pos hk]
    exact (h _).trans (h2 _)
  · rw [if_neg hk]
    exact h _

theorem follows_mzPump (n : Nat) (s : State) (l : Nat) (hl : l < 2) : Follows s (s.mzPump l n) := by
  induction n generalizing s with
  | zero => exact .refl s
  | succ n ih =>
    unfold State.mzPump
    split
    · exact .refl s
    · split
      · exact follows_setLink s l _
      · exact (follows_mzLaunch s l _ hl).trans (ih _)

theorem follows_mzOffer (s : State) (l : Nat) (f : MzFrame) (b : Bool) (hl : l < 2) : Follows s (s.mzOffer l f b) := by
  unfold State.mzOffer
  split
  · split
    · exact follows_returnCredit s _ _ _ (by omega)
    · exact .refl s
  · split
    · split
      · refine (follows_mzPut s l f hl).trans (follows_bump _ _ ?_)
        unfold unfollowed MZL_LINK_TRANSIT.FRAMES MZL_LINK_TRANSIT.adr; dsimp only; omega
      · exact follows_mzPut s l f hl
    · exact (follows_setLink s l _).trans (follows_mzPump _ _ l hl)

theorem follows_rafRoute (s : State) (t : Nat) (b : List Byte) : Follows s (s.rafRoute t b) := by
  have one : ∀ (s : State) (p : Nat), p < 2 → Follows s (if s.bbUp p then (s.emit (.raf t p) b).bump (BBN_PORT_TX.FRAMES p) else s) := by
    intro s p hp
    split
    · refine (follows_emit s _ _).trans (follows_bump _ _ ?_)
      unfold unfollowed BBN_PORT_TX.FRAMES BBN_PORT_TX.adr; dsimp only; omega
    · exact .refl s
  unfold State.rafRoute
  split
  · exact (one s 0 (by decide)).trans (one _ 1 (by decide))
  · exact follows_mzOffer s 0 _ _ (by decide)

theorem follows_rafMake (s : State) (t : Nat) (b : List Byte) : Follows s (s.rafMake t b).1 := by
  have h := follows_useSlot s (s.fld BBN_RAF_CFG.KEY_SLOT) useRaf (· == 3) 1
  unfold State.rafMake State.rafKey
  split
  · next e => rw [e] at h; exact h
  · next e => rw [e] at h; dsimp only at h ⊢; exact h.trans (follows_withBb _ _)

theorem follows_rafSend (s : State) (t : Nat) (b : List Byte) : Follows s (s.rafSend t b) := by
  have h := follows_rafMake s t b
  unfold State.rafSend
  split
  · exact .refl s
  · split
    · next e => rw [e] at h; exact h.trans (follows_rafRoute _ _ _)
    · next e => rw [e] at h; exact h

theorem follows_sendEvent (s : State) (b : Nat) : Follows s (s.sendEvent b) := by
  unfold State.sendEvent
  dsimp only
  split
  · constructor <;> intros <;> rfl
  · refine (follows_rafSend s rafEvent (s.eventBody b)).trans ?_
    constructor <;> intros <;> rfl

theorem follows_eventRise (s : State) (b : Nat) : Follows s (s.eventRise b) := by
  unfold State.eventRise
  split
  · exact .refl s
  · split
    · constructor <;> intros <;> rfl
    · exact follows_sendEvent s b

theorem irqFollow_follows (o s : State) : Follows s (irqFollow o s) := by
  have key : ∀ (l : List Nat) (s : State), Follows s (l.foldl (fun (s : State) b => if s.summary b && !o.summary b then s.eventRise b else s) s) := by
    intro l
    induction l with
    | nil => exact fun s => .refl s
    | cons b t ih =>
      intro s
      rw [List.foldl_cons]
      refine Follows.trans ?_ (ih _)
      split
      · exact follows_eventRise s b
      · exact .refl s
  unfold irqFollow
  dsimp only
  split
  · refine Follows.trans (key (List.range 24) s) ?_
    unfold State.sendIrq
    exact (follows_withMz _ _).trans (follows_mzOffer _ 0 _ _ (by decide))
  · exact key _ s

/-- The canonical form of a store: it is canonical, lists every word with its named bits, and lists nothing else. -/
theorem canonRegs_listed (l : List (Nat × Word)) : regsWf (canonRegs l) ∧
    (∀ a w, regFind l a = some w → (regFind (canonRegs l) a).getD (resetWord a) = w &&& BitVec.ofNat 32 (namedBits a)) ∧
    ∀ a, regFind l a = none → regFind (canonRegs l) a = none := by
  induction l with
  | nil => exact ⟨⟨List.Pairwise.nil, by simp [canonRegs]⟩, by simp [regFind], fun _ _ => rfl⟩
  | cons x t ih =>
    obtain ⟨h1, h2, h3⟩ := ih
    have hw : regsWf (canonRegs (x :: t)) := canonAdd_wf x _ h1
    refine ⟨hw, fun a w h => ?_, fun a h => ?_⟩
    · obtain ⟨k, v⟩ := x
      simp only [regFind] at h
      split at h
      · next hk =>
        subst hk
        cases h
        show (regFind (canonAdd (k, w) (canonRegs t)) k).getD _ = _
        unfold canonAdd
        dsimp only
        split
        · next e => rw [regFind_regDel_same _ _ h1.1]; exact e.symm
        · rw [regFind_regIns_same]; rfl
      · next hk =>
        show (regFind (canonAdd (k, v) (canonRegs t)) a).getD _ = _
        rw [regFind_canonAdd_other _ _ _ (Ne.symm hk)]
        exact h2 a w h
    · obtain ⟨k, v⟩ := x
      simp only [regFind] at h
      split at h
      · cases h
      · next hk =>
        show regFind (canonAdd (k, v) (canonRegs t)) a = none
        rw [regFind_canonAdd_other _ _ _ (Ne.symm hk)]
        exact h3 a h

end Sys2Proof.Machine
end

