-- ==== Sys2Proof/Laws/Commands.lean ====
section
/-! SUPPORT. What the shared operations of commands do, where a command is carried out. -/

namespace Sys2Proof.Machine

/-- A command that its block carries out: CODE taken, its effect, and how it ended. -/
theorem runCmd_ready (b : Blk) (code : Nat) (f : State → Nat × State) (s : State) (hr : b.cmdRegs.isSome = true) (h : s.ready b) :
    runCmd b code f s = ((f (s.taken b code)).2).ended b code (f (s.taken b code)).1 := by
  obtain ⟨r, hr⟩ := Option.isSome_iff_exists.mp hr
  simp [State.ready, State.cmdStatus, hr] at h
  simp [runCmd, hr, State.taken, State.ended, h]

/-- A field write does not change when the last unplanned start was. -/
theorem put_escalates (s : State) (f : Fld) (v : Nat) : (s.put f v).escalates = s.escalates := rfl

/-- A read that reaches its word answers with the value it reads. -/
theorem read_ok (s : State) (c : Access) (v : Nat) (h : s.reaches c = true) (ha : c.aligned = true) (hw : c.wr = false) :
    s.perform c v = (s.readAt c).2.reply c (s.readAt c).1 := by
  simp [State.perform, State.access, h, ha, hw]

/-! ### CODE taken: what it leaves alone -/

@[simp] theorem taken_shadow (s : State) (b : Blk) (c : Nat) : (s.taken b c).shadow = s.shadow := by cases b <;> rfl
@[simp] theorem taken_clk (s : State) (b : Blk) (c : Nat) : (s.taken b c).clk = s.clk := by cases b <;> rfl
@[simp] theorem taken_free (s : State) (b : Blk) (c : Nat) : (s.taken b c).free = s.free := by cases b <;> rfl
@[simp] theorem taken_sent (s : State) (b : Blk) (c : Nat) : (s.taken b c).sent = s.sent := by cases b <;> rfl
@[simp] theorem taken_pending (s : State) (b : Blk) (c : Nat) : (s.taken b c).pending = s.pending := by cases b <;> rfl
@[simp] theorem taken_sys (s : State) (b : Blk) (c : Nat) : (s.taken b c).sys = s.sys := by cases b <;> rfl
@[simp] theorem taken_pwr (s : State) (b : Blk) (c : Nat) : (s.taken b c).pwr = s.pwr := by cases b <;> rfl
@[simp] theorem taken_emb (s : State) (b : Blk) (c : Nat) : (s.taken b c).emb = s.emb := by cases b <;> rfl
@[simp] theorem taken_cfg (s : State) (b : Blk) (c : Nat) : (s.taken b c).cfg = s.cfg := by cases b <;> rfl
@[simp] theorem taken_key (s : State) (b : Blk) (c : Nat) : (s.taken b c).key = s.key := by cases b <;> rfl
@[simp] theorem taken_log (s : State) (b : Blk) (c : Nat) : (s.taken b c).log = s.log := by cases b <;> rfl
@[simp] theorem taken_ntu (s : State) (b : Blk) (c : Nat) : (s.taken b c).ntu = s.ntu := by cases b <;> rfl
@[simp] theorem taken_epc (s : State) (b : Blk) (c : Nat) : (s.taken b c).epc = s.epc := by cases b <;> rfl
@[simp] theorem taken_rar (s : State) (b : Blk) (c : Nat) : (s.taken b c).rar = s.rar := by cases b <;> rfl
@[simp] theorem taken_nvm (s : State) (b : Blk) (c : Nat) : (s.taken b c).nvm = s.nvm := by cases b <;> rfl
@[simp] theorem taken_sch (s : State) (b : Blk) (c : Nat) : (s.taken b c).sch = s.sch := by cases b <;> rfl
@[simp] theorem taken_latch (s : State) (b : Blk) (c : Nat) : (s.taken b c).latch = s.latch := by cases b <;> rfl
@[simp] theorem taken_drv (s : State) (b : Blk) (c : Nat) : (s.taken b c).drv = s.drv := by cases b <;> rfl
@[simp] theorem taken_lfe (s : State) (b : Blk) (c : Nat) : (s.taken b c).lfe = s.lfe := by cases b <;> rfl
@[simp] theorem taken_trn (s : State) (b : Blk) (c : Nat) : (s.taken b c).trn = s.trn := by cases b <;> rfl
@[simp] theorem taken_lbus (s : State) (b : Blk) (c : Nat) : (s.taken b c).lbus = s.lbus := by cases b <;> rfl
@[simp] theorem taken_swc (s : State) (b : Blk) (c : Nat) : (s.taken b c).swc = s.swc := by cases b <;> rfl
@[simp] theorem taken_hmq (s : State) (b : Blk) (c : Nat) : (s.taken b c).hmq = s.hmq := by cases b <;> rfl
@[simp] theorem taken_rad (s : State) (b : Blk) (c : Nat) : (s.taken b c).rad = s.rad := by cases b <;> rfl
@[simp] theorem taken_mz (s : State) (b : Blk) (c : Nat) : (s.taken b c).mz = s.mz := by cases b <;> rfl
@[simp] theorem taken_bb (s : State) (b : Blk) (c : Nat) : (s.taken b c).bb = s.bb := by cases b <;> rfl
@[simp] theorem taken_hb (s : State) (b : Blk) (c : Nat) : (s.taken b c).hb = s.hb := by cases b <;> rfl
@[simp] theorem taken_usb (s : State) (b : Blk) (c : Nat) : (s.taken b c).usb = s.usb := by cases b <;> rfl
@[simp] theorem taken_mtr (s : State) (b : Blk) (c : Nat) : (s.taken b c).mtr = s.mtr := by cases b <;> rfl
@[simp] theorem taken_upd (s : State) (b : Blk) (c : Nat) : (s.taken b c).upd = s.upd := by cases b <;> rfl
@[simp] theorem taken_pair (s : State) (b : Blk) (c : Nat) : (s.taken b c).pair = s.pair := by cases b <;> rfl
@[simp] theorem taken_hlt (s : State) (b : Blk) (c : Nat) : (s.taken b c).hlt = s.hlt := by cases b <;> rfl
@[simp] theorem taken_up (s : State) (b d : Blk) (c : Nat) : (s.taken b c).up d = s.up d := by cases b <;> rfl
@[simp] theorem taken_running (s : State) (b : Blk) (c : Nat) : (s.taken b c).running = s.running := by cases b <;> rfl

theorem bump_raise_clk (s : State) (f g : Fld) : ((s.bump f).raise g).clk = s.clk := rfl

theorem parity_clk (s : State) (q : Nat) (bad : Bool) : (s.parity q bad).clk = s.clk := by
  unfold State.parity
  cases bad
  · rw [if_neg (by decide)]
  · rw [if_pos rfl, bump_raise_clk]

/-- A key command that its source may run: its effect, and its status. -/
theorem keyWrite_runs (src : Src) (n : Nat) (s v : State) (p : Nat × State) (h0 : s.up .key = true) (h1 : (s.bank src.code).status ≠ stPending)
    (h2 : s.key.intent = none) (h3 : v = s.setBank { s.bank src.code with code := n }) (h4 : keyBody src n v = p) :
    keyWrite src n s = p.2.keyStatus src.code n p.1 := by
  subst h3 h4
  unfold keyWrite keyCmd
  rw [if_neg (by simp [h0, h1])]
  dsimp only
  rw [if_neg (by rw [show (s.setBank { s.bank src.code with code := n }).key.intent = s.key.intent from rfl, h2]; decide)]

/-- A lease frame in rule: it is taken, the partner is heard, and it has its use. -/
theorem leaseRecv_taken (l sub : Nat) (x : MzRx) (use : State → State) (s v w : State) (h0 : s.mzUp l = true) (h1 : x.hdrOk = true)
    (h2 : x.crcOk = true) (h3 : v = s.bump (MZL_LINK_RX.FRAMES l)) (h4 : v.mzRoute l x = none) (h5 : w = v.mzTaken l mzTime x)
    (h6 : w.leaseOk l sub x = true) : leaseRecv l sub x use s = use (w.peerHeard x.payload) := by
  subst h5 h3
  unfold leaseRecv mzRecv
  rw [if_neg (by simp [h0]), if_neg (by simp [h1])]
  dsimp only
  rw [if_neg (by simp [h2]), h4]
  exact if_pos h6

/-- What holds after a lease frame has told of the partner, whether its digest agrees or not. -/
theorem heard (p : State → Prop) (s : State) (b : List Byte)
    (h1 : p ((((((s.put PAIR_PEER_SERIAL_LO.SERIAL (leAt b 4 4)).put PAIR_PEER_SERIAL_HI.SERIAL (leAt b 8 4)).put
      PAIR_STAT.PEER_COND (leAt b 12 2)).withPair fun p =>
      { p with peerFlags := leAt b 14 1, peerCond := leAt b 12 2, peerActSec := leAt b 20 4 })).put PAIR_STAT.CFG_MISMATCH 0))
    (h2 : p ((fun t : State => if t.bit PAIR_STAT.CFG_MISMATCH then t
      else ((t.put PAIR_STAT.CFG_MISMATCH 1).raise PAIR_IRQ_STAT.CFG_MISMATCH).logEv 9 1 ((b.drop 24).take 8))
      (((s.put PAIR_PEER_SERIAL_LO.SERIAL (leAt b 4 4)).put PAIR_PEER_SERIAL_HI.SERIAL (leAt b 8 4)).put
      PAIR_STAT.PEER_COND (leAt b 12 2) |>.withPair fun p =>
      { p with peerFlags := leAt b 14 1, peerCond := leAt b 12 2, peerActSec := leAt b 20 4 }))) : p (s.peerHeard b) := by
  unfold State.peerHeard
  dsimp only
  split
  · exact h1
  · exact h2

theorem stage_sys (s : State) (r : LogRec) : (s.stageRec r).sys = s.sys := by
  unfold State.stageRec
  dsimp only
  split
  · rfl
  · split <;> rfl

/-- Logging an event changes nothing of SYS. -/
theorem logEv_sys (s : State) (b e : Nat) (p : List Byte) : (s.logEv b e p).sys = s.sys := by
  unfold State.logEv
  dsimp only
  split
  · rfl
  · split
    · exact stage_sys _ _
    · split
      · exact stage_sys _ _
      · split
        · exact stage_sys _ _
        · rfl

end Sys2Proof.Machine
end

