-- ==== Sys2Proof/Machine/Pads.lean ====
section
/-! DEFINITION. The pads of the module as the state gives them: the output states of Table 3.3 and the isolation clamps of
Table 3.4 (R74, R76). The analogue outputs are `LbusState.aoPads`. -/

namespace Sys2Proof.Machine

/-- What an output pad shows: no supply, high impedance, a fixed level, or whatever its enabled block drives. -/
inductive Pad where
  | unpowered
  | highZ
  | low
  | high
  | commanded
deriving DecidableEq, Repr

/-- A pad of VIO: unpowered in EMBER, clamped to `rest` until its block drives it. -/
def State.vioPad (s : State) (rest : Pad) (driven : Bool) : Pad :=
  if s.pwr.mode = .ember then .unpowered else if driven then .commanded else rest

/-- DRVn: low but for a channel that is running. -/
def State.drvPad (s : State) (n : Nat) : Pad := if s.up .drv && s.gating n then .commanded else .low

/-- An FIO output: inactive (`low`) until its block drives it. -/
def State.fioPad (s : State) (i : Nat) : Pad :=
  s.vioPad .low (s.domUp .drive && (s.fioMode i == 3 || s.fioMode i == 4 || s.fioMode i == 5))

/-- An FIO or TS input is sampled: FIO0 to FIO7 also while DRIVE is clamped, by their wake comparators. -/
def State.fioRead (s : State) (i : Nat) : Bool := s.up .drv || (s.pwr.mode == .banked && i < 8)

/-- DLn TX: released, logic 1, until its port is enabled. -/
def State.dlPad (s : State) (p : Nat) : Pad := s.vioPad .high (s.up .lbus && s.bit (LBUS_DL_CFG.EN p))

/-- The driver of SBn is enabled. -/
def State.sbDriver (s : State) (p : Nat) : Bool := s.up .lbus && s.bit (LBUS_SB_CFG.EN p)

/-- SBn TX: high until its port is enabled. -/
def State.sbPad (s : State) (p : Nat) : Pad := s.vioPad .high (s.sbDriver p)

/-- The power amplifier of a channel is enabled: only while it sends. -/
def State.paOn (s : State) (ch : Nat) : Bool := s.radOn ch && (s.chan ch).tx.isSome

/-- RCn receives: enabled, and in BANKED RC0 alone where it listens. -/
def State.rcHears (s : State) (ch : Nat) : Bool := s.listens ch || (ch == 0 && s.rc0On)

/-- The transmitters of a BB port and of a Mistazil link leave electrical idle once their block is enabled. -/
def State.bbDrives (s : State) : Bool := s.up .bbn && s.bit BBN_CTL.EN
def State.mzDrives (s : State) : Bool := s.up .mzl && s.bit MZL_CFG.EN

/-- The receive signal detect of the Mistazil links stays powered by VAUX. -/
def State.mzDetects (s : State) : Bool := s.pwr.vaux

/-- The configuration flash is not being read: CS_N high and SCLK low. Every read is one transaction of a start (R37). -/
def State.cfgfPads (_ : State) : Pad × Pad := (.high, .low)

/-- HOST_IRQ_N: high-impedance in EMBER and where nothing asserts it, low where something does (R29). -/
def State.hostIrqPad (s : State) : Pad :=
  if s.pwr.mode = .ember then .highZ else if s.hostIrq then .low else .highZ

/-- PAIR_OWN: held low by the owner, released otherwise (R446). -/
def State.pairOwnPad (s : State) : Pad := if s.pwr.mode != .ember && s.bit PAIR_STAT.OWN then .low else .highZ

/-- VCORE_EN: driven high while the core rail is asked for. -/
def State.vcoreEn (s : State) : Bool := s.coreOn

/-- Write strobes into EMBER pass from ALWAYS-ON. -/
def State.emberStrobes (s : State) : Bool := s.domUp .alwaysOn

/-- PWR_ON: the level of EMB_PWRON_CTL in every mode. -/
def State.pwrOnPad (s : State) : Pad := if s.bit EMB_PWRON_CTL.LEVEL then .high else .low

/-- AOn. -/
def State.aoPad (s : State) (a : Nat) : AoPad := (s.lbus.aoPads[a]?).getD .unpowered

end Sys2Proof.Machine
end

