-- ==== Sys2Proof/WellFormed.lean ====
section
/-! DEFINITION. What a command's operands can be on the hardware, beyond what their types say. The effect of every command is
defined for any operands. -/

namespace Sys2Proof

open Machine

/-- A number of at most so many bits. -/
def fitsBits (v n : Nat) : Bool := decide (v < 2 ^ n)

/-- RSSI is one signed byte, LQI one byte, and the channels are 0 to 7. -/
def linkOk (l : LinkInfo) : Bool := decide (-128 ≤ l.rssi) && decide (l.rssi ≤ 127) && fitsBits l.lqi 8 && fitsBits l.ch 3

/-- The widths of Table 4.6. -/
def statusOk (m : StatusMsg) : Bool :=
  fitsBits m.level 16 && fitsBits m.cct 16 && fitsBits m.flags 16 && decide (-128 ≤ m.temp) && decide (m.temp ≤ 127) &&
    fitsBits m.supply 16

/-- The widths of Table 6.2. -/
def detOk (r : DetRec) : Bool :=
  fitsBits r.origin 12 && fitsBits r.cls 8 && fitsBits r.heading 8 && fitsBits r.speed 8 && fitsBits r.conf 8 &&
    fitsBits r.count 8 && fitsBits r.age 8

/-- A pad pair's kind and channel (Table 8.6). -/
def visitOk (v : PadProbe) : Bool := fitsBits v.kind 2 && fitsBits v.ch 6 && fitsBits v.x 16 && fitsBits v.y 16

/-- The widths of an IEEE 802.15.4 frame's fields. -/
def rxOk (r : RxFrame) : Bool :=
  fitsBits r.pan 16 && fitsBits r.dst (if r.dstExt then 64 else 16) && fitsBits r.src (if r.srcExt then 64 else 16) &&
    fitsBits r.level 3 && fitsBits r.keyIdx 8 && fitsBits r.ctr 32 && fitsBits r.lqi 8

/-- A packet has a byte, and names a class, an up queue, and a queue or a group that exist. -/
def packetOk (k : PacketIn) : Bool :=
  !k.bytes.isEmpty && fitsBits k.cls 3 && fitsBits k.hmq 5 && decide (k.queue < 4256) && k.group.all fun g => fitsBits g 10

/-- The widths of Table 13.6. -/
def mzOk (x : MzRx) : Bool := fitsBits x.dst 6 && fitsBits x.src 6 && fitsBits x.tag 8 && fitsBits x.payload.length 16

/-- A block packet comes by a down queue, or by UDP (R425). -/
def pathOk : BlockPath → Bool
  | .hmq q => fitsBits q 4
  | .udp ip port dport => fitsBits ip 32 && fitsBits port 16 && fitsBits dport 16

/-- The operands are such as the hardware can meet. -/
def Instr.wellFormed (i : Instr) : Bool :=
  match i with
  | .registerWrite _ _ sz val => fitsBits val.toNat (8 * 2 ^ sz.val)
  | .reservedSpaceAccess _ _ _ sz val => fitsBits val.toNat (8 * 2 ^ sz.val)
  | .accessError _ _ _ sz val => fitsBits val.toNat (8 * 2 ^ sz.val)
  | .joinReq _ _ _ _ nonce => nonce.length == 8
  | .cfgAck _ _ _ l => linkOk l
  | .status _ m l => statusOk m && linkOk l
  | .energy _ _ _ _ l => linkOk l
  | .fault _ _ _ _ l => linkOk l
  | .detect _ _ _ _ _ _ _ _ l => linkOk l
  | .info _ _ _ _ l => linkOk l
  | .solarPublish _ evs => evs.length == 7
  | .detectionRecord r => detOk r
  | .fastTrip n => fitsBits n.x 16
  | .stringShort n => fitsBits n.mv 16
  | .stringOpen n => fitsBits n.mv 16
  | .startShort n => fitsBits n.x 16
  | .padScan visits => visits.all visitOk
  | .scanNow visits => visits.all visitOk
  | .rxFrame _ r => rxOk r
  | .packetIngress _ _ _ k => packetOk k
  | .swcCellData _ _ sz val => val.all fun v => fitsBits v.toNat (8 * 2 ^ sz.val)
  | .tReq _ x => mzOk x
  | .tRsp _ x => mzOk x
  | .hspiWrite _ _ data => decide (data.length ≤ 8)
  | .mzlReq _ x => mzOk x
  | .mzlRsp _ x => mzOk x
  | .mzlData _ x k => mzOk x && packetOk k
  | .credit _ x => mzOk x
  | .enum _ x => mzOk x
  | .mzlIrq _ x => mzOk x
  | .usbWrite _ _ data => decide (data.length < 2 ^ 16)
  | .usbBulkOut k => packetOk k
  | .accumulationInterval sig => sig.length == 48
  | .windowEnd _ sig => sig.length == 48
  | .freezeSample sig => sig.length == 48
  | .blockPacket path _ _ => pathOk path
  | .fwMap _ _ _ _ l => linkOk l
  | .fwResult _ _ _ _ l => linkOk l
  | .renew _ x => mzOk x
  | .grant _ x => mzOk x
  | .releaseFrame _ x => mzOk x
  | .claim _ x => mzOk x
  | .mirrorFrame _ x => mzOk x
  | .tempSample readings => readings.length == 8
  | .thermalTrip readings => readings.length == 8
  | .powerUp .. => true
  | .vauxLoss => true
  | .vsysLoss => true
  | .emberReset => true
  | .sysRestartCold .. => true
  | .sysRestartWarm .. => true
  | .watchdog => true
  | .lockstepMismatch => true
  | .clockFail => true
  | .pfail => true
  | .periodicSnapshot => true
  | .rarLowRead .. => true
  | .rarHighRead .. => true
  | .rarPairRead .. => true
  | .rcRead .. => true
  | .cfgDigestRead .. => true
  | .embRtcTimeRead .. => true
  | .schLocalTimeRead .. => true
  | .schNextLitRead .. => true
  | .lfeTickNtRead .. => true
  | .trnTimeRead .. => true
  | .ntuTimeRead .. => true
  | .ntuFrcRead .. => true
  | .mtrResultRead .. => true
  | .epcJoinEpaRead .. => true
  | .evtHoldoffEnd .. => true
  | .moduleHb .. => true
  | .moduleHbSend => true
  | .store => true
  | .storeDone => true
  | .clearStore => true
  | .digestReq => true
  | .digestReqDone => true
  | .digestReqTimeout => true
  | .digestUpdate => true
  | .enterService .. => true
  | .leaveService => true
  | .island => true
  | .unisland => true
  | .enterBanked .. => true
  | .pwrHeartbeat .. => true
  | .hostHb .. => true
  | .soakTimeout => true
  | .idleWarn => true
  | .idleTimeout => true
  | .wakeWsp .. => true
  | .wspRead .. => true
  | .wakeFio .. => true
  | .wakeMz => true
  | .wakeHspi => true
  | .vsysReturn => true
  | .rc0Listen => true
  | .wake .. => true
  | .avsAck => true
  | .avsAttemptTimeout => true
  | .embMirrorWrite .. => true
  | .embWriteLand => true
  | .capture => true
  | .rtcSecond => true
  | .periodicWake => true
  | .doorEvent => true
  | .tamperEvent => true
  | .pwrOnWrite .. => true
  | .vbatMeasure .. => true
  | .activate => true
  | .suspend => true
  | .resume => true
  | .replace => true
  | .remove => true
  | .epcClearFault => true
  | .snapshot => true
  | .snapshotDone => true
  | .joinLapse .. => true
  | .joinOpenExpiry => true
  | .epcGrpWrite .. => true
  | .groupsRepeat .. => true
  | .reportCfgWrite .. => true
  | .configRepeat .. => true
  | .silentCheck => true
  | .resyncRepeat .. => true
  | .rekeyRetry .. => true
  | .contextEccError .. => true
  | .scheduleSecond .. => true
  | .solarNow => true
  | .holdExpiry => true
  | .lfeTick => true
  | .sourceExpiry => true
  | .lfeHoldExpiry .. => true
  | .inject => true
  | .clearSources => true
  | .lfeCtlWrite .. => true
  | .arm => true
  | .trnCancel => true
  | .release => true
  | .patStart => true
  | .patStop => true
  | .armRound .. => true
  | .slotCommit .. => true
  | .slotFire .. => true
  | .slotHoldEnd .. => true
  | .patternCountEnd .. => true
  | .fastChaseEdge .. => true
  | .fadeUnitUpdate => true
  | .driveComparatorFire .. => true
  | .pwmPeriodEnd .. => true
  | .currentLoopUpdate .. => true
  | .drvChEnWrite .. => true
  | .drvSetEnWrite .. => true
  | .softStartEnd .. => true
  | .inrushEnd .. => true
  | .groupOc .. => true
  | .supplyUv .. => true
  | .supplyRecovered .. => true
  | .hiccupRetry .. => true
  | .retriesReset .. => true
  | .groupHiccupRetry .. => true
  | .drvClearFault => true
  | .drvEnergyUpdate => true
  | .powerReport => true
  | .compEval .. => true
  | .dlForwardFrame .. => true
  | .dlBackwardFrame .. => true
  | .dlNoAnswer .. => true
  | .dlFrameCorrupted .. => true
  | .dlBusDown .. => true
  | .dlBusUp .. => true
  | .dlEventFrame .. => true
  | .dlQueryCycle .. => true
  | .dlCommission => true
  | .dlRequery => true
  | .dlRaw => true
  | .fioClear => true
  | .lbusEvtRead .. => true
  | .aoMeasure .. => true
  | .fioInputChange .. => true
  | .loopPairTimeout .. => true
  | .contactorEval => true
  | .contactorFbCheck .. => true
  | .sbFrameRx .. => true
  | .sbFrameTx .. => true
  | .sbPoll .. => true
  | .sbPollAnswer .. => true
  | .sbPollTimeout .. => true
  | .tsMeasure .. => true
  | .radChEnWrite .. => true
  | .portDequeue .. => true
  | .csmaBackoffEnd .. => true
  | .txEnd .. => true
  | .enhAckRx .. => true
  | .ackTimeout .. => true
  | .hwAckSend .. => true
  | .timedFramePrepare .. => true
  | .timedFrameLaunch .. => true
  | .timeFrame => true
  | .ledgerSecond => true
  | .rxSfd .. => true
  | .airtime => true
  | .chFlush => true
  | .swcClaim .. => true
  | .swcCellSel .. => true
  | .swcFree .. => true
  | .enqueue .. => true
  | .qFlush => true
  | .quotaBoundary .. => true
  | .hmqPush .. => true
  | .hmqPushEnd .. => true
  | .hmqPop .. => true
  | .hmqBankPass .. => true
  | .hmqDownPacket .. => true
  | .hmqUpDeliver => true
  | .hmqStale .. => true
  | .hmqFlush => true
  | .ntuUpdate => true
  | .ntuPhaseWrite .. => true
  | .step => true
  | .stepForce .. => true
  | .srcSelect => true
  | .cmpArm => true
  | .cmpDisarm => true
  | .comparatorFire .. => true
  | .holdoverExpiry => true
  | .leapSecond => true
  | .rtcDiscipline => true
  | .rateRecord => true
  | .ptpRx .. => true
  | .ptpEgress .. => true
  | .gnssPps .. => true
  | .gnssSentence .. => true
  | .timeExchange => true
  | .hspiRead .. => true
  | .postedWriteDone => true
  | .slotHoldExpiry .. => true
  | .slotFlush => true
  | .mzlReqTimeout .. => true
  | .mzLinkChange .. => true
  | .enumTimeout => true
  | .enumDone => true
  | .reenum => true
  | .irqRepeat => true
  | .dlaBackoff .. => true
  | .bbLinkChange .. => true
  | .bbSpeedAlternate .. => true
  | .ringCheck => true
  | .ringCheckRx .. => true
  | .ringPortHoldEnd .. => true
  | .rafReq .. => true
  | .usbBusReset .. => true
  | .usbRead .. => true
  | .getResult .. => true
  | .getInfo .. => true
  | .usbBulkIn => true
  | .autoRangeSwitch .. => true
  | .zeroCrossing .. => true
  | .zcLost .. => true
  | .mtrTempUpdate .. => true
  | .freezeAll => true
  | .pulseDue .. => true
  | .pulseEnd .. => true
  | .recWindowEnd .. => true
  | .modulatorCheck .. => true
  | .modulatorSubstitution .. => true
  | .provision .. => true
  | .load .. => true
  | .destroy .. => true
  | .openSession .. => true
  | .prove .. => true
  | .closeSession .. => true
  | .attest .. => true
  | .lcAdvance .. => true
  | .lcReturn .. => true
  | .lcReset .. => true
  | .lcTransitionDone => true
  | .sessionLapse .. => true
  | .authLockoutEnd .. => true
  | .rootSlotChange => true
  | .begin => true
  | .verify => true
  | .verifyVerdict => true
  | .updActivate .. => true
  | .cancelAct => true
  | .activationCheck => true
  | .activation => true
  | .confirm .. => true
  | .revert .. => true
  | .confirmTimeout => true
  | .epStart .. => true
  | .epStop => true
  | .campaignRound .. => true
  | .leaseRenew => true
  | .renewGrantTimeout => true
  | .leaseExpiry => true
  | .leaseDeadline => true
  | .claimConfirm => true
  | .peerOwnChange .. => true
  | .handover .. => true
  | .abdicate .. => true
  | .pairResync => true
  | .electionTimeout => true
  | .releasedReclaim => true
  | .throttleStep => true
  | .throttleRestore => true
  | .tripRelease => true
  | .supplyAlarm .. => true
  | .avsEvaluation .. => true
  | .bufferBankTest .. => true
  | .laneCheck .. => true
  | .radioLoopback .. => true
  | .nvmSectorRetire .. => true
  | .logNvmWrite => true
  | .rateWindowClose .. => true
  | .logClear .. => true
  | .logFlush => true
  | .logRdSeqWrite .. => true
  | .optimeSecond => true
  | .clearStoreDone => true
  | .logClearDone => true
  | .confirmDone => true
  | .channelResumes .. => true
  | .vrfRecovered => true
  | .usbSetConfiguration .. => true
  | .jtagInstruction .. => true

end Sys2Proof
end

