-- ==== Sys2Proof/Tests/Slice0.lean ====
section
/-! SUPPORT. Tests: ill-formed operands, worked figures of the spec, and for each clause of each statement a state and operands
that meet its hypotheses. -/

set_option linter.unusedVariables false

open Sys2Proof Sys2Proof.Machine

/-! ### A small state -/

/-- A running module in a mode, with words listed. -/
def demo (m : Mode) (l : List (Nat × Word)) : State :=
  { State.reset with regs := l, pwr := { State.reset.pwr with mode := m, vaux := true, vsys := true } }

/-- The room of a queue whose buffer holds `n` words. -/
theorem room_buf (n : Nat) : Hq.room ⟨0, 0, List.replicate n ⟨5, false, false⟩, [], [], false, 0, 0, false⟩ = 1024 - n := by
  simp [Hq.room, Hq.words]

/-- A block packet in order: part 0 of block 0 of a target. -/
def pkt (t : Byte) (d : List Byte) : List Byte :=
  0x54 :: 0x4C :: 0x55 :: 0x42 :: 0 :: 0 :: 0 :: 0 :: t :: 0 :: 0 :: 0 :: (leBytes 4 (crc32 d) ++ d)

theorem pkt_good (s : State) (t : Byte) (d : List Byte) (hd : d.length = 2048) (h : t = 0 ∨ t = 1) (hl : 0 < s.blockLimit t.toNat 0) :
    s.packetBad (pkt t d) = false := by
  have h1 : (pkt t d).length = 2064 := by simp [pkt, leBytes, hd]
  have h2 : (pkt t d).take 4 = [0x54, 0x4C, 0x55, 0x42] := by simp [pkt]
  have h3 : (pkt t d).drop 16 = d := by simp [pkt, leBytes]
  have h4 : leAt (pkt t d) 12 4 = crc32 d := by
    have : ((pkt t d).drop 12).take 4 = leBytes 4 (crc32 d) := by simp [pkt, leBytes]
    unfold leAt
    rw [this, leVal_leBytes]
    exact Nat.mod_eq_of_lt (crc32_lt _)
  have h5 : leAt (pkt t d) 10 1 = 0 := by simp [pkt, leAt, leVal]
  have h6 : leAt (pkt t d) 8 1 = t.toNat := by simp [pkt, leAt, leVal]
  have h7 : leAt (pkt t d) 9 1 = 0 := by simp [pkt, leAt, leVal]
  have h8 : leAt (pkt t d) 4 4 = 0 := by simp [pkt, leAt, leVal]
  unfold State.packetBad
  rw [h1, h2, h3, h4, h5, h6, h7, h8]
  rcases h with rfl | rfl <;> simp at hl ⊢ <;> omega

/-- The machine after reset is in canonical form. -/
theorem test_reset_inv : State.reset.Inv :=
  ⟨⟨List.Pairwise.nil, fun _ h => absurd h (by simp [State.reset])⟩, fun _ h => absurd h (by simp [State.reset])⟩

/-! ### Ill-formed operands -/

theorem test_illFormed_registerWrite : Instr.wellFormed (.registerWrite .hspi 0 2 0x100000000) = false := by decide
theorem test_illFormed_reservedSpaceAccess : Instr.wellFormed (.reservedSpaceAccess .usb true 0 0 256) = false := by decide
theorem test_illFormed_accessError : Instr.wellFormed (.accessError .core true 1 1 0x10000) = false := by decide
theorem test_illFormed_joinReq_nonce : Instr.wellFormed (.joinReq 0 true 0 0 [1, 2, 3]) = false := by decide
theorem test_illFormed_cfgAck_rssi : Instr.wellFormed (.cfgAck 0 0 0 ⟨-129, 0, 0⟩) = false := by decide
theorem test_illFormed_cfgAck_lqi : Instr.wellFormed (.cfgAck 0 0 0 ⟨0, 256, 0⟩) = false := by decide
theorem test_illFormed_cfgAck_channel : Instr.wellFormed (.cfgAck 0 0 0 ⟨0, 0, 8⟩) = false := by decide
theorem test_illFormed_status_level : Instr.wellFormed (.status 0 ⟨65536, 0, 0, 0, 0⟩ ⟨0, 0, 0⟩) = false := by decide
theorem test_illFormed_status_temp : Instr.wellFormed (.status 0 ⟨0, 0, 0, 128, 0⟩ ⟨0, 0, 0⟩) = false := by decide
theorem test_illFormed_status_supply : Instr.wellFormed (.status 0 ⟨0, 0, 0, 0, 65536⟩ ⟨0, 0, 0⟩) = false := by decide
theorem test_illFormed_status_rssi : Instr.wellFormed (.status 0 ⟨0, 0, 0, 0, 0⟩ ⟨128, 0, 0⟩) = false := by decide
theorem test_illFormed_energy_rssi : Instr.wellFormed (.energy 0 0 0 0 ⟨128, 0, 0⟩) = false := by decide
theorem test_illFormed_fault_lqi : Instr.wellFormed (.fault 0 0 0 0 ⟨0, 300, 0⟩) = false := by decide
theorem test_illFormed_detect_channel : Instr.wellFormed (.detect 0 0 0 0 0 0 0 0 ⟨0, 0, 9⟩) = false := by decide
theorem test_illFormed_info_rssi : Instr.wellFormed (.info 0 0 0 0 ⟨-200, 0, 0⟩) = false := by decide
theorem test_illFormed_solarPublish_count : Instr.wellFormed (.solarPublish 0 [none]) = false := by decide
theorem test_illFormed_detectionRecord_origin : Instr.wellFormed (.detectionRecord ⟨4096, 0, 0, 0, 0, 0, 0, 0, false⟩) = false := by decide
theorem test_illFormed_padScan_kind : Instr.wellFormed (.padScan [⟨4, 0, 0, 0⟩]) = false := by decide
theorem test_illFormed_scanNow_channel : Instr.wellFormed (.scanNow [⟨0, 64, 0, 0⟩]) = false := by decide
theorem test_illFormed_rxFrame_level : Instr.wellFormed (.rxFrame 0 ⟨true, 0, 0, false, 0, false, false, true, 8, 0, 0, [], [], none, 0, 0, 0⟩) = false := by decide
theorem test_illFormed_rxFrame_dst : Instr.wellFormed (.rxFrame 0 ⟨true, 0, 65536, false, 0, false, false, true, 0, 0, 0, [], [], none, 0, 0, 0⟩) = false := by decide
theorem test_illFormed_packetIngress_empty : Instr.wellFormed (.packetIngress 0 true true ⟨[], 0, 0, 0, none⟩) = false := by decide
theorem test_illFormed_packetIngress_queue : Instr.wellFormed (.packetIngress 0 true true ⟨[1], 0, 0, 4256, none⟩) = false := by decide
theorem test_illFormed_packetIngress_group : Instr.wellFormed (.packetIngress 0 true true ⟨[1], 0, 0, 0, some 1024⟩) = false := by decide
theorem test_illFormed_swcCellData : Instr.wellFormed (.swcCellData .hspi 0 1 (some 65536)) = false := by decide
theorem test_illFormed_hspiWrite_long : Instr.wellFormed (.hspiWrite 0x41 0 [0, 0, 0, 0, 0, 0, 0, 0, 0]) = false := by decide
theorem test_illFormed_mzlData_packet : Instr.wellFormed (.mzlData 0 ⟨true, true, true, 0, 0, 0, []⟩ ⟨[], 0, 0, 0, none⟩) = false := by decide
theorem test_illFormed_usbBulkOut_class : Instr.wellFormed (.usbBulkOut ⟨[1], 8, 0, 0, none⟩) = false := by decide
theorem test_illFormed_accumulationInterval : Instr.wellFormed (.accumulationInterval []) = false := by decide
theorem test_illFormed_windowEnd : Instr.wellFormed (.windowEnd 0 [[0]]) = false := by decide
theorem test_illFormed_freezeSample : Instr.wellFormed (.freezeSample []) = false := by decide
theorem test_illFormed_blockPacket_queue : Instr.wellFormed (.blockPacket (.hmq 16) [] 0) = false := by decide
theorem test_illFormed_blockPacket_port : Instr.wellFormed (.blockPacket (.udp 0 65536 0) [] 0) = false := by decide
theorem test_illFormed_fwMap_rssi : Instr.wellFormed (.fwMap 0 0 0 0 ⟨128, 0, 0⟩) = false := by decide
theorem test_illFormed_fwResult_lqi : Instr.wellFormed (.fwResult 0 0 0 0 ⟨0, 256, 0⟩) = false := by decide
theorem test_illFormed_tempSample : Instr.wellFormed (.tempSample [250]) = false := by decide
theorem test_illFormed_padScan_voltage : Instr.wellFormed (.padScan [⟨0, 0, 65536, 0⟩]) = false := by decide
theorem test_illFormed_fastTrip : Instr.wellFormed (.fastTrip ⟨0, 65536⟩) = false := by decide
theorem test_illFormed_stringOpen : Instr.wellFormed (.stringOpen ⟨0, 65536, 0⟩) = false := by decide
theorem test_illFormed_thermalTrip : Instr.wellFormed (.thermalTrip []) = false := by decide
theorem test_illFormed_tReq_dst : Instr.wellFormed (.tReq 0 ⟨true, true, true, 64, 0, 0, []⟩) = false := by decide
theorem test_illFormed_tRsp_dst : Instr.wellFormed (.tRsp 0 ⟨true, true, true, 64, 0, 0, []⟩) = false := by decide
theorem test_illFormed_mzlReq_dst : Instr.wellFormed (.mzlReq 0 ⟨true, true, true, 64, 0, 0, []⟩) = false := by decide
theorem test_illFormed_mzlRsp_dst : Instr.wellFormed (.mzlRsp 0 ⟨true, true, true, 64, 0, 0, []⟩) = false := by decide
theorem test_illFormed_credit_dst : Instr.wellFormed (.credit 0 ⟨true, true, true, 64, 0, 0, []⟩) = false := by decide
theorem test_illFormed_enum_dst : Instr.wellFormed (.enum 0 ⟨true, true, true, 64, 0, 0, []⟩) = false := by decide
theorem test_illFormed_mzlIrq_dst : Instr.wellFormed (.mzlIrq 0 ⟨true, true, true, 64, 0, 0, []⟩) = false := by decide
theorem test_illFormed_renew_dst : Instr.wellFormed (.renew 0 ⟨true, true, true, 64, 0, 0, []⟩) = false := by decide
theorem test_illFormed_grant_dst : Instr.wellFormed (.grant 0 ⟨true, true, true, 64, 0, 0, []⟩) = false := by decide
theorem test_illFormed_releaseFrame_dst : Instr.wellFormed (.releaseFrame 0 ⟨true, true, true, 64, 0, 0, []⟩) = false := by decide
theorem test_illFormed_claim_dst : Instr.wellFormed (.claim 0 ⟨true, true, true, 64, 0, 0, []⟩) = false := by decide
theorem test_illFormed_mirrorFrame_dst : Instr.wellFormed (.mirrorFrame 0 ⟨true, true, true, 64, 0, 0, []⟩) = false := by decide
theorem test_wellFormed_registerWrite : Instr.wellFormed (.registerWrite .hspi 0x7FFF 3 0xFFFFFFFFFFFFFFFF) = true := by decide
theorem test_illFormed_usbWrite_long (d : List Byte) (h : d.length = 65536) : Instr.wellFormed (.usbWrite 0 0 d) = false := by
  simp [Instr.wellFormed, h]
theorem test_wellFormed_any : Instr.wellFormed .watchdog = true := rfl

/-! ### Figures of the spec -/

/-- No row of the table has bits, so no word spells a command. -/
theorem test_decode_none : decodeTableWord 32 0x12345678 = none := rfl
/-- A word in front changes nothing, and the step idles. -/
theorem test_withFetchWord : State.reset.withFetchWord 32 5 = State.reset := rfl
/-- The CRC-32 of R38 over "123456789": IEEE 802.3's check value. -/
theorem test_crc32 : crc32 [0x31, 0x32, 0x33, 0x34, 0x35, 0x36, 0x37, 0x38, 0x39] = 0xCBF43926 := by decide +kernel
/-- The CRC-8 of Table 13.6 over the same bytes. -/
theorem test_crc8 : crc8 [0x31, 0x32, 0x33, 0x34, 0x35, 0x36, 0x37, 0x38, 0x39] = 0xF4 := by decide +kernel
/-- Context 314 begins at 0x0012_7400 (chapter 01). -/
theorem test_context_base : EPC_EN_LO.adr 314 = 0x127400 + 0x120 := rfl
/-- The airtimes of chapter 10's example at 150 kb/s with a preamble of 8: 10, 28, 30 and 32 octets. -/
theorem test_airtimes : [10, 28, 30, 32].map ((demo .firing [(RAD_CH_PHY.adr 2, 0x02004008)]).airtime 2) = [1174, 2134, 2240, 2347] := by
  decide +kernel
/-- 25 October 2031 is a Saturday, the last but one day of DST (chapter 05). -/
theorem test_weekday : weekday (dayOf 2031 10 25) = 5 ∧ dateOf (dayOf 2031 10 25) = (2031, 10, 25) := by decide +kernel
/-- 02:45:00 reads as 0x0002_2D00 (Table 5.10). -/
theorem test_timeWord : timeWord (2 * 3600 + 45 * 60) = 0x22D00 := by decide
/-- A curve at identity gives its level (R218), and 0 at level 0. -/
theorem test_curve : [0, 1, 19661, 65535].map (curveAt ((List.range 16).map (4096 * ·) ++ [65535])) = [0, 1, 19661, 65535] := by decide +kernel

/-! ### Witnesses -/

theorem test_wit_StartsFromSupply_1 : ∃ (s : State) (flash : Option (List Byte)), (s.pwr.mode = .ember) :=
  ⟨State.reset, none, by decide⟩

theorem test_wit_StartsFromSupply_2 : ∃ (s : State), (s.pwr.vaux = true) :=
  ⟨demo .firing [], by decide⟩

theorem test_wit_StartsFromSupply_3 : ∃ (s : State), (s.pwr.vaux = true) :=
  ⟨demo .firing [], by decide⟩

theorem test_wit_StartsFromSupply_4 : ∃ (s : State), (s.pwr.mode = .banked) ∧ (s.pwr.vsys = false) :=
  ⟨{ demo .banked [] with pwr := { (demo .banked []).pwr with vsys := false } }, by decide, by decide⟩

theorem test_wit_StartsFromSupply_5 : ∃ (s : State), (s.pwr.vaux = false) :=
  ⟨State.reset, by decide⟩

theorem test_wit_RestartsByCause_1 : ∃ (s : State) (flash : Option (List Byte)), (s.canRestart = true) :=
  ⟨demo .firing [], none, by decide⟩

theorem test_wit_RestartsByCause_2 : ∃ (s : State) (flash : Option (List Byte)), (s.canRestart = true) :=
  ⟨demo .soak [], none, by decide⟩

theorem test_wit_RestartsByCause_3 : ∃ (s : State), (s.canRestart = true) ∧ (s.escalates = false) :=
  ⟨demo .firing [], by decide, by decide⟩

theorem test_wit_RestartsByCause_4 : ∃ (s : State), (s.canRestart = true) ∧ (s.escalates = true) :=
  ⟨(demo .firing []).noteUnplanned, by decide, by decide⟩

theorem test_wit_RestartsByCause_5 : ∃ (s : State), (s.canRestart = true) ∧ (s.escalates = false) :=
  ⟨demo .service [], by decide, by decide⟩

theorem test_wit_RestartsByCause_6 : ∃ (s : State), (s.canRestart = true) ∧ (s.escalates = true) :=
  ⟨(demo .service []).noteUnplanned, by decide, by decide⟩

theorem test_wit_RestartsByCause_7 : ∃ (s : State), (s.clockBad = true) ∧ (s.coreOn = true) ∧ (s.pwr.entry = none) ∧ (s.own = false) :=
  ⟨{ demo .kindling [] with pwr := { (demo .kindling []).pwr with tcxo := [24000, 24000], unlock := 0 } }, by decide, by decide, by decide, by decide⟩

theorem test_wit_RestartsByCause_8 : ∃ (s : State), (s.clockBad = true) ∧ (s.coreOn = true) ∧ ((s.letGo stInterrupted).pwr.entry = none) ∧ (s.own = true) :=
  ⟨{ demo .firing [(PAIR_STAT.adr, 0x80000000)] with pwr := { (demo .firing []).pwr with tcxo := [], unlock := 10001 } }, by decide, by decide, by decide, by decide⟩

theorem test_wit_RestartsByCause_9 : ∃ (s : State), (s.pwr.entry.isSome = true) :=
  ⟨{ demo .firing [] with pwr := { (demo .firing []).pwr with entry := some 0 } }, by decide⟩

theorem test_wit_SnapshotsComplete_1 : ∃ (s : State), (s.up .epc = true) ∧ (s.up .log = true) :=
  ⟨demo .firing [], by decide, by decide⟩

theorem test_wit_SnapshotsComplete_2 : ∃ (s : State), (s.running = true) ∧ (s.up .epc = true) :=
  ⟨demo .firing [], by decide, by decide⟩

theorem test_wit_SnapshotsComplete_3 : ∃ (s : State), (s.ready .epc) :=
  ⟨demo .firing [], by decide⟩

theorem test_wit_SnapshotsComplete_4 : ∃ (s : State), (s.epc.snapping = true) ∧ (s.isPending .epc 7 = true) :=
  ⟨{ demo .firing [(EPC_CMD_STAT.adr, 0x701)] with epc := { State.reset.epc with snapping := true } }, by decide, by decide⟩

theorem test_wit_WritesAndReadsComplete_1 : ∃ (s : State) (src : Src) (off : BitVec 26) (sz : Fin 4) (val : BitVec 64), (State.reaches s { src := src, wr := true, sz := sz.val, off := off.toNat } = true) ∧ (Access.aligned { src := src, wr := true, sz := sz.val, off := off.toNat } = true) :=
  ⟨demo .firing [], .core, 0x10000, 2, 5, by decide, by decide⟩

theorem test_wit_WritesAndReadsComplete_2 : ∃ (s : State) (src : Src) (off : BitVec 26) (val : BitVec 64), (State.reaches s { src := src, wr := false, sz := 2, off := off.toNat } = true) ∧ (off.toNat % 4 = 0) ∧ (regAt off.toNat = none) :=
  ⟨demo .firing [], .core, 0xA0000, 5, by decide, by decide, by decide⟩

theorem test_wit_WritesAndReadsComplete_3 : ∃ (s : State) (src : Src) (off : BitVec 26) (val : BitVec 64), (State.reaches s { src := src, wr := true, sz := 2, off := off.toNat } = true) ∧ (off.toNat % 4 = 0) ∧ (regAt off.toNat = none) :=
  ⟨demo .firing [], .core, 0xA0000, 5, by decide, by decide, by decide⟩

theorem test_wit_WritesAndReadsComplete_4 : ∃ (s : State) (src : Src) (off : BitVec 26) (sz : Fin 4) (val : BitVec 64), (State.reaches s { src := src, wr := false, sz := sz.val, off := off.toNat } = true) ∧ (Access.aligned { src := src, wr := false, sz := sz.val, off := off.toNat } = false) :=
  ⟨demo .firing [], .core, 0x10001, 2, 5, by decide, by decide⟩

theorem test_wit_WritesAndReadsComplete_5 : ∃ (s : State) (src : Src) (off : BitVec 26) (sz : Fin 4) (val : BitVec 64), (State.reaches s { src := src, wr := true, sz := sz.val, off := off.toNat } = true) ∧ (Access.aligned { src := src, wr := true, sz := sz.val, off := off.toNat } = false) :=
  ⟨demo .firing [], .core, 0x10001, 2, 5, by decide, by decide⟩

theorem test_wit_WritesAndReadsComplete_6 : ∃ (s : State) (src : Src) (off : BitVec 26) (sz : Fin 4) (val : BitVec 64), (State.reaches s { src := src, wr := false, sz := sz.val, off := off.toNat } = true) ∧ (Access.aligned { src := src, wr := false, sz := sz.val, off := off.toNat } = true) ∧ (State.narrowRefused s { src := src, wr := false, sz := sz.val, off := off.toNat } = true) :=
  ⟨demo .firing [], .core, 0x400220, 0, 5, by decide, by decide, by decide⟩

theorem test_wit_WritesAndReadsComplete_7 : ∃ (s : State) (src : Src) (off : BitVec 26) (sz : Fin 4) (val : BitVec 64), (State.reaches s { src := src, wr := true, sz := sz.val, off := off.toNat } = true) ∧ (Access.aligned { src := src, wr := true, sz := sz.val, off := off.toNat } = true) ∧ (State.narrowRefused s { src := src, wr := true, sz := sz.val, off := off.toNat } = true) :=
  ⟨demo .firing [], .core, 0x400220, 0, 5, by decide, by decide, by decide⟩

theorem test_wit_WritesAndReadsComplete_8 : ∃ (s : State) (src : Src) (off : BitVec 26), (State.reaches s { src := src, wr := false, sz := 2, off := off.toNat } = true) ∧ (off.toNat % 4 = 0) ∧ (∃ p, rarOf off.toNat = some (p, false)) :=
  ⟨demo .firing [], .core, 0x400220, by decide, by decide, ⟨⟨DRV_GRP_EN_LO.adr 0, DRV_GRP_EN_HI.adr 0, DRV_GRP_EN_STAT.PENDING 0, DRV_GRP_EN_STAT.REREAD 0⟩, by decide⟩⟩

theorem test_wit_WritesAndReadsComplete_9 : ∃ (s : State) (src : Src) (off : BitVec 26), (State.reaches s { src := src, wr := false, sz := 2, off := off.toNat } = true) ∧ (off.toNat % 4 = 0) ∧ (∃ p, rarOf off.toNat = some (p, true)) :=
  ⟨demo .firing [], .core, 0x400224, by decide, by decide, ⟨⟨DRV_GRP_EN_LO.adr 0, DRV_GRP_EN_HI.adr 0, DRV_GRP_EN_STAT.PENDING 0, DRV_GRP_EN_STAT.REREAD 0⟩, by decide⟩⟩

theorem test_wit_WritesAndReadsComplete_10 : ∃ (s : State) (src : Src) (off : BitVec 26), (State.reaches s { src := src, wr := false, sz := 3, off := off.toNat } = true) ∧ (off.toNat % 4 = 0) ∧ (∃ p, rarOf off.toNat = some (p, false)) :=
  ⟨demo .firing [], .core, 0x400220, by decide, by decide, ⟨⟨DRV_GRP_EN_LO.adr 0, DRV_GRP_EN_HI.adr 0, DRV_GRP_EN_STAT.PENDING 0, DRV_GRP_EN_STAT.REREAD 0⟩, by decide⟩⟩

theorem test_wit_WritesAndReadsComplete_11 : ∃ (s : State) (src : Src) (off : BitVec 26), (State.reaches s { src := src, wr := false, sz := 2, off := off.toNat } = true) ∧ (off.toNat % 4 = 0) ∧ (rcMask off.toNat ≠ 0) :=
  ⟨demo .firing [], .core, 0x50040, by decide, by decide, by decide⟩

theorem test_wit_LatchReadsComplete_1 : ∃ (s : State) (src : Src), (s.up .cfg = true) :=
  ⟨demo .firing [], .core, by decide⟩

theorem test_wit_LatchReadsComplete_2 : ∃ (s : State) (src : Src) (wide : Bool), (s.up .emb = true) ∧ ((src == .hspi) = false ∨ s.pwr.vauxAt + 61 * usec ≤ s.clk) :=
  ⟨demo .firing [], .core, true, by decide, Or.inl rfl⟩

theorem test_wit_LatchReadsComplete_3 : ∃ (s : State) (src : Src) (wide : Bool), (s.up .sch = true) :=
  ⟨demo .firing [], .core, true, by decide⟩

theorem test_wit_LatchReadsComplete_4 : ∃ (s : State) (src : Src) (wide : Bool), (s.up .sch = true) :=
  ⟨demo .firing [], .core, true, by decide⟩

theorem test_wit_LatchReadsComplete_5 : ∃ (s : State) (src : Src) (wide : Bool), (s.up .lfe = true) :=
  ⟨demo .firing [], .core, true, by decide⟩

theorem test_wit_LatchReadsComplete_6 : ∃ (s : State) (src : Src) (wide : Bool), (s.up .ntu = true) :=
  ⟨demo .firing [], .core, true, by decide⟩

theorem test_wit_LatchReadsComplete_7 : ∃ (s : State) (src : Src) (wide : Bool), (s.up .ntu = true) :=
  ⟨demo .firing [], .core, true, by decide⟩

theorem test_wit_LatchReadsComplete_8 : ∃ (s : State) (src : Src), (s.up .epc = true) :=
  ⟨demo .firing [], .core, by decide⟩

theorem test_wit_LatchReadsComplete_9 : ∃ (s : State) (src : Src) (slot : Option (Fin 64)) (wide : Bool), (s.up .trn = true) :=
  ⟨demo .firing [], .core, some 3, true, by decide⟩

theorem test_wit_LatchReadsComplete_10 : ∃ (s : State) (src : Src) (blk : Fin 16), (s.up .mtr = true) :=
  ⟨demo .firing [], .core, 3, by decide⟩

theorem test_wit_ReportsComplete_1 : ∃ (s : State) (b : Fin 32), (s.sys.evtHold.any (fun x => x.1 == b.val && x.2 ≤ s.clk) = true) :=
  ⟨{ demo .firing [] with sys := { State.reset.sys with evtHold := [(5, 0)] } }, 5, by decide⟩

theorem test_wit_ReportsComplete_2 : ∃ (s : State) (p : Fin 2) (b : List Byte), (s.bbUp p.val = true) :=
  ⟨(((demo .firing []).put BBN_CTL.EN 1).put (BBN_PORT_STAT.LINK 1) 1), 1, [], by decide⟩

theorem test_wit_ReportsComplete_3 : ∃ (s : State), (s.bbOn = true) ∧ (s.bit BBN_HB_CFG.EN = true) ∧ (s.bb.hbAt = none ∨ ∃ t, s.bb.hbAt = some t ∧ t + clampN 100 60000 (s.fld BBN_HB_CFG.MS) * msec ≤ s.clk) :=
  ⟨(((demo .firing []).put BBN_CTL.EN 1).put BBN_HB_CFG.EN 1), by decide, by decide, Or.inl rfl⟩

theorem test_wit_ReportsComplete_4 : ∃ (s : State) (p : Fin 2) (b : List Byte), (s.bbUp p.val = true) :=
  ⟨(((demo .firing []).put BBN_CTL.EN 1).put (BBN_PORT_STAT.LINK 1) 1), 1, [], by decide⟩

theorem test_wit_ReportsComplete_5 : ∃ (s : State), (s.up .pwr = true) :=
  ⟨demo .soak [], by decide⟩

theorem test_wit_ReportsComplete_6 : ∃ (s : State), (s.pwr.mode = .firing) ∧ (s.pwr.soakFrom + clampN 1 3600 (s.fld PWR_SOAK_TO.SEC) * secs ≤ s.clk) :=
  ⟨{ demo .firing [] with clk := 3600 * secs }, by decide, by decide⟩

theorem test_wit_ReportsComplete_7 : ∃ (s : State), (s.idleDue (60 * secs) = true) ∧ (s.pwr.idleWarned = false) ∧ (s.anyLit = false) :=
  ⟨{ (((demo .firing []).put PWR_IDLE_CFG.EN 1).put PWR_BANKED_ALLOW.ALLOW 1) with clk := 86400 * secs }, by decide, by decide, by decide⟩

theorem test_wit_ReportsComplete_8 : ∃ (s : State), (s.idleDue 0 = true) ∧ (s.anyLit = true) :=
  ⟨{ (((((demo .firing []).put PWR_IDLE_CFG.EN 1).put PWR_BANKED_ALLOW.ALLOW 1).put (DRV_CH_CTL.EN 3) 1).put (DRV_CH_OUT.LEVEL 3) 9) with clk := 86400 * secs }, by decide, by decide⟩

theorem test_wit_ReportsComplete_9 : ∃ (s : State), (s.idleDue 0 = true) ∧ (s.anyLit = false) ∧ (s.bankedRefused = false) :=
  ⟨{ (((demo .firing []).put PWR_IDLE_CFG.EN 1).put PWR_BANKED_ALLOW.ALLOW 1) with clk := 86400 * secs }, by decide, by decide, by decide⟩

theorem test_wit_ConfigurationCommandsComplete_1 : ∃ (s : State) (i : Nat × Nat × Nat × Nat), (s.ready .cfg) ∧ (s.pwr.mode ≠ .kindling) ∧ (s.cfg.image = some i) ∧ ((s.taken .cfg 1).triples.length ≤ 10240) :=
  ⟨{ demo .firing [] with cfg := { State.reset.cfg with image := some (1, 2, 0, 0) } }, (1, 2, 0, 0), by decide, by decide, by decide, by decide⟩

theorem test_wit_ConfigurationCommandsComplete_2 : ∃ (s : State) (b : List Byte), (s.up .cfg = true) ∧ (s.cfg.storing = some b) :=
  ⟨{ demo .firing [] with cfg := { State.reset.cfg with storing := some [] } }, [], by decide, by decide⟩

theorem test_wit_ConfigurationCommandsComplete_3 : ∃ (s : State), (s.ready .cfg) :=
  ⟨demo .service [], by decide⟩

theorem test_wit_ConfigurationCommandsComplete_4 : ∃ (s : State), (s.ready .cfg) :=
  ⟨demo .firing [], by decide⟩

theorem test_wit_ConfigurationCommandsComplete_5 : ∃ (s : State) (a : Nat), (s.up .cfg = true) ∧ (s.isPending .cfg 3 = true) ∧ (s.reqStale = false) ∧ (s.cfg.reqAt = some a) ∧ (s.clk ≤ a + 50 * msec) :=
  ⟨{ demo .firing [(CFG_CMD_STAT.adr, 0x301)] with cfg := { State.reset.cfg with reqAt := some 0 } }, 0, by decide, by decide, by decide, by decide, by decide⟩

theorem test_wit_ConfigurationCommandsComplete_6 : ∃ (s : State) (a : Nat), (s.up .cfg = true) ∧ (s.isPending .cfg 3 = true) ∧ (s.cfg.reqAt = some a) ∧ (a + 50 * msec < s.clk) :=
  ⟨{ demo .firing [(CFG_CMD_STAT.adr, 0x301), (CFG_REQ_MASK_LO.adr, 1)] with clk := 50 * msec + 1, cfg := { State.reset.cfg with reqAt := some 0, stale := [0] } }, 0, by decide, by decide, by decide, by decide⟩

theorem test_wit_ConfigurationCommandsComplete_7 : ∃ (s : State), (s.up .cfg = true) ∧ (s.cfg.stale ≠ []) :=
  ⟨{ demo .firing [] with cfg := { State.reset.cfg with stale := [0] } }, by decide, by decide⟩

theorem test_wit_ModeCommandsComplete_1 : ∃ (s : State) (src : Src) (a : State), (s.ready .pwr) ∧ ((s.taken .pwr 1).authorise src = some a) ∧ (a.running = true) ∧ (a.pwr.entry = none) :=
  ⟨(({ demo .firing [] with key := { State.reset.key with sessions := [{ src := 0, id := 1, ip := 0, port := 0, last := 0 }] } } : State)), .hspi, ((({ demo .firing [] with key := { State.reset.key with sessions := [{ src := 0, id := 1, ip := 0, port := 0, last := 0 }] } } : State))).taken .pwr 1, by decide, by rfl, by decide, by decide⟩

theorem test_wit_ModeCommandsComplete_2 : ∃ (s : State), (s.ready .pwr) ∧ (s.pwr.mode = .service) ∧ ((s.taken .pwr 2).bit CFG_STAT.IMG_OK = true) ∧ (s.pwr.entry = none) :=
  ⟨((demo .service []).put CFG_STAT.IMG_OK 1), by decide, by decide, by decide, by decide⟩

theorem test_wit_ModeCommandsComplete_3 : ∃ (s : State), (s.ready .pwr) ∧ (s.pwr.mode = .firing) :=
  ⟨demo .firing [], by decide, by decide⟩

theorem test_wit_ModeCommandsComplete_4 : ∃ (s : State), (s.ready .pwr) ∧ (s.pwr.mode ≠ .firing) :=
  ⟨demo .soak [], by decide, by decide⟩

theorem test_wit_ModeCommandsComplete_5 : ∃ (s : State), (s.ready .pwr) ∧ (s.pwr.mode = .soak) :=
  ⟨demo .soak [], by decide, by decide⟩

theorem test_wit_ModeCommandsComplete_6 : ∃ (s : State), (s.ready .pwr) ∧ (s.pwr.mode ≠ .soak) :=
  ⟨demo .firing [], by decide, by decide⟩

theorem test_wit_ModeCommandsComplete_7 : ∃ (s : State) (src : Src) (a : State), (s.ready .pwr) ∧ ((s.taken .pwr 5).authorise src = some a) ∧ (a.canRestart = true) ∧ (a.bankedRefused = false) :=
  ⟨(({ ((demo .firing []).put PWR_BANKED_ALLOW.ALLOW 1) with key := { State.reset.key with sessions := [{ src := 0, id := 1, ip := 0, port := 0, last := 0 }] } } : State)), .hspi, ((({ ((demo .firing []).put PWR_BANKED_ALLOW.ALLOW 1) with key := { State.reset.key with sessions := [{ src := 0, id := 1, ip := 0, port := 0, last := 0 }] } } : State))).taken .pwr 5, by decide, by rfl, by decide, by decide⟩

theorem test_wit_WakesComplete_1 : ∃ (s : State) (adr : BitVec 7) , (s.pwr.mode = .banked) ∧ (s.pwr.vsys = true) ∧ (s.pwr.entry = none) ∧ (1 &&& (s.fld PWR_WAKE_EN.EN ||| 2 ^ 8) = 1) ∧ (adr.toNat = s.fld PWR_WSP_ADDR.ADDR) ∧ (s.pwr.vaux = true) :=
  ⟨((demo .banked []).put PWR_WAKE_EN.EN 511), BitVec.ofNat 7 (((demo .banked []).put PWR_WAKE_EN.EN 511).fld PWR_WSP_ADDR.ADDR), by decide, by decide, by decide, by decide, by decide, by decide⟩

theorem test_wit_WakesComplete_2 : ∃ (s : State) (n : Fin 8) (rising : Bool) , (s.pwr.mode = .banked) ∧ (s.pwr.vsys = true) ∧ (s.pwr.entry = none) ∧ (16 &&& (s.fld PWR_WAKE_EN.EN ||| 2 ^ 8) = 16) ∧ (bitOf (s.fld PWR_WAKE_FIO.SEL) n.val = true) ∧ (bitOf (s.fld PWR_WAKE_FIO.EDGE) n.val = rising) :=
  ⟨(((demo .banked []).put PWR_WAKE_EN.EN 511).put PWR_WAKE_FIO.SEL 8), 3, false, by decide, by decide, by decide, by decide, by decide, by decide⟩

theorem test_wit_WakesComplete_3 : ∃ (s : State), (s.pwr.mode = .banked) ∧ (s.pwr.vsys = true) ∧ (s.pwr.entry = none) ∧ (64 &&& (s.fld PWR_WAKE_EN.EN ||| 2 ^ 8) = 64) :=
  ⟨((demo .banked []).put PWR_WAKE_EN.EN 511), by decide, by decide, by decide, by decide⟩

theorem test_wit_WakesComplete_4 : ∃ (s : State), (s.pwr.mode = .banked) ∧ (s.pwr.vsys = true) ∧ (s.pwr.entry = none) ∧ (128 &&& (s.fld PWR_WAKE_EN.EN ||| 2 ^ 8) = 128) :=
  ⟨((demo .banked []).put PWR_WAKE_EN.EN 511), by decide, by decide, by decide, by decide⟩

theorem test_wit_WakesComplete_5 : ∃ (s : State), (s.pwr.entry.isSome = true) ∧ (64 &&& (s.fld PWR_WAKE_EN.EN ||| 2 ^ 8) = 64) :=
  ⟨{ ((demo .firing []).put PWR_WAKE_EN.EN 511) with pwr := { (demo .firing []).pwr with entry := some 0 } }, by decide, by decide⟩

theorem test_wit_WakesComplete_6 : ∃ (s : State) (seg : BitVec 16) (code : BitVec 16) , (s.pwr.mode = .banked) ∧ (s.pwr.vsys = true) ∧ (s.pwr.entry = none) ∧ (32 &&& (s.fld PWR_WAKE_EN.EN ||| 2 ^ 8) = 32) ∧ (s.rc0Hears = true) ∧ (seg.toNat = s.fld SYS_ID_SEG.SEG) ∧ (code.toNat = s.fld PWR_RC0_CODE.CODE) :=
  ⟨{ (((demo .banked []).put PWR_WAKE_EN.EN 511).put PWR_RC0_LISTEN.EN 1) with pwr := { (demo .banked []).pwr with rc0At := some 0 } }, 0, 0, by decide, by decide, by decide, by decide, by decide, by decide, by decide⟩

theorem test_wit_WakesComplete_7 : ∃ (s : State) (adr : BitVec 7), (s.pwr.mode ≠ .ember) ∧ (s.pwr.mode ≠ .banked) ∧ (adr.toNat = s.fld PWR_WSP_ADDR.ADDR) :=
  ⟨demo .firing [], BitVec.ofNat 7 ((demo .firing []).fld PWR_WSP_ADDR.ADDR), by decide, by decide, by decide⟩

theorem test_wit_WakesComplete_8 : ∃ (s : State), (s.rc0On = true) ∧ (s.pwr.rc0At = none ∨ ∃ t, s.pwr.rc0At = some t ∧ t + s.rc0Time ≤ s.clk) :=
  ⟨((demo .banked []).put PWR_RC0_LISTEN.EN 1), by decide, Or.inl rfl⟩

theorem test_wit_WakesComplete_9 : ∃ (s : State) (r : AvsReq), (s.pwr.avsReq = some r) ∧ (r.waits = none) ∧ (s.pwr.avsTarget = r.req) :=
  ⟨{ demo .firing [] with pwr := { (demo .firing []).pwr with avsReq := some ⟨800, 1, none⟩, avsTarget := 800 } }, ⟨800, 1, none⟩, by decide, by decide, by decide⟩

theorem test_wit_WakesComplete_10 : ∃ (s : State) (r : AvsReq), (s.pwr.avsReq = some r) ∧ (r.waits = none) ∧ (s.pwr.avsTarget ≠ r.req) :=
  ⟨{ demo .firing [] with pwr := { (demo .firing []).pwr with avsReq := some ⟨800, 1, none⟩, avsTarget := 850 } }, ⟨800, 1, none⟩, by decide, by decide, by decide⟩

theorem test_wit_WakesComplete_11 : ∃ (s : State) (r : AvsReq), (s.pwr.avsReq = some r) ∧ (r.waits = none) ∧ (r.tries < 3) :=
  ⟨{ demo .firing [] with pwr := { (demo .firing []).pwr with avsReq := some ⟨800, 1, none⟩, avsTarget := 850 } }, ⟨800, 1, none⟩, by decide, by decide, by decide⟩

theorem test_wit_WakesComplete_12 : ∃ (s : State) (r : AvsReq), (s.pwr.avsReq = some r) ∧ (r.waits = none) ∧ (3 ≤ r.tries) ∧ (s.pwr.avsAcked = true) :=
  ⟨{ demo .firing [] with pwr := { (demo .firing []).pwr with avsReq := some ⟨800, 3, none⟩, avsTarget := 850, avsAcked := true } }, ⟨800, 3, none⟩, by decide, by decide, by decide, by decide⟩

theorem test_wit_EmberCommandsComplete_1 : ∃ (s : State) (off : BitVec 26) (val : Word) (pair : Option Word), (s.up .emb = true) ∧ (isMirror off.toNat = true) ∧ (isAlarm1 off.toNat = false) ∧ (s.emb.queue.length < 4) :=
  ⟨demo .firing [], 0x30100, 5, none, by decide, by decide, by decide, by decide⟩

theorem test_wit_EmberCommandsComplete_2 : ∃ (s : State) (off : BitVec 26) (val : Word) (pair : Option Word), (s.up .emb = true) ∧ (isMirror off.toNat = true) ∧ (isAlarm1 off.toNat = false) ∧ (4 ≤ s.emb.queue.length) :=
  ⟨{ demo .firing [] with emb := { State.reset.emb with queue := List.replicate 4 ⟨0x30100, 0, none, false⟩ } }, 0x30100, 5, none, by decide, by decide, by decide, by decide⟩

theorem test_wit_EmberCommandsComplete_3 : ∃ (s : State) (w : EmbWrite) (l : List EmbWrite) , (s.up .emb = true) ∧ (s.emb.queue = w :: l) ∧ (w.bad = false) :=
  ⟨{ demo .firing [] with emb := { State.reset.emb with queue := [⟨0x30100, 7, none, false⟩] } }, ⟨0x30100, 7, none, false⟩, [], by decide, by decide, by decide⟩

theorem test_wit_EmberCommandsComplete_4 : ∃ (s : State) (w : EmbWrite) (l : List EmbWrite) , (s.up .emb = true) ∧ (s.emb.queue = w :: l) ∧ (w.bad = true) :=
  ⟨{ demo .firing [] with emb := { State.reset.emb with queue := [⟨EMB_RTC_TIME.adr, 0xFFFFFF, none, false⟩] } }, ⟨EMB_RTC_TIME.adr, 0xFFFFFF, none, false⟩, [], by decide, by decide, by decide⟩

theorem test_wit_EmberCommandsComplete_5 : ∃ (s : State), (s.ready .emb) :=
  ⟨demo .firing [], by decide⟩

theorem test_wit_EmberCommandsComplete_7 : ∃ (s : State), (s.periodDue = true) :=
  ⟨{ demo .banked [] with emb := { State.reset.emb with periodAt := some 0 } }, by decide⟩

theorem test_wit_EmberCommandsComplete_10 : ∃ (s : State) (on : BitVec 3), (s.up .emb = true) ∧ (s.emb.queue.length < 4) :=
  ⟨demo .firing [], 5, by decide, by decide⟩

theorem test_wit_EmberCommandsComplete_11 : ∃ (s : State) (mv : BitVec 16), (s.domUp .alwaysOn = true) ∧ (mv.toNat < 2000) ∧ (s.bit EMB_STAT.VBAT_LOW = false) :=
  ⟨demo .firing [], 1999, by decide, by decide, by decide⟩

theorem test_wit_EmberCommandsComplete_12 : ∃ (s : State) (mv : BitVec 16), (s.domUp .alwaysOn = true) ∧ (2100 ≤ mv.toNat) :=
  ⟨demo .firing [], 2100, by decide, by decide⟩

theorem test_wit_EndpointCommandsComplete_1 : ∃ (s : State) (t : State) (e : Nat), (s.ready .epc) ∧ (t = s.taken .epc 1) ∧ (e = t.fld EPC_CMD_ARG0.EPA) ∧ (t.epState e = stEmpty) ∧ (classOk (t.fld (EPC_STATE.CLASS e)) (t.reach e) (t.fld (EPC_REACH.PORT e)) (t.fld (EPC_REACH.ADDR e)) = true) ∧ (t.duplicate e (t.euiOf e) = false) ∧ (t.reachRefused e = false) :=
  ⟨((((demo .firing []).put (EPC_REACH.ADDR 0) 3).put (EPC_STATE.CLASS 0) 5).put (EPC_REACH.REACH 0) 2), _, _, by decide, rfl, rfl, by decide, by decide, by decide, by decide⟩

theorem test_wit_EndpointCommandsComplete_2 : ∃ (s : State) (t : State) (e : Nat), (s.ready .epc) ∧ (t = s.taken .epc 2) ∧ (e = t.fld EPC_CMD_ARG0.EPA) ∧ (t.epState e = stReserved ∨ t.epState e = stActive) :=
  ⟨((demo .firing []).put (EPC_STATE.STATE 0) 2), _, _, by decide, rfl, rfl, by decide⟩

theorem test_wit_EndpointCommandsComplete_3 : ∃ (s : State) (t : State) (e : Nat), (s.ready .epc) ∧ (t = s.taken .epc 3) ∧ (e = t.fld EPC_CMD_ARG0.EPA) ∧ (t.epState e = stSuspended) :=
  ⟨((demo .firing []).put (EPC_STATE.STATE 0) 3), _, _, by decide, rfl, rfl, by decide⟩

theorem test_wit_EndpointCommandsComplete_4 : ∃ (s : State) (t v w : State) (e : Nat), (s.ready .epc) ∧ (t = s.taken .epc 4) ∧ (e = t.fld EPC_CMD_ARG0.EPA) ∧ (t.epLive e = true) ∧ (t.isRadio e = false) ∧ (v = ((t.put (EPC_EUI_LO.EUI_LO e) (t.fld EPC_CMD_ARG1.EUI_LO + 2 ^ 32 * t.fld EPC_CMD_ARG2.EUI_HI)).put (EPC_EUI_HI.EUI_HI e)
      ((t.fld EPC_CMD_ARG1.EUI_LO + 2 ^ 32 * t.fld EPC_CMD_ARG2.EUI_HI) / 2 ^ 32)).clearReports e) ∧ (w = v.setRun { v.run e with baseline := true, mismatches := 0, energyAt := none, energyNt := none, heardAt := v.clk }) ∧ (w.isRadio e = false) :=
  ⟨(((demo .firing []).put (EPC_STATE.STATE 0) 2).put (EPC_REACH.REACH 0) 2), _, _, _, _, by decide, rfl, rfl, by decide, by decide, rfl, rfl, by decide⟩

theorem test_wit_EndpointCommandsComplete_5 : ∃ (s : State) (t : State) (e : Nat), (s.ready .epc) ∧ (t = s.taken .epc 5) ∧ (e = t.fld EPC_CMD_ARG0.EPA) ∧ (t.epLive e = true) :=
  ⟨((demo .firing []).put (EPC_STATE.STATE 0) 2), _, _, by decide, rfl, rfl, by decide⟩

theorem test_wit_EndpointCommandsComplete_6 : ∃ (s : State) (t : State) (e : Nat), (s.ready .epc) ∧ (t = s.taken .epc 6) ∧ (e = t.fld EPC_CMD_ARG0.EPA) ∧ (t.epLive e = true) :=
  ⟨((demo .firing []).put (EPC_STATE.STATE 0) 2), _, _, by decide, rfl, rfl, by decide⟩

theorem test_wit_JoiningCompletes_1 : ∃ (s : State) (ch : Fin 8) (eui : BitVec 64) (cls : BitVec 8) (nonce : List Byte), (s.up .epc = true) :=
  ⟨demo .firing [], 1, 5, 1, [], by decide⟩

theorem test_wit_JoiningCompletes_2 : ∃ (s : State) (ch : Fin 8) (eui : BitVec 64) (cls : BitVec 8) (nonce : List Byte) (n : Nat), (s.up .epc = true) ∧ (s.holder eui.toNat = some n) :=
  ⟨((((demo .firing []).put (EPC_STATE.STATE 7) 1).put (EPC_REACH.REACH 7) 1).put (EPC_EUI_LO.EUI_LO 7) 5), 1, 5, 1, [], 7, by decide, by decide⟩

theorem test_wit_JoiningCompletes_3 : ∃ (s : State) (ch : Fin 8) (eui : BitVec 64) (cls : BitVec 8) (nonce : List Byte), (s.up .epc = true) ∧ (s.holder eui.toNat = none) ∧ (s.bit EPC_JOIN_CTL.OPEN = true) ∧ (radioClass cls.toNat = true) :=
  ⟨((demo .firing []).put EPC_JOIN_CTL.OPEN 1), 1, 5, 1, [], by decide, by decide, by decide, by decide⟩

theorem test_wit_JoiningCompletes_4 : ∃ (s : State) (ch : Fin 8) (eui : BitVec 64) (cls : BitVec 8) (nonce : List Byte), (s.up .epc = true) ∧ (s.holder eui.toNat = none) ∧ (s.bit EPC_JOIN_CTL.OPEN = false) :=
  ⟨demo .firing [], 1, 5, 1, [], by decide, by decide, by decide⟩

theorem test_wit_JoiningCompletes_5 : ∃ (s : State) (epa : Fin 4096) (j : JoinPend), ((s.run epa.val).join = some j) ∧ (j.deadline ≤ s.clk) ∧ (s.up .epc = true) ∧ (s.standby = false) ∧ (j.kind = 3) :=
  ⟨(({ demo .firing [] with clk := 9, epc := { State.reset.epc with runs := [{ epa := 7, join := some { kind := 3, oldState := 2, oldGen := 1, deadline := 5 }, grp := none, cfg1 := none, cfg2 := none, resync := none, resyncLow := 0, tsn := 0, mismatches := 0, baseline := true, energyAt := none, energyNt := none, launchAt := none, launchFade := 0, heardAt := 0, replays := [], rekeyAt := none }] } } : State)), 7, { kind := 3, oldState := 2, oldGen := 1, deadline := 5 }, by decide, by decide, by decide, by decide, by decide⟩

theorem test_wit_JoiningCompletes_6 : ∃ (s : State) (epa : Fin 4096) (j : JoinPend), ((s.run epa.val).join = some j) ∧ (j.deadline ≤ s.clk) ∧ (s.up .epc = true) ∧ (s.standby = false) ∧ (j.kind ≠ 3) :=
  ⟨(({ demo .firing [] with clk := 9, epc := { State.reset.epc with runs := [{ epa := 7, join := some { kind := 4, oldState := 2, oldGen := 1, deadline := 5 }, grp := none, cfg1 := none, cfg2 := none, resync := none, resyncLow := 0, tsn := 0, mismatches := 0, baseline := true, energyAt := none, energyNt := none, launchAt := none, launchFade := 0, heardAt := 0, replays := [], rekeyAt := none }] } } : State)), 7, { kind := 4, oldState := 2, oldGen := 1, deadline := 5 }, by decide, by decide, by decide, by decide, by decide⟩

theorem test_wit_JoiningCompletes_7 : ∃ (s : State), (s.up .epc = true) ∧ (s.bit EPC_JOIN_CTL.OPEN = true) ∧ (s.epc.openAt + clampN 1 1440 (s.fld EPC_JOIN_CTL.OPEN_MIN) * 60 * secs ≤ s.clk) :=
  ⟨{ ((demo .firing []).put EPC_JOIN_CTL.OPEN 1) with clk := 86400 * secs }, by decide, by decide, by decide⟩

theorem test_wit_JoiningCompletes_8 : ∃ (s : State) (epa : Fin 4096) (a : Nat), ((s.run epa.val).rekeyAt = some a) ∧ (a ≤ s.clk) ∧ (s.up .epc = true) ∧ (s.mayCommand = true) :=
  ⟨(({ demo .firing [] with clk := 9, epc := { State.reset.epc with runs := [{ epa := 7, join := none, grp := none, cfg1 := none, cfg2 := none, resync := none, resyncLow := 0, tsn := 0, mismatches := 0, baseline := true, energyAt := none, energyNt := none, launchAt := none, launchFade := 0, heardAt := 0, replays := [], rekeyAt := some 3 }] } } : State)), 7, 3, by decide, by decide, by decide, by decide⟩

theorem test_wit_EndpointConfigurationCompletes_1 : ∃ (s : State) (epa : Fin 4096) (w : Fin 8) (val : Word) (t : State), (s.up .epc = true) ∧ (s.epState epa.val ≠ stUnavailable) ∧ (t = s.put (EPC_GRP.MEMBER epa.val w.val) val.toNat) ∧ ((t.epLive epa.val && t.isRadio epa.val) = false) :=
  ⟨demo .firing [], 3, 2, 5, _, by decide, by decide, rfl, by decide⟩

theorem test_wit_EndpointConfigurationCompletes_2 : ∃ (s : State) (epa : Fin 4096) (w : Fin 8) (val : Word) (t : State), (s.up .epc = true) ∧ (s.epState epa.val ≠ stUnavailable) ∧ (s.fld (EPC_GRP.MEMBER epa.val w.val) ≠ val.toNat) ∧ (t = s.put (EPC_GRP.MEMBER epa.val w.val) val.toNat) ∧ ((t.epLive epa.val && t.isRadio epa.val) = true) :=
  ⟨(((demo .firing []).put (EPC_STATE.STATE 7) 2).put (EPC_REACH.REACH 7) 1), 7, 2, 5, _, by decide, by decide, by decide, rfl, by decide⟩

theorem test_wit_EndpointConfigurationCompletes_3 : ∃ (s : State) (epa : Fin 4096) (a : AckWait), ((s.run epa.val).grp = some a) ∧ (s.up .swc = true) ∧ (s.mayCommand = true) ∧ (s.bit (EPC_RPT_FLAGS.GRP_PENDING epa.val) = true) ∧ (a.at_ + 30 * secs ≤ s.clk) :=
  ⟨(({ ((demo .firing []).put (EPC_RPT_FLAGS.GRP_PENDING 7) 1) with clk := 60 * secs, epc := { State.reset.epc with runs := [{ epa := 7, join := none, grp := some { tsn := 1, at_ := 0 }, cfg1 := none, cfg2 := none, resync := none, resyncLow := 0, tsn := 0, mismatches := 0, baseline := true, energyAt := none, energyNt := none, launchAt := none, launchFade := 0, heardAt := 0, replays := [], rekeyAt := none }] } } : State)), 7, { tsn := 1, at_ := 0 }, by decide, by decide, by decide, by decide, by decide⟩

theorem test_wit_EndpointConfigurationCompletes_4 : ∃ (s : State) (epa : Fin 4096) (typ : BitVec 8) (tsn : BitVec 8) (l : LinkInfo), (s.ingests epa.val = true) :=
  ⟨((demo .firing []).put (EPC_STATE.STATE 7) 2), 7, 9, 1, { rssi := -50, lqi := 9, ch := 1 }, by decide⟩

theorem test_wit_EndpointConfigurationCompletes_5 : ∃ (s : State) (epa : Fin 4096) (val : Word) (t : State), (s.up .epc = true) ∧ (s.epState epa.val ≠ stUnavailable) ∧ (t = s.wr (EPC_REPORT_CFG.adr epa.val) val.toNat) ∧ ((t.epLive epa.val && t.isRadio epa.val && t.bit (EPC_SEC.JOINED epa.val)) = false) :=
  ⟨demo .firing [], 3, 5, _, by decide, by decide, rfl, by decide⟩

theorem test_wit_EndpointConfigurationCompletes_6 : ∃ (s : State) (epa : Fin 4096) (val : Word) (t : State), (s.up .epc = true) ∧ (s.epState epa.val ≠ stUnavailable) ∧ (t = s.wr (EPC_REPORT_CFG.adr epa.val) val.toNat) ∧ ((t.epLive epa.val && t.isRadio epa.val && t.bit (EPC_SEC.JOINED epa.val)) = true) :=
  ⟨((((demo .firing []).put (EPC_STATE.STATE 7) 2).put (EPC_REACH.REACH 7) 1).put (EPC_SEC.JOINED 7) 1), 7, 5, _, by decide, by decide, rfl, by decide⟩

theorem test_wit_EndpointConfigurationCompletes_7 : ∃ (s : State) (epa : Fin 4096) (param : BitVec 8) (a : AckWait), ((if param.toNat = 1 then (s.run epa.val).cfg1 else (s.run epa.val).cfg2) = some a) ∧ (s.up .swc = true) ∧ (s.mayCommand = true) ∧ (a.at_ + 30 * secs ≤ s.clk) :=
  ⟨(({ demo .firing [] with clk := 60 * secs, epc := { State.reset.epc with runs := [{ epa := 7, join := none, grp := none, cfg1 := some { tsn := 1, at_ := 0 }, cfg2 := none, resync := none, resyncLow := 0, tsn := 0, mismatches := 0, baseline := true, energyAt := none, energyNt := none, launchAt := none, launchFade := 0, heardAt := 0, replays := [], rekeyAt := none }] } } : State)), 7, 1, { tsn := 1, at_ := 0 }, by decide, by decide, by decide, by decide⟩

theorem test_wit_EndpointConfigurationCompletes_8 : ∃ (s : State) (epa : Fin 4096) (a : AckWait), ((s.run epa.val).resync = some a) ∧ (s.up .swc = true) ∧ (s.mayCommand = true) ∧ (s.bit (EPC_RPT_FLAGS.RESYNC epa.val) = true) ∧ (a.at_ + 30 * secs ≤ s.clk) :=
  ⟨(({ ((demo .firing []).put (EPC_RPT_FLAGS.RESYNC 7) 1) with clk := 60 * secs, epc := { State.reset.epc with runs := [{ epa := 7, join := none, grp := none, cfg1 := none, cfg2 := none, resync := some { tsn := 1, at_ := 0 }, resyncLow := 0, tsn := 0, mismatches := 0, baseline := true, energyAt := none, energyNt := none, launchAt := none, launchFade := 0, heardAt := 0, replays := [], rekeyAt := none }] } } : State)), 7, { tsn := 1, at_ := 0 }, by decide, by decide, by decide, by decide, by decide⟩

theorem test_wit_EndpointReportsComplete_1 : ∃ (s : State) (epa : Fin 4096) (m : StatusMsg) (l : LinkInfo), (s.ingests epa.val = true) :=
  ⟨((demo .firing []).put (EPC_STATE.STATE 7) 2), 7, { level := 1, cct := 2, flags := 0, temp := 3, supply := 4 }, { rssi := -50, lqi := 9, ch := 1 }, by decide⟩

theorem test_wit_EndpointReportsComplete_2 : ∃ (s : State) (epa : Fin 4096) (epoch : BitVec 8) (cum : BitVec 32) (power : BitVec 16) (l : LinkInfo), (s.ingests epa.val = true) :=
  ⟨((demo .firing []).put (EPC_STATE.STATE 7) 2), 7, 1, 100, 5, { rssi := -50, lqi := 9, ch := 1 }, by decide⟩

theorem test_wit_EndpointReportsComplete_3 : ∃ (s : State) (epa : Fin 4096) (code raised : BitVec 8) (detail : BitVec 32) (l : LinkInfo), (s.ingests epa.val = true) ∧ (raised = 1) :=
  ⟨((demo .firing []).put (EPC_STATE.STATE 7) 2), 7, 2, 1, 5, { rssi := -50, lqi := 9, ch := 1 }, by decide, by decide⟩

theorem test_wit_EndpointReportsComplete_4 : ∃ (s : State) (epa : Fin 4096) (code raised : BitVec 8) (detail : BitVec 32) (l : LinkInfo), (s.ingests epa.val = true) ∧ (raised = 0) :=
  ⟨((demo .firing []).put (EPC_STATE.STATE 7) 2), 7, 2, 0, 5, { rssi := -50, lqi := 9, ch := 1 }, by decide, by decide⟩

theorem test_wit_EndpointReportsComplete_5 : ∃ (s : State) (epa : Fin 4096) (cls heading speed conf count age : BitVec 8) (tEnd : Nat) (l : LinkInfo), (s.ingests epa.val = true) ∧ ((s.linkUpdate epa.val l).up .lfe = true) :=
  ⟨((demo .firing []).put (EPC_STATE.STATE 7) 2), 7, 1, 2, 3, 4, 5, 6, 7, { rssi := -50, lqi := 9, ch := 1 }, by decide, by decide⟩

theorem test_wit_EndpointReportsComplete_6 : ∃ (s : State) (epa : Fin 4096) (fw : BitVec 32) (model : BitVec 64) (hours : BitVec 32) (l : LinkInfo), (s.ingests epa.val = true) :=
  ⟨((demo .firing []).put (EPC_STATE.STATE 7) 2), 7, 1, 2, 3, { rssi := -50, lqi := 9, ch := 1 }, by decide⟩

theorem test_wit_EndpointReportsComplete_7 : ∃ (s : State), (s.up .epc = true) ∧ (s.standby = false) :=
  ⟨demo .firing [], by decide, by decide⟩

theorem test_wit_EndpointReportsComplete_8 : ∃ (s : State) (off : BitVec 26) (bad : Nat) (t : State), (s.up .epc = true) ∧ (0x100000 ≤ off.toNat) ∧ (off.toNat < 0x300000) ∧ (off.toNat % 4 = 0) ∧ (t = s.withHlt fun h => { h with ecc := (h.ecc.filter fun x => s.clk < x.2 + 86400 * secs) ++ [((off.toNat - 0x100000) / 0x200 / 256, s.clk)] }) ∧ (t.hlt.ecc.countP (·.1 == (off.toNat - 0x100000) / 0x200 / 256) < 8) :=
  ⟨demo .firing [], 0x100204, 0, _, by decide, by decide, by decide, by decide, rfl, by decide⟩

theorem test_wit_SchedulesAndFieldComplete_1 : ∃ (s : State) (late : Bool), (s.up .sch = true) ∧ (s.pwr.mode ≠ .kindling) ∧ (s.sch.lastSec ≠ some s.ntSec) ∧ (s.bit SCH_CTL.HOLD = true) :=
  ⟨((demo .firing []).put SCH_CTL.HOLD 1), false, by decide, by decide, by decide, by decide⟩

theorem test_wit_SchedulesAndFieldComplete_2 : ∃ (s : State) (late : Bool), (s.up .sch = true) ∧ (s.pwr.mode ≠ .kindling) ∧ (s.sch.lastSec ≠ some s.ntSec) ∧ (s.bit SCH_CTL.HOLD = false) :=
  ⟨demo .firing [], true, by decide, by decide, by decide, by decide⟩

theorem test_wit_SchedulesAndFieldComplete_3 : ∃ (s : State), (s.ready .sch) ∧ ((s.taken .sch 1).cf SCH_SOLAR_CTL.HOST ≠ 1) ∧ ((s.taken .sch 1).localValid = true) :=
  ⟨({ ((demo .firing []).put NTU_STAT.VALID 1) with ntu := { State.reset.ntu with tb := 2 ^ 77 } } : State), by decide, by decide, by decide⟩

theorem test_wit_SchedulesAndFieldComplete_4 : ∃ (s : State) (d : Fin 3) (evs : List (Option Nat)), (s.up .sch = true) ∧ (s.cf SCH_SOLAR_CTL.HOST ≠ 1) :=
  ⟨demo .firing [], 1, [], by decide, by decide⟩

theorem test_wit_SchedulesAndFieldComplete_5 : ∃ (s : State) (a : Nat), (s.sch.holdAt = some a) ∧ (s.up .sch = true) ∧ (s.bit SCH_CTL.HOLD = true) ∧ (a + 10 * secs ≤ s.clk) :=
  ⟨({ ((demo .firing []).put SCH_CTL.HOLD 1) with clk := 11 * secs, sch := { State.reset.sch with holdAt := some 0 } } : State), 0, by decide, by decide, by decide, by decide⟩

theorem test_wit_SchedulesAndFieldComplete_6 : ∃ (s : State), (s.up .lfe = true) ∧ (s.bit LFE_CTL.EN = true) ∧ (s.lfe.ticked = false ∨ s.lfe.lastTick < s.nt / s.tickNs * s.tickNs) :=
  ⟨({ ((demo .firing []).put LFE_CTL.EN 1) with ntu := { State.reset.ntu with tb := 2 ^ 60 } } : State), by decide, by decide, by decide⟩

theorem test_wit_SchedulesAndFieldComplete_7 : ∃ (s : State) (o : TickOpen), (s.up .lfe = true) ∧ (s.bit LFE_CTL.EN = true) ∧ (s.lfe.ticked = true) ∧ (s.nt / s.tickNs * s.tickNs ≤ s.lfe.lastTick) ∧ (s.lfe.opened = some o) ∧ (o.at_ + 150000 ≤ s.nt) :=
  ⟨({ ((demo .firing []).put LFE_CTL.EN 1) with ntu := { State.reset.ntu with tb := 150000 * 65536 }, lfe := { State.reset.lfe with ticked := true, opened := some ⟨0, [], [], []⟩ } } : State), ⟨0, [], [], []⟩, by decide, by decide, by decide, by decide, by decide, by decide⟩

theorem test_wit_SchedulesAndFieldComplete_8 : ∃ (s : State) (r : DetRec), (s.up .lfe = true) :=
  ⟨demo .firing [], ⟨1, 2, 3, 4, 5, 6, 7, 8, false⟩, by decide⟩

theorem test_wit_SchedulesAndFieldComplete_9 : ∃ (s : State), (s.up .lfe = true) ∧ (s.bit LFE_CTL.EN = true) :=
  ⟨((demo .firing []).put LFE_CTL.EN 1), by decide, by decide⟩

theorem test_wit_SchedulesAndFieldComplete_10 : ∃ (s : State) (epa : Fin 4096), (s.up .lfe = true) ∧ (s.bit LFE_CTL.EN = true) ∧ (s.onUntil epa.val ≤ s.nt / s.tickNs * s.tickNs) ∧ (s.bit LFE_STAT.NO_LANES = false) :=
  ⟨((demo .firing []).put LFE_CTL.EN 1), 3, by decide, by decide, by decide, by decide⟩

theorem test_wit_SchedulesAndFieldComplete_11 : ∃ (s : State) (t : State), (s.ready .lfe) ∧ (t = s.taken .lfe 1) ∧ (t.intakeOpen = true) ∧ (t.pwr.mode ≠ .soak) ∧ (t.intakeFull t.injectRec = false) :=
  ⟨((((demo .firing []).put LFE_CTL.EN 1).put LFE_CTL.PROP_EN 1).put NTU_STAT.VALID 1), _, by decide, rfl, by decide, by decide, by decide⟩

theorem test_wit_SchedulesAndFieldComplete_12 : ∃ (s : State), (s.ready .lfe) ∧ ((s.taken .lfe 2).bit LFE_CTL.EN = true) :=
  ⟨((demo .firing []).put LFE_CTL.EN 1), by decide, by decide⟩

theorem test_wit_SchedulesAndFieldComplete_13 : ∃ (s : State), (s.ready .lfe) ∧ ((s.taken .lfe 2).bit LFE_CTL.EN = false) :=
  ⟨demo .firing [], by decide, by decide⟩

theorem test_wit_SchedulesAndFieldComplete_14 : ∃ (s : State) (en : Bool) (prop : Bool), (s.up .lfe = true) :=
  ⟨demo .firing [], true, true, by decide⟩

theorem test_wit_TransitionCommandsComplete_1 : ∃ (s : State) (t : State), (s.ready .trn) ∧ (t = s.taken .trn 1) ∧ (t.fld TRN_CMD_ARG.INDEX < 64) ∧ (t.ntValid = true) ∧ (t.pwr.mode ≠ .service) ∧ (t.slotFree (t.fld TRN_CMD_ARG.INDEX) = true) ∧ (t.armArgOk (t.fld TRN_CMD_ARG.INDEX) = true) :=
  ⟨(((((demo .firing []).put NTU_STAT.VALID 1).put (TRN_SLOT_T_SEC_LO.SEC_LO 0) 10).put (TRN_SLOT_ARM.LEAD_S 0) 5).put (TRN_SLOT_CTL.SCOPE 0) 2), _, by decide, rfl, by decide, by decide, by decide, by decide, by decide⟩

theorem test_wit_TransitionCommandsComplete_2 : ∃ (s : State) (t : State), (s.ready .trn) ∧ (t = s.taken .trn 2) ∧ (t.fld TRN_CMD_ARG.INDEX < 64) ∧ (t.slotState (t.fld TRN_CMD_ARG.INDEX) = 1) :=
  ⟨((demo .firing []).put (TRN_SLOT_CTL.STATE 0) 1), _, by decide, rfl, by decide, by decide⟩

theorem test_wit_TransitionCommandsComplete_3 : ∃ (s : State) (t : State), (s.ready .trn) ∧ (t = s.taken .trn 3) ∧ (t.fld TRN_CMD_ARG.INDEX < 64) ∧ (t.slotState (t.fld TRN_CMD_ARG.INDEX) = 3) :=
  ⟨((demo .firing []).put (TRN_SLOT_CTL.STATE 0) 3), _, by decide, rfl, by decide, by decide⟩

theorem test_wit_TransitionCommandsComplete_4 : ∃ (s : State) (t : State), (s.ready .trn) ∧ (t = s.taken .trn 4) ∧ (t.patOk (t.fld TRN_CMD_ARG.INDEX) = true) ∧ (t.bit TRN_CMD_ARG.AT = false) :=
  ⟨((((demo .firing []).put (TRN_PAT_CTL.TYPE 0) 1).put (TRN_PAT_CTL.SCOPE 0) 2).put (TRN_PAT_TIME.PERIOD 0) 100), _, by decide, rfl, by decide, by decide⟩

theorem test_wit_TransitionCommandsComplete_5 : ∃ (s : State) (t : State), (s.ready .trn) ∧ (t = s.taken .trn 4) ∧ (t.patOk (t.fld TRN_CMD_ARG.INDEX) = true) ∧ (t.bit TRN_CMD_ARG.AT = true) ∧ (t.nt ≤ t.trnCmdT) ∧ (t.trnCmdT ≤ t.nt + 549000000000) :=
  ⟨(((((demo .firing []).put TRN_CMD_ARG.AT 1).put (TRN_PAT_CTL.TYPE 0) 1).put (TRN_PAT_CTL.SCOPE 0) 2).put (TRN_PAT_TIME.PERIOD 0) 100), _, by decide, rfl, by decide, by decide, by decide, by decide⟩

theorem test_wit_TransitionCommandsComplete_6 : ∃ (s : State) (t : State), (s.ready .trn) ∧ (t = s.taken .trn 5) ∧ (t.fld TRN_CMD_ARG.INDEX < 32) :=
  ⟨demo .firing [], _, by decide, rfl, by decide⟩

theorem test_wit_TransitionEventsComplete_1 : ∃ (s : State) (n : Fin 64) (d : List Nat), (s.up .trn = true) ∧ (s.mayCommand = true) ∧ (s.slotState n.val = 1) ∧ (d = (List.range s.armRepeat).filter fun k => (s.slotRun n.val).round ≤ k && s.roundAt n.val k ≤ s.nt) ∧ (d ≠ []) :=
  ⟨((demo .firing []).put (TRN_SLOT_CTL.STATE 0) 1), 0, _, by decide, by decide, by decide, rfl, by decide⟩

theorem test_wit_TransitionEventsComplete_2 : ∃ (s : State) (n : Fin 64), (s.up .trn = true) ∧ (s.mayCommand = true) ∧ (s.slotState n.val = 1) ∧ (s.commitAt n.val ≤ s.nt) ∧ (s.nt < s.slotT n.val) ∧ (s.pwr.mode ≠ .service) :=
  ⟨(((demo .firing []).put (TRN_SLOT_CTL.STATE 0) 1).put (TRN_SLOT_T_NS.NS 0) 1000), 0, by decide, by decide, by decide, by decide, by decide, by decide⟩

theorem test_wit_TransitionEventsComplete_3 : ∃ (s : State) (n : Fin 64), (s.up .trn = true) ∧ (s.mayCommand = true) ∧ (s.slotState n.val = 1) ∧ (s.commitAt n.val ≤ s.nt) ∧ (s.nt < s.slotT n.val) ∧ (s.pwr.mode = .service) :=
  ⟨(((demo .service []).put (TRN_SLOT_CTL.STATE 0) 1).put (TRN_SLOT_T_NS.NS 0) 1000), 0, by decide, by decide, by decide, by decide, by decide, by decide⟩

theorem test_wit_TransitionEventsComplete_4 : ∃ (s : State) (n : Fin 64), (s.up .trn = true) ∧ (s.mayCommand = true) ∧ (s.slotState n.val = 2) ∧ (s.slotT n.val ≤ s.nt) :=
  ⟨((demo .firing []).put (TRN_SLOT_CTL.STATE 0) 2), 0, by decide, by decide, by decide, by decide⟩

theorem test_wit_TransitionEventsComplete_5 : ∃ (s : State) (n : Fin 64), (s.up .trn = true) ∧ (s.mayCommand = true) ∧ (s.slotState n.val = 3) ∧ (s.fld (TRN_SLOT_FADE.HOLD_S n.val) ≠ 0) ∧ (s.slotT n.val + s.fld (TRN_SLOT_FADE.HOLD_S n.val) * 1000000000 ≤ s.nt) :=
  ⟨({ (((demo .firing []).put (TRN_SLOT_CTL.STATE 0) 3).put (TRN_SLOT_FADE.HOLD_S 0) 1) with ntu := { State.reset.ntu with tb := 2 ^ 60 } } : State), 0, by decide, by decide, by decide, by decide, by decide⟩

theorem test_wit_TransitionEventsComplete_6 : ∃ (s : State) (e : Fin 32) (r : PatRun), (s.up .trn = true) ∧ (s.mayCommand = true) ∧ (s.trn.pats.find? (fun r => r.engine == e.val) = some r) ∧ (s.patOver r (s.nt / s.tickNs * s.tickNs) = true) :=
  ⟨({ ((demo .firing []).put (TRN_PAT_SHAPE.COUNT 3) 1) with trn := { State.reset.trn with pats := [{ engine := 3, start := 0, emerg := false, stop := false }] }, ntu := { State.reset.ntu with tb := 2 ^ 60 } } : State), 3, { engine := 3, start := 0, emerg := false, stop := false }, by decide, by decide, by decide, by decide⟩

theorem test_wit_TransitionEventsComplete_7 : ∃ (s : State) (e : Fin 32) (c : Chase), (s.up .drv = true) ∧ (s.drives = true) ∧ (s.drv.chases.find? (fun c => c.engine == e.val) = some c) ∧ (c.edge c.k ≤ s.nt) ∧ (s.pwr.mode ≠ .service) :=
  ⟨({ demo .firing [] with drv := { State.reset.drv with chases := [{ engine := 3, start := 0, k := 0, chase := true, period := 1000, duty := 0, width := 1, high := 9, low := 0, cctHigh := 0, cctLow := 0, units := [], out := [], live := false }] } } : State), 3, { engine := 3, start := 0, k := 0, chase := true, period := 1000, duty := 0, width := 1, high := 9, low := 0, cctHigh := 0, cctLow := 0, units := [], out := [], live := false }, by decide, by decide, by decide, by decide, by decide⟩

theorem test_wit_TransitionEventsComplete_8 : ∃ (s : State) (e : Fin 32) (c : Chase), (s.up .drv = true) ∧ (s.drives = true) ∧ (s.drv.chases.find? (fun c => c.engine == e.val) = some c) ∧ (c.edge c.k ≤ s.nt) ∧ (s.pwr.mode = .service) :=
  ⟨({ demo .service [] with drv := { State.reset.drv with chases := [{ engine := 3, start := 0, k := 0, chase := true, period := 1000, duty := 0, width := 1, high := 9, low := 0, cctHigh := 0, cctLow := 0, units := [], out := [], live := false }] } } : State), 3, { engine := 3, start := 0, k := 0, chase := true, period := 1000, duty := 0, width := 1, high := 9, low := 0, cctHigh := 0, cctLow := 0, units := [], out := [], live := false }, by decide, by decide, by decide, by decide, by decide⟩

theorem test_wit_DriveOutputsComplete_1 : ∃ (s : State), (s.up .drv = true) ∧ (s.drives = true) :=
  ⟨demo .firing [], by decide, by decide⟩

theorem test_wit_DriveOutputsComplete_2 : ∃ (s : State) (u : Fin 92) (l : Load), (s.up .drv = true) ∧ (s.drives = true) ∧ (s.drv.loads.find? (fun l => l.unit == u.val && l.at_ ≤ s.nt) = some l) :=
  ⟨({ demo .firing [] with drv := { State.reset.drv with loads := [{ unit := 3, at_ := 0, level := 9, cct := 0, fade := 0, slot := 1 }] } } : State), 3, { unit := 3, at_ := 0, level := 9, cct := 0, fade := 0, slot := 1 }, by decide, by decide, by decide⟩

theorem test_wit_DriveOutputsComplete_3 : ∃ (s : State) (u : Fin 92) (at_ : Nat), (s.up .drv = true) ∧ (s.drives = true) ∧ (s.drv.loads.find? (fun l => l.unit == u.val && l.at_ ≤ s.nt) = none) ∧ ((s.unit u.val).nextTimed = some at_) ∧ (at_ ≤ s.nt) :=
  ⟨({ demo .firing [] with drv := { State.reset.drv with units := List.replicate 92 ⟨0, 0, some ⟨0, 10, 5, 0⟩, none, some 0, none, true⟩ }, ntu := { State.reset.ntu with tb := 2 ^ 60 } } : State), 3, 1000000, by decide, by decide, by decide, by decide, by decide⟩

theorem test_wit_DriveOutputsComplete_4 : ∃ (s : State) (n : Fin 64), (s.up .drv = true) ∧ (s.drives = true) ∧ ((s.chRun n.val).pEnd ≤ s.clk) :=
  ⟨demo .firing [], 3, by decide, by decide, by decide⟩

theorem test_wit_DriveOutputsComplete_5 : ∃ (s : State) (n : Fin 64) (sense : BitVec 12) (vo : BitVec 24), (s.up .drv = true) ∧ (s.gating n.val = true) :=
  ⟨((demo .firing []).put (DRV_CH_STAT.STATE 3) 3), 3, 5, 9, by decide, by decide⟩

theorem test_wit_DriveOutputsComplete_6 : ∃ (s : State) (k : Fin 16), (s.up .drv = true) ∧ (s.bit (DRV_SET_CFG.EN k.val) = true) :=
  ⟨((demo .firing []).put (DRV_SET_CFG.EN 3) 1), 3, by decide, by decide⟩

theorem test_wit_DriveOutputsComplete_7 : ∃ (s : State) (n : Fin 64), (s.up .drv = true) :=
  ⟨demo .firing [], 3, by decide⟩

theorem test_wit_DriveOutputsComplete_8 : ∃ (s : State) (n : Fin 64), (s.up .drv = true) ∧ (s.bit (DRV_CH_CTL.EN n.val) = false) ∧ (s.chOk n.val = true) ∧ (s.standby = false) :=
  ⟨(((demo .firing []).put (DRV_CH_ISET.ISET_MA 3) 100).put (DRV_CH_ISET.RSENSE_MOHM 3) 100), 3, by decide, by decide, by decide, by decide⟩

theorem test_wit_DriveOutputsComplete_9 : ∃ (s : State) (n : Fin 64), (s.up .drv = true) ∧ (s.bit (DRV_CH_CTL.EN n.val) = false) ∧ (s.chOk n.val = false) :=
  ⟨((demo .firing []).put (DRV_CH_ISET.ISET_MA 3) 0), 3, by decide, by decide, by decide⟩

theorem test_wit_DriveOutputsComplete_10 : ∃ (s : State) (k : Fin 16), (s.up .drv = true) :=
  ⟨demo .firing [], 3, by decide⟩

theorem test_wit_DriveOutputsComplete_11 : ∃ (s : State) (k : Fin 16), (s.up .drv = true) ∧ (s.bit (DRV_SET_CFG.EN k.val) = false) ∧ (s.setOk k.val = true) :=
  ⟨((demo .firing []).put (DRV_SET_COL.CCT 3 0) 2000), 3, by decide, by decide, by decide⟩

theorem test_wit_DriveOutputsComplete_12 : ∃ (s : State) (k : Fin 16), (s.up .drv = true) ∧ (s.bit (DRV_SET_CFG.EN k.val) = false) ∧ (s.setOk k.val = false) :=
  ⟨demo .firing [], 3, by decide, by decide, by decide⟩

theorem test_wit_DriveFaultsComplete_1 : ∃ (s : State) (n : Fin 64), (s.up .drv = true) ∧ (s.chState n.val = 2) ∧ ((s.chRun n.val).rampAt + s.ssTime n.val ≤ s.clk) :=
  ⟨({ ((demo .firing []).put (DRV_CH_STAT.STATE 3) 2) with clk := 2 ^ 50 } : State), 3, by decide, by decide, by decide⟩

theorem test_wit_DriveFaultsComplete_2 : ∃ (s : State) (n : Fin 64), (s.up .drv = true) ∧ (s.bit (DRV_CH_STAT.IN_INRUSH n.val) = true) ∧ ((s.chRun n.val).inrushAt + s.inrushTime n.val ≤ s.clk) :=
  ⟨({ ((demo .firing []).put (DRV_CH_STAT.IN_INRUSH 3) 1) with clk := 2 ^ 50 } : State), 3, by decide, by decide, by decide⟩

theorem test_wit_DriveFaultsComplete_3 : ∃ (s : State) (n : Fin 64) (sense : Nat), (s.up .drv = true) ∧ (s.sees n.val 1 = true) ∧ (s.tripAt n.val < sense) :=
  ⟨((demo .firing []).put (DRV_CH_STAT.STATE 3) 3), 3, 0xFFFF, by decide, by decide, by decide⟩

theorem test_wit_DriveFaultsComplete_4 : ∃ (s : State) (n : Fin 64) (vo us : Nat), (s.up .drv = true) ∧ (s.sees n.val 2 = true) ∧ (s.chState n.val ≠ 2) ∧ (s.inWindow n.val = false) ∧ (vo < s.cf (DRV_CH_VTH.SHORT_MV n.val)) ∧ (max 1 (s.cf (DRV_CH_VTIME.SHORT_10US n.val)) * 10 ≤ us) :=
  ⟨(((demo .firing []).put (DRV_CH_STAT.STATE 3) 3).put (DRV_CH_VTH.SHORT_MV 3) 100), 3, 5, 0xFFFFFFFF, by decide, by decide, by decide, by decide, by decide, by decide⟩

theorem test_wit_DriveFaultsComplete_5 : ∃ (s : State) (n : Fin 64) (vo us : Nat), (s.up .drv = true) ∧ (s.sees n.val 3 = true) ∧ (s.cf (DRV_CH_VTH.OPEN_MV n.val) < vo) ∧ (max 1 (s.cf (DRV_CH_VTIME.OPEN_US n.val)) ≤ us) :=
  ⟨(((demo .firing []).put (DRV_CH_STAT.STATE 3) 3).put (DRV_CH_VTH.OPEN_MV 3) 100), 3, 0xFFFF, 0xFFFFFFFF, by decide, by decide, by decide, by decide⟩

theorem test_wit_DriveFaultsComplete_6 : ∃ (s : State) (n : Fin 64) (vo : Nat), (s.up .drv = true) ∧ (s.sees n.val 4 = true) ∧ (s.inWindow n.val = true) ∧ (vo < s.cf (DRV_CH_VTH.SHORT_MV n.val)) ∧ ((s.chRun n.val).rampAt + clampN 1 50 (s.cf (DRV_CH_VTIME.SS_SHORT_MS n.val)) * msec ≤ s.clk) :=
  ⟨({ ((((demo .firing []).put (DRV_CH_STAT.STATE 3) 2).put (DRV_CH_STAT.IN_INRUSH 3) 1).put (DRV_CH_VTH.SHORT_MV 3) 100) with clk := 2 ^ 50 } : State), 3, 5, by decide, by decide, by decide, by decide, by decide⟩

theorem test_wit_DriveFaultsComplete_7 : ∃ (s : State) (g : Fin 8) (us : Nat) (latch : Bool), (s.up .drv = true) ∧ (s.groupLimit g.val < s.groupMa g.val) ∧ (clampN 10 10000 (s.cf (DRV_GRP_LIMIT.GOC_US g.val)) ≤ us) ∧ (latch = decide (s.cf (DRV_GRP_CTL.HICCUP_N g.val) ≤ s.fld (DRV_GRP_STAT.RETRIES g.val))) :=
  ⟨((((demo .firing []).put (DRV_CH_STAT.STATE 3) 3).put (DRV_CH_MEAS.I_MA 3) 3000).put (DRV_GRP_LIMIT.LIMIT_MA 0) 100), 0, 0xFFFFFFFF, _, by decide, by decide, by decide, rfl⟩

theorem test_wit_DriveFaultsComplete_8 : ∃ (s : State) (g : Fin 8) (vdrv : BitVec 14), (s.up .drv = true) ∧ (vdrv.toNat < s.cf (DRV_GRP_UV.UV_10MV g.val)) :=
  ⟨((demo .firing []).put (DRV_GRP_UV.UV_10MV 3) 200), 3, 100, by decide, by decide⟩

theorem test_wit_DriveFaultsComplete_9 : ∃ (s : State) (g : Fin 8) (vdrv : BitVec 14), (s.up .drv = true) ∧ ((s.grpRun g.val).uv = true) ∧ (s.cf (DRV_GRP_UV.UV_10MV g.val) + s.cf (DRV_GRP_UV.HYST_10MV g.val) ≤ vdrv.toNat) :=
  ⟨({ demo .firing [] with drv := { State.reset.drv with grps := List.replicate 8 ⟨true, 0, 0⟩ } } : State), 3, 16383, by decide, by decide, by decide⟩

theorem test_wit_DriveFaultsComplete_10 : ∃ (s : State) (n : Fin 64), (s.up .drv = true) ∧ (s.retryDue n.val = true) ∧ (s.fld (DRV_CH_OUT.D n.val) ≠ 0) :=
  ⟨({ (((demo .firing []).put (DRV_CH_STAT.STATE 3) 4).put (DRV_CH_OUT.D 3) 5) with clk := 2 ^ 50 } : State), 3, by decide, by decide, by decide⟩

theorem test_wit_DriveFaultsComplete_11 : ∃ (s : State) (n : Fin 64), (s.up .drv = true) ∧ (s.chState n.val = 3) ∧ ((s.chRun n.val).runAt + 60 * secs ≤ s.clk) :=
  ⟨({ ((demo .firing []).put (DRV_CH_STAT.STATE 3) 3) with clk := 2 ^ 50 } : State), 3, by decide, by decide, by decide⟩

theorem test_wit_DriveFaultsComplete_12 : ∃ (s : State) (g : Fin 8), (s.up .drv = true) ∧ (s.fld (DRV_GRP_STAT.STATE g.val) = 2) ∧ ((s.grpRun g.val).ocAt + s.hiccupTime g.val ≤ s.clk) ∧ ((s.grpRun g.val).uv = false) :=
  ⟨({ ((demo .firing []).put (DRV_GRP_STAT.STATE 3) 2) with clk := 2 ^ 50 } : State), 3, by decide, by decide, by decide, by decide⟩

theorem test_wit_DriveServicesComplete_1 : ∃ (s : State) (visits : List PadProbe), (s.up .drv = true) ∧ (s.drv.scanDue = true) :=
  ⟨({ demo .firing [] with drv := { State.reset.drv with scanDue := true } } : State), [], by decide, by decide⟩

theorem test_wit_DriveServicesComplete_2 : ∃ (s : State) (visits : List PadProbe), (s.up .drv = true) ∧ (s.drv.scanDue = false) ∧ (s.bit DRV_SCAN_CTL.EN = true) ∧ (s.drv.scanAt + clampN 1 1000 (s.fld DRV_SCAN_CTL.MS) * msec ≤ s.clk) :=
  ⟨({ ((demo .firing []).put DRV_SCAN_CTL.EN 1) with clk := 2 ^ 50 } : State), [], by decide, by decide, by decide, by decide⟩

theorem test_wit_DriveServicesComplete_3 : ∃ (s : State) (t : State) (visits : List PadProbe), (s.ready .drv) ∧ (t = s.taken .drv 2) :=
  ⟨demo .firing [], _, [], by decide, rfl⟩

theorem test_wit_DriveServicesComplete_4 : ∃ (s : State) (t : State), (s.ready .drv) ∧ (t = s.taken .drv 1) ∧ (t.bit DRV_CMD_ARG.GROUP = false) :=
  ⟨demo .firing [], _, by decide, rfl, by decide⟩

theorem test_wit_DriveServicesComplete_5 : ∃ (s : State) (t : State) (g : Nat) (u : State), (s.ready .drv) ∧ (t = s.taken .drv 1) ∧ (t.bit DRV_CMD_ARG.GROUP = true) ∧ (g = t.fld DRV_CMD_ARG.INDEX) ∧ (g < 8) ∧ (u = ((List.range 8).map fun k => 8 * g + k).foldl State.clearCh t) :=
  ⟨((demo .firing []).put DRV_CMD_ARG.GROUP 1), _, _, _, by decide, rfl, by decide, rfl, by decide, rfl⟩

theorem test_wit_DriveServicesComplete_6 : ∃ (s : State), (s.up .drv = true) :=
  ⟨demo .firing [], by decide⟩

theorem test_wit_DriveServicesComplete_7 : ∃ (s : State), (s.up .drv = true) ∧ (s.standby = false) :=
  ⟨demo .firing [], by decide, by decide⟩

theorem test_wit_LightingBusFramesComplete_1 : ∃ (s : State) (p : Fin 16) (f : DlFrame) (l : List DlFrame), (s.up .lbus = true) ∧ (s.dlUp p.val = true) ∧ (s.mayCommand = true) ∧ ((s.dlPort p.val).waiting = false) ∧ ((s.dlPort p.val).holdOff s.nt = false ∨ (s.dlPort p.val).slot = true) ∧ ((s.dlPort p.val).cur = f :: l) :=
  ⟨({ ((demo .firing []).put (LBUS_DL_CFG.EN 3) 1) with lbus := { State.reset.lbus with ports := List.replicate 16 { levels := [], queue := [], cur := [{ bits := 0xFEFE, len := 16, kind := .config }], tx := none, slot := false, last := none, attempts := 0, cycle := [], waiting := false, committed := [], levelAt := 0, energyAt := 0, diagAt := 0, answered := 0 } } } : State), 3, { bits := 0xFEFE, len := 16, kind := .config }, [], by decide, by decide, by decide, by decide, Or.inl (by decide), by decide⟩

theorem test_wit_LightingBusFramesComplete_2 : ∃ (s : State) (p : Fin 16), (s.up .lbus = true) ∧ (s.dlUp p.val = true) ∧ (s.mayCommand = true) ∧ ((s.dlPort p.val).waiting = false) ∧ ((s.dlPort p.val).cur = []) ∧ ((s.dlPort p.val).committed = []) :=
  ⟨({ ((demo .firing []).put (LBUS_DL_CFG.EN 3) 1) with lbus := { State.reset.lbus with ports := List.replicate 16 { levels := [], queue := [], cur := [], tx := none, slot := false, last := none, attempts := 0, cycle := [], waiting := false, committed := [], levelAt := 0, energyAt := 0, diagAt := 0, answered := 0 } } } : State), 3, by decide, by decide, by decide, by decide, by decide, by decide⟩

theorem test_wit_LightingBusFramesComplete_3 : ∃ (s : State) (p : Fin 16) (n : BitVec 8) (f : DlFrame), (s.up .lbus = true) ∧ (s.dlUp p.val = true) ∧ ((s.dlPort p.val).waiting = true) ∧ ((s.dlPort p.val).last = some f) :=
  ⟨({ ((demo .firing []).put (LBUS_DL_CFG.EN 3) 1) with lbus := { State.reset.lbus with ports := List.replicate 16 { levels := [], queue := [], cur := [], tx := none, slot := false, last := some { bits := 0xFEFE, len := 16, kind := .config }, attempts := 0, cycle := [], waiting := true, committed := [], levelAt := 0, energyAt := 0, diagAt := 0, answered := 0 } } } : State), 3, 9, { bits := 0xFEFE, len := 16, kind := .config }, by decide, by decide, by decide, by decide⟩

theorem test_wit_LightingBusFramesComplete_4 : ∃ (s : State) (p : Fin 16) (f : DlFrame), (s.up .lbus = true) ∧ (s.dlUp p.val = true) ∧ ((s.dlPort p.val).waiting = true) ∧ ((s.dlPort p.val).last = some f) :=
  ⟨({ ((demo .firing []).put (LBUS_DL_CFG.EN 3) 1) with lbus := { State.reset.lbus with ports := List.replicate 16 { levels := [], queue := [], cur := [], tx := none, slot := false, last := some { bits := 0xFEFE, len := 16, kind := .queryLevel 7 }, attempts := 0, cycle := [], waiting := true, committed := [], levelAt := 0, energyAt := 0, diagAt := 0, answered := 0 } } } : State), 3, { bits := 0xFEFE, len := 16, kind := .queryLevel 7 }, by decide, by decide, by decide, by decide⟩

theorem test_wit_LightingBusFramesComplete_5 : ∃ (s : State) (p : Fin 16) (f : DlFrame), (s.up .lbus = true) ∧ (s.dlUp p.val = true) ∧ ((s.dlPort p.val).last = some f) ∧ (f.asks = false ∨ (s.dlPort p.val).attempts < 3) :=
  ⟨({ ((demo .firing []).put (LBUS_DL_CFG.EN 3) 1) with lbus := { State.reset.lbus with ports := List.replicate 16 { levels := [], queue := [], cur := [], tx := none, slot := false, last := some { bits := 0xFEFE, len := 16, kind := .config }, attempts := 0, cycle := [], waiting := false, committed := [], levelAt := 0, energyAt := 0, diagAt := 0, answered := 0 } } } : State), 3, { bits := 0xFEFE, len := 16, kind := .config }, by decide, by decide, by decide, by decide⟩

theorem test_wit_LightingBusFramesComplete_6 : ∃ (s : State) (p : Fin 16), (s.up .lbus = true) ∧ (s.dlUp p.val = true) :=
  ⟨({ ((demo .firing []).put (LBUS_DL_CFG.EN 3) 1) with lbus := { State.reset.lbus with ports := List.replicate 16 { levels := [], queue := [], cur := [], tx := none, slot := false, last := none, attempts := 0, cycle := [], waiting := false, committed := [], levelAt := 0, energyAt := 0, diagAt := 0, answered := 0 } } } : State), 3, by decide, by decide⟩

theorem test_wit_LightingBusFramesComplete_7 : ∃ (s : State) (p : Fin 16), (s.up .lbus = true) ∧ (s.fld (LBUS_DL_STAT.STATE p.val) = 3) :=
  ⟨((demo .firing []).put (LBUS_DL_STAT.STATE 3) 3), 3, by decide, by decide⟩

theorem test_wit_LightingBusFramesComplete_8 : ∃ (s : State) (p : Fin 16) (f : BitVec 24), (s.up .lbus = true) ∧ (s.dlUp p.val = true) ∧ (s.lbus.events.length < 16) :=
  ⟨({ ((demo .firing []).put (LBUS_DL_CFG.EN 3) 1) with lbus := { State.reset.lbus with ports := List.replicate 16 { levels := [], queue := [], cur := [], tx := none, slot := false, last := none, attempts := 0, cycle := [], waiting := false, committed := [], levelAt := 0, energyAt := 0, diagAt := 0, answered := 0 } } } : State), 3, 9, by decide, by decide, by decide⟩

theorem test_wit_LightingBusFramesComplete_9 : ∃ (s : State) (p : Fin 16) (f : BitVec 24), (s.up .lbus = true) ∧ (s.dlUp p.val = true) ∧ (16 ≤ s.lbus.events.length) :=
  ⟨({ ((demo .firing []).put (LBUS_DL_CFG.EN 3) 1) with lbus := { State.reset.lbus with events := List.replicate 16 (0, 0) } } : State), 3, 9, by decide, by decide, by decide⟩

theorem test_wit_LightingBusFramesComplete_10 : ∃ (s : State) (p : Fin 16), (s.up .lbus = true) ∧ (s.dlUp p.val = true) :=
  ⟨({ ((demo .firing []).put (LBUS_DL_CFG.EN 3) 1) with lbus := { State.reset.lbus with ports := List.replicate 16 { levels := [], queue := [], cur := [], tx := none, slot := false, last := none, attempts := 0, cycle := [], waiting := false, committed := [], levelAt := 0, energyAt := 0, diagAt := 0, answered := 0 } } } : State), 3, by decide, by decide⟩

theorem test_wit_LightingBusCommandsComplete_1 : ∃ (s : State) (t : State), (s.ready .lbus) ∧ (t = s.taken .lbus 1) ∧ (t.fld LBUS_CMD_ARG.INDEX < 16) ∧ (t.bit (LBUS_DL_CFG.EN (t.fld LBUS_CMD_ARG.INDEX)) = true) :=
  ⟨((demo .firing []).put (LBUS_DL_CFG.EN 0) 1), _, by decide, rfl, by decide, by decide⟩

theorem test_wit_LightingBusCommandsComplete_2 : ∃ (s : State) (t : State), (s.ready .lbus) ∧ (t = s.taken .lbus 2) ∧ (t.fld LBUS_CMD_ARG.INDEX < 16) ∧ (t.bit (LBUS_DL_CFG.EN (t.fld LBUS_CMD_ARG.INDEX)) = true) :=
  ⟨((demo .firing []).put (LBUS_DL_CFG.EN 0) 1), _, by decide, rfl, by decide, by decide⟩

theorem test_wit_LightingBusCommandsComplete_3 : ∃ (s : State) (t : State), (s.ready .lbus) ∧ (t = s.taken .lbus 3) ∧ (t.fld LBUS_CMD_ARG.INDEX < 16) ∧ (t.dlUp (t.fld LBUS_CMD_ARG.INDEX) = true) :=
  ⟨((demo .firing []).put (LBUS_DL_CFG.EN 0) 1), _, by decide, rfl, by decide, by decide⟩

theorem test_wit_LightingBusCommandsComplete_4 : ∃ (s : State) (t : State), (s.ready .lbus) ∧ (t = s.taken .lbus 4) ∧ (t.fld LBUS_CMD_ARG.INDEX < 72) :=
  ⟨demo .firing [], _, by decide, rfl, by decide⟩

theorem test_wit_LightingBusCommandsComplete_5 : ∃ (s : State) (src : Src), (s.up .lbus = true) :=
  ⟨demo .firing [], .core, by decide⟩

theorem test_wit_FieldIoComplete_1 : ∃ (s : State) (a : Fin 12) (mv : BitVec 16), (s.up .drv = true) ∧ (s.bit (LBUS_AO_OUT.DRIVEN a.val) = true) :=
  ⟨((demo .firing []).put (LBUS_AO_OUT.DRIVEN 3) 1), 3, 9, by decide, by decide⟩

theorem test_wit_FieldIoComplete_2 : ∃ (s : State) (n : Fin 72) (level : Bool), (s.up .drv = true) ∧ (s.fioMode n.val = 1 ∨ s.fioMode n.val = 2) ∧ (level = s.cfB (LBUS_FIO_CFG.INV n.val)) ∧ (s.fioActive n.val = true) :=
  ⟨((((demo .firing []).put (LBUS_FIO_STAT.LEVEL 3) 1).put (LBUS_FIO_CFG.MODE 3) 1).put (LBUS_FIO_CFG.EN 3) 1), 3, false, by decide, by decide, by decide, by decide⟩

theorem test_wit_FieldIoComplete_3 : ∃ (s : State) (n : Fin 72) (x : Nat × Nat), (s.up .drv = true) ∧ (s.lbus.loops.find? (·.1 == n.val) = some x) ∧ (x.2 + 2550000000 ≤ s.nt) :=
  ⟨({ demo .firing [] with lbus := { State.reset.lbus with loops := [(3, 0)] }, ntu := { State.reset.ntu with tb := 2 ^ 60 } } : State), 3, (3, 0), by decide, by decide, by decide⟩

theorem test_wit_FieldIoComplete_4 : ∃ (s : State), (s.up .drv = true) ∧ (s.mayCommand = true) :=
  ⟨demo .firing [], by decide, by decide⟩

theorem test_wit_FieldIoComplete_5 : ∃ (s : State) (n : Fin 72) (c : Nat), (s.up .drv = true) ∧ (s.fioMode n.val = 4) ∧ (s.cfB (LBUS_FIO_CONT.FB_EN n.val) = true) ∧ (s.cf (LBUS_FIO_CONT.FB n.val) ≤ 71) ∧ (s.sinceOut n.val (s.cf (LBUS_FIO_CTIME.FB_10MS n.val) * 10 * msec) = false) ∧ (c = (if s.bit (LBUS_FIO_STAT.OUT n.val) = s.fioActive (s.cf (LBUS_FIO_CONT.FB n.val)) then 0 else if s.bit (LBUS_FIO_STAT.OUT n.val) then 1 else 2)) ∧ (c ≠ s.fld (LBUS_FIO_STAT.CFAULT n.val)) :=
  ⟨(((((demo .firing []).put (LBUS_FIO_CFG.MODE 3) 4).put (LBUS_FIO_CFG.EN 3) 1).put (LBUS_FIO_CONT.FB_EN 3) 1).put (LBUS_FIO_STAT.OUT 3) 1), 3, _, by decide, by decide, by decide, by decide, by decide, rfl, by decide⟩

theorem test_wit_FieldIoComplete_6 : ∃ (s : State) (p : Fin 8) (b : List Byte), (s.up .lbus = true) ∧ (s.sbMode p.val = 1) ∧ ((s.sbBound p.val).sbMode p.val = 1) :=
  ⟨(((demo .firing []).put (LBUS_SB_CFG.MODE 3) 1).put (LBUS_SB_CFG.EN 3) 1), 3, [1, 2], by decide, by decide, by decide⟩

theorem test_wit_FieldIoComplete_7 : ∃ (s : State) (p : Fin 8) (b : List Byte), (s.up .lbus = true) ∧ (s.sbMode p.val = 1) :=
  ⟨(((demo .firing []).put (LBUS_SB_CFG.MODE 3) 1).put (LBUS_SB_CFG.EN 3) 1), 3, [1, 2], by decide, by decide⟩

theorem test_wit_FieldIoComplete_8 : ∃ (s : State) (p : Fin 8) (bad : Bool) (r : Option (List HWord) × State), (s.up .lbus = true) ∧ (s.mayCommand = true) ∧ (s.sbMode p.val = 1) ∧ (s.sbOf (s.cf (LBUS_SB_HOST.HMQ p.val)) = some p.val) ∧ (r = (s.sbBound p.val).takeDown (s.cf (LBUS_SB_HOST.HMQ p.val)) bad) :=
  ⟨(((demo .firing []).put (LBUS_SB_CFG.MODE 3) 1).put (LBUS_SB_CFG.EN 3) 1), 3, false, _, by decide, by decide, by decide, by decide, rfl⟩

theorem test_wit_FieldIoComplete_9 : ∃ (s : State) (p : Fin 8) (k : Fin 4) (u : State), (s.up .lbus = true) ∧ (s.mayCommand = true) ∧ (u = s.sbBound p.val) ∧ (u.sbMode p.val = 2) ∧ (u.cfB (LBUS_SB_POLL_W0.EN p.val k.val) = true) ∧ ((u.pollRun p.val k.val).waiting = false) ∧ ((u.pollRun p.val k.val).at_ = 0 ∨ (u.pollRun p.val k.val).at_ + clampN 100 60000 (u.cf (LBUS_SB_POLL_W1.POLL_MS p.val k.val)) * msec ≤ u.clk) :=
  ⟨((((demo .firing []).put (LBUS_SB_POLL_W0.EN 3 1) 1).put (LBUS_SB_CFG.MODE 3) 2).put (LBUS_SB_CFG.EN 3) 1), 3, 1, _, by decide, by decide, rfl, by decide, by decide, by decide, Or.inl (by decide)⟩

theorem test_wit_FieldIoComplete_10 : ∃ (s : State) (p : Fin 8) (k : Fin 4) (count kind speed age : BitVec 16), (s.up .lbus = true) ∧ (s.sbMode p.val = 2) ∧ ((s.pollRun p.val k.val).waiting = true) :=
  ⟨({ ((((demo .firing []).put (LBUS_SB_POLL_W0.EN 3 1) 1).put (LBUS_SB_CFG.MODE 3) 2).put (LBUS_SB_CFG.EN 3) 1) with clk := 2 ^ 40, lbus := { State.reset.lbus with polls := [{ port := 3, entry := 1, count := none, bad := 0, at_ := 0, waiting := true }] } } : State), 3, 1, 1, 2, 3, 4, by decide, by decide, by decide⟩

theorem test_wit_FieldIoComplete_11 : ∃ (s : State) (p : Fin 8) (k : Fin 4) (count kind speed age : BitVec 16), (s.up .lbus = true) ∧ (s.sbMode p.val = 2) ∧ ((s.pollRun p.val k.val).waiting = true) ∧ ((s.pollRun p.val k.val).count = none) ∧ (bitOf (s.fld (LBUS_SB_STAT.ENT_FAULT p.val)) k.val = false) :=
  ⟨({ ((((demo .firing []).put (LBUS_SB_POLL_W0.EN 3 1) 1).put (LBUS_SB_CFG.MODE 3) 2).put (LBUS_SB_CFG.EN 3) 1) with clk := 2 ^ 40, lbus := { State.reset.lbus with polls := [{ port := 3, entry := 1, count := none, bad := 0, at_ := 0, waiting := true }] } } : State), 3, 1, 1, 2, 3, 4, by decide, by decide, by decide, by decide, by decide⟩

theorem test_wit_FieldIoComplete_12 : ∃ (s : State) (p : Fin 8) (k : Fin 4), (s.up .lbus = true) ∧ (s.sbMode p.val = 2) ∧ ((s.pollRun p.val k.val).waiting = true) ∧ ((s.pollRun p.val k.val).at_ + 100 * msec ≤ s.clk) :=
  ⟨({ ((((demo .firing []).put (LBUS_SB_POLL_W0.EN 3 1) 1).put (LBUS_SB_CFG.MODE 3) 2).put (LBUS_SB_CFG.EN 3) 1) with clk := 2 ^ 40, lbus := { State.reset.lbus with polls := [{ port := 3, entry := 1, count := none, bad := 0, at_ := 1, waiting := true }] } } : State), 3, 1, by decide, by decide, by decide, by decide⟩

theorem test_wit_FieldIoComplete_13 : ∃ (s : State) (t : Fin 16) (r : Nat), (s.up .drv = true) ∧ (1500000 < r ∨ r < 50) :=
  ⟨demo .firing [], 3, 20, by decide, by decide⟩

theorem test_wit_FieldIoComplete_14 : ∃ (s : State) (t : Fin 16) (r : Nat), (s.up .drv = true) ∧ (50 ≤ r) ∧ (r ≤ 1500000) :=
  ⟨demo .firing [], 3, 10000, by decide, by decide, by decide⟩

theorem test_wit_RadioSendingCompletes_1 : ∃ (s : State) (ch : Fin 8), (s.up .rad = true) :=
  ⟨demo .firing [], 3, by decide⟩

theorem test_wit_RadioSendingCompletes_2 : ∃ (s : State) (ch : Fin 8), (s.up .rad = true) ∧ (s.bit (RAD_CH_CTL.EN ch.val) = false) :=
  ⟨demo .firing [], 3, by decide, by decide⟩

theorem test_wit_RadioSendingCompletes_3 : ∃ (s : State) (ch : Fin 8) (energy : Int) (sfd : Bool) (x : InService), ((s.chan ch.val).cur = some x) ∧ (s.canStart ch.val = true) ∧ (x.backoffAt ≤ s.clk) ∧ ((s.chan ch.val).tx = none) ∧ ((s.chan ch.val).window = none) ∧ ((s.chan ch.val).rxFrom = none) ∧ (x.credit = false) ∧ (s.cfB (RAD_CH_CTL.CCA_EN ch.val) = false) :=
  ⟨({ ((((demo .firing []).put RAD_CTL.EN 1).put (RAD_CH_CTL.EN 3) 1).put (RAD_CH_CTL.CCA_EN 3) 0) with clk := 0, rad := { State.reset.rad with chans := (List.replicate 8 { cur := none, again := [], tx := none, timed := [], ack := none, window := none, rxFrom := none, rxLost := false, swap := false, share := [], noise := [] }).set 3 { cur := some { frame := { typ := 1, msg := [], dst := .ep 7, key := 1, launch := none, persist := none, owner := .none, psdu := none }, be := 3, nb := 0, retries := 0, backoffAt := 0, credit := false }, again := [], tx := none, timed := [], ack := none, window := none, rxFrom := none, rxLost := false, swap := false, share := [], noise := [] } } } : State), 3, -90, false, { frame := { typ := 1, msg := [], dst := .ep 7, key := 1, launch := none, persist := none, owner := .none, psdu := none }, be := 3, nb := 0, retries := 0, backoffAt := 0, credit := false }, by decide, by decide, by decide, by decide, by decide, by decide, by decide, by decide⟩

theorem test_wit_RadioSendingCompletes_4 : ∃ (s : State) (ch : Fin 8) (energy : Int) (sfd : Bool) (x : InService), ((s.chan ch.val).cur = some x) ∧ (s.canStart ch.val = true) ∧ (x.backoffAt ≤ s.clk) ∧ ((s.chan ch.val).tx = none) ∧ ((s.chan ch.val).window = none) ∧ ((s.chan ch.val).rxFrom = none) ∧ (x.credit = false) ∧ (s.cfB (RAD_CH_CTL.CCA_EN ch.val) = true) ∧ (((s.noteNoise ch.val energy).cfI (RAD_CH_MAC.CCA_DBM ch.val) < energy || sfd) = true) :=
  ⟨({ ((((demo .firing []).put RAD_CTL.EN 1).put (RAD_CH_CTL.EN 3) 1).put (RAD_CH_CTL.CCA_EN 3) 1) with clk := 0, rad := { State.reset.rad with chans := (List.replicate 8 { cur := none, again := [], tx := none, timed := [], ack := none, window := none, rxFrom := none, rxLost := false, swap := false, share := [], noise := [] }).set 3 { cur := some { frame := { typ := 1, msg := [], dst := .ep 7, key := 1, launch := none, persist := none, owner := .none, psdu := none }, be := 3, nb := 0, retries := 0, backoffAt := 0, credit := false }, again := [], tx := none, timed := [], ack := none, window := none, rxFrom := none, rxLost := false, swap := false, share := [], noise := [] } } } : State), 3, -90, true, { frame := { typ := 1, msg := [], dst := .ep 7, key := 1, launch := none, persist := none, owner := .none, psdu := none }, be := 3, nb := 0, retries := 0, backoffAt := 0, credit := false }, by decide, by decide, by decide, by decide, by decide, by decide, by decide, by decide, by decide⟩

theorem test_wit_RadioSendingCompletes_5 : ∃ (s : State) (ch : Fin 8) (energy : Int) (sfd : Bool) (x : InService), ((s.chan ch.val).cur = some x) ∧ (s.canStart ch.val = true) ∧ (x.backoffAt ≤ s.clk) ∧ ((s.chan ch.val).tx = none) ∧ ((s.chan ch.val).window = none) ∧ ((s.chan ch.val).rxFrom = none) ∧ (x.credit = false) ∧ (s.cfB (RAD_CH_CTL.CCA_EN ch.val) = true) ∧ (((s.noteNoise ch.val energy).cfI (RAD_CH_MAC.CCA_DBM ch.val) < energy || sfd) = false) :=
  ⟨({ (((((demo .firing []).put RAD_CTL.EN 1).put (RAD_CH_CTL.EN 3) 1).put (RAD_CH_CTL.CCA_EN 3) 1).put (RAD_CH_MAC.CCA_DBM 3) 176) with clk := 0, rad := { State.reset.rad with chans := (List.replicate 8 { cur := none, again := [], tx := none, timed := [], ack := none, window := none, rxFrom := none, rxLost := false, swap := false, share := [], noise := [] }).set 3 { cur := some { frame := { typ := 1, msg := [], dst := .ep 7, key := 1, launch := none, persist := none, owner := .none, psdu := none }, be := 3, nb := 0, retries := 0, backoffAt := 0, credit := false }, again := [], tx := none, timed := [], ack := none, window := none, rxFrom := none, rxLost := false, swap := false, share := [], noise := [] } } } : State), 3, -120, false, { frame := { typ := 1, msg := [], dst := .ep 7, key := 1, launch := none, persist := none, owner := .none, psdu := none }, be := 3, nb := 0, retries := 0, backoffAt := 0, credit := false }, by decide, by decide, by decide, by decide, by decide, by decide, by decide, by decide, by decide⟩

theorem test_wit_RadioSendingCompletes_6 : ∃ (s : State) (ch : Fin 8) (t : Tx), ((s.chan ch.val).tx = some t) ∧ (t.stop ≤ s.clk) ∧ (s.up .rad = true) ∧ (t.kind = 2) :=
  ⟨({ (((demo .firing []).put RAD_CTL.EN 1).put (RAD_CH_CTL.EN 3) 1) with clk := 0, rad := { State.reset.rad with chans := (List.replicate 8 { cur := none, again := [], tx := none, timed := [], ack := none, window := none, rxFrom := none, rxLost := false, swap := false, share := [], noise := [] }).set 3 { cur := none, again := [], tx := some { kind := 2, frame := { typ := 1, msg := [], dst := .all, key := 1, launch := none, persist := none, owner := .none, psdu := none }, start := 0, stop := 0, train := false }, timed := [], ack := none, window := none, rxFrom := none, rxLost := false, swap := false, share := [], noise := [] } } } : State), 3, { kind := 2, frame := { typ := 1, msg := [], dst := .all, key := 1, launch := none, persist := none, owner := .none, psdu := none }, start := 0, stop := 0, train := false }, by decide, by decide, by decide, by decide⟩

theorem test_wit_RadioSendingCompletes_7 : ∃ (s : State) (ch : Fin 8) (t : Tx), ((s.chan ch.val).tx = some t) ∧ (t.stop ≤ s.clk) ∧ (s.up .rad = true) ∧ (t.kind ≠ 2) ∧ (t.frame.wantsAck = true) :=
  ⟨({ (((demo .firing []).put RAD_CTL.EN 1).put (RAD_CH_CTL.EN 3) 1) with clk := 0, rad := { State.reset.rad with chans := (List.replicate 8 { cur := none, again := [], tx := none, timed := [], ack := none, window := none, rxFrom := none, rxLost := false, swap := false, share := [], noise := [] }).set 3 { cur := none, again := [], tx := some { kind := 0, frame := { typ := 1, msg := [], dst := .ep 7, key := 1, launch := none, persist := none, owner := .none, psdu := none }, start := 0, stop := 0, train := false }, timed := [], ack := none, window := none, rxFrom := none, rxLost := false, swap := false, share := [], noise := [] } } } : State), 3, { kind := 0, frame := { typ := 1, msg := [], dst := .ep 7, key := 1, launch := none, persist := none, owner := .none, psdu := none }, start := 0, stop := 0, train := false }, by decide, by decide, by decide, by decide, by decide⟩

theorem test_wit_RadioSendingCompletes_8 : ∃ (s : State) (ch : Fin 8) (t : Tx), ((s.chan ch.val).tx = some t) ∧ (t.stop ≤ s.clk) ∧ (s.up .rad = true) ∧ (t.kind = 0) ∧ (t.frame.wantsAck = false) :=
  ⟨({ (((demo .firing []).put RAD_CTL.EN 1).put (RAD_CH_CTL.EN 3) 1) with clk := 0, rad := { State.reset.rad with chans := (List.replicate 8 { cur := none, again := [], tx := none, timed := [], ack := none, window := none, rxFrom := none, rxLost := false, swap := false, share := [], noise := [] }).set 3 { cur := none, again := [], tx := some { kind := 0, frame := { typ := 1, msg := [], dst := .all, key := 1, launch := none, persist := none, owner := .none, psdu := none }, start := 0, stop := 0, train := false }, timed := [], ack := none, window := none, rxFrom := none, rxLost := false, swap := false, share := [], noise := [] } } } : State), 3, { kind := 0, frame := { typ := 1, msg := [], dst := .all, key := 1, launch := none, persist := none, owner := .none, psdu := none }, start := 0, stop := 0, train := false }, by decide, by decide, by decide, by decide, by decide⟩

theorem test_wit_RadioSendingCompletes_9 : ∃ (s : State) (ch : Fin 8) (w : Listen), ((s.chan ch.val).window = some w) ∧ (s.radOn ch.val = true) ∧ (w.lost = false) ∧ (w.opens ≤ s.clk) ∧ (s.clk ≤ w.closes) ∧ (w.timed = false) :=
  ⟨({ (((demo .firing []).put RAD_CTL.EN 1).put (RAD_CH_CTL.EN 3) 1) with clk := 0, rad := { State.reset.rad with chans := (List.replicate 8 { cur := none, again := [], tx := none, timed := [], ack := none, window := none, rxFrom := none, rxLost := false, swap := false, share := [], noise := [] }).set 3 { cur := none, again := [], tx := none, timed := [], ack := none, window := some { frame := { typ := 1, msg := [], dst := .ep 7, key := 1, launch := none, persist := none, owner := .none, psdu := none }, timed := false, opens := 0, closes := 9, lost := false }, rxFrom := none, rxLost := false, swap := false, share := [], noise := [] } } } : State), 3, { frame := { typ := 1, msg := [], dst := .ep 7, key := 1, launch := none, persist := none, owner := .none, psdu := none }, timed := false, opens := 0, closes := 9, lost := false }, by decide, by decide, by decide, by decide, by decide, by decide⟩

theorem test_wit_RadioSendingCompletes_10 : ∃ (s : State) (ch : Fin 8) (w : Listen), ((s.chan ch.val).window = some w) ∧ (w.closes ≤ s.clk) ∧ (s.up .rad = true) ∧ (w.timed = false) :=
  ⟨({ (((demo .firing []).put RAD_CTL.EN 1).put (RAD_CH_CTL.EN 3) 1) with clk := 9, rad := { State.reset.rad with chans := (List.replicate 8 { cur := none, again := [], tx := none, timed := [], ack := none, window := none, rxFrom := none, rxLost := false, swap := false, share := [], noise := [] }).set 3 { cur := none, again := [], tx := none, timed := [], ack := none, window := some { frame := { typ := 1, msg := [], dst := .ep 7, key := 1, launch := none, persist := none, owner := .none, psdu := none }, timed := false, opens := 0, closes := 9, lost := false }, rxFrom := none, rxLost := false, swap := false, share := [], noise := [] } } } : State), 3, { frame := { typ := 1, msg := [], dst := .ep 7, key := 1, launch := none, persist := none, owner := .none, psdu := none }, timed := false, opens := 0, closes := 9, lost := false }, by decide, by decide, by decide, by decide⟩

theorem test_wit_RadioSendingCompletes_11 : ∃ (s : State) (ch : Fin 8) (a : AckDue) (v : State), ((s.chan ch.val).ack = some a) ∧ (a.at_ ≤ s.clk) ∧ (s.up .rad = true) ∧ (v = s.updChan ch.val fun c => { c with ack := none }) ∧ (v.canStart ch.val = false) :=
  ⟨({ (demo .firing []) with clk := 0, rad := { State.reset.rad with chans := (List.replicate 8 { cur := none, again := [], tx := none, timed := [], ack := none, window := none, rxFrom := none, rxLost := false, swap := false, share := [], noise := [] }).set 3 { cur := none, again := [], tx := none, timed := [], ack := some { at_ := 0, ext := none, epa := 7, e := 0 }, window := none, rxFrom := none, rxLost := false, swap := false, share := [], noise := [] } } } : State), 3, { at_ := 0, ext := none, epa := 7, e := 0 }, _, by decide, by decide, by decide, rfl, by decide⟩

theorem test_wit_RadioSendingCompletes_12 : ∃ (s : State) (ch : Fin 8) (a : AckDue) (v : State), ((s.chan ch.val).ack = some a) ∧ (a.at_ ≤ s.clk) ∧ (s.up .rad = true) ∧ (v = s.updChan ch.val fun c => { c with ack := none }) ∧ (v.canStart ch.val = true) ∧ ((s.chan ch.val).tx = none) ∧ ((s.chan (partnerOf ch.val)).tx = none) ∧ (s.ackDisplaced ch.val a.at_ (a.at_ + s.ackTime ch.val a.ext.isSome * usec) = false) ∧ (s.ackTime ch.val a.ext.isSome ≤ s.chCredit ch.val true) :=
  ⟨({ (((((demo .firing []).put RAD_CTL.EN 1).put (RAD_CH_CTL.EN 3) 1).put (RAD_SB_LO.EN 0) 1).put (RAD_SB_LO.UNLIMITED 0) 1) with clk := 0, rad := { State.reset.rad with chans := (List.replicate 8 { cur := none, again := [], tx := none, timed := [], ack := none, window := none, rxFrom := none, rxLost := false, swap := false, share := [], noise := [] }).set 3 { cur := none, again := [], tx := none, timed := [], ack := some { at_ := 0, ext := none, epa := 7, e := 0 }, window := none, rxFrom := none, rxLost := false, swap := false, share := [], noise := [] } } } : State), 3, { at_ := 0, ext := none, epa := 7, e := 0 }, _, by decide, by decide, by decide, rfl, by decide, by decide, by decide, by decide, by decide⟩

theorem test_wit_TimedFramesComplete_1 : ∃ (s : State) (ch : Fin 8) (t : Timed), ((s.chan ch.val).timed.find? (fun t => t.ready.isNone && t.frame.launch.getD 0 ≤ s.nt + 2000000) = some t) ∧ (s.up .rad = true) ∧ (s.radOn ch.val = true) ∧ (s.mayCommand = true) ∧ (t.frame.typ ≠ 0x0C ∨ s.fireAt ch.val t.frame.launch = false) :=
  ⟨({ (((demo .firing []).put RAD_CTL.EN 1).put (RAD_CH_CTL.EN 3) 1) with clk := 0, rad := { State.reset.rad with chans := (List.replicate 8 { cur := none, again := [], tx := none, timed := [], ack := none, window := none, rxFrom := none, rxLost := false, swap := false, share := [], noise := [] }).set 3 { cur := none, again := [], tx := none, timed := [{ frame := { typ := 1, msg := [], dst := .all, key := 1, launch := (some 0), persist := none, owner := .none, psdu := none }, ready := none, notBefore := 0, late := false }], ack := none, window := none, rxFrom := none, rxLost := false, swap := false, share := [], noise := [] } } } : State), 3, { frame := { typ := 1, msg := [], dst := .all, key := 1, launch := (some 0), persist := none, owner := .none, psdu := none }, ready := none, notBefore := 0, late := false }, by decide, by decide, by decide, by decide, by decide⟩

theorem test_wit_TimedFramesComplete_2 : ∃ (s : State) (ch : Fin 8) (t : Timed), ((s.chan ch.val).timed.find? (fun t => t.ready.isNone && t.frame.launch.getD 0 ≤ s.nt + 2000000) = some t) ∧ (s.up .rad = true) ∧ (s.radOn ch.val = true) ∧ (s.mayCommand = true) ∧ (t.frame.typ = 0x0C) ∧ (s.fireAt ch.val t.frame.launch = true) :=
  ⟨({ (((demo .firing []).put RAD_CTL.EN 1).put (RAD_CH_CTL.EN 3) 1) with clk := 0, rad := { State.reset.rad with chans := (List.replicate 8 { cur := none, again := [], tx := none, timed := [], ack := none, window := none, rxFrom := none, rxLost := false, swap := false, share := [], noise := [] }).set 3 { cur := none, again := [], tx := none, timed := [{ frame := { typ := 0x0C, msg := [], dst := .all, key := 1, launch := (some 0), persist := none, owner := .none, psdu := none }, ready := none, notBefore := 0, late := false }, { frame := { typ := 5, msg := [], dst := .all, key := 1, launch := (some 0), persist := none, owner := .none, psdu := none }, ready := none, notBefore := 0, late := false }], ack := none, window := none, rxFrom := none, rxLost := false, swap := false, share := [], noise := [] } } } : State), 3, { frame := { typ := 0x0C, msg := [], dst := .all, key := 1, launch := (some 0), persist := none, owner := .none, psdu := none }, ready := none, notBefore := 0, late := false }, by decide, by decide, by decide, by decide, by decide, by decide⟩

theorem test_wit_TimedFramesComplete_3 : ∃ (s : State) (ch : Fin 8) (t : Timed), ((s.chan ch.val).timed.find? (fun t => t.ready.isNone && t.frame.launch.getD 0 ≤ s.nt + 2000000) = some t) ∧ (s.up .rad = true) ∧ (s.radOn ch.val = false) :=
  ⟨({ (demo .firing []) with clk := 0, rad := { State.reset.rad with chans := (List.replicate 8 { cur := none, again := [], tx := none, timed := [], ack := none, window := none, rxFrom := none, rxLost := false, swap := false, share := [], noise := [] }).set 3 { cur := none, again := [], tx := none, timed := [{ frame := { typ := 1, msg := [], dst := .all, key := 1, launch := (some 0), persist := none, owner := .none, psdu := none }, ready := none, notBefore := 0, late := false }], ack := none, window := none, rxFrom := none, rxLost := false, swap := false, share := [], noise := [] } } } : State), 3, { frame := { typ := 1, msg := [], dst := .all, key := 1, launch := (some 0), persist := none, owner := .none, psdu := none }, ready := none, notBefore := 0, late := false }, by decide, by decide, by decide⟩

theorem test_wit_TimedFramesComplete_4 : ∃ (s : State) (ch : Fin 8) (t : Timed), (s.timedDue ch.val = some t) ∧ (s.canStart ch.val = true) ∧ (s.timedWaits ch.val t = false) ∧ (s.portBusy ch.val = none) :=
  ⟨({ (((demo .firing []).put RAD_CTL.EN 1).put (RAD_CH_CTL.EN 3) 1) with clk := 0, rad := { State.reset.rad with chans := (List.replicate 8 { cur := none, again := [], tx := none, timed := [], ack := none, window := none, rxFrom := none, rxLost := false, swap := false, share := [], noise := [] }).set 3 { cur := none, again := [], tx := none, timed := [{ frame := { typ := 1, msg := [], dst := .all, key := 1, launch := (some 0), persist := none, owner := .none, psdu := none }, ready := some 5, notBefore := 0, late := false }], ack := none, window := none, rxFrom := none, rxLost := false, swap := false, share := [], noise := [] } } } : State), 3, { frame := { typ := 1, msg := [], dst := .all, key := 1, launch := (some 0), persist := none, owner := .none, psdu := none }, ready := some 5, notBefore := 0, late := false }, by decide, by decide, by decide, by decide⟩

theorem test_wit_TimedFramesComplete_5 : ∃ (s : State) (ch : Fin 8) (t : Timed) (e : Nat), (s.timedDue ch.val = some t) ∧ (s.canStart ch.val = true) ∧ (s.timedWaits ch.val t = false) ∧ (s.portBusy ch.val = some e) :=
  ⟨({ (((demo .firing []).put RAD_CTL.EN 1).put (RAD_CH_CTL.EN 3) 1) with clk := 0, rad := { State.reset.rad with chans := (List.replicate 8 { cur := none, again := [], tx := none, timed := [], ack := none, window := none, rxFrom := none, rxLost := false, swap := false, share := [], noise := [] }).set 3 { cur := none, again := [], tx := some { kind := 0, frame := { typ := 1, msg := [], dst := .all, key := 1, launch := none, persist := none, owner := .none, psdu := none }, start := 0, stop := 0, train := false }, timed := [{ frame := { typ := 1, msg := [], dst := .all, key := 1, launch := (some 0), persist := none, owner := .none, psdu := none }, ready := some 5, notBefore := 0, late := false }], ack := none, window := none, rxFrom := none, rxLost := false, swap := false, share := [], noise := [] } } } : State), 3, { frame := { typ := 1, msg := [], dst := .all, key := 1, launch := (some 0), persist := none, owner := .none, psdu := none }, ready := some 5, notBefore := 0, late := false }, 0, by decide, by decide, by decide, by decide⟩

theorem test_wit_TimedFramesComplete_6 : ∃ (s : State), (s.up .rad = true) ∧ (s.cf RAD_CTL.TIME_S ≠ 0) ∧ (s.ntValid = true) ∧ ((s.ntSec + 1) % s.cf RAD_CTL.TIME_S = 0) ∧ (s.rad.timeAt ≠ s.ntSec + 1) :=
  ⟨(((demo .firing []).put RAD_CTL.TIME_S 1).put NTU_STAT.VALID 1), by decide, by decide, by decide, by decide, by decide⟩

theorem test_wit_TimedFramesComplete_7 : ∃ (s : State), (s.up .rad = true) ∧ (s.bit RAD_CTL.EN = true) ∧ (s.rad.secAt + secs ≤ s.clk) :=
  ⟨({ ((demo .firing []).put RAD_CTL.EN 1) with clk := 2 ^ 40 } : State), by decide, by decide, by decide⟩

theorem test_wit_TimedFramesComplete_8 : ∃ (s : State) (t : State), (s.ready .rad) ∧ (t = s.taken .rad 1) ∧ (t.fld RAD_CMD_ARG.LEN ≠ 0) :=
  ⟨((demo .firing []).put RAD_CMD_ARG.LEN 100), _, by decide, rfl, by decide⟩

theorem test_wit_TimedFramesComplete_9 : ∃ (s : State) (t : State), (s.ready .rad) ∧ (t = s.taken .rad 2) :=
  ⟨demo .firing [], _, by decide, rfl⟩

theorem test_wit_RadioReceptionCompletes_1 : ∃ (s : State) (ch : Fin 8) (long : Bool), (s.listens ch.val = true) :=
  ⟨({ (((demo .firing []).put RAD_CTL.EN 1).put (RAD_CH_CTL.EN 3) 1) with clk := 0, rad := { State.reset.rad with chans := (List.replicate 8 { cur := none, again := [], tx := none, timed := [], ack := none, window := none, rxFrom := none, rxLost := false, swap := false, share := [], noise := [] }).set 3 { cur := none, again := [], tx := none, timed := [], ack := none, window := none, rxFrom := none, rxLost := false, swap := false, share := [], noise := [] } } } : State), 3, false, by decide⟩

theorem test_wit_RadioReceptionCompletes_2 : ∃ (s : State) (ch : Fin 8), (s.listens ch.val = true) :=
  ⟨({ (((demo .firing []).put RAD_CTL.EN 1).put (RAD_CH_CTL.EN 3) 1) with clk := 0, rad := { State.reset.rad with chans := (List.replicate 8 { cur := none, again := [], tx := none, timed := [], ack := none, window := none, rxFrom := none, rxLost := false, swap := false, share := [], noise := [] }).set 3 { cur := none, again := [], tx := none, timed := [], ack := none, window := none, rxFrom := none, rxLost := false, swap := false, share := [], noise := [] } } } : State), 3, by decide⟩

theorem test_wit_RadioReceptionCompletes_3 : ∃ (s : State) (ch : Fin 8), (s.listens ch.val = true) ∧ (s.portBusy ch.val = none) :=
  ⟨({ (((demo .firing []).put RAD_CTL.EN 1).put (RAD_CH_CTL.EN 3) 1) with clk := 0, rad := { State.reset.rad with chans := (List.replicate 8 { cur := none, again := [], tx := none, timed := [], ack := none, window := none, rxFrom := none, rxLost := false, swap := false, share := [], noise := [] }).set 3 { cur := none, again := [], tx := none, timed := [], ack := none, window := none, rxFrom := none, rxLost := false, swap := false, share := [], noise := [] } } } : State), 3, by decide, by decide⟩

theorem test_wit_RadioReceptionCompletes_4 : ∃ (s : State) (ch : Fin 8) (e : Nat), (s.listens ch.val = true) ∧ (s.portBusy ch.val = some e) :=
  ⟨({ (((demo .firing []).put RAD_CTL.EN 1).put (RAD_CH_CTL.EN 3) 1) with clk := 0, rad := { State.reset.rad with chans := (List.replicate 8 { cur := none, again := [], tx := none, timed := [], ack := none, window := none, rxFrom := none, rxLost := false, swap := false, share := [], noise := [] }).set 3 { cur := none, again := [], tx := some { kind := 0, frame := { typ := 1, msg := [], dst := .all, key := 1, launch := none, persist := none, owner := .none, psdu := none }, start := 0, stop := 0, train := false }, timed := [], ack := none, window := none, rxFrom := none, rxLost := false, swap := false, share := [], noise := [] } } } : State), 3, 0, by decide, by decide⟩

theorem test_wit_RadioReceptionCompletes_5 : ∃ (s : State) (ch : Fin 8) (r : RxFrame) (v : State), (s.listens ch.val = true) ∧ ((s.chan ch.val).rxLost = false) ∧ (v = (s.updChan ch.val fun c => { c with rxFrom := none, rxLost := false }).pubChan ch.val) ∧ (r.fcsOk = false) :=
  ⟨({ (((demo .firing []).put RAD_CTL.EN 1).put (RAD_CH_CTL.EN 3) 1) with clk := 0, rad := { State.reset.rad with chans := (List.replicate 8 { cur := none, again := [], tx := none, timed := [], ack := none, window := none, rxFrom := none, rxLost := false, swap := false, share := [], noise := [] }).set 3 { cur := none, again := [], tx := none, timed := [], ack := none, window := none, rxFrom := none, rxLost := false, swap := false, share := [], noise := [] } } } : State), 3, { fcsOk := false, pan := 0, dst := 0xF000, dstExt := false, src := 7, srcExt := false, ar := true, secured := true, level := 5, keyIdx := 1, ctr := 1, header := [], payload := [], csl := none, rssi := -80, lqi := 9, lead := 0 }, _, by decide, by decide, rfl, by decide⟩

theorem test_wit_RadioReceptionCompletes_6 : ∃ (s : State) (ch : Fin 8) (r : RxFrame) (v : State), (s.listens ch.val = true) ∧ ((s.chan ch.val).rxLost = false) ∧ (v = (s.updChan ch.val fun c => { c with rxFrom := none, rxLost := false }).pubChan ch.val) ∧ (r.fcsOk = true) ∧ (v.addressed r = false) :=
  ⟨({ (((demo .firing []).put RAD_CTL.EN 1).put (RAD_CH_CTL.EN 3) 1) with clk := 0, rad := { State.reset.rad with chans := (List.replicate 8 { cur := none, again := [], tx := none, timed := [], ack := none, window := none, rxFrom := none, rxLost := false, swap := false, share := [], noise := [] }).set 3 { cur := none, again := [], tx := none, timed := [], ack := none, window := none, rxFrom := none, rxLost := false, swap := false, share := [], noise := [] } } } : State), 3, { fcsOk := true, pan := 0, dst := 5, dstExt := false, src := 7, srcExt := false, ar := true, secured := true, level := 5, keyIdx := 1, ctr := 1, header := [], payload := [], csl := none, rssi := -80, lqi := 9, lead := 0 }, _, by decide, by decide, rfl, by decide, by decide⟩

theorem test_wit_RadioReceptionCompletes_7 : ∃ (s : State) (ch : Fin 8) (r : RxFrame) (v : State), (s.listens ch.val = true) ∧ ((s.chan ch.val).rxLost = false) ∧ (v = (s.updChan ch.val fun c => { c with rxFrom := none, rxLost := false }).pubChan ch.val) ∧ (r.fcsOk = true) ∧ (v.addressed r = true) ∧ (r.secured = false) ∧ (leAt r.payload 0 1 ≠ 0x7F) :=
  ⟨({ (((demo .firing []).put RAD_CTL.EN 1).put (RAD_CH_CTL.EN 3) 1) with clk := 0, rad := { State.reset.rad with chans := (List.replicate 8 { cur := none, again := [], tx := none, timed := [], ack := none, window := none, rxFrom := none, rxLost := false, swap := false, share := [], noise := [] }).set 3 { cur := none, again := [], tx := none, timed := [], ack := none, window := none, rxFrom := none, rxLost := false, swap := false, share := [], noise := [] } } } : State), 3, { fcsOk := true, pan := 0, dst := 0xF000, dstExt := false, src := 7, srcExt := false, ar := true, secured := false, level := 5, keyIdx := 1, ctr := 1, header := [], payload := [], csl := none, rssi := -80, lqi := 9, lead := 0 }, _, by decide, by decide, rfl, by decide, by decide, by decide, by decide⟩

theorem test_wit_RadioReceptionCompletes_8 : ∃ (s : State) (ch : Fin 8) (r : RxFrame) (v : State), (s.listens ch.val = true) ∧ ((s.chan ch.val).rxLost = false) ∧ (v = (s.updChan ch.val fun c => { c with rxFrom := none, rxLost := false }).pubChan ch.val) ∧ (r.fcsOk = true) ∧ (v.addressed r = true) ∧ (r.secured = true) ∧ (r.srcExt = true) :=
  ⟨({ (((demo .firing []).put RAD_CTL.EN 1).put (RAD_CH_CTL.EN 3) 1) with clk := 0, rad := { State.reset.rad with chans := (List.replicate 8 { cur := none, again := [], tx := none, timed := [], ack := none, window := none, rxFrom := none, rxLost := false, swap := false, share := [], noise := [] }).set 3 { cur := none, again := [], tx := none, timed := [], ack := none, window := none, rxFrom := none, rxLost := false, swap := false, share := [], noise := [] } } } : State), 3, { fcsOk := true, pan := 0, dst := 0xF000, dstExt := false, src := 7, srcExt := true, ar := true, secured := true, level := 5, keyIdx := 1, ctr := 1, header := [], payload := [], csl := none, rssi := -80, lqi := 9, lead := 0 }, _, by decide, by decide, rfl, by decide, by decide, by decide, by decide⟩

theorem test_wit_RadioReceptionCompletes_9 : ∃ (s : State) (ch : Fin 8) (r : RxFrame) (v : State), (s.listens ch.val = true) ∧ ((s.chan ch.val).rxLost = false) ∧ (v = (s.updChan ch.val fun c => { c with rxFrom := none, rxLost := false }).pubChan ch.val) ∧ (r.fcsOk = true) ∧ (v.addressed r = true) ∧ (r.secured = true) ∧ (r.srcExt = false) ∧ (r.src < 4096) ∧ (v.epLive r.src = true) ∧ (v.isRadio r.src = true) :=
  ⟨({ (((((demo .firing []).put RAD_CTL.EN 1).put (RAD_CH_CTL.EN 3) 1).put (EPC_STATE.STATE 7) 2).put (EPC_REACH.REACH 7) 1) with clk := 0, rad := { State.reset.rad with chans := (List.replicate 8 { cur := none, again := [], tx := none, timed := [], ack := none, window := none, rxFrom := none, rxLost := false, swap := false, share := [], noise := [] }).set 3 { cur := none, again := [], tx := none, timed := [], ack := none, window := none, rxFrom := none, rxLost := false, swap := false, share := [], noise := [] } } } : State), 3, { fcsOk := true, pan := 0, dst := 0xF000, dstExt := false, src := 7, srcExt := false, ar := true, secured := true, level := 5, keyIdx := 1, ctr := 1, header := [], payload := [], csl := none, rssi := -80, lqi := 9, lead := 0 }, _, by decide, by decide, rfl, by decide, by decide, by decide, by decide, by decide, by decide, by decide⟩

theorem test_wit_RadioReceptionCompletes_10 : ∃ (s : State) (ch : Fin 8) (r : RxFrame) (v : State), (s.listens ch.val = true) ∧ ((s.chan ch.val).rxLost = false) ∧ (v = (s.updChan ch.val fun c => { c with rxFrom := none, rxLost := false }).pubChan ch.val) ∧ (r.fcsOk = true) ∧ (v.addressed r = true) ∧ (r.secured = true) ∧ (r.srcExt = false) ∧ (v.epLive r.src = false) :=
  ⟨({ (((demo .firing []).put RAD_CTL.EN 1).put (RAD_CH_CTL.EN 3) 1) with clk := 0, rad := { State.reset.rad with chans := (List.replicate 8 { cur := none, again := [], tx := none, timed := [], ack := none, window := none, rxFrom := none, rxLost := false, swap := false, share := [], noise := [] }).set 3 { cur := none, again := [], tx := none, timed := [], ack := none, window := none, rxFrom := none, rxLost := false, swap := false, share := [], noise := [] } } } : State), 3, { fcsOk := true, pan := 0, dst := 0xF000, dstExt := false, src := 7, srcExt := false, ar := true, secured := true, level := 5, keyIdx := 1, ctr := 1, header := [], payload := [], csl := none, rssi := -80, lqi := 9, lead := 0 }, _, by decide, by decide, rfl, by decide, by decide, by decide, by decide, by decide⟩

theorem test_wit_SwitchPacketsComplete_1 : ∃ (s : State) (p : Fin 20) (fcsOk joined : Bool) (k : PacketIn) (t : Nat × Nat) (q : Nat), (p.val ≠ 8) ∧ (p.val ≠ 9) ∧ (s.up .swc = true) ∧ (k.bytes ≠ []) ∧ (k.bytes.length ≤ 9728) ∧ (k.group = none) ∧ (t = s.tenantOf p.val k.bytes) ∧ (q = k.queue % 4256) :=
  ⟨demo .firing [], 10, true, false, { bytes := [1], cls := 1, hmq := 0, queue := 5000, group := none }, _, _, by decide, by decide, by decide, by decide, by decide, rfl, rfl, rfl⟩

theorem test_wit_SwitchPacketsComplete_2 : ∃ (s : State) (p : Fin 20) (fcsOk joined : Bool) (k : PacketIn) (t : Nat × Nat) (q g : Nat), (p.val ≠ 8) ∧ (p.val ≠ 9) ∧ (s.up .swc = true) ∧ (k.bytes ≠ []) ∧ (k.bytes.length ≤ 9728) ∧ (k.group = some g) ∧ (t = s.tenantOf p.val k.bytes) ∧ (q = k.queue % 4256) :=
  ⟨demo .firing [], 10, true, false, { bytes := [1], cls := 1, hmq := 0, queue := 5, group := some 3 }, _, _, 3, by decide, by decide, by decide, by decide, by decide, rfl, rfl, rfl⟩

theorem test_wit_SwitchPacketsComplete_3 : ∃ (s : State) (p : Fin 20) (fcsOk joined : Bool) (k : PacketIn), (p.val ≠ 8) ∧ (p.val ≠ 9) ∧ (s.up .swc = true) ∧ (9728 < k.bytes.length) :=
  ⟨demo .firing [], 10, true, false, { bytes := List.replicate 9729 0, cls := 1, hmq := 0, queue := 5000, group := none }, by decide, by decide, by decide, by rw [List.length_replicate]; decide⟩

theorem test_wit_SwitchPacketsComplete_4 : ∃ (s : State) (p : Fin 20) (fcsOk joined : Bool) (k : PacketIn), (p.val = 8 ∨ p.val = 9) :=
  ⟨demo .firing [], 8, true, false, { bytes := [1], cls := 1, hmq := 0, queue := 5000, group := none }, by decide⟩

theorem test_wit_SwitchPacketsComplete_5 : ∃ (s : State) (p : Fin 20), (s.up .swc = true) ∧ (p.val < 8) :=
  ⟨demo .firing [], 3, by decide, by decide⟩

theorem test_wit_SwitchPacketsComplete_6 : ∃ (s : State) (p : Fin 20), (s.up .swc = true) ∧ (p.val = 8 ∨ p.val = 9) :=
  ⟨demo .firing [], 8, by decide, by decide⟩

theorem test_wit_SwitchPacketsComplete_7 : ∃ (s : State) (p : Fin 20), (s.up .swc = true) ∧ (p.val = 10 ∨ p.val = 11) :=
  ⟨demo .firing [], 10, by decide, by decide⟩

theorem test_wit_SwitchPacketsComplete_8 : ∃ (s : State) (p : Fin 20) (d : Desc) (v : State), (s.up .swc = true) ∧ (p.val = 12 ∨ p.val = 14 ∨ p.val = 16 ∨ p.val = 18 ∨ p.val = 19) ∧ ((s.schedule p.val).1 = some d) ∧ (v = (s.schedule p.val).2) :=
  ⟨({ (demo .firing []) with swc := { State.reset.swc with q := [{ id := 0, queue := 4192, port := 12, seq := 0, len := 1, tenant := 0, cls := 0, colour := 0, ingress := 0, hmq := 0, body := .raw [1] }] } } : State), 12, { id := 0, queue := 4192, port := 12, seq := 0, len := 1, tenant := 0, cls := 0, colour := 0, ingress := 0, hmq := 0, body := .raw [1] }, _, by decide, by decide, by decide, rfl⟩

theorem test_wit_SwitchPacketsComplete_9 : ∃ (s : State) (p : Fin 20) (d : Desc) (v : State) (e l c f : Nat), (s.up .swc = true) ∧ (p.val = 13) ∧ ((s.schedule 13).1 = some d) ∧ (v = (s.schedule 13).2) ∧ (d.body = .bus e l c f) :=
  ⟨({ (demo .firing []) with swc := { State.reset.swc with q := [{ id := 0, queue := 4200, port := 13, seq := 0, len := 1, tenant := 0, cls := 0, colour := 0, ingress := 0, hmq := 0, body := .bus 1 2 3 4 }] } } : State), 13, { id := 0, queue := 4200, port := 13, seq := 0, len := 1, tenant := 0, cls := 0, colour := 0, ingress := 0, hmq := 0, body := .bus 1 2 3 4 }, _, 1, 2, 3, 4, by decide, by decide, by decide, rfl, by decide⟩

theorem test_wit_SwitchPacketsComplete_10 : ∃ (s : State) (p : Fin 20), (s.up .swc = true) ∧ (p.val = 15) :=
  ⟨demo .firing [], 15, by decide, by decide⟩

theorem test_wit_SwitchPacketsComplete_11 : ∃ (s : State) (p : Fin 20), (s.up .swc = true) ∧ (p.val = 17) :=
  ⟨demo .firing [], 17, by decide, by decide⟩

theorem test_wit_SwitchPacketsComplete_12 : ∃ (s : State) (t : Fin 64) (v : State), (s.up .swc = true) ∧ (s.swc.writeAt.any (fun x => isTenantWord t.val x.1 && s.swcDue x) = true) ∧ (v = State.boundary { s with swc := { s.swc with writeAt := s.swc.writeAt.filter fun x => !isTenantWord t.val x.1 } } (SWC_TENANT_CFG.adr t.val) (SWC_TENANT_CFG.adr t.val + 0x40)) :=
  ⟨({ (demo .firing []) with swc := { State.reset.swc with writeAt := [(SWC_TENANT_CFG.adr 3, 0)] } } : State), 3, _, by decide, by decide, rfl⟩

theorem test_wit_SwitchClaimsComplete_1 : ∃ (s : State) (src : Src), (s.up .swc = true) :=
  ⟨demo .firing [], .core, by decide⟩

theorem test_wit_SwitchClaimsComplete_2 : ∃ (s : State) (src : Src) (val : Word), (s.up .swc = true) ∧ (bitOf val.toNat 31 = false) :=
  ⟨demo .firing [], .core, 7, by decide, by decide⟩

theorem test_wit_SwitchClaimsComplete_3 : ∃ (s : State) (src : Src) (val : Word) (k : Claimed), (s.up .swc = true) ∧ (bitOf val.toNat 31 = true) ∧ ((s.wr SWC_CELL_SEL.adr (val.toNat - bitsOf val.toNat 15 1 * 2 ^ 15)).claimOf src (bitsOf val.toNat 0 15) = some k) :=
  ⟨({ (demo .firing []) with swc := { State.reset.swc with claims := [{ cell := 7, tag := 3, link := 0, data := [] }] } } : State), .core, 0x80010007, { cell := 7, tag := 3, link := 0, data := [] }, by decide, by decide, by decide⟩

theorem test_wit_SwitchClaimsComplete_4 : ∃ (s : State) (src : Src) (val : Word), (s.up .swc = true) ∧ (bitOf val.toNat 31 = true) ∧ ((s.wr SWC_CELL_SEL.adr (val.toNat - bitsOf val.toNat 15 1 * 2 ^ 15)).claimOf src (bitsOf val.toNat 0 15) = none) :=
  ⟨demo .firing [], .core, 0x80010007, by decide, by decide, by decide⟩

theorem test_wit_SwitchClaimsComplete_5 : ∃ (s : State) (src : Src) (off : Fin 256) (sz : Fin 4) (val : BitVec 64), (State.reaches s { src := src, wr := true, sz := sz.val, off := 0x598000 + off.val } = true) ∧ (Access.aligned { src := src, wr := true, sz := sz.val, off := 0x598000 + off.val } = true) :=
  ⟨demo .firing [], .core, 4, 2, 9, by decide, by decide⟩

theorem test_wit_SwitchClaimsComplete_6 : ∃ (s : State) (src : Src) (off : Fin 256) (sz : Fin 4), (State.reaches s { src := src, wr := false, sz := sz.val, off := 0x598000 + off.val } = true) ∧ (Access.aligned { src := src, wr := false, sz := sz.val, off := 0x598000 + off.val } = true) :=
  ⟨demo .firing [], .core, 4, 2, by decide, by decide⟩

theorem test_wit_SwitchClaimsComplete_7 : ∃ (s : State) (src : Src) (cell : BitVec 15), (s.up .swc = true) ∧ (s.freeRefusal src cell.toNat = none) :=
  ⟨({ (demo .firing []) with swc := { State.reset.swc with claims := [{ cell := 7, tag := 3, link := 0, data := [] }] } } : State), .core, 7, by decide, by decide⟩

theorem test_wit_SwitchClaimsComplete_8 : ∃ (s : State) (src : Src) (cell : BitVec 15) (r : Nat), (s.up .swc = true) ∧ (s.freeRefusal src cell.toNat = some r) :=
  ⟨demo .firing [], .core, 7, 1, by decide, by decide⟩

theorem test_wit_SwitchClaimsComplete_9 : ∃ (s : State) (t : State) (src : Src) (cells : List Nat) (o : Offer), (s.ready .swc) ∧ (t = s.taken .swc 1) ∧ (1 ≤ t.fld SWC_CMD_ARG0.LEN) ∧ (t.fld SWC_CMD_ARG0.LEN ≤ 9728) ∧ (t.fld SWC_CMD_ARG1.QUEUE ≤ 4255) ∧ (t.chain src (cellsFor (t.fld SWC_CMD_ARG0.LEN)) (t.fld SWC_CMD_ARG0.CELL) = some cells) ∧ (cells.eraseDups.length = cells.length) ∧ (o = ⟨t.fld SWC_CMD_ARG0.LEN, t.tenantFor (t.fld SWC_CMD_ARG1.QUEUE) (t.fld SWC_CMD_ARG1.TENANT), t.fld SWC_CMD_ARG1.CLASS, 0, ingressOf src, t.fld SWC_CMD_ARG1.HMQ, .raw ((cells.flatMap fun c => ((t.claimOf src c).map (·.data)).getD []).take (t.fld SWC_CMD_ARG0.LEN)), [t.fld SWC_CMD_ARG1.QUEUE], some cells⟩) ∧ ((t.offer o).1 = 0) :=
  ⟨({ (((demo .firing []).put SWC_CMD_ARG0.LEN 1).put SWC_CMD_ARG0.CELL 7) with swc := { State.reset.swc with claims := [{ cell := 7, tag := 3, link := 0x7FFF, data := [] }] } } : State), _, .core, [7], _, by decide, rfl, by decide, by decide, by decide, by decide, by decide, rfl, by decide⟩

theorem test_wit_SwitchClaimsComplete_10 : ∃ (s : State) (t : State) (src : Src) (cells : List Nat) (o : Offer), (s.ready .swc) ∧ (t = s.taken .swc 1) ∧ (1 ≤ t.fld SWC_CMD_ARG0.LEN) ∧ (t.fld SWC_CMD_ARG0.LEN ≤ 9728) ∧ (t.fld SWC_CMD_ARG1.QUEUE ≤ 4255) ∧ (t.chain src (cellsFor (t.fld SWC_CMD_ARG0.LEN)) (t.fld SWC_CMD_ARG0.CELL) = some cells) ∧ (cells.eraseDups.length = cells.length) ∧ (o = ⟨t.fld SWC_CMD_ARG0.LEN, t.tenantFor (t.fld SWC_CMD_ARG1.QUEUE) (t.fld SWC_CMD_ARG1.TENANT), t.fld SWC_CMD_ARG1.CLASS, 0, ingressOf src, t.fld SWC_CMD_ARG1.HMQ, .raw ((cells.flatMap fun c => ((t.claimOf src c).map (·.data)).getD []).take (t.fld SWC_CMD_ARG0.LEN)), [t.fld SWC_CMD_ARG1.QUEUE], some cells⟩) ∧ ((t.offer o).1 ≠ 0) :=
  ⟨({ ((((((((demo .firing []).put SWC_CMD_ARG0.LEN 1).put SWC_CMD_ARG0.CELL 7).put SWC_CTL.EN 1).put SWC_CMD_ARG1.QUEUE 4196).put (SWC_Q_CFG.EN 4196) 1).put (SWC_Q_CFG.QUOTA 4196) 255).put (SWC_TENANT_CFG.QUOTA 0) 100) with swc := { State.reset.swc with claims := [{ cell := 7, tag := 3, link := 0x7FFF, data := [] }] } } : State), _, .core, [7], _, by decide, rfl, by decide, by decide, by decide, by decide, by decide, rfl, by decide⟩

theorem test_wit_SwitchClaimsComplete_11 : ∃ (s : State) (t : State), (s.ready .swc) ∧ (t = s.taken .swc 2) ∧ (t.fld SWC_CMD_ARG1.QUEUE ≤ 4255) :=
  ⟨demo .firing [], _, by decide, rfl, by decide⟩

theorem test_wit_HostQueuesComplete_1 : ∃ (s : State) (q : Fin 16) (val : Word), (s.up .hmq = true) ∧ (s.bit (HMQ_Q_CFG.EN q.val) = true) ∧ ((s.hq q.val).discard = true) :=
  ⟨({ ((demo .firing []).put (HMQ_Q_CFG.EN 3) 1) with clk := 0, hmq := (List.replicate 32 { wp := 0, rp := 0, buf := [], active := [], idle := [], discard := false, pushAt := 0, popAt := 0, stale := false }).set 3 { wp := 0, rp := 0, buf := [], active := [], idle := [], discard := true, pushAt := 0, popAt := 0, stale := false } } : State), 3, 5, by decide, by decide, by decide⟩

theorem test_wit_HostQueuesComplete_2 : ∃ (s : State) (q : Fin 16) (val : Word), (s.up .hmq = true) ∧ (s.bit (HMQ_Q_CFG.EN q.val) = true) ∧ ((s.hq q.val).discard = false) ∧ ((s.hq q.val).room = 0) :=
  ⟨({ ((demo .firing []).put (HMQ_Q_CFG.EN 3) 1) with clk := 0, hmq := (List.replicate 32 { wp := 0, rp := 0, buf := [], active := [], idle := [], discard := false, pushAt := 0, popAt := 0, stale := false }).set 3 { wp := 0, rp := 0, buf := List.replicate 1024 { data := 5, fin := false, poison := false }, active := [], idle := [], discard := false, pushAt := 0, popAt := 0, stale := false } } : State), 3, 5, by decide, by decide, by decide, (room_buf 1024).trans rfl⟩

theorem test_wit_HostQueuesComplete_3 : ∃ (s : State) (q : Fin 16) (val : Word), (s.up .hmq = true) ∧ (s.bit (HMQ_Q_CFG.EN q.val) = true) ∧ ((s.hq q.val).discard = false) ∧ ((s.hq q.val).room = 1) :=
  ⟨({ ((demo .firing []).put (HMQ_Q_CFG.EN 3) 1) with clk := 0, hmq := (List.replicate 32 { wp := 0, rp := 0, buf := [], active := [], idle := [], discard := false, pushAt := 0, popAt := 0, stale := false }).set 3 { wp := 0, rp := 0, buf := List.replicate 1023 { data := 5, fin := false, poison := false }, active := [], idle := [], discard := false, pushAt := 0, popAt := 0, stale := false } } : State), 3, 5, by decide, by decide, by decide, (room_buf 1023).trans rfl⟩

theorem test_wit_HostQueuesComplete_4 : ∃ (s : State) (q : Fin 16) (val : Word), (s.up .hmq = true) ∧ (s.bit (HMQ_Q_CFG.EN q.val) = true) ∧ ((s.hq q.val).discard = false) ∧ (2 ≤ (s.hq q.val).room) :=
  ⟨({ ((demo .firing []).put (HMQ_Q_CFG.EN 3) 1) with clk := 0, hmq := (List.replicate 32 { wp := 0, rp := 0, buf := [], active := [], idle := [], discard := false, pushAt := 0, popAt := 0, stale := false }).set 3 { wp := 0, rp := 0, buf := [], active := [], idle := [], discard := false, pushAt := 0, popAt := 0, stale := false } } : State), 3, 5, by decide, by decide, by decide, by decide⟩

theorem test_wit_HostQueuesComplete_5 : ∃ (s : State) (q : Fin 16) (val : Word), (s.up .hmq = true) ∧ (s.bit (HMQ_Q_CFG.EN q.val) = true) ∧ ((s.hq q.val).discard = true) :=
  ⟨({ ((demo .firing []).put (HMQ_Q_CFG.EN 3) 1) with clk := 0, hmq := (List.replicate 32 { wp := 0, rp := 0, buf := [], active := [], idle := [], discard := false, pushAt := 0, popAt := 0, stale := false }).set 3 { wp := 0, rp := 0, buf := [], active := [], idle := [], discard := true, pushAt := 0, popAt := 0, stale := false } } : State), 3, 5, by decide, by decide, by decide⟩

theorem test_wit_HostQueuesComplete_6 : ∃ (s : State) (q : Fin 16) (val : Word), (s.up .hmq = true) ∧ (s.bit (HMQ_Q_CFG.EN q.val) = true) ∧ ((s.hq q.val).discard = false) ∧ ((s.hq q.val).room = 0) :=
  ⟨({ ((demo .firing []).put (HMQ_Q_CFG.EN 3) 1) with clk := 0, hmq := (List.replicate 32 { wp := 0, rp := 0, buf := [], active := [], idle := [], discard := false, pushAt := 0, popAt := 0, stale := false }).set 3 { wp := 0, rp := 0, buf := List.replicate 1024 { data := 5, fin := false, poison := false }, active := [], idle := [], discard := false, pushAt := 0, popAt := 0, stale := false } } : State), 3, 5, by decide, by decide, by decide, (room_buf 1024).trans rfl⟩

theorem test_wit_HostQueuesComplete_7 : ∃ (s : State) (q : Fin 16) (val : Word), (s.up .hmq = true) ∧ (s.bit (HMQ_Q_CFG.EN q.val) = true) ∧ ((s.hq q.val).discard = false) ∧ ((s.hq q.val).room ≠ 0) :=
  ⟨({ ((demo .firing []).put (HMQ_Q_CFG.EN 3) 1) with clk := 0, hmq := (List.replicate 32 { wp := 0, rp := 0, buf := [], active := [], idle := [], discard := false, pushAt := 0, popAt := 0, stale := false }).set 3 { wp := 0, rp := 0, buf := [], active := [], idle := [], discard := false, pushAt := 0, popAt := 0, stale := false } } : State), 3, 5, by decide, by decide, by decide, by decide⟩

theorem test_wit_HostQueuesComplete_8 : ∃ (s : State) (src : Src) (q : Fin 16) (bad : Bool), (s.up .hmq = true) ∧ ((s.hq (16 + q.val)).refill.active = []) :=
  ⟨({ (demo .firing []) with clk := 0, hmq := (List.replicate 32 { wp := 0, rp := 0, buf := [], active := [], idle := [], discard := false, pushAt := 0, popAt := 0, stale := false }).set 3 { wp := 0, rp := 0, buf := [], active := [], idle := [], discard := false, pushAt := 0, popAt := 0, stale := false } } : State), .core, 3, false, by decide, by decide⟩

theorem test_wit_HostQueuesComplete_9 : ∃ (s : State) (src : Src) (q : Fin 16) (bad : Bool) (w : HWord) (l : List HWord) (h : Hq), (s.up .hmq = true) ∧ ((s.hq (16 + q.val)).refill.active = w :: l) ∧ (h = { (s.hq (16 + q.val)).refill with active := l, rp := ((s.hq (16 + q.val)).refill.rp + 1) % 2048, popAt := s.clk, stale := false }) :=
  ⟨({ (demo .firing []) with clk := 0, hmq := (List.replicate 32 { wp := 0, rp := 0, buf := [], active := [], idle := [], discard := false, pushAt := 0, popAt := 0, stale := false }).set 19 { wp := 0, rp := 0, buf := [{ data := 5, fin := true, poison := false }], active := [], idle := [], discard := false, pushAt := 0, popAt := 0, stale := false } } : State), .core, 3, false, { data := 5, fin := true, poison := false }, [], _, by decide, by decide, rfl⟩

theorem test_wit_HostQueuesComplete_10 : ∃ (s : State) (q : Fin 32), (s.up .hmq = true) ∧ (q.val < 16) ∧ ((s.hq q.val).active ≠ []) ∧ ((s.hq q.val).pushAt + usec ≤ s.clk) :=
  ⟨({ (demo .firing []) with clk := 2 ^ 20, hmq := (List.replicate 32 { wp := 0, rp := 0, buf := [], active := [], idle := [], discard := false, pushAt := 0, popAt := 0, stale := false }).set 3 { wp := 0, rp := 0, buf := [], active := [{ data := 5, fin := false, poison := false }], idle := [], discard := false, pushAt := 0, popAt := 0, stale := false } } : State), 3, by decide, by decide, by decide, by decide⟩

theorem test_wit_HostQueuesComplete_11 : ∃ (s : State) (q : Fin 16) (bad : Bool) (p : List HWord) (v : State), (s.up .hmq = true) ∧ (s.sbOf q.val = none) ∧ ((s.takeDown q.val bad).1 = some p) ∧ (v = (s.takeDown q.val bad).2) ∧ (v.fld (HMQ_Q_CFG.BIND q.val) = 0) :=
  ⟨({ (demo .firing []) with clk := 0, hmq := (List.replicate 32 { wp := 0, rp := 0, buf := [], active := [], idle := [], discard := false, pushAt := 0, popAt := 0, stale := false }).set 3 { wp := 0, rp := 0, buf := [{ data := 5, fin := true, poison := false }], active := [], idle := [], discard := false, pushAt := 0, popAt := 0, stale := false } } : State), 3, false, [{ data := 5, fin := true, poison := false }], _, by decide, by decide, by decide, rfl, by decide⟩

theorem test_wit_HostQueuesComplete_12 : ∃ (s : State) (q : Fin 16) (bad : Bool) (p : List HWord) (v : State), (s.up .hmq = true) ∧ (s.sbOf q.val = none) ∧ ((s.takeDown q.val bad).1 = some p) ∧ (v = (s.takeDown q.val bad).2) ∧ (v.fld (HMQ_Q_CFG.BIND q.val) ≠ 0) ∧ ((bad || p.any (·.poison)) = true) :=
  ⟨({ ((demo .firing []).put (HMQ_Q_CFG.BIND 3) 1) with clk := 0, hmq := (List.replicate 32 { wp := 0, rp := 0, buf := [], active := [], idle := [], discard := false, pushAt := 0, popAt := 0, stale := false }).set 3 { wp := 0, rp := 0, buf := [{ data := 5, fin := true, poison := false }], active := [], idle := [], discard := false, pushAt := 0, popAt := 0, stale := false } } : State), 3, true, [{ data := 5, fin := true, poison := false }], _, by decide, by decide, by decide, rfl, by decide, by decide⟩

theorem test_wit_HostQueuesComplete_13 : ∃ (s : State) (q : Fin 16) (bad : Bool) (p : List HWord) (v : State), (s.up .hmq = true) ∧ (s.sbOf q.val = none) ∧ ((s.takeDown q.val bad).1 = some p) ∧ (v = (s.takeDown q.val bad).2) ∧ (v.fld (HMQ_Q_CFG.BIND q.val) ≠ 0) ∧ ((bad || p.any (·.poison)) = false) :=
  ⟨({ ((demo .firing []).put (HMQ_Q_CFG.BIND 3) 1) with clk := 0, hmq := (List.replicate 32 { wp := 0, rp := 0, buf := [], active := [], idle := [], discard := false, pushAt := 0, popAt := 0, stale := false }).set 3 { wp := 0, rp := 0, buf := [{ data := 5, fin := true, poison := false }], active := [], idle := [], discard := false, pushAt := 0, popAt := 0, stale := false } } : State), 3, false, [{ data := 5, fin := true, poison := false }], _, by decide, by decide, by decide, rfl, by decide, by decide⟩

theorem test_wit_HostQueuesComplete_14 : ∃ (s : State) (d : Desc) (v t : State), (s.up .hmq = true) ∧ ((s.schedule 15).1 = some d) ∧ (v = (s.schedule 15).2) ∧ (s.fld (HMQ_Q_CFG.BIND d.hmq) ≠ 0) ∧ (16 ≤ d.hmq) ∧ (s.sbOf (d.hmq - 16) = none) ∧ (v.hmqStore d.hmq (upWords d) = some t) :=
  ⟨({ (((demo .firing []).put (HMQ_Q_CFG.BIND 19) 1).put (HMQ_Q_CFG.EN 19) 1) with clk := 0, hmq := (List.replicate 32 { wp := 0, rp := 0, buf := [], active := [], idle := [], discard := false, pushAt := 0, popAt := 0, stale := false }).set 19 { wp := 0, rp := 0, buf := [], active := [], idle := [], discard := false, pushAt := 0, popAt := 0, stale := false }, swc := { State.reset.swc with q := [{ id := 0, queue := 4216, port := 15, seq := 0, len := 1, tenant := 0, cls := 0, colour := 0, ingress := 0, hmq := 19, body := .raw [1] }] } } : State), { id := 0, queue := 4216, port := 15, seq := 0, len := 1, tenant := 0, cls := 0, colour := 0, ingress := 0, hmq := 19, body := .raw [1] }, _, _, by decide, by decide, rfl, by decide, by decide, by decide, rfl⟩

theorem test_wit_HostQueuesComplete_15 : ∃ (s : State) (q : Fin 32) (n : Nat), (s.up .hmq = true) ∧ (n = min 1000000 (s.cf (HMQ_Q_CFG.STALE_US q.val))) ∧ (n ≠ 0) ∧ ((s.hq q.val).words ≠ []) ∧ ((s.hq q.val).stale = false) ∧ ((s.hq q.val).popAt + n * usec ≤ s.clk) :=
  ⟨({ ((demo .firing []).put (HMQ_Q_CFG.STALE_US 3) 1) with clk := 2 ^ 20, hmq := (List.replicate 32 { wp := 0, rp := 0, buf := [], active := [], idle := [], discard := false, pushAt := 0, popAt := 0, stale := false }).set 3 { wp := 0, rp := 0, buf := [{ data := 5, fin := true, poison := false }], active := [], idle := [], discard := false, pushAt := 0, popAt := 0, stale := false } } : State), 3, _, by decide, rfl, by decide, by decide, by decide, by decide⟩

theorem test_wit_HostQueuesComplete_16 : ∃ (s : State) (t : State), (s.ready .hmq) ∧ (t = s.taken .hmq 1) :=
  ⟨demo .firing [], _, by decide, rfl⟩

theorem test_wit_NetworkTimeCommandsComplete_1 : ∃ (s : State) (f : Nat), (s.up .ntu = true) ∧ (s.bit NTU_CTL.EN = true) ∧ (f = s.ntu.frc / 500000 * 500000) ∧ (s.ntu.fb < f) :=
  ⟨({ ((demo .firing []).put NTU_CTL.EN 1) with clk := 0, ntu := { State.reset.ntu with frc := 500000 } } : State), _, by decide, by decide, rfl, by decide⟩

theorem test_wit_NetworkTimeCommandsComplete_2 : ∃ (s : State) (src : Src) (val : Word), (s.up .ntu = true) ∧ (s.bit NTU_CTL.SERVO ≠ (src == .core)) ∧ (s.jumpOver (toSigned 32 val.toNat) = false) :=
  ⟨demo .firing [], .core, 5, by decide, by decide, by decide⟩

theorem test_wit_NetworkTimeCommandsComplete_3 : ∃ (s : State) (src : Src) (val : Word), (s.up .ntu = true) ∧ (s.bit NTU_CTL.SERVO ≠ (src == .core)) ∧ (s.jumpOver (toSigned 32 val.toNat) = true) :=
  ⟨(((demo .firing []).put NTU_STAT.STATE 2).put NTU_JUMP.LIMIT_NS 1000), .core, 5000, by decide, by decide, by decide⟩

theorem test_wit_NetworkTimeCommandsComplete_4 : ∃ (s : State) (src : Src) (val : Word), (s.up .ntu = true) ∧ (s.bit NTU_CTL.SERVO = (src == .core)) ∧ (src ≠ .core) :=
  ⟨demo .firing [], .hspi, 5, by decide, by decide, by decide⟩

theorem test_wit_NetworkTimeCommandsComplete_5 : ∃ (s : State) (t : State), (s.ready .ntu) ∧ (t = s.taken .ntu 1) ∧ (t.jumpOver (t.pair64 NTU_STEP_LO.adr NTU_STEP_HI.adr) = false) :=
  ⟨demo .firing [], _, by decide, rfl, by decide⟩

theorem test_wit_NetworkTimeCommandsComplete_6 : ∃ (s : State) (t : State), (s.ready .ntu) ∧ (t = s.taken .ntu 1) ∧ (t.jumpOver (t.pair64 NTU_STEP_LO.adr NTU_STEP_HI.adr) = true) :=
  ⟨((((demo .firing []).put NTU_STAT.STATE 2).put NTU_JUMP.LIMIT_NS 1000).put ⟨NTU_STEP_LO.adr, 0, 32⟩ 5000), _, by decide, rfl, by decide⟩

theorem test_wit_NetworkTimeCommandsComplete_7 : ∃ (s : State) (src : Src) (a : State), (s.ready .ntu) ∧ ((s.taken .ntu 2).authorise src = some a) :=
  ⟨(({ demo .firing [] with key := { State.reset.key with sessions := [{ src := 0, id := 1, ip := 0, port := 0, last := 0 }] } } : State)), .hspi, ((({ demo .firing [] with key := { State.reset.key with sessions := [{ src := 0, id := 1, ip := 0, port := 0, last := 0 }] } } : State))).taken .ntu 2, by decide, by rfl⟩

theorem test_wit_NetworkTimeCommandsComplete_8 : ∃ (s : State) (t : State) (o : Int), (s.ready .ntu) ∧ (t = s.taken .ntu 3) ∧ (t.fld NTU_CMD_ARG.INDEX ≤ 4) ∧ (t.intact (t.fld NTU_CMD_ARG.INDEX) = true) ∧ (o = (t.offset (t.fld NTU_CMD_ARG.INDEX)).getD 0) ∧ (t.jumpOver o = false) ∧ (o = 0) :=
  ⟨({ (demo .firing []) with clk := 0, ntu := { State.reset.ntu with srcs := List.replicate 5 { st := 2, meas := [], good := 0, lastAt := 0, disagree := false, badAt := none, ok := true, passed := false } } } : State), _, _, by decide, rfl, by decide, by decide, rfl, by decide, by decide⟩

theorem test_wit_NetworkTimeCommandsComplete_9 : ∃ (s : State) (t : State) (o : Int), (s.ready .ntu) ∧ (t = s.taken .ntu 3) ∧ (t.fld NTU_CMD_ARG.INDEX ≤ 4) ∧ (t.intact (t.fld NTU_CMD_ARG.INDEX) = true) ∧ (o = (t.offset (t.fld NTU_CMD_ARG.INDEX)).getD 0) ∧ (t.jumpOver o = false) ∧ (o ≠ 0) :=
  ⟨({ (demo .firing []) with clk := 0, ntu := { State.reset.ntu with srcs := List.replicate 5 { st := 2, meas := [(0, 7)], good := 0, lastAt := 0, disagree := false, badAt := none, ok := true, passed := false } } } : State), _, _, by decide, rfl, by decide, by decide, rfl, by decide, by decide⟩

theorem test_wit_NetworkTimeCommandsComplete_10 : ∃ (s : State) (t : State) (x : Nat) (v : State), (s.ready .ntu) ∧ (t = s.taken .ntu 4) ∧ (x = t.cmpTarget (t.fld NTU_CMD_ARG.INDEX)) ∧ (t.inRange x = true) ∧ (v = t.armedCmp (t.fld NTU_CMD_ARG.INDEX)) :=
  ⟨demo .firing [], _, _, _, by decide, rfl, rfl, by decide, rfl⟩

theorem test_wit_NetworkTimeCommandsComplete_11 : ∃ (s : State) (t : State), (s.ready .ntu) ∧ (t = s.taken .ntu 5) :=
  ⟨demo .firing [], _, by decide, rfl⟩

theorem test_wit_NetworkTimeEventsComplete_1 : ∃ (s : State) (n : Fin 16), (s.up .ntu = true) ∧ (s.bit (NTU_CMP_W0.ARMED n.val) = true) ∧ (reached s.nt (s.cmpTarget n.val) = true) :=
  ⟨((demo .firing []).put (NTU_CMP_W0.ARMED 3) 1), 3, by decide, by decide, by decide⟩

theorem test_wit_NetworkTimeEventsComplete_2 : ∃ (s : State), (s.up .ntu = true) ∧ (s.fld NTU_STAT.STATE = 3) ∧ (s.cf NTU_HOLD.HOLD_S * secs ≤ s.unlockedFor) :=
  ⟨({ (((demo .firing []).put NTU_STAT.STATE 3).put NTU_HOLD.HOLD_S 1) with clk := 0, ntu := { State.reset.ntu with frc := 2 ^ 40 } } : State), by decide, by decide, by decide⟩

theorem test_wit_NetworkTimeEventsComplete_3 : ∃ (s : State), (s.up .ntu = true) ∧ (s.ntValid = true) ∧ (s.bit NTU_UTC.LEAP61 = true) ∧ (s.utcSec % 86400 = 0) :=
  ⟨({ (((demo .firing []).put NTU_STAT.VALID 1).put NTU_UTC.LEAP61 1) with clk := 0, ntu := { State.reset.ntu with tb := 37000000000 * 65536 } } : State), by decide, by decide, by decide, by decide⟩

theorem test_wit_NetworkTimeEventsComplete_4 : ∃ (s : State), (s.up .ntu = true) ∧ (s.ntValid = true) ∧ (s.bit NTU_UTC.LEAP59 = true) ∧ (s.utcSec % 86400 = 86399) :=
  ⟨({ (((demo .firing []).put NTU_STAT.VALID 1).put NTU_UTC.LEAP59 1) with clk := 0, ntu := { State.reset.ntu with tb := 86436000000000 * 65536 } } : State), by decide, by decide, by decide, by decide⟩

theorem test_wit_NetworkTimeEventsComplete_5 : ∃ (s : State), (s.up .ntu = true) ∧ (s.cfB NTU_RTC_CFG.EN = true) ∧ (s.bit NTU_STAT.SYNC = true) ∧ (s.ntu.capAt = none ∨ s.ntu.ofsChg = true) :=
  ⟨(((demo .firing []).put NTU_RTC_CFG.EN 1).put NTU_STAT.SYNC 1), by decide, by decide, by decide, Or.inl (by decide)⟩

theorem test_wit_NetworkTimeEventsComplete_6 : ∃ (s : State) (a : Nat) (u r : Int), (s.up .ntu = true) ∧ (s.cfB NTU_RTC_CFG.EN = true) ∧ (s.bit NTU_STAT.SYNC = true) ∧ (s.ntu.capAt = some (a, u, r)) ∧ (a + clampN 1 255 (s.cf NTU_RTC_CFG.INTERVAL_MIN) * 60 * secs ≤ s.clk) :=
  ⟨({ (((demo .firing []).put NTU_RTC_CFG.EN 1).put NTU_STAT.SYNC 1) with clk := 2 ^ 50, ntu := { State.reset.ntu with capAt := some (0, 0, 0) } } : State), 0, 0, 0, by decide, by decide, by decide, by decide, by decide⟩

theorem test_wit_NetworkTimeEventsComplete_7 : ∃ (s : State), (s.up .ntu = true) ∧ (s.fld NTU_STAT.STATE = 2) ∧ (s.ntu.recAt + 3600 * secs ≤ s.ntu.frc) :=
  ⟨({ ((demo .firing []).put NTU_STAT.STATE 2) with clk := 0, ntu := { State.reset.ntu with frc := 2 ^ 50 } } : State), by decide, by decide, by decide⟩

theorem test_wit_NetworkTimeEventsComplete_8 : ∃ (s : State) (p : Fin 2) (sync slave : Bool) (ofs : Option Int) (utc : Option (Int × Bool × Bool)) (msg : List Byte), (s.up .bbn = true) ∧ (s.bit BBN_CTL.EN = true) ∧ (s.up .ntu = true) :=
  ⟨((demo .firing []).put BBN_CTL.EN 1), 0, true, true, some 5, none, [1], by decide, by decide, by decide⟩

theorem test_wit_NetworkTimeEventsComplete_9 : ∃ (s : State) (p : Fin 2) (origin addCf tsReq bad : Bool) (b : List Byte) (y o : Nat) (c : List Byte), (s.up .bbn = true) ∧ (s.bit BBN_CTL.EN = true) ∧ (s.up .ntu = true) ∧ (s.bit (BBN_PORT_STAT.LINK p.val) = true) ∧ (y = s.stamp (s.txCorr p.val)) ∧ (ptpAt b = some (o, none)) ∧ (c = ptpInsert origin addCf y o b) :=
  ⟨(((demo .firing []).put BBN_CTL.EN 1).put (BBN_PORT_STAT.LINK 1) 1), 1, true, true, true, false, (List.replicate 12 0 ++ [0x88, 0xF7] ++ List.replicate 44 0), _, 14, _, by decide, by decide, by decide, by decide, rfl, by decide, rfl⟩

theorem test_wit_NetworkTimeEventsComplete_10 : ∃ (s : State) (p : Fin 2) (origin addCf tsReq bad : Bool) (b : List Byte) (y o u : Nat) (c : List Byte), (s.up .bbn = true) ∧ (s.bit BBN_CTL.EN = true) ∧ (s.up .ntu = true) ∧ (s.bit (BBN_PORT_STAT.LINK p.val) = true) ∧ (y = s.stamp (s.txCorr p.val)) ∧ (ptpAt b = some (o, some u)) ∧ (c = (if beAt b (u + 6) 2 = 0 then ptpInsert origin addCf y o b else splice (ptpInsert origin addCf y o b) (u + 6) (beBytes 2 (fixCsum b (ptpInsert origin addCf y o b) (u + 8) (beAt b (u + 6) 2))))) :=
  ⟨(((demo .firing []).put BBN_CTL.EN 1).put (BBN_PORT_STAT.LINK 1) 1), 1, true, true, true, false, (List.replicate 12 0 ++ [0x08, 0x00, 0x45] ++ List.replicate 63 0), _, 42, 34, _, by decide, by decide, by decide, by decide, rfl, by decide, rfl⟩

theorem test_wit_NetworkTimeEventsComplete_11 : ∃ (s : State) (rising : Bool), (s.up .ntu = true) ∧ (s.cfB NTU_GNSS_CFG.EN = true) ∧ (rising ≠ s.cfB NTU_GNSS_CFG.EDGE) :=
  ⟨((demo .firing []).put NTU_GNSS_CFG.EN 1), true, by decide, by decide, by decide⟩

theorem test_wit_NetworkTimeEventsComplete_12 : ∃ (s : State) (utc : Nat), (s.up .ntu = true) ∧ (s.cfB NTU_GNSS_CFG.EN = true) :=
  ⟨((demo .firing []).put NTU_GNSS_CFG.EN 1), 5, by decide, by decide⟩

theorem test_wit_NetworkTimeEventsComplete_13 : ∃ (s : State) (utc : Nat), (s.up .ntu = true) ∧ (s.cfB NTU_GNSS_CFG.EN = true) ∧ (s.ntu.pps = none) :=
  ⟨((demo .firing []).put NTU_GNSS_CFG.EN 1), 5, by decide, by decide, by decide⟩

theorem test_wit_NetworkTimeEventsComplete_14 : ∃ (s : State) (utc : Nat) (f : Nat) (v : State), (s.up .ntu = true) ∧ (s.cfB NTU_GNSS_CFG.EN = true) ∧ (s.ntu.pps = some f) ∧ (f + 10 * msec ≤ s.ntu.frc) ∧ (s.ntu.frc ≤ f + 900 * msec) ∧ (v = (s.updSrc 4 fun x => { x with ok := true })) :=
  ⟨({ ((demo .firing []).put NTU_GNSS_CFG.EN 1) with clk := 0, ntu := { State.reset.ntu with frc := 2 ^ 24, pps := some 0 } } : State), 5, 0, _, by decide, by decide, by decide, by decide, by decide, rfl⟩

theorem test_wit_MistazilFramesComplete_1 : ∃ (s : State) (l : Fin 2) (x : MzRx), (s.mzUp l.val = true) ∧ (x.hdrOk = false) :=
  ⟨({ (((((demo .firing []).put MZL_CFG.EN 1).put MZL_STAT.ENUMERATED 1).put (MZL_LINK_STAT.UP 0) 1).put (MZL_LINK_STAT.UP 1) 1) with clk := 0 } : State), 1, { hdrOk := false, crcOk := true, adj := true, dst := 0, src := 1, tag := 7, payload := [] }, by decide, by decide⟩

theorem test_wit_MistazilFramesComplete_2 : ∃ (s : State) (l : Fin 2) (x : MzRx), (s.mzUp l.val = true) ∧ (x.hdrOk = true) ∧ (x.crcOk = false) :=
  ⟨({ (((((demo .firing []).put MZL_CFG.EN 1).put MZL_STAT.ENUMERATED 1).put (MZL_LINK_STAT.UP 0) 1).put (MZL_LINK_STAT.UP 1) 1) with clk := 0 } : State), 1, { hdrOk := true, crcOk := false, adj := true, dst := 0, src := 1, tag := 7, payload := [] }, by decide, by decide, by decide⟩

theorem test_wit_MistazilFramesComplete_3 : ∃ (s : State) (l : Fin 2) (x : MzRx) (v : State) (out : Nat), (s.mzUp l.val = true) ∧ (x.hdrOk = true) ∧ (x.crcOk = true) ∧ (v = s.bump (MZL_LINK_RX.FRAMES l.val)) ∧ (v.mzRoute l.val x = some out) :=
  ⟨({ (((((demo .firing []).put MZL_CFG.EN 1).put MZL_STAT.ENUMERATED 1).put (MZL_LINK_STAT.UP 0) 1).put (MZL_LINK_STAT.UP 1) 1) with clk := 0 } : State), 0, { hdrOk := true, crcOk := true, adj := false, dst := 5, src := 1, tag := 7, payload := [] }, _, 1, by decide, by decide, by decide, rfl, by decide⟩

theorem test_wit_MistazilFramesComplete_4 : ∃ (s : State) (l : Fin 2) (x : MzRx) (v w : State), (s.mzUp l.val = true) ∧ (x.hdrOk = true) ∧ (x.crcOk = true) ∧ (v = s.bump (MZL_LINK_RX.FRAMES l.val)) ∧ (v.mzRoute l.val x = none) ∧ (w = v.mzTaken l.val mzReq x) ∧ (opListed x.payload = true) :=
  ⟨({ (((((demo .firing []).put MZL_CFG.EN 1).put MZL_STAT.ENUMERATED 1).put (MZL_LINK_STAT.UP 0) 1).put (MZL_LINK_STAT.UP 1) 1) with clk := 0 } : State), 0, { hdrOk := true, crcOk := true, adj := true, dst := 0, src := 1, tag := 7, payload := [1, 0, 0, 0, 0, 0, 0, 0, 0, 0, 0, 0, 0, 0, 0, 0] }, _, _, by decide, by decide, by decide, rfl, by decide, rfl, by decide⟩

theorem test_wit_MistazilFramesComplete_5 : ∃ (s : State) (l : Fin 2) (x : MzRx) (v w : State), (s.mzUp l.val = true) ∧ (x.hdrOk = true) ∧ (x.crcOk = true) ∧ (v = s.bump (MZL_LINK_RX.FRAMES l.val)) ∧ (v.mzRoute l.val x = none) ∧ (w = v.mzTaken l.val mzReq x) ∧ (opListed x.payload = false) :=
  ⟨({ (((((demo .firing []).put MZL_CFG.EN 1).put MZL_STAT.ENUMERATED 1).put (MZL_LINK_STAT.UP 0) 1).put (MZL_LINK_STAT.UP 1) 1) with clk := 0 } : State), 0, { hdrOk := true, crcOk := true, adj := true, dst := 0, src := 1, tag := 7, payload := [] }, _, _, by decide, by decide, by decide, rfl, by decide, rfl, by decide⟩

theorem test_wit_MistazilFramesComplete_6 : ∃ (s : State) (l : Fin 2) (x : MzRx) (v w : State) (r : Req) (t : State), (s.mzUp l.val = true) ∧ (x.hdrOk = true) ∧ (x.crcOk = true) ∧ (v = s.bump (MZL_LINK_RX.FRAMES l.val)) ∧ (v.mzRoute l.val x = none) ∧ (w = v.mzTaken l.val mzRsp x) ∧ (w.mz.reqs.find? (fun r => r.tag == x.tag && r.link == l.val) = some r) ∧ (x.src = r.pos) ∧ (t = (w.closeReq r.tag).mzFlow l.val) :=
  ⟨({ (((((demo .firing []).put MZL_CFG.EN 1).put MZL_STAT.ENUMERATED 1).put (MZL_LINK_STAT.UP 0) 1).put (MZL_LINK_STAT.UP 1) 1) with clk := 0, mz := { State.reset.mz with reqs := [{ tag := 7, pos := 1, link := 0, at_ := 0, origin := .usb }] } } : State), 0, { hdrOk := true, crcOk := true, adj := true, dst := 0, src := 1, tag := 7, payload := [] }, _, _, { tag := 7, pos := 1, link := 0, at_ := 0, origin := .usb }, _, by decide, by decide, by decide, rfl, by decide, rfl, by decide, by decide, rfl⟩

theorem test_wit_MistazilFramesComplete_7 : ∃ (s : State) (l : Fin 2) (x : MzRx) (v w : State) (r : Req) (t : State), (s.mzUp l.val = true) ∧ (x.hdrOk = true) ∧ (x.crcOk = true) ∧ (v = s.bump (MZL_LINK_RX.FRAMES l.val)) ∧ (v.mzRoute l.val x = none) ∧ (w = v.mzTaken l.val mzRsp x) ∧ (w.mz.reqs.find? (fun r => r.tag == x.tag && r.link == l.val) = some r) ∧ (x.src ≠ r.pos) ∧ (t = (w.closeReq r.tag).mzFlow l.val) :=
  ⟨({ (((((demo .firing []).put MZL_CFG.EN 1).put MZL_STAT.ENUMERATED 1).put (MZL_LINK_STAT.UP 0) 1).put (MZL_LINK_STAT.UP 1) 1) with clk := 0, mz := { State.reset.mz with reqs := [{ tag := 7, pos := 1, link := 0, at_ := 0, origin := .usb }] } } : State), 0, { hdrOk := true, crcOk := true, adj := true, dst := 0, src := 2, tag := 7, payload := [] }, _, _, { tag := 7, pos := 1, link := 0, at_ := 0, origin := .usb }, _, by decide, by decide, by decide, rfl, by decide, rfl, by decide, by decide, rfl⟩

theorem test_wit_MistazilFramesComplete_8 : ∃ (s : State) (l : Fin 2) (x : MzRx) (v w : State) (k : PacketIn), (s.mzUp l.val = true) ∧ (x.hdrOk = true) ∧ (x.crcOk = true) ∧ (v = s.bump (MZL_LINK_RX.FRAMES l.val)) ∧ (v.mzRoute l.val x = none) ∧ (w = v.mzTaken l.val mzData x) ∧ (x.payload.take 3 ≠ [0x52, 0x46, 0x01]) ∧ ((s.pairEn && l.val == s.pairLink && x.adj && x.payload.take 4 == [0x54, 0x4C, 0x4D, 0x52]) = false) :=
  ⟨({ (((((demo .firing []).put MZL_CFG.EN 1).put MZL_STAT.ENUMERATED 1).put (MZL_LINK_STAT.UP 0) 1).put (MZL_LINK_STAT.UP 1) 1) with clk := 0 } : State), 0, { hdrOk := true, crcOk := true, adj := true, dst := 0, src := 1, tag := 7, payload := [1, 2, 3] }, _, _, { bytes := [], cls := 1, hmq := 0, queue := 5000, group := none }, by decide, by decide, by decide, rfl, by decide, rfl, by decide, by decide⟩

theorem test_wit_MistazilFramesComplete_9 : ∃ (s : State) (l : Fin 2) (x : MzRx) (v w : State) (y : MzLink), (s.mzUp l.val = true) ∧ (x.hdrOk = true) ∧ (x.crcOk = true) ∧ (v = s.bump (MZL_LINK_RX.FRAMES l.val)) ∧ (v.mzRoute l.val x = none) ∧ (w = v.mzTaken l.val mzCredit x) ∧ (y = w.link l.val) :=
  ⟨({ (((((demo .firing []).put MZL_CFG.EN 1).put MZL_STAT.ENUMERATED 1).put (MZL_LINK_STAT.UP 0) 1).put (MZL_LINK_STAT.UP 1) 1) with clk := 0 } : State), 0, { hdrOk := true, crcOk := true, adj := true, dst := 0, src := 1, tag := 7, payload := [1, 0, 0, 0] }, _, _, _, by decide, by decide, by decide, rfl, by decide, rfl, rfl⟩

theorem test_wit_MistazilFramesComplete_10 : ∃ (s : State) (l : Fin 2) (x : MzRx) (v w : State), (s.mzUp l.val = true) ∧ (x.hdrOk = true) ∧ (x.crcOk = true) ∧ (v = s.bump (MZL_LINK_RX.FRAMES l.val)) ∧ (v.mzRoute l.val x = none) ∧ (w = v.mzTaken l.val mzEnum x) ∧ (l.val = 0) :=
  ⟨({ (((((demo .firing []).put MZL_CFG.EN 1).put MZL_STAT.ENUMERATED 1).put (MZL_LINK_STAT.UP 0) 1).put (MZL_LINK_STAT.UP 1) 1) with clk := 0 } : State), 0, { hdrOk := true, crcOk := true, adj := true, dst := 0, src := 1, tag := 7, payload := [1, 0, 0, 0] }, _, _, by decide, by decide, by decide, rfl, by decide, rfl, by decide⟩

theorem test_wit_MistazilFramesComplete_11 : ∃ (s : State) (l : Fin 2) (x : MzRx) (v w : State), (s.mzUp l.val = true) ∧ (x.hdrOk = true) ∧ (x.crcOk = true) ∧ (v = s.bump (MZL_LINK_RX.FRAMES l.val)) ∧ (v.mzRoute l.val x = none) ∧ (w = v.mzTaken l.val mzEnum x) ∧ (l.val = 1) ∧ (w.enumerated = true) ∧ (w.pos = 0) :=
  ⟨({ (((((demo .firing []).put MZL_CFG.EN 1).put MZL_STAT.ENUMERATED 1).put (MZL_LINK_STAT.UP 0) 1).put (MZL_LINK_STAT.UP 1) 1) with clk := 0 } : State), 1, { hdrOk := true, crcOk := true, adj := true, dst := 0, src := 1, tag := 7, payload := [1, 0, 0, 0] }, _, _, by decide, by decide, by decide, rfl, by decide, rfl, by decide, by decide, by decide⟩

theorem test_wit_MistazilFramesComplete_12 : ∃ (s : State) (l : Fin 2) (x : MzRx) (v w : State), (s.mzUp l.val = true) ∧ (x.hdrOk = true) ∧ (x.crcOk = true) ∧ (v = s.bump (MZL_LINK_RX.FRAMES l.val)) ∧ (v.mzRoute l.val x = none) ∧ (w = v.mzTaken l.val mzIrq x) ∧ (w.pos = 0) :=
  ⟨({ (((((demo .firing []).put MZL_CFG.EN 1).put MZL_STAT.ENUMERATED 1).put (MZL_LINK_STAT.UP 0) 1).put (MZL_LINK_STAT.UP 1) 1) with clk := 0 } : State), 0, { hdrOk := true, crcOk := true, adj := true, dst := 0, src := 1, tag := 7, payload := [1, 0, 0, 0] }, _, _, by decide, by decide, by decide, rfl, by decide, rfl, by decide⟩

theorem test_wit_MistazilFramesComplete_13 : ∃ (s : State) (l : Fin 2) (x : MzRx) (v w : State), (s.mzUp l.val = true) ∧ (x.hdrOk = true) ∧ (x.crcOk = true) ∧ (v = s.bump (MZL_LINK_RX.FRAMES l.val)) ∧ (v.mzRoute l.val x = none) ∧ (w = v.mzTaken l.val mzTime x) ∧ (leAt x.payload 0 1 = 1) :=
  ⟨({ (((((demo .firing []).put MZL_CFG.EN 1).put MZL_STAT.ENUMERATED 1).put (MZL_LINK_STAT.UP 0) 1).put (MZL_LINK_STAT.UP 1) 1) with clk := 0 } : State), 0, { hdrOk := true, crcOk := true, adj := true, dst := 0, src := 1, tag := 7, payload := [1, 0, 0, 0, 0, 0, 0, 0, 0, 0, 0, 0, 0, 0, 0, 0, 0, 0, 0, 0, 0, 0, 0, 0, 0, 0, 0, 0, 0, 0, 0, 0] }, _, _, by decide, by decide, by decide, rfl, by decide, rfl, by decide⟩

theorem test_wit_MistazilFramesComplete_14 : ∃ (s : State) (l : Fin 2) (x : MzRx) (v w : State) (seq : Nat) (t1 : Int), (s.mzUp l.val = true) ∧ (x.hdrOk = true) ∧ (x.crcOk = true) ∧ (v = s.bump (MZL_LINK_RX.FRAMES l.val)) ∧ (v.mzRoute l.val x = none) ∧ (w = v.mzTaken l.val mzTime x) ∧ (w.ntu.exch = some (seq, t1)) ∧ (l.val = 0) ∧ (leAt x.payload 0 1 = 2) ∧ (leAt x.payload 4 2 = seq) :=
  ⟨({ (((((demo .firing []).put MZL_CFG.EN 1).put MZL_STAT.ENUMERATED 1).put (MZL_LINK_STAT.UP 0) 1).put (MZL_LINK_STAT.UP 1) 1) with clk := 0, ntu := { State.reset.ntu with exch := some (0, 0) } } : State), 0, { hdrOk := true, crcOk := true, adj := true, dst := 0, src := 1, tag := 7, payload := [2, 0, 0, 0, 0, 0, 0, 0, 0, 0, 0, 0, 0, 0, 0, 0, 0, 0, 0, 0, 0, 0, 0, 0, 0, 0, 0, 0, 0, 0, 0, 0] }, _, _, 0, 0, by decide, by decide, by decide, rfl, by decide, rfl, by decide, by decide, by decide, by decide⟩

theorem test_wit_MistazilFramesComplete_15 : ∃ (s : State), (s.mzUp 0 = true) ∧ (s.mz.timeAt = none) :=
  ⟨({ (((((demo .firing []).put MZL_CFG.EN 1).put MZL_STAT.ENUMERATED 1).put (MZL_LINK_STAT.UP 0) 1).put (MZL_LINK_STAT.UP 1) 1) with clk := 0 } : State), by decide, by decide⟩

theorem test_wit_MistazilFramesComplete_16 : ∃ (s : State) (a : Nat), (s.mzUp 0 = true) ∧ (s.mz.timeAt = some a) ∧ (a + msec ≤ s.clk) :=
  ⟨({ (((((demo .firing []).put MZL_CFG.EN 1).put MZL_STAT.ENUMERATED 1).put (MZL_LINK_STAT.UP 0) 1).put (MZL_LINK_STAT.UP 1) 1) with clk := 2 ^ 30, mz := { State.reset.mz with timeAt := some 0 } } : State), 0, by decide, by decide, by decide⟩

theorem test_wit_MistazilEventsComplete_1 : ∃ (s : State) (t : BitVec 8) (r : Req), (s.mz.reqs.find? (fun r => r.tag == t.toNat) = some r) ∧ (r.at_ + clampN 10 10000 (s.fld MZL_CFG.REQ_TO_US) * usec ≤ s.clk) :=
  ⟨({ (((((demo .firing []).put MZL_CFG.EN 1).put MZL_STAT.ENUMERATED 1).put (MZL_LINK_STAT.UP 0) 1).put (MZL_LINK_STAT.UP 1) 1) with clk := 2 ^ 40, mz := { State.reset.mz with reqs := [{ tag := 7, pos := 1, link := 0, at_ := 0, origin := .usb }] } } : State), 7, { tag := 7, pos := 1, link := 0, at_ := 0, origin := .usb }, by decide, by decide⟩

theorem test_wit_MistazilEventsComplete_2 : ∃ (s : State) (l : Fin 2) (on same : Bool) (v w : State), (s.up .mzl = true) ∧ (s.bit MZL_CFG.EN = true) ∧ (v = s.putB MZL_STAT.DLA_MISMATCH (on && !same)) ∧ ((on && same) = true) ∧ (v.bit (MZL_LINK_STAT.UP l.val) = false) ∧ (w = v.linkUp l.val) ∧ ((w.pairEn && l.val == w.pairLink) = false) :=
  ⟨({ (((demo .firing []).put MZL_CFG.EN 1).put MZL_STAT.ENUMERATED 1) with clk := 0 } : State), 0, true, true, _, _, by decide, by decide, rfl, by decide, by decide, rfl, by decide⟩

theorem test_wit_MistazilEventsComplete_3 : ∃ (s : State) (l : Fin 2) (on same : Bool) (v w : State), (s.up .mzl = true) ∧ (s.bit MZL_CFG.EN = true) ∧ (v = s.putB MZL_STAT.DLA_MISMATCH (on && !same)) ∧ ((on && same) = false) ∧ (v.bit (MZL_LINK_STAT.UP l.val) = true) ∧ (w = v.linkDown l.val) ∧ ((w.pairEn && l.val == w.pairLink) = false) :=
  ⟨({ (((((demo .firing []).put MZL_CFG.EN 1).put MZL_STAT.ENUMERATED 1).put (MZL_LINK_STAT.UP 0) 1).put (MZL_LINK_STAT.UP 1) 1) with clk := 0 } : State), 0, false, true, _, _, by decide, by decide, rfl, by decide, by decide, rfl, by decide⟩

theorem test_wit_MistazilEventsComplete_4 : ∃ (s : State) (l : Fin 2) (on same : Bool) (v w : State), (s.up .mzl = true) ∧ (s.bit MZL_CFG.EN = true) ∧ (v = s.putB MZL_STAT.DLA_MISMATCH (on && !same)) ∧ ((on && same) = true) ∧ (v.bit (MZL_LINK_STAT.UP l.val) = false) ∧ (w = v.linkUp l.val) ∧ ((w.pairEn && l.val == w.pairLink) = true) :=
  ⟨({ ((((demo .firing []).put MZL_CFG.EN 1).put MZL_STAT.ENUMERATED 1).put PAIR_CFG.EN 1) with clk := 0 } : State), 1, true, true, _, _, by decide, by decide, rfl, by decide, by decide, rfl, by decide⟩

theorem test_wit_MistazilEventsComplete_5 : ∃ (s : State) (l : Fin 2) (on same : Bool) (v w : State), (s.up .mzl = true) ∧ (s.bit MZL_CFG.EN = true) ∧ (v = s.putB MZL_STAT.DLA_MISMATCH (on && !same)) ∧ ((on && same) = false) ∧ (v.bit (MZL_LINK_STAT.UP l.val) = true) ∧ (w = v.linkDown l.val) ∧ ((w.pairEn && l.val == w.pairLink) = true) :=
  ⟨({ ((((((demo .firing []).put MZL_CFG.EN 1).put MZL_STAT.ENUMERATED 1).put (MZL_LINK_STAT.UP 0) 1).put (MZL_LINK_STAT.UP 1) 1).put PAIR_CFG.EN 1) with clk := 0 } : State), 1, false, true, _, _, by decide, by decide, rfl, by decide, by decide, rfl, by decide⟩

theorem test_wit_MistazilEventsComplete_6 : ∃ (s : State), (s.up .mzl = true) ∧ (s.bit MZL_CFG.EN = true) ∧ (s.enumerated = false) ∧ (s.mz.aSeen = false) ∧ (s.epc.coldAt + 100 * msec ≤ s.clk) :=
  ⟨({ ((demo .firing []).put MZL_CFG.EN 1) with clk := 2 ^ 40 } : State), by decide, by decide, by decide, by decide, by decide⟩

theorem test_wit_MistazilEventsComplete_7 : ∃ (s : State) (a : Nat), (s.mz.enumAt = some a) ∧ (s.up .mzl = true) ∧ (s.enumerated = true) ∧ (s.pos = 0) ∧ (a + 10 * msec ≤ s.clk) :=
  ⟨({ (((((demo .firing []).put MZL_CFG.EN 1).put MZL_STAT.ENUMERATED 1).put (MZL_LINK_STAT.UP 0) 1).put (MZL_LINK_STAT.UP 1) 1) with clk := 2 ^ 40, mz := { State.reset.mz with enumAt := some 0 } } : State), 0, by decide, by decide, by decide, by decide, by decide⟩

theorem test_wit_MistazilEventsComplete_8 : ∃ (s : State) (t : State), (s.ready .mzl) ∧ (t = s.taken .mzl 1) ∧ (t.enumerated = true) ∧ (t.pos = 0) :=
  ⟨({ (((((demo .firing []).put MZL_CFG.EN 1).put MZL_STAT.ENUMERATED 1).put (MZL_LINK_STAT.UP 0) 1).put (MZL_LINK_STAT.UP 1) 1) with clk := 0 } : State), _, by decide, rfl, by decide, by decide⟩

theorem test_wit_MistazilEventsComplete_9 : ∃ (s : State) (t : State), (s.ready .mzl) ∧ (t = s.taken .mzl 1) ∧ (t.pos ≠ 0) :=
  ⟨({ ((((((demo .firing []).put MZL_CFG.EN 1).put MZL_STAT.ENUMERATED 1).put (MZL_LINK_STAT.UP 0) 1).put (MZL_LINK_STAT.UP 1) 1).put SYS_ID_SEG.POS 1) with clk := 0 } : State), _, by decide, rfl, by decide⟩

theorem test_wit_MistazilEventsComplete_10 : ∃ (s : State), (s.mzUp 0 = true) ∧ (s.pos ≠ 0) ∧ (s.irqCond = true) ∧ (s.mz.irqAt + 100 * msec ≤ s.clk) :=
  ⟨({ (((((((((demo .firing []).put MZL_CFG.EN 1).put MZL_STAT.ENUMERATED 1).put (MZL_LINK_STAT.UP 0) 1).put (MZL_LINK_STAT.UP 1) 1).put SYS_ID_SEG.POS 1).put (⟨CFG_IRQ_EN.adr, 1, 1⟩) 1).put CFG_IRQ_STAT.CMD_DONE 1).put (⟨SYS_IRQ_EN.adr, 1, 1⟩) 1) with clk := 2 ^ 40 } : State), by decide, by decide, by decide, by decide⟩

theorem test_wit_MistazilEventsComplete_11 : ∃ (s : State) (a : Nat), (s.mzUp 1 = true) ∧ (s.bit MZL_CFG.DLA = true) ∧ ((s.link 1).blockedAt = some a) ∧ (a + 20 * usec ≤ s.clk) :=
  ⟨({ ((((((demo .firing []).put MZL_CFG.EN 1).put MZL_STAT.ENUMERATED 1).put (MZL_LINK_STAT.UP 0) 1).put (MZL_LINK_STAT.UP 1) 1).put MZL_CFG.DLA 1) with clk := 2 ^ 30, mz := { State.reset.mz with links := [.fresh, { MzLink.fresh with blockedAt := some 0 }] } } : State), 0, by decide, by decide, by decide, by decide⟩

theorem test_wit_HostPortComplete_1 : ∃ (s : State) (cmd : BitVec 8) (addr : BitVec 32) (full : Bool) (o : HostOp), (s.pwr.mode ≠ .ember) ∧ (s.pwr.mode ≠ .banked) ∧ (o = hspiOp cmd.toNat addr.toNat [] (destrRead cmd.toNat addr.toNat)) ∧ (o.op = 0) ∧ (cmd.toNat % 16 = 0) ∧ (s.matching cmd.toNat addr.toNat [] = none) ∧ (o.pos = s.pos) ∧ (s.reaches o.access = true) ∧ (o.destr = false) ∧ (s.canBegin o.pos = true) :=
  ⟨demo .firing [], 0x20, 0x100, true, _, by decide, by decide, rfl, by decide, by decide, by decide, by decide, by decide, by decide, by decide⟩

theorem test_wit_HostPortComplete_2 : ∃ (s : State) (cmd : BitVec 8) (addr : BitVec 32) (full : Bool) (o : HostOp) (k : Nat), (s.pwr.mode ≠ .ember) ∧ (s.pwr.mode ≠ .banked) ∧ (o = hspiOp cmd.toNat addr.toNat [] (destrRead cmd.toNat addr.toNat)) ∧ (o.op = 0) ∧ (cmd.toNat % 16 = 0) ∧ (s.matching cmd.toNat addr.toNat [] = none) ∧ (o.pos = s.pos) ∧ (s.reaches o.access = true) ∧ (o.destr = true) ∧ (s.destrSlots < 6) ∧ (s.freeFetch = some k) :=
  ⟨demo .firing [], 0x20, 0x441010, true, _, 0, by decide, by decide, rfl, by decide, by decide, by decide, by decide, by decide, by decide, by decide, by decide⟩

theorem test_wit_HostPortComplete_3 : ∃ (s : State) (cmd : BitVec 8) (addr : BitVec 32) (full : Bool) (o : HostOp) (k : Nat), (s.pwr.mode ≠ .ember) ∧ (s.pwr.mode ≠ .banked) ∧ (o = hspiOp cmd.toNat addr.toNat [] (destrRead cmd.toNat addr.toNat)) ∧ (o.op = 0) ∧ (cmd.toNat % 16 = 0) ∧ (s.matching cmd.toNat addr.toNat [] = none) ∧ (o.pos ≠ s.pos) ∧ (s.reachable o.pos = true) ∧ (o.destr = false) ∧ (s.freeFetch = some k) :=
  ⟨((((demo .firing []).put MZL_CFG.EN 1).put MZL_STAT.ENUMERATED 1).put (MZL_LINK_STAT.UP 1) 1), 0x20, 0x04000100, true, _, 0, by decide, by decide, rfl, by decide, by decide, by decide, by decide, by decide, by decide, by decide⟩

theorem test_wit_HostPortComplete_4 : ∃ (s : State) (cmd : BitVec 8) (addr : BitVec 32) (full : Bool) (o : HostOp) (x : HostOp), (s.pwr.mode ≠ .ember) ∧ (s.pwr.mode ≠ .banked) ∧ (o = hspiOp cmd.toNat addr.toNat [] (destrRead cmd.toNat addr.toNat)) ∧ (o.op = 0) ∧ (cmd.toNat % 16 = 0) ∧ (s.matching cmd.toNat addr.toNat [] = some x) :=
  ⟨({ (demo .firing []) with clk := 0, hb := { State.reset.hb with ops := [{ seq := 0, slot := some 2, cmd := 0x20, addr := 0x100, data := [], destr := false, begun := false, result := none, doneAt := 0 }] } } : State), 0x20, 0x100, true, _, { seq := 0, slot := some 2, cmd := 0x20, addr := 0x100, data := [], destr := false, begun := false, result := none, doneAt := 0 }, by decide, by decide, rfl, by decide, by decide, by decide⟩

theorem test_wit_HostPortComplete_5 : ∃ (s : State) (cmd : BitVec 8) (addr : BitVec 32) (full : Bool), (s.pwr.mode ≠ .ember) ∧ (s.pwr.mode ≠ .banked) ∧ (2 ≤ bitsOf cmd.toNat 6 2 ∨ bitsOf cmd.toNat 6 2 = 0 ∧ cmd.toNat % 16 ≠ 0) :=
  ⟨demo .firing [], 0x21, 0x100, true, by decide, by decide, by decide⟩

theorem test_wit_HostPortComplete_6 : ∃ (s : State) (cmd : BitVec 8) (addr : BitVec 32) (data : List Byte) (o : HostOp), (s.pwr.mode ≠ .ember) ∧ (s.pwr.mode ≠ .banked) ∧ (o = hspiOp cmd.toNat addr.toNat data false) ∧ (o.op = 1) ∧ (cmd.toNat % 16 ≠ 0) :=
  ⟨demo .firing [], 0x61, 0x100, [1, 2, 3, 4], _, by decide, by decide, rfl, by decide, by decide⟩

theorem test_wit_HostPortComplete_7 : ∃ (s : State) (cmd : BitVec 8) (addr : BitVec 32) (data : List Byte) (o : HostOp) (x : HostOp), (s.pwr.mode ≠ .ember) ∧ (s.pwr.mode ≠ .banked) ∧ (o = hspiOp cmd.toNat addr.toNat data false) ∧ (o.op = 1) ∧ (cmd.toNat % 16 = 0) ∧ (data.length = o.bytes) ∧ (s.matching cmd.toNat addr.toNat data = some x) :=
  ⟨({ (demo .firing []) with clk := 0, hb := { State.reset.hb with ops := [{ seq := 0, slot := some 2, cmd := 0x60, addr := 0x100, data := [1, 2, 3, 4], destr := false, begun := false, result := none, doneAt := 0 }] } } : State), 0x60, 0x100, [1, 2, 3, 4], _, { seq := 0, slot := some 2, cmd := 0x60, addr := 0x100, data := [1, 2, 3, 4], destr := false, begun := false, result := none, doneAt := 0 }, by decide, by decide, rfl, by decide, by decide, by decide, by decide⟩

theorem test_wit_HostPortComplete_8 : ∃ (s : State) (cmd : BitVec 8) (addr : BitVec 32) (data : List Byte) (o : HostOp), (s.pwr.mode ≠ .ember) ∧ (s.pwr.mode ≠ .banked) ∧ (o = hspiOp cmd.toNat addr.toNat data false) ∧ (o.op = 1) ∧ (cmd.toNat % 16 = 0) ∧ (data.length = o.bytes) ∧ (s.matching cmd.toNat addr.toNat data = none) ∧ (s.mayWrite .hspi o.off = false) :=
  ⟨((demo .firing []).put (HBR_WIN.WR_HSPI 0) 0), 0x60, 0x100, [1, 2, 3, 4], _, by decide, by decide, rfl, by decide, by decide, by decide, by decide, by decide⟩

theorem test_wit_HostPortComplete_9 : ∃ (s : State) (cmd : BitVec 8) (addr : BitVec 32) (data : List Byte) (o : HostOp), (s.pwr.mode ≠ .ember) ∧ (s.pwr.mode ≠ .banked) ∧ (o = hspiOp cmd.toNat addr.toNat data false) ∧ (o.op = 1) ∧ (cmd.toNat % 16 = 0) ∧ (data.length = o.bytes) ∧ (s.matching cmd.toNat addr.toNat data = none) ∧ (s.mayWrite .hspi o.off = true) ∧ (s.bit (HBR_WIN.NP (s.window o.off)) = true) :=
  ⟨(((demo .firing []).put (HBR_WIN.WR_HSPI 0) 1).put (HBR_WIN.NP 0) 1), 0x60, 0x100, [1, 2, 3, 4], _, by decide, by decide, rfl, by decide, by decide, by decide, by decide, by decide, by decide⟩

theorem test_wit_HostPortComplete_10 : ∃ (s : State) (cmd : BitVec 8) (addr : BitVec 32) (data : List Byte) (o : HostOp), (s.pwr.mode ≠ .ember) ∧ (s.pwr.mode ≠ .banked) ∧ (o = hspiOp cmd.toNat addr.toNat data false) ∧ (o.op = 1) ∧ (cmd.toNat % 16 = 0) ∧ (data.length = o.bytes) ∧ (s.matching cmd.toNat addr.toNat data = none) ∧ (s.mayWrite .hspi o.off = true) ∧ (s.bit (HBR_WIN.NP (s.window o.off)) = false) ∧ (s.hb.ops.countP (·.posted) < 16) ∧ (o.pos = s.pos ∨ s.reachable o.pos = true) :=
  ⟨(((demo .firing []).put (HBR_WIN.WR_HSPI 0) 1).put (HBR_WIN.NP 0) 0), 0x60, 0x100, [1, 2, 3, 4], _, by decide, by decide, rfl, by decide, by decide, by decide, by decide, by decide, by decide, by decide, Or.inl (by decide)⟩

theorem test_wit_HostPortComplete_11 : ∃ (s : State) (o : HostOp), (s.hb.ops.find? (fun o => o.posted && o.pos == s.pos) = some o) :=
  ⟨({ (demo .firing []) with clk := 0, hb := { State.reset.hb with ops := [{ seq := 0, slot := none, cmd := 0x60, addr := 0x100, data := [1, 2, 3, 4], destr := false, begun := false, result := none, doneAt := 0 }] } } : State), { seq := 0, slot := none, cmd := 0x60, addr := 0x100, data := [1, 2, 3, 4], destr := false, begun := false, result := none, doneAt := 0 }, by decide⟩

theorem test_wit_HostPortComplete_12 : ∃ (s : State) (k : Fin 8) (o : HostOp), (s.hb.ops.find? (fun o => o.slot == some k.val) = some o) ∧ (o.destr = false) ∧ (o.result.isSome = true) ∧ (o.doneAt + clampN 10 10000 (s.fld HBR_FETCH_CFG.HOLD_US) * usec ≤ s.clk) :=
  ⟨({ (demo .firing []) with clk := 2 ^ 40, hb := { State.reset.hb with ops := [{ seq := 0, slot := some 3, cmd := 0, addr := 0, data := [], destr := false, begun := false, result := some (0, 5), doneAt := 0 }] } } : State), 3, { seq := 0, slot := some 3, cmd := 0, addr := 0, data := [], destr := false, begun := false, result := some (0, 5), doneAt := 0 }, by decide, by decide, by decide, by decide⟩

theorem test_wit_HostPortComplete_13 : ∃ (s : State) (t : State), (s.ready .hbr) ∧ (t = s.taken .hbr 1) :=
  ⟨demo .firing [], _, by decide, rfl⟩

theorem test_wit_UsbComplete_1 : ∃ (s : State) (inside hs : Bool) (v : State), (s.usbOn = true) ∧ (v = (s.bump USB_CNT.BUS_RESETS).putB USB_STAT.HS hs) ∧ ((inside || s.usb.xfer.isSome) = true) :=
  ⟨({ ((demo .firing []).put USB_CTL.EN 1) with usb := { State.reset.usb with xfer := none } } : State), true, true, _, by decide, rfl, by decide⟩

theorem test_wit_UsbComplete_2 : ∃ (s : State) (inside hs : Bool) (v : State), (s.usbOn = true) ∧ (v = (s.bump USB_CNT.BUS_RESETS).putB USB_STAT.HS hs) ∧ ((inside || s.usb.xfer.isSome) = false) :=
  ⟨({ ((demo .firing []).put USB_CTL.EN 1) with usb := { State.reset.usb with xfer := none } } : State), false, true, _, by decide, rfl, by decide⟩

theorem test_wit_UsbComplete_3 : ∃ (s : State) (pos : BitVec 6) (off : BitVec 26) (len : BitVec 16), (s.usbFree = true) ∧ (usbLenOk len.toNat = true) :=
  ⟨({ ((demo .firing []).put USB_CTL.EN 1) with usb := { State.reset.usb with xfer := none } } : State), 0, 0x100, 8, by decide, by decide⟩

theorem test_wit_UsbComplete_4 : ∃ (s : State) (pos : BitVec 6) (off : BitVec 26) (len : BitVec 16), (s.usbFree = true) ∧ (usbLenOk len.toNat = false) :=
  ⟨({ ((demo .firing []).put USB_CTL.EN 1) with usb := { State.reset.usb with xfer := none } } : State), 0, 0x100, 7, by decide, by decide⟩

theorem test_wit_UsbComplete_5 : ∃ (s : State) (pos : BitVec 6) (off : BitVec 26) (data : List Byte), (s.usbFree = true) ∧ (usbLenOk data.length = true) :=
  ⟨({ ((demo .firing []).put USB_CTL.EN 1) with usb := { State.reset.usb with xfer := none } } : State), 0, 0x100, [1, 2, 3, 4], by decide, by decide⟩

theorem test_wit_UsbComplete_6 : ∃ (s : State) (pos : BitVec 6) (off : BitVec 26) (data : List Byte), (s.usbFree = true) ∧ (usbLenOk data.length = false) :=
  ⟨({ ((demo .firing []).put USB_CTL.EN 1) with usb := { State.reset.usb with xfer := none } } : State), 0, 0x100, [1], by decide, by decide⟩

theorem test_wit_UsbComplete_7 : ∃ (s : State) (len : BitVec 16), (s.usbFree = true) ∧ (len.toNat = 8) :=
  ⟨({ ((demo .firing []).put USB_CTL.EN 1) with usb := { State.reset.usb with xfer := none } } : State), 8, by decide, by decide⟩

theorem test_wit_UsbComplete_8 : ∃ (s : State) (len : BitVec 16), (s.usbFree = true) ∧ (len.toNat ≠ 8) :=
  ⟨({ ((demo .firing []).put USB_CTL.EN 1) with usb := { State.reset.usb with xfer := none } } : State), 9, by decide, by decide⟩

theorem test_wit_UsbComplete_9 : ∃ (s : State) (len : BitVec 16), (s.usbFree = true) ∧ (len.toNat = 32) :=
  ⟨({ ((demo .firing []).put USB_CTL.EN 1) with usb := { State.reset.usb with xfer := none } } : State), 32, by decide, by decide⟩

theorem test_wit_UsbComplete_10 : ∃ (s : State) (len : BitVec 16), (s.usbFree = true) ∧ (len.toNat ≠ 32) :=
  ⟨({ ((demo .firing []).put USB_CTL.EN 1) with usb := { State.reset.usb with xfer := none } } : State), 9, by decide, by decide⟩

theorem test_wit_UsbComplete_11 : ∃ (s : State) (k : PacketIn), (s.usbOn = true) :=
  ⟨({ ((demo .firing []).put USB_CTL.EN 1) with usb := { State.reset.usb with xfer := none } } : State), { bytes := [1], cls := 1, hmq := 0, queue := 5000, group := none }, by decide⟩

theorem test_wit_UsbComplete_12 : ∃ (s : State) (d : Desc) (v : State), (s.usbOn = true) ∧ ((s.schedule 17).1 = some d) ∧ (v = (s.schedule 17).2) :=
  ⟨({ ((demo .firing []).put USB_CTL.EN 1) with swc := { State.reset.swc with q := [{ id := 0, queue := 4232, port := 17, seq := 0, len := 1, tenant := 0, cls := 0, colour := 0, ingress := 0, hmq := 19, body := .raw [1] }] } } : State), { id := 0, queue := 4232, port := 17, seq := 0, len := 1, tenant := 0, cls := 0, colour := 0, ingress := 0, hmq := 19, body := .raw [1] }, _, by decide, by decide, rfl⟩

theorem test_wit_UsbComplete_13 : ∃ (s : State) (on : Bool), (s.usbOn = true) ∧ (s.bit USB_STAT.CONFIGURED ≠ on) :=
  ⟨({ ((demo .firing []).put USB_CTL.EN 1) with usb := { State.reset.usb with xfer := none } } : State), true, by decide, by decide⟩

theorem test_wit_UsbComplete_14 : ∃ (s : State) (op : Fin 4) (v : Nat), (s.up .key = true) ∧ (op.val = 1) ∧ (v = s.freeVal) :=
  ⟨demo .firing [], 1, _, by decide, by decide, rfl⟩

theorem test_wit_UsbComplete_15 : ∃ (s : State) (op : Fin 4), (s.up .key = true) ∧ (2 ≤ op.val) ∧ (([0, 1, 4] : List Nat).contains s.key.lc = false) :=
  ⟨({ demo .firing [] with key := { State.reset.key with lc := 2 } } : State), 2, by decide, by decide, by decide⟩

theorem test_wit_UsbComplete_16 : ∃ (s : State) (op : Fin 4), (s.up .key = true) ∧ (op.val = 0 ∨ 2 ≤ op.val ∧ ([0, 1, 4] : List Nat).contains s.key.lc = true) :=
  ⟨demo .firing [], 2, by decide, by decide⟩

theorem test_wit_BackboneComplete_1 : ∃ (s : State) (p : Fin 2) (on gig : Bool), (s.bbOn = true) ∧ (s.bit (BBN_PORT_STAT.LINK p.val) ≠ on) :=
  ⟨({ ((((demo .firing []).put BBN_CTL.EN 1).put (BBN_PORT_STAT.LINK 0) 1).put (BBN_PORT_STAT.LINK 1) 1) with clk := 0 } : State), 1, false, true, by decide, by decide⟩

theorem test_wit_BackboneComplete_2 : ∃ (s : State) (p : Fin 2), (s.bbOn = true) ∧ (s.bit (BBN_PORT_STAT.LINK p.val) = false) ∧ (s.fld (BBN_PORT_CFG.SPEED p.val) = 0 ∨ s.fld (BBN_PORT_CFG.SPEED p.val) = 3) ∧ (s.bb.altAt.getD p.val 0 + 500 * msec ≤ s.clk) :=
  ⟨({ ((demo .firing []).put BBN_CTL.EN 1) with clk := 2 ^ 40 } : State), 1, by decide, by decide, by decide, by decide⟩

theorem test_wit_BackboneComplete_3 : ∃ (s : State), (s.ringOwner = true) ∧ (s.bb.ringAt + 10 * msec ≤ s.clk) :=
  ⟨({ ((((((demo .firing []).put BBN_CTL.EN 1).put (BBN_PORT_STAT.LINK 0) 1).put (BBN_PORT_STAT.LINK 1) 1).put BBN_CTL.RING 1).put BBN_CTL.RING_OWNER 1) with clk := 2 ^ 30 } : State), by decide, by decide⟩

theorem test_wit_BackboneComplete_4 : ∃ (s : State) (seg : BitVec 16) (seq : BitVec 32) (v : State), (s.bbUp 1 = true) ∧ (v = s.bump (BBN_PORT_RX.FRAMES 1)) ∧ (v.ringOwner = true) ∧ (seg.toNat = v.seg) :=
  ⟨({ ((((((demo .firing []).put BBN_CTL.EN 1).put (BBN_PORT_STAT.LINK 0) 1).put (BBN_PORT_STAT.LINK 1) 1).put BBN_CTL.RING 1).put BBN_CTL.RING_OWNER 1) with clk := 0 } : State), 0, 5, _, by decide, rfl, by decide, by decide⟩

theorem test_wit_BackboneComplete_5 : ∃ (s : State) (p : Fin 2) (seg : BitVec 16) (seq : BitVec 32) (v : State), (s.bbUp p.val = true) ∧ (v = s.bump (BBN_PORT_RX.FRAMES p.val)) ∧ (v.ringOwner = false ∨ seg.toNat ≠ v.seg) ∧ (v.bit BBN_CTL.RING = true) ∧ (v.bbUp (1 - p.val) = true) :=
  ⟨({ (((((demo .firing []).put BBN_CTL.EN 1).put (BBN_PORT_STAT.LINK 0) 1).put (BBN_PORT_STAT.LINK 1) 1).put BBN_CTL.RING 1) with clk := 0 } : State), 0, 5, 5, _, by decide, rfl, by decide, by decide, by decide⟩

theorem test_wit_BackboneComplete_7 : ∃ (s : State) (p : Fin 2) (ip : BitVec 32) (port : BitVec 16) (b : List Byte) (r : Bool × State), (s.bbUp p.val = true) ∧ (r = (s.bump (BBN_PORT_RX.FRAMES p.val)).rafAccept b) :=
  ⟨({ ((((demo .firing []).put BBN_CTL.EN 1).put (BBN_PORT_STAT.LINK 0) 1).put (BBN_PORT_STAT.LINK 1) 1) with clk := 0 } : State), 1, 5, 5, [1, 2], _, by decide, rfl⟩

theorem test_wit_LongCommandsEnd_1 : ∃ (s : State), (s.up .cfg = true) ∧ (s.isPending .cfg 2 = true) :=
  ⟨demo .firing [(CFG_CMD_STAT.adr, 0x201)], by decide, by decide⟩

theorem test_wit_LongCommandsEnd_2 : ∃ (s : State) (v : State), (s.log.clearing.isSome = true) ∧ (s.up .log = true) ∧ (v = s.finishClear) :=
  ⟨({ demo .firing [] with log := { State.reset.log with clearing := some (0, 0, 3) } } : State), _, by decide, by decide, rfl⟩

theorem test_wit_LongCommandsEnd_3 : ∃ (s : State) (r : Nat × State) (v t : State), (s.up .upd = true) ∧ (s.upd.confirming = true) ∧ (r = s.verifyBank (1 - s.upd.running)) ∧ (v = r.2.withUpd fun u => { u with confirming := false }) ∧ (t = (if r.1 = 0 then v.setFwBank (1 - s.upd.running) bankBisque 0 else v.bankFails (1 - s.upd.running) failDigest 1)) :=
  ⟨({ demo .firing [] with upd := { State.reset.upd with confirming := true } } : State), _, _, _, by decide, by decide, rfl, rfl, rfl⟩

theorem test_wit_LongCommandsEnd_4 : ∃ (s : State) (ch : Fin 8) (v t : State), (s.up .rad = true) ∧ ((s.chan ch.val).swap = true) ∧ (v = ((((s.updChan ch.val fun c => { c with swap := false }).resumeTimed ch.val).put RAD_STAT.SPARE_USED 1).put RAD_STAT.SPARE_FOR ch.val)) ∧ (t = timedFrameLaunch ch.val ((v.raise RAD_IRQ_STAT.SPARE_IN).pubChan ch.val)) ∧ (s.hlt.busy.find? (fun x => x.1 == 3 && x.2.1 == ch.val) = none) :=
  ⟨({ (((demo .firing []).put RAD_CTL.EN 1).put (RAD_CH_CTL.EN 3) 1) with clk := 0, rad := { State.reset.rad with chans := (List.replicate 8 { cur := none, again := [], tx := none, timed := [], ack := none, window := none, rxFrom := none, rxLost := false, swap := false, share := [], noise := [] }).set 3 { cur := none, again := [], tx := none, timed := [], ack := none, window := none, rxFrom := none, rxLost := false, swap := true, share := [], noise := [] } } } : State), 3, _, _, by decide, by decide, rfl, rfl, by decide⟩

theorem test_wit_LongCommandsEnd_5 : ∃ (s : State) (ch : Fin 8) (v t : State) (n : Nat × Nat × Nat), (s.up .rad = true) ∧ ((s.chan ch.val).swap = true) ∧ (v = ((((s.updChan ch.val fun c => { c with swap := false }).resumeTimed ch.val).put RAD_STAT.SPARE_USED 1).put RAD_STAT.SPARE_FOR ch.val)) ∧ (t = timedFrameLaunch ch.val ((v.raise RAD_IRQ_STAT.SPARE_IN).pubChan ch.val)) ∧ (s.hlt.busy.find? (fun x => x.1 == 3 && x.2.1 == ch.val) = some n) :=
  ⟨({ ({ (((demo .firing []).put RAD_CTL.EN 1).put (RAD_CH_CTL.EN 3) 1) with clk := 0, rad := { State.reset.rad with chans := (List.replicate 8 { cur := none, again := [], tx := none, timed := [], ack := none, window := none, rxFrom := none, rxLost := false, swap := false, share := [], noise := [] }).set 3 { cur := none, again := [], tx := none, timed := [], ack := none, window := none, rxFrom := none, rxLost := false, swap := true, share := [], noise := [] } } } : State) with hlt := { State.reset.hlt with busy := [(3, 3, 5)] } } : State), 3, _, _, (3, 3, 5), by decide, by decide, rfl, rfl, by decide⟩

theorem test_wit_LongCommandsEnd_6 : ∃ (s : State), (s.up .hlt = true) ∧ (s.hlt.vrfHold = true) :=
  ⟨({ demo .firing [] with hlt := { State.reset.hlt with vrfHold := true } } : State), by decide, by decide⟩

theorem test_wit_MeteringIntervalsComplete_1 : ∃ (s : State) (sig : List (List Int)), (s.mtrOn = true) ∧ (s.mtr.intAt + 10 * msec ≤ s.clk) :=
  ⟨({ ((demo .firing []).put MTR_CTL.EN 1) with clk := 2 ^ 40 } : State), [], by decide, by decide⟩

theorem test_wit_MeteringIntervalsComplete_2 : ∃ (s : State) (n : Fin 36) (to16 : Bool), (s.mtrOn = true) ∧ (s.bit (MTR_CH_CTL.AUTO (12 + n.val)) = true) ∧ (s.mtrFailed (12 + n.val) = false) ∧ (s.bit (MTR_CH_STAT.RANGE16 (12 + n.val)) = !to16) :=
  ⟨({ (((demo .firing []).put MTR_CTL.EN 1).put (MTR_CH_CTL.AUTO 12) 1) with clk := 0 } : State), 0, false, by decide, by decide, by decide, by decide⟩

theorem test_wit_MeteringIntervalsComplete_3 : ∃ (s : State) (t : Int), (s.up .mtr = true) :=
  ⟨({ ((demo .firing []).put MTR_CTL.EN 1) with clk := 0 } : State), 250, by decide⟩

theorem test_wit_MeteringIntervalsComplete_4 : ∃ (s : State) (k : Fin 4) (x : SetRun), (s.setOn k.val = true) ∧ (s.crossingOk k.val = true) ∧ (x = s.setRun' k.val) ∧ (s.bit (MTR_SET_RES0.ZC_LOST k.val) = true) :=
  ⟨({ ((((demo .firing []).put MTR_CTL.EN 1).put (MTR_SET_CFG.EN 0) 1).put (MTR_SET_RES0.ZC_LOST 0) 1) with clk := 0 } : State), 0, _, by decide, by decide, rfl, by decide⟩

theorem test_wit_MeteringIntervalsComplete_5 : ∃ (s : State) (k : Fin 4) (x : SetRun), (s.setOn k.val = true) ∧ (s.crossingOk k.val = true) ∧ (x = s.setRun' k.val) ∧ (s.bit (MTR_SET_RES0.ZC_LOST k.val) = false) ∧ (x.first = none) :=
  ⟨({ (((demo .firing []).put MTR_CTL.EN 1).put (MTR_SET_CFG.EN 0) 1) with clk := 0 } : State), 0, _, by decide, by decide, rfl, by decide, by decide⟩

theorem test_wit_MeteringIntervalsComplete_6 : ∃ (s : State) (k : Fin 4) (x : SetRun) (t : Nat), (s.setOn k.val = true) ∧ (s.crossingOk k.val = true) ∧ (x = s.setRun' k.val) ∧ (s.bit (MTR_SET_RES0.ZC_LOST k.val) = false) ∧ (x.first = some t) ∧ (x.count + 1 = s.periodsK) :=
  ⟨({ (((demo .firing []).put MTR_CTL.EN 1).put (MTR_SET_CFG.EN 0) 1) with clk := 10000000, mtr := { State.reset.mtr with sets := [{ last := some 0, first := some 0, start := 0, count := 9, ended := none }] } } : State), 0, _, 0, by decide, by decide, rfl, by decide, by decide, by decide⟩

theorem test_wit_MeteringIntervalsComplete_7 : ∃ (s : State) (k : Fin 4) (x : SetRun) (t : Nat), (s.setOn k.val = true) ∧ (s.crossingOk k.val = true) ∧ (x = s.setRun' k.val) ∧ (s.bit (MTR_SET_RES0.ZC_LOST k.val) = false) ∧ (x.first = some t) ∧ (x.count + 1 ≠ s.periodsK) :=
  ⟨({ (((demo .firing []).put MTR_CTL.EN 1).put (MTR_SET_CFG.EN 0) 1) with clk := 10000000, mtr := { State.reset.mtr with sets := [{ last := some 0, first := some 0, start := 0, count := 3, ended := none }] } } : State), 0, _, 0, by decide, by decide, rfl, by decide, by decide, by decide⟩

theorem test_wit_MeteringIntervalsComplete_8 : ∃ (s : State) (k : Fin 4), (s.setOn k.val = true) ∧ (s.bit (MTR_SET_RES0.ZC_LOST k.val) = false) ∧ ((s.setRun' k.val).last.getD (s.setRun' k.val).start + max 1 (s.cf (MTR_SET_ALARM.ZC_TO k.val)) * s.nomPeriod / 10 ≤ s.clk) :=
  ⟨({ (((demo .firing []).put MTR_CTL.EN 1).put (MTR_SET_CFG.EN 0) 1) with clk := 2 ^ 40 } : State), 0, by decide, by decide, by decide⟩

theorem test_wit_MeteringIntervalsComplete_9 : ∃ (s : State) (k : Fin 4) (sig : List (List Int)) (span : Option Nat), (s.windowOver k.val = some span) ∧ (s.setOn k.val = true) :=
  ⟨({ ((((demo .firing []).put MTR_CTL.EN 1).put (MTR_SET_CFG.EN 0) 1).put (MTR_SET_RES0.ZC_LOST 0) 1) with clk := 2 ^ 40 } : State), 0, [], none, by decide, by decide⟩

theorem test_wit_MeteringIntervalsComplete_10 : ∃ (s : State) (ch : Fin 48) (bad : Nat), (s.mtrOn = true) ∧ (s.mtrFailed ch.val = false) :=
  ⟨({ ((demo .firing []).put MTR_CTL.EN 1) with clk := 0 } : State), 0, 0, by decide, by decide⟩

theorem test_wit_MeteringIntervalsComplete_11 : ∃ (s : State) (ch : Fin 48) (m a : Nat) (v : State), (s.up .mtr = true) ∧ (s.mtr.trims.find? (fun x => x.1 == ch.val) = some (ch.val, m, a)) ∧ (a + secs ≤ s.clk) ∧ (v = s.withMtr fun y => { y with trims := y.trims.filter fun x => x.1 != ch.val }) :=
  ⟨({ ((demo .firing []).put MTR_CTL.EN 1) with clk := 2 ^ 40, mtr := { State.reset.mtr with trims := [(5, 48, 0)] } } : State), 5, 48, 0, _, by decide, by decide, by decide, rfl⟩

theorem test_wit_FreezesPulsesAndReconciliationComplete_1 : ∃ (s : State) (t : State), (s.ready .mtr) ∧ (t = s.taken .mtr 1) ∧ (t.bit MTR_CMD_ARG.AT = false) :=
  ⟨({ ((demo .firing []).put MTR_CTL.EN 1) with clk := 0 } : State), _, by decide, rfl, by decide⟩

theorem test_wit_FreezesPulsesAndReconciliationComplete_2 : ∃ (s : State) (t : State) (n : Nat), (s.ready .mtr) ∧ (t = s.taken .mtr 1) ∧ (t.bit MTR_CMD_ARG.AT = true) ∧ (n = t.fld MTR_FREEZE_T_NS.NS + (t.fld MTR_FREEZE_T_SEC_LO.SEC_LO + 2 ^ 32 * t.fld MTR_FREEZE_T_SEC_HI.SEC_HI) * 1000000000) ∧ (t.nt ≤ n) ∧ (t.inRange n = true) :=
  ⟨({ (((demo .firing []).put MTR_CTL.EN 1).put MTR_CMD_ARG.AT 1) with clk := 0 } : State), _, _, by decide, rfl, by decide, rfl, by decide, by decide⟩

theorem test_wit_FreezesPulsesAndReconciliationComplete_3 : ∃ (s : State) (sig : List (List Int)) (t : Nat), (s.mtrOn = true) ∧ (s.mtr.freezeAt = some t) ∧ (t ≤ s.nt) :=
  ⟨({ ((demo .firing []).put MTR_CTL.EN 1) with clk := 0, mtr := { State.reset.mtr with freezeAt := some 0 } } : State), [], 0, by decide, by decide, by decide⟩

theorem test_wit_FreezesPulsesAndReconciliationComplete_4 : ∃ (s : State) (k : Fin 16) (p : PulseRun), (s.mtrOn = true) ∧ (s.cfB (MTR_PULSE_CFG.EN k.val) = true) ∧ (p = s.pulse k.val) ∧ (s.pulseConst k.val ≤ p.residue + (p.spread * min 160 ((s.clk - p.start) / sampleCounts) / 160 : Nat)) :=
  ⟨({ (((demo .firing []).put MTR_CTL.EN 1).put (MTR_PULSE_CFG.EN 0) 1) with clk := 0, mtr := { State.reset.mtr with pulses := [{ PulseRun.fresh with residue := 2 ^ 200 }] } } : State), 0, _, by decide, by decide, rfl, by decide⟩

theorem test_wit_FreezesPulsesAndReconciliationComplete_5 : ∃ (s : State) (k : Fin 16) (t : Nat), ((s.pulse k.val).highUntil = some t) ∧ (t ≤ s.clk) :=
  ⟨({ (((demo .firing []).put MTR_CTL.EN 1).put (MTR_PULSE_CFG.EN 0) 1) with clk := 100, mtr := { State.reset.mtr with pulses := [{ PulseRun.fresh with highUntil := some 7 }] } } : State), 0, 7, by decide, by decide⟩

theorem test_wit_FreezesPulsesAndReconciliationComplete_6 : ∃ (s : State) (k : Fin 16) (p : PulseRun) (w : Nat) (l : List Nat), (p = s.pulse k.val) ∧ (p.highUntil = none) ∧ (p.lowUntil ≤ s.clk) ∧ (p.waiting = w :: l) :=
  ⟨({ (((demo .firing []).put MTR_CTL.EN 1).put (MTR_PULSE_CFG.EN 0) 1) with clk := 100, mtr := { State.reset.mtr with pulses := [{ PulseRun.fresh with waiting := [7] }] } } : State), 0, _, 7, [], rfl, by decide, by decide, by decide⟩

theorem test_wit_FreezesPulsesAndReconciliationComplete_7 : ∃ (s : State) (f : Fin 12) (r : RecRun), (s.mtrOn = true) ∧ (s.mtr.recs.find? (fun r => r.feeder == f.val) = some r) ∧ (r.start + r.len ≤ s.ntu.frc) :=
  ⟨({ ((demo .firing []).put MTR_CTL.EN 1) with clk := 0, mtr := { State.reset.mtr with recs := [{ feeder := 3, start := 0, len := 0, fdr := 0, ep := 0, ao := 0, heard := [] }] } } : State), 3, { feeder := 3, start := 0, len := 0, fdr := 0, ep := 0, ao := 0, heard := [] }, by decide, by decide, by decide⟩

theorem test_wit_LogCommandsComplete_1 : ∃ (s : State) (src : Src) (a : State), (s.ready .log) ∧ ((s.taken .log 1).authorise src = some a) :=
  ⟨(({ demo .firing [] with key := { State.reset.key with sessions := [{ src := 0, id := 1, ip := 0, port := 0, last := 0 }] } } : State)), .hspi, ((({ demo .firing [] with key := { State.reset.key with sessions := [{ src := 0, id := 1, ip := 0, port := 0, last := 0 }] } } : State))).taken .log 1, by decide, by rfl⟩

theorem test_wit_LogCommandsComplete_2 : ∃ (s : State) (t : State), (s.ready .log) ∧ (t = s.taken .log 2) :=
  ⟨demo .firing [], _, by decide, rfl⟩

theorem test_wit_LogCommandsComplete_3 : ∃ (s : State), (s.up .log = true) :=
  ⟨demo .firing [], by decide⟩

theorem test_wit_LogCommandsComplete_4 : ∃ (s : State) (c : Fin 256) (w : RateWin) (v : State), (s.log.wins.find? (fun w => w.cls == c.val && w.endAt ≤ s.clk) = some w) ∧ (v = { s with log := { s.log with wins := s.log.wins.filter fun y => y.cls != c.val } }) ∧ (w.count = 0) :=
  ⟨({ (demo .firing []) with clk := 0, log := { State.reset.log with wins := [{ cls := 5, endAt := 0, written := 0, first := 1, last := 1, count := 0 }] } } : State), 5, _, _, rfl, rfl, by decide⟩

theorem test_wit_LogCommandsComplete_5 : ∃ (s : State) (c : Fin 256) (w : RateWin) (v : State), (s.log.wins.find? (fun w => w.cls == c.val && w.endAt ≤ s.clk) = some w) ∧ (v = { s with log := { s.log with wins := s.log.wins.filter fun y => y.cls != c.val } }) ∧ (w.count ≠ 0) ∧ (v.coreOn = true) :=
  ⟨({ (demo .firing []) with clk := 0, log := { State.reset.log with wins := [{ cls := 5, endAt := 0, written := 0, first := 1, last := 1, count := 3 }] } } : State), 5, _, _, rfl, rfl, by decide, by decide⟩

theorem test_wit_LogCommandsComplete_6 : ∃ (s : State) (seq : BitVec 32) (v : State) (q : Nat) (b : List Byte), (s.up .log = true) ∧ (v = s.put LOG_RD_SEQ.SEQ seq.toNat) ∧ (v.log.recs.find? (fun r => r.1 == seq.toNat) = some (q, b)) :=
  ⟨({ (demo .firing []) with clk := 0, log := { State.reset.log with recs := [(4, [])], head := 5 } } : State), 4, _, 4, [], by decide, rfl, by decide⟩

theorem test_wit_LogCommandsComplete_7 : ∃ (s : State) (seq : BitVec 32) (v : State), (s.up .log = true) ∧ (v = s.put LOG_RD_SEQ.SEQ seq.toNat) ∧ (v.log.recs.find? (fun r => r.1 == seq.toNat) = none) ∧ (seq.toNat < v.log.head) :=
  ⟨({ (demo .firing []) with clk := 0, log := { State.reset.log with recs := [(4, [])], head := 5 } } : State), 3, _, by decide, rfl, by decide, by decide⟩

theorem test_wit_LogCommandsComplete_8 : ∃ (s : State) (seq : BitVec 32) (v : State) (r : LogRec), (s.up .log = true) ∧ (v = s.put LOG_RD_SEQ.SEQ seq.toNat) ∧ (v.log.recs.find? (fun r => r.1 == seq.toNat) = none) ∧ (v.log.head ≤ seq.toNat) ∧ (v.log.staged[seq.toNat - v.log.head]? = some r) :=
  ⟨({ (demo .firing []) with clk := 0, log := { State.reset.log with staged := [{ code := 0x700, sev := 1, cls := 7, flags := 0, optime := 0, pcycle := 0, ntSec := 0, ntNs := 0, param := [], at_ := 0 }], head := 5 } } : State), 5, _, { code := 0x700, sev := 1, cls := 7, flags := 0, optime := 0, pcycle := 0, ntSec := 0, ntNs := 0, param := [], at_ := 0 }, by decide, rfl, by decide, by decide, by decide⟩

theorem test_wit_LogCommandsComplete_9 : ∃ (s : State) (seq : BitVec 32) (v : State), (s.up .log = true) ∧ (v = s.put LOG_RD_SEQ.SEQ seq.toNat) ∧ (v.log.recs.find? (fun r => r.1 == seq.toNat) = none) ∧ (v.log.head ≤ seq.toNat) ∧ (v.log.staged[seq.toNat - v.log.head]? = none) :=
  ⟨({ (demo .firing []) with clk := 0, log := { State.reset.log with head := 5 } } : State), 6, _, by decide, rfl, by decide, by decide, by decide⟩

theorem test_wit_LogCommandsComplete_10 : ∃ (s : State), (s.coreOn = true) ∧ (s.up .log = true) :=
  ⟨demo .firing [], by decide, by decide⟩

theorem test_wit_LogCommandsComplete_11 : ∃ (s : State), (s.coreOn = true) ∧ (s.up .log = false) :=
  ⟨({ (demo .firing []) with clk := 0, hlt := { State.reset.hlt with hold := true } } : State), by decide, by decide⟩

theorem test_wit_HealthMonitorsComplete_1 : ∃ (s : State) (readings : List Int) (r : Int × Nat) (v : State), (s.coreOn = true) ∧ (readings ≠ []) ∧ (s.up .hlt = true) ∧ (r = hottest 0 readings) ∧ (v = (((s.putI HLT_TEMP.TJ r.1).put HLT_TEMP.HOT r.2).tempFlags r.1 r.2).noteCool r.1) ∧ (v.tempThrottle ≤ r.1) ∧ (v.hlt.throttleFrom = none) :=
  ⟨demo .firing [], [1300], _, _, by decide, by decide, by decide, rfl, rfl, by decide, by decide⟩

theorem test_wit_HealthMonitorsComplete_2 : ∃ (s : State) (readings : List Int) (r : Int × Nat) (v : State), (s.coreOn = true) ∧ (readings ≠ []) ∧ (s.up .hlt = true) ∧ (r = hottest 0 readings) ∧ (v = (((s.putI HLT_TEMP.TJ r.1).put HLT_TEMP.HOT r.2).tempFlags r.1 r.2).noteCool r.1) ∧ (v.tempThrottle ≤ r.1) ∧ (v.hlt.throttleFrom ≠ none) :=
  ⟨({ (demo .firing []) with clk := 0, hlt := { State.reset.hlt with throttleFrom := some 0 } } : State), [1300], _, _, by decide, by decide, by decide, rfl, rfl, by decide, by decide⟩

theorem test_wit_HealthMonitorsComplete_3 : ∃ (s : State) (readings : List Int) (r : Int × Nat) (v : State), (s.coreOn = true) ∧ (readings ≠ []) ∧ (s.up .hlt = true) ∧ (r = hottest 0 readings) ∧ (v = (((s.putI HLT_TEMP.TJ r.1).put HLT_TEMP.HOT r.2).tempFlags r.1 r.2).noteCool r.1) ∧ (r.1 < v.tempThrottle) :=
  ⟨demo .firing [], [300], _, _, by decide, by decide, by decide, rfl, rfl, by decide⟩

theorem test_wit_HealthMonitorsComplete_4 : ∃ (s : State) (readings : List Int), (s.coreOn = true) ∧ (readings ≠ []) ∧ (s.up .hlt = false) :=
  ⟨({ (demo .firing []) with clk := 0, hlt := { State.reset.hlt with hold := true } } : State), [300], by decide, by decide, by decide⟩

theorem test_wit_HealthMonitorsComplete_5 : ∃ (s : State) (a : Nat), (s.up .hlt = true) ∧ (s.hlt.throttleFrom = some a) ∧ (a + 10 * secs ≤ s.clk) :=
  ⟨({ (demo .firing []) with clk := 2 ^ 40, hlt := { State.reset.hlt with throttleFrom := some 0 } } : State), 0, by decide, by decide, by decide⟩

theorem test_wit_HealthMonitorsComplete_6 : ∃ (s : State) (a : Nat), (s.up .hlt = true) ∧ (s.hlt.coolFrom = some a) ∧ (a + 60 * secs ≤ s.clk) ∧ (s.fld RAD_STAT.TX_STEP ≠ 0) :=
  ⟨({ ((demo .firing []).put RAD_STAT.TX_STEP 1) with clk := 2 ^ 40, hlt := { State.reset.hlt with coolFrom := some 0 } } : State), 0, by decide, by decide, by decide, by decide⟩

theorem test_wit_HealthMonitorsComplete_7 : ∃ (s : State) (readings : List Int) (r : Int × Nat) (v : State), (r = hottest 0 readings) ∧ (s.canRestart = true) ∧ (1400 ≤ r.1) ∧ (v = (s.put HLT_STAT.TRIPPED 1).logEv 4 4 (tjBytes r.1 ++ leBytes 1 r.2)) ∧ (v.escalates = true) :=
  ⟨(demo .firing []).noteUnplanned, [1400], _, _, rfl, by decide, by decide, rfl, by decide⟩

theorem test_wit_HealthMonitorsComplete_8 : ∃ (s : State) (readings : List Int) (r : Int × Nat) (v : State), (r = hottest 0 readings) ∧ (s.canRestart = true) ∧ (1400 ≤ r.1) ∧ (v = (s.put HLT_STAT.TRIPPED 1).logEv 4 4 (tjBytes r.1 ++ leBytes 1 r.2)) ∧ (v.escalates = false) :=
  ⟨demo .firing [], [1400], _, _, rfl, by decide, by decide, rfl, by decide⟩

theorem test_wit_HealthMonitorsComplete_9 : ∃ (s : State) (a : Nat), (s.hlt.hold = true) ∧ (s.hlt.coolFrom = some a) ∧ (a + 10 * secs ≤ s.clk) :=
  ⟨({ (demo .firing []) with clk := 2 ^ 40, hlt := { State.reset.hlt with hold := true, coolFrom := some 0 } } : State), 0, by decide, by decide, by decide⟩

theorem test_wit_HealthMonitorsComplete_10 : ∃ (s : State) (rail : Fin 8) (mv : BitVec 16), (s.up .hlt = true) :=
  ⟨demo .firing [], 1, 4000, by decide⟩

theorem test_wit_HealthMonitorsComplete_11 : ∃ (s : State) (slowest count : BitVec 16), (s.up .hlt = true) :=
  ⟨demo .firing [], 1, 4000, by decide⟩

theorem test_wit_StockpileComplete_1 : ∃ (s : State) (b : Fin 64) (failing bad : Nat), (s.up .swc = true) ∧ (2 ≤ failing) :=
  ⟨demo .firing [], 3, 2, 0, by decide, by decide⟩

theorem test_wit_StockpileComplete_2 : ∃ (s : State) (failing : List (Fin 16)) (bad : Nat), (s.up .lfe = true) :=
  ⟨demo .firing [], [3], 0, by decide⟩

theorem test_wit_StockpileComplete_3 : ∃ (s : State) (ch : Fin 8) (bad : Nat), (s.up .rad = true) ∧ ((s.chan ch.val).tx = none) :=
  ⟨demo .firing [], 3, 0, by decide, by decide⟩

theorem test_wit_StockpileComplete_4 : ∃ (s : State) (sector : Fin 896) (bad : Nat), (s.up .hlt = true) :=
  ⟨demo .firing [], 3, 0, by decide⟩

theorem test_wit_StockpileComplete_5 : ∃ (s : State) (off : BitVec 26) (bad : Nat), (s.up .epc = true) ∧ (0x100000 ≤ off.toNat) ∧ (off.toNat < 0x300000) ∧ (off.toNat % 4 = 0) :=
  ⟨demo .firing [], 0x100000, 0, by decide, by decide, by decide, by decide⟩

theorem test_wit_KeyCommandsComplete_1 : ∃ (s : State) (src : Src) (v : State) (w : State) (b key : List Byte), (s.up .key = true) ∧ ((s.bank src.code).status ≠ stPending) ∧ (s.key.intent = none) ∧ (v = s.setBank { s.bank src.code with code := 1 }) ∧ (v.key.lc = 0) ∧ (b = wordBytes 40 (v.bank src.code).blob) ∧ (blobOk b 4 63 = true) ∧ (v.wrapKey (leAt b 9 1) (some (wordBytes 16 (v.bank src.code).eph)) src.code = (w, .inl key)) :=
  ⟨({ (demo .firing []) with clk := 0, key := { State.reset.key with slots := [{ idx := 70, exhausted := false, typ := 2, usage := 64, lc := 31, expireReset := false, uses := 0xFFFFFFFF, key := .bytes [] }], banks := [{ src := 0, code := 0, cmd := 0, status := 0, slot := 0, arg := 0, sessId := 0, nonce := none, proof := [], eph := [], sig := [], blob := [10 + 3 * 256 + 4 * 65536, 0xFFFFFFFF, 31 + 70 * 256 + 32 * 65536], attNonce := [], attResp := [], fails := [], lockUntil := none }], lc := 0, sessions := [{ src := 0, id := 1, ip := 0, port := 0, last := 0 }] } } : State), .hspi, _, _, _, _, by decide, by decide, by decide, rfl, by decide, rfl, by decide +kernel, rfl⟩

theorem test_wit_KeyCommandsComplete_2 : ∃ (s : State) (src : Src) (v : State) (a w : State) (b key : List Byte), (s.up .key = true) ∧ ((s.bank src.code).status ≠ stPending) ∧ (s.key.intent = none) ∧ (v = s.setBank { s.bank src.code with code := 1 }) ∧ (v.authorise src = some a) ∧ (b = wordBytes 40 (a.bank src.code).blob) ∧ (blobOk b 4 63 = true) ∧ (a.wrapKey (leAt b 9 1) (some (wordBytes 16 (a.bank src.code).eph)) src.code = (w, .inl key)) ∧ (v.key.lc ≠ 0) :=
  ⟨({ (demo .firing []) with clk := 0, key := { State.reset.key with slots := [{ idx := 70, exhausted := false, typ := 2, usage := 64, lc := 31, expireReset := false, uses := 0xFFFFFFFF, key := .bytes [] }], banks := [{ src := 0, code := 0, cmd := 0, status := 0, slot := 0, arg := 0, sessId := 0, nonce := none, proof := [], eph := [], sig := [], blob := [10 + 3 * 256 + 4 * 65536, 0xFFFFFFFF, 31 + 70 * 256 + 32 * 65536], attNonce := [], attResp := [], fails := [], lockUntil := none }], lc := 2, sessions := [{ src := 0, id := 1, ip := 0, port := 0, last := 0 }] } } : State), .hspi, _, _, _, _, _, by decide, by decide, by decide, rfl, rfl, rfl, by decide +kernel, rfl, by decide⟩

theorem test_wit_KeyCommandsComplete_3 : ∃ (s : State) (src : Src) (v : State) (a w : State) (b key : List Byte), (s.up .key = true) ∧ ((s.bank src.code).status ≠ stPending) ∧ (s.key.intent = none) ∧ (v = s.setBank { s.bank src.code with code := 2 }) ∧ (v.authorise src = some a) ∧ (b = wordBytes 40 (a.bank src.code).blob) ∧ (blobOk b 64 255 = true) ∧ (a.wrapKey (leAt b 9 1) none src.code = (w, .inl key)) :=
  ⟨({ (demo .firing []) with clk := 0, key := { State.reset.key with slots := [{ idx := 70, exhausted := false, typ := 2, usage := 64, lc := 31, expireReset := false, uses := 0xFFFFFFFF, key := .bytes [] }], banks := [{ src := 0, code := 0, cmd := 0, status := 0, slot := 0, arg := 0, sessId := 0, nonce := none, proof := [], eph := [], sig := [], blob := [80 + 3 * 256 + 4 * 65536, 0xFFFFFFFF, 31 + 70 * 256 + 32 * 65536], attNonce := [], attResp := [], fails := [], lockUntil := none }], sessions := [{ src := 0, id := 1, ip := 0, port := 0, last := 0 }] } } : State), .hspi, _, _, _, _, _, by decide, by decide, by decide, rfl, rfl, rfl, by decide +kernel, rfl⟩

theorem test_wit_KeyCommandsComplete_4 : ∃ (s : State) (src : Src) (v : State) (a : State) (n : Nat), (s.up .key = true) ∧ ((s.bank src.code).status ≠ stPending) ∧ (s.key.intent = none) ∧ (v = s.setBank { s.bank src.code with code := 3 }) ∧ (v.authorise src = some a) ∧ (n = (a.bank src.code).slot) ∧ (4 ≤ n) ∧ (a.slotNamed n = false) :=
  ⟨({ (demo .firing []) with clk := 0, key := { State.reset.key with slots := [{ idx := 70, exhausted := false, typ := 2, usage := 64, lc := 31, expireReset := false, uses := 0xFFFFFFFF, key := .bytes [] }], banks := [{ src := 0, code := 0, cmd := 0, status := 0, slot := 70, arg := 0, sessId := 0, nonce := none, proof := [], eph := [], sig := [], blob := [], attNonce := [], attResp := [], fails := [], lockUntil := none }], sessions := [{ src := 0, id := 1, ip := 0, port := 0, last := 0 }] } } : State), .hspi, _, _, _, by decide, by decide, by decide, rfl, rfl, rfl, by decide, by decide⟩

theorem test_wit_KeyCommandsComplete_5 : ∃ (s : State) (src : Src) (v : State) (b : KeyBank) (k : KeySlot), (s.up .key = true) ∧ ((s.bank src.code).status ≠ stPending) ∧ (s.key.intent = none) ∧ (v = s.setBank { s.bank src.code with code := 4 }) ∧ (b = v.bank src.code) ∧ (b.lockUntil = none) ∧ (v.slotFor b.slot useAuth (fun t => t == 3) = .inl k) :=
  ⟨({ (demo .firing []) with clk := 0, key := { State.reset.key with slots := [{ idx := 70, exhausted := false, typ := 3, usage := 4, lc := 31, expireReset := false, uses := 0xFFFFFFFF, key := .bytes [] }], banks := [{ src := 0, code := 0, cmd := 0, status := 0, slot := 70, arg := 0, sessId := 0, nonce := none, proof := [], eph := [], sig := [], blob := [], attNonce := [], attResp := [], fails := [], lockUntil := none }], sessions := [{ src := 0, id := 1, ip := 0, port := 0, last := 0 }] } } : State), .hspi, _, _, { idx := 70, exhausted := false, typ := 3, usage := 4, lc := 31, expireReset := false, uses := 0xFFFFFFFF, key := .bytes [] }, by decide, by decide, by decide, rfl, rfl, by decide, by decide⟩

theorem test_wit_KeyCommandsComplete_6 : ∃ (s : State) (src : Src) (v : State) (b : KeyBank) (k : KeySlot) (t : Nat), (s.up .key = true) ∧ ((s.bank src.code).status ≠ stPending) ∧ (s.key.intent = none) ∧ (v = s.setBank { s.bank src.code with code := 4 }) ∧ (b = v.bank src.code) ∧ (b.lockUntil = some t) ∧ (t ≤ v.clk) ∧ (v.slotFor b.slot useAuth (fun t => t == 3) = .inl k) :=
  ⟨({ (demo .firing []) with clk := 0, key := { State.reset.key with slots := [{ idx := 70, exhausted := false, typ := 3, usage := 4, lc := 31, expireReset := false, uses := 0xFFFFFFFF, key := .bytes [] }], banks := [{ src := 0, code := 0, cmd := 0, status := 0, slot := 70, arg := 0, sessId := 0, nonce := none, proof := [], eph := [], sig := [], blob := [], attNonce := [], attResp := [], fails := [], lockUntil := some 0 }], sessions := [{ src := 0, id := 1, ip := 0, port := 0, last := 0 }] } } : State), .hspi, _, _, { idx := 70, exhausted := false, typ := 3, usage := 4, lc := 31, expireReset := false, uses := 0xFFFFFFFF, key := .bytes [] }, 0, by decide, by decide, by decide, rfl, rfl, by decide, by decide, by decide⟩

theorem test_wit_KeyCommandsComplete_7 : ∃ (s : State) (src : Src) (v : State) (b : KeyBank) (w u : State) (nonce key : List Byte) (n t : Nat), (s.up .key = true) ∧ ((s.bank src.code).status ≠ stPending) ∧ (s.key.intent = none) ∧ (v = s.setBank { s.bank src.code with code := 5 }) ∧ (b = v.bank src.code) ∧ (b.nonce = some (nonce, n, t)) ∧ (u = v.setBank { b with nonce := none }) ∧ (u.clk ≤ t + 10 * secs) ∧ (u.useSlot n useAuth (fun t => t == 3) src.code = (w, .inl key)) :=
  ⟨({ (demo .firing []) with clk := 0, key := { State.reset.key with slots := [{ idx := 70, exhausted := false, typ := 3, usage := 4, lc := 31, expireReset := false, uses := 0xFFFFFFFF, key := .bytes [] }], banks := [{ src := 0, code := 0, cmd := 0, status := 0, slot := 0, arg := 0, sessId := 0, nonce := some ([], 70, 0), proof := [], eph := [], sig := [], blob := [], attNonce := [], attResp := [], fails := [], lockUntil := none }], sessions := [{ src := 0, id := 1, ip := 0, port := 0, last := 0 }] } } : State), .hspi, _, _, _, _, [], _, 70, 0, by decide, by decide, by decide, rfl, rfl, rfl, rfl, by decide, rfl⟩

theorem test_wit_KeyCommandsComplete_8 : ∃ (s : State) (src : Src) (v : State), (s.up .key = true) ∧ ((s.bank src.code).status ≠ stPending) ∧ (s.key.intent = none) ∧ (v = s.setBank { s.bank src.code with code := 6 }) ∧ (v.key.sessions.any (fun x => x.fits src) = true) :=
  ⟨({ (demo .firing []) with clk := 0, key := { State.reset.key with sessions := [{ src := 0, id := 1, ip := 0, port := 0, last := 0 }] } } : State), .hspi, _, by decide, by decide, by decide, rfl, by decide⟩

theorem test_wit_KeyCommandsComplete_9 : ∃ (s : State) (src : Src) (v : State) (w u : State) (key r : List Byte), (s.up .key = true) ∧ ((s.bank src.code).status ≠ stPending) ∧ (s.key.intent = none) ∧ (v = s.setBank { s.bank src.code with code := 7 }) ∧ (v.useSlot (v.bank src.code).slot useAttest (fun t => t == 3) src.code = (w, .inl key)) ∧ (u = { w with key := { w.key with attCtr := w.key.attCtr + 1 } }) ∧ (r = u.attestBody (wordBytes 8 (v.bank src.code).attNonce)) :=
  ⟨({ (demo .firing []) with clk := 0, key := { State.reset.key with slots := [{ idx := 70, exhausted := false, typ := 3, usage := 16, lc := 31, expireReset := false, uses := 0xFFFFFFFF, key := .bytes [] }], banks := [{ src := 0, code := 0, cmd := 0, status := 0, slot := 70, arg := 0, sessId := 0, nonce := none, proof := [], eph := [], sig := [], blob := [], attNonce := [], attResp := [], fails := [], lockUntil := none }], sessions := [{ src := 0, id := 1, ip := 0, port := 0, last := 0 }] } } : State), .hspi, _, _, _, _, _, by decide, by decide, by decide, rfl, rfl, rfl, rfl⟩

theorem test_wit_KeyCommandsComplete_10 : ∃ (s : State) (src : Src) (v : State), (s.up .key = true) ∧ ((s.bank src.code).status ≠ stPending) ∧ (s.key.intent = none) ∧ (v = s.setBank { s.bank src.code with code := 8 }) ∧ (v.key.lc = 0) ∧ ((v.bank src.code).arg = 1) ∧ (v.hasUsage useAuth = true) ∧ (v.hasUsage useCfgVerify = true) :=
  ⟨({ (demo .firing []) with clk := 0, key := { State.reset.key with slots := [{ idx := 70, exhausted := false, typ := 3, usage := 5, lc := 31, expireReset := false, uses := 0xFFFFFFFF, key := .bytes [] }], banks := [{ src := 0, code := 0, cmd := 0, status := 0, slot := 0, arg := 1, sessId := 0, nonce := none, proof := [], eph := [], sig := [], blob := [], attNonce := [], attResp := [], fails := [], lockUntil := none }], lc := 0, sessions := [{ src := 0, id := 1, ip := 0, port := 0, last := 0 }] } } : State), .hspi, _, by decide, by decide, by decide, rfl, by decide, by decide, by decide, by decide⟩

theorem test_wit_KeyCommandsComplete_11 : ∃ (s : State) (src : Src) (v : State) (a : State) (n : Nat), (s.up .key = true) ∧ ((s.bank src.code).status ≠ stPending) ∧ (s.key.intent = none) ∧ (v = s.setBank { s.bank src.code with code := 8 }) ∧ (v.authorise src = some a) ∧ (v.key.lc = 1 ∨ v.key.lc = 2) ∧ (n = v.key.lc + 1) ∧ ((v.bank src.code).arg = n) :=
  ⟨({ (demo .firing []) with clk := 0, key := { State.reset.key with banks := [{ src := 0, code := 0, cmd := 0, status := 0, slot := 0, arg := 2, sessId := 0, nonce := none, proof := [], eph := [], sig := [], blob := [], attNonce := [], attResp := [], fails := [], lockUntil := none }], lc := 1, sessions := [{ src := 0, id := 1, ip := 0, port := 0, last := 0 }] } } : State), .hspi, _, _, _, by decide, by decide, by decide, rfl, rfl, by decide, rfl, by decide⟩

theorem test_wit_KeyCommandsComplete_12 : ∃ (s : State) (src : Src) (v : State) (w : State) (pub : List Byte), (s.up .key = true) ∧ ((s.bank src.code).status ≠ stPending) ∧ (s.key.intent = none) ∧ (v = s.setBank { s.bank src.code with code := 9 }) ∧ (v.key.lc = 1 ∨ v.key.lc = 2 ∨ v.key.lc = 3) ∧ (v.useSlot 3 useReturn (fun t => t == 5) src.code = (w, .inl pub)) :=
  ⟨({ (demo .firing []) with clk := 0, key := { State.reset.key with slots := [{ idx := 3, exhausted := false, typ := 5, usage := 256, lc := 31, expireReset := false, uses := 0xFFFFFFFF, key := .bytes [] }], lc := 2, sessions := [{ src := 0, id := 1, ip := 0, port := 0, last := 0 }] } } : State), .hspi, _, _, _, by decide, by decide, by decide, rfl, by decide, rfl⟩

theorem test_wit_KeyCommandsComplete_13 : ∃ (s : State) (src : Src) (v : State) (w : State) (pub : List Byte), (s.up .key = true) ∧ ((s.bank src.code).status ≠ stPending) ∧ (s.key.intent = none) ∧ (v = s.setBank { s.bank src.code with code := 10 }) ∧ (v.key.lc = 4) ∧ (v.useSlot 3 useReturn (fun t => t == 5) src.code = (w, .inl pub)) :=
  ⟨({ (demo .firing []) with clk := 0, key := { State.reset.key with slots := [{ idx := 3, exhausted := false, typ := 5, usage := 256, lc := 31, expireReset := false, uses := 0xFFFFFFFF, key := .bytes [] }], lc := 4, sessions := [{ src := 0, id := 1, ip := 0, port := 0, last := 0 }] } } : State), .hspi, _, _, _, by decide, by decide, by decide, rfl, by decide, rfl⟩

theorem test_wit_KeyCommandsComplete_14 : ∃ (s : State) (i : LcIntent) (v w : State), (s.key.intent = some i) ∧ (s.up .key = true) ∧ (v = ((lcComplete i s).raise KEY_IRQ_STAT.LC_CHANGE).logEv 6 2 (leBytes 1 i.old ++ leBytes 1 i.new)) ∧ (w = (v.setBank { v.bank i.src with status := stDone }).raise KEY_IRQ_STAT.CMD_DONE) :=
  ⟨({ (demo .firing []) with clk := 0, key := { State.reset.key with intent := some { old := 1, new := 2, src := 0 }, sessions := [{ src := 0, id := 1, ip := 0, port := 0, last := 0 }] } } : State), { old := 1, new := 2, src := 0 }, _, _, by decide, by decide, rfl, rfl⟩

theorem test_wit_KeyCommandsComplete_15 : ∃ (s : State) (src : Fin 5) (v : State), (s.key.sessions.any (fun x => x.src == src.val && x.last + s.sessTtl ≤ s.clk) = true) ∧ (v = { s with key := { s.key with sessions := s.key.sessions.filter fun x => x.src != src.val } }) :=
  ⟨({ (demo .firing []) with clk := 2 ^ 60, key := { State.reset.key with sessions := [{ src := 0, id := 1, ip := 0, port := 0, last := 0 }] } } : State), 0, _, by decide, rfl⟩

theorem test_wit_KeyCommandsComplete_16 : ∃ (s : State) (src : Fin 5) (t : Nat), ((s.bank src.val).lockUntil = some t) ∧ (t ≤ s.clk) :=
  ⟨({ (demo .firing []) with clk := 0, key := { State.reset.key with banks := [{ src := 0, code := 0, cmd := 0, status := 0, slot := 0, arg := 0, sessId := 0, nonce := none, proof := [], eph := [], sig := [], blob := [], attNonce := [], attResp := [], fails := [], lockUntil := some 0 }], sessions := [{ src := 0, id := 1, ip := 0, port := 0, last := 0 }] } } : State), 0, 0, by decide, by decide⟩

theorem test_wit_KeyCommandsComplete_17 : ∃ (s : State) (k : KeySlot), (s.up .key = true) ∧ (s.rootKey = some k) ∧ (s.key.rootKcv = none) :=
  ⟨({ ((demo .firing []).put (KEY_RADIO_CFG.ROOT_SLOT) 1) with clk := 0, key := { State.reset.key with slots := [{ idx := 1, exhausted := false, typ := 3, usage := 32, lc := 31, expireReset := false, uses := 0xFFFFFFFF, key := .bytes [] }], rootKcv := none, sessions := [{ src := 0, id := 1, ip := 0, port := 0, last := 0 }] } } : State), { idx := 1, exhausted := false, typ := 3, usage := 32, lc := 31, expireReset := false, uses := 0xFFFFFFFF, key := .bytes [] }, by decide, by decide, by decide⟩

theorem test_wit_KeyCommandsComplete_18 : ∃ (s : State) (k : KeySlot), (s.up .key = true) ∧ (s.rootKey = some k) ∧ (s.key.rootKcv.isSome = true) ∧ (s.key.rootKcv ≠ some k.kcv) :=
  ⟨({ ((demo .firing []).put (KEY_RADIO_CFG.ROOT_SLOT) 1) with clk := 0, key := { State.reset.key with slots := [{ idx := 1, exhausted := false, typ := 3, usage := 32, lc := 31, expireReset := false, uses := 0xFFFFFFFF, key := .bytes [] }], rootKcv := some (KeySlot.kcv { idx := 1, exhausted := false, typ := 3, usage := 32, lc := 31, expireReset := false, uses := 0xFFFFFFFF, key := .bytes [] } + 1), sessions := [{ src := 0, id := 1, ip := 0, port := 0, last := 0 }] } } : State), { idx := 1, exhausted := false, typ := 3, usage := 32, lc := 31, expireReset := false, uses := 0xFFFFFFFF, key := .bytes [] }, by decide, by decide, rfl, fun h => absurd (Option.some.inj h) (Nat.succ_ne_self _)⟩

theorem test_wit_FirmwareCommandsComplete_1 : ∃ (s : State) (path : BlockPath) (p : List Byte) (fails : Nat), (s.up .upd = true) ∧ (s.pathOk path = true) ∧ (s.packetBad p = true) :=
  ⟨demo .firing [], .hmq 0, [], 0, by decide, by decide, by decide⟩

theorem test_wit_FirmwareCommandsComplete_2 : ∃ (s : State) (path : BlockPath) (p : List Byte) (fails : Nat) (h : Half), (s.up .upd = true) ∧ (s.pathOk path = true) ∧ (s.packetBad p = false) ∧ (h = { target := leAt p 8 1, index := leAt p 9 1, block := leAt p 4 4, part := leAt p 10 1, data := p.drop 16 }) ∧ (s.upd.halves.find? (fun x => (x.target == h.target && x.block == h.block && (h.target == 0 || x.index == h.index)) && x.part != h.part) = none) :=
  ⟨demo .firing [], .hmq 0, pkt 0 (List.replicate 2048 0), 0, _, by decide, by decide, pkt_good _ _ _ List.length_replicate (by decide) (by decide), rfl, by decide⟩

theorem test_wit_FirmwareCommandsComplete_3 : ∃ (s : State) (path : BlockPath) (p : List Byte) (fails : Nat) (h o : Half) (v : State) (d : List Byte), (s.up .upd = true) ∧ (s.pathOk path = true) ∧ (s.packetBad p = false) ∧ (h = { target := leAt p 8 1, index := leAt p 9 1, block := leAt p 4 4, part := leAt p 10 1, data := p.drop 16 }) ∧ (s.upd.halves.find? (fun x => (x.target == h.target && x.block == h.block && (h.target == 0 || x.index == h.index)) && x.part != h.part) = some o) ∧ (v = s.withUpd fun u => { u with halves := u.halves.filter fun x => !(x.target == h.target && x.block == h.block && (h.target == 0 || x.index == h.index)) }) ∧ (d = (if h.part = 0 then h.data ++ o.data else o.data ++ h.data)) ∧ (h.target = 0) :=
  ⟨({ (demo .firing []) with clk := 0, upd := { State.reset.upd with halves := [{ target := 0, index := 0, block := 0, part := 1, data := [] }] } } : State), .hmq 0, pkt 0 (List.replicate 2048 0), 0, _, { target := 0, index := 0, block := 0, part := 1, data := [] }, _, _, by decide, by decide, pkt_good _ _ _ List.length_replicate (by decide) (by decide), rfl, by decide, rfl, rfl, by decide⟩

theorem test_wit_FirmwareCommandsComplete_4 : ∃ (s : State) (path : BlockPath) (p : List Byte) (fails : Nat) (h o : Half) (v : State) (d : List Byte), (s.up .upd = true) ∧ (s.pathOk path = true) ∧ (s.packetBad p = false) ∧ (h = { target := leAt p 8 1, index := leAt p 9 1, block := leAt p 4 4, part := leAt p 10 1, data := p.drop 16 }) ∧ (s.upd.halves.find? (fun x => (x.target == h.target && x.block == h.block && (h.target == 0 || x.index == h.index)) && x.part != h.part) = some o) ∧ (v = s.withUpd fun u => { u with halves := u.halves.filter fun x => !(x.target == h.target && x.block == h.block && (h.target == 0 || x.index == h.index)) }) ∧ (d = (if h.part = 0 then h.data ++ o.data else o.data ++ h.data)) ∧ (h.target ≠ 0) :=
  ⟨({ ((demo .firing []).put (UPD_EP_SIZE.BLOCKS 0) 1) with clk := 0, upd := { State.reset.upd with halves := [{ target := 1, index := 0, block := 0, part := 1, data := [] }] } } : State), .hmq 0, pkt 1 (List.replicate 2048 0), 0, _, { target := 1, index := 0, block := 0, part := 1, data := [] }, _, _, by decide, by decide, pkt_good _ _ _ List.length_replicate (by decide) (by decide), rfl, by decide, rfl, rfl, by decide⟩

theorem test_wit_FirmwareCommandsComplete_5 : ∃ (s : State) (t : State) (v : State), (s.ready .upd) ∧ (t = s.taken .upd 1) ∧ (t.upd.glaze = false) ∧ (t.upd.armed = none) ∧ (t.upd.banks.any (fun x => x.st == bankVerifying) = false) ∧ (t.pwr.mode ≠ .kindling) ∧ (v = t.withUpd fun u => { u with work := if t.fld UPD_CMD_ARG.INDEX = 0 then 0 else 1 }) :=
  ⟨demo .firing [], _, _, by decide, rfl, by decide, by decide, by decide, by decide, rfl⟩

theorem test_wit_FirmwareCommandsComplete_6 : ∃ (s : State) (t : State) (x : Bank), (s.ready .upd) ∧ (t = s.taken .upd 2) ∧ (x = t.fwBank t.inactive) ∧ (x.st = bankGreen ∨ x.st = bankBad ∧ (x.fail = failDigest ∨ x.fail = failTrial)) ∧ (x.total ≠ 0) ∧ ((List.range x.total).all x.bitmap.contains = true) :=
  ⟨({ (demo .firing []) with clk := 0, upd := { State.reset.upd with banks := [{ st := 5, fail := 0, factory := true, blocks := [], bitmap := [], secVer := 0, version := 0, abi := 0, total := 0, coldOnly := false, digest := [] }, { st := 1, fail := 0, factory := true, blocks := [], bitmap := [0], secVer := 0, version := 0, abi := 0, total := 1, coldOnly := false, digest := [] }] } } : State), _, _, by decide, rfl, rfl, by decide, by decide, by decide⟩

theorem test_wit_FirmwareCommandsComplete_7 : ∃ (s : State) (b : Nat) (r : Nat × State) (v : State), (s.up .upd = true) ∧ ((List.range 2).find? (fun b => (s.fwBank b).st == bankVerifying) = some b) ∧ (r = s.verifyBank b) ∧ (v = (r.2.setFwBank b (if r.1 = 0 then bankBisque else bankBad) r.1).raise UPD_IRQ_STAT.VERDICT) :=
  ⟨({ (demo .firing []) with clk := 0, upd := { State.reset.upd with banks := [{ st := 5, fail := 0, factory := true, blocks := [], bitmap := [], secVer := 0, version := 0, abi := 0, total := 0, coldOnly := false, digest := [] }, { st := 2, fail := 0, factory := true, blocks := [], bitmap := [], secVer := 0, version := 0, abi := 0, total := 0, coldOnly := false, digest := [] }] } } : State), 1, _, _, by decide, by decide, rfl, rfl⟩

theorem test_wit_FirmwareCommandsComplete_8 : ∃ (s : State) (src : Src) (a : State), (s.ready .upd) ∧ ((s.taken .upd 3).authorise src = some a) ∧ (a.upd.running ≠ 2) ∧ (a.canActivate = true) ∧ (a.upd.glaze = false) ∧ (a.upd.armed = none) ∧ (a.abiOk = true) ∧ (a.bit UPD_CMD_ARG.AT = false) ∧ (a.partnerBlocks (a.nt + 1000000000) = false) :=
  ⟨({ ((demo .firing []).put UPD_CMD_ARG.COLD 1) with clk := 0, upd := { State.reset.upd with banks := [{ st := 5, fail := 0, factory := true, blocks := [], bitmap := [], secVer := 0, version := 0, abi := 0, total := 0, coldOnly := false, digest := [] }, { st := 3, fail := 0, factory := true, blocks := [], bitmap := [], secVer := 0, version := 0, abi := 0, total := 0, coldOnly := false, digest := [] }], copies := [some { gen := 1, active := 0, fired := 0, trial := 0, trialMax := 3, confirmS := 600 }, some { gen := 1, active := 0, fired := 0, trial := 0, trialMax := 3, confirmS := 600 }, some { gen := 1, active := 0, fired := 0, trial := 0, trialMax := 3, confirmS := 600 }] }, key := { State.reset.key with sessions := [{ src := 0, id := 1, ip := 0, port := 0, last := 0 }] } } : State), .hspi, _, by decide, rfl, by decide, by decide, by decide, by decide, by decide, by decide, by decide⟩

theorem test_wit_FirmwareCommandsComplete_9 : ∃ (s : State) (src : Src) (a : State), (s.ready .upd) ∧ ((s.taken .upd 3).authorise src = some a) ∧ (a.upd.running ≠ 2) ∧ (a.canActivate = true) ∧ (a.upd.glaze = false) ∧ (a.upd.armed = none) ∧ (a.abiOk = true) ∧ (a.bit UPD_CMD_ARG.AT = true) ∧ (a.partnerBlocks a.actInstant = false) ∧ (a.nt + 2000000000 ≤ a.actInstant) ∧ (a.actInstant ≤ a.nt + 549000000000) :=
  ⟨({ ((((demo .firing []).put UPD_CMD_ARG.COLD 1).put UPD_CMD_ARG.AT 1).put UPD_ACT_T_SEC_LO.SEC_LO 5) with clk := 0, upd := { State.reset.upd with banks := [{ st := 5, fail := 0, factory := true, blocks := [], bitmap := [], secVer := 0, version := 0, abi := 0, total := 0, coldOnly := false, digest := [] }, { st := 3, fail := 0, factory := true, blocks := [], bitmap := [], secVer := 0, version := 0, abi := 0, total := 0, coldOnly := false, digest := [] }], copies := [some { gen := 1, active := 0, fired := 0, trial := 0, trialMax := 3, confirmS := 600 }, some { gen := 1, active := 0, fired := 0, trial := 0, trialMax := 3, confirmS := 600 }, some { gen := 1, active := 0, fired := 0, trial := 0, trialMax := 3, confirmS := 600 }] }, key := { State.reset.key with sessions := [{ src := 0, id := 1, ip := 0, port := 0, last := 0 }] } } : State), .hspi, _, by decide, rfl, by decide, by decide, by decide, by decide, by decide, by decide, by decide, by decide, by decide⟩

theorem test_wit_FirmwareCommandsComplete_10 : ∃ (s : State) (src : Src) (a : State), (s.ready .upd) ∧ ((s.taken .upd 3).authorise src = some a) ∧ (a.upd.running = 2) ∧ (a.canActivate = true) ∧ (a.upd.armed = none) ∧ (a.bit UPD_CMD_ARG.AT = false) :=
  ⟨({ (demo .firing []) with clk := 0, upd := { State.reset.upd with banks := [{ st := 3, fail := 0, factory := true, blocks := [], bitmap := [], secVer := 0, version := 0, abi := 0, total := 0, coldOnly := false, digest := [] }, { st := 5, fail := 0, factory := true, blocks := [], bitmap := [], secVer := 0, version := 0, abi := 0, total := 0, coldOnly := false, digest := [] }], running := 2 }, key := { State.reset.key with sessions := [{ src := 0, id := 1, ip := 0, port := 0, last := 0 }] } } : State), .hspi, _, by decide, rfl, by decide, by decide, by decide, by decide⟩

theorem test_wit_FirmwareCommandsComplete_11 : ∃ (s : State) (t : State) (a : Armed), (s.ready .upd) ∧ (t = s.taken .upd 4) ∧ (t.upd.armed = some a) ∧ (a.begun = false) :=
  ⟨({ (demo .firing []) with clk := 0, upd := { State.reset.upd with armed := some { at_ := 0, cold := false, deferrals := 0, begun := false } } } : State), _, { at_ := 0, cold := false, deferrals := 0, begun := false }, by decide, rfl, by decide, by decide⟩

theorem test_wit_FirmwareCommandsComplete_12 : ∃ (s : State) (a : Armed), (s.up .upd = true) ∧ (s.upd.armed = some a) ∧ (a.begun = false) ∧ (a.at_ ≤ s.nt + 100000000) ∧ (s.slotInWay a.at_ = true) ∧ (a.deferrals < 60) :=
  ⟨({ ((demo .firing []).put (TRN_SLOT_CTL.STATE 0) 1) with clk := 0, upd := { State.reset.upd with armed := some { at_ := 0, cold := false, deferrals := 0, begun := false } } } : State), { at_ := 0, cold := false, deferrals := 0, begun := false }, by decide, by decide, by decide, by decide, by decide, by decide⟩

theorem test_wit_FirmwareCommandsComplete_13 : ∃ (s : State) (a : Armed), (s.up .upd = true) ∧ (s.upd.armed = some a) ∧ (a.begun = false) ∧ (a.at_ ≤ s.nt + 100000000) ∧ (s.slotInWay a.at_ = true) ∧ (60 ≤ a.deferrals) :=
  ⟨({ ((demo .firing []).put (TRN_SLOT_CTL.STATE 0) 1) with clk := 0, upd := { State.reset.upd with armed := some { at_ := 0, cold := false, deferrals := 60, begun := false } } } : State), { at_ := 0, cold := false, deferrals := 60, begun := false }, by decide, by decide, by decide, by decide, by decide, by decide⟩

theorem test_wit_FirmwareCommandsComplete_14 : ∃ (s : State) (a : Armed), (s.up .upd = true) ∧ (s.upd.armed = some a) ∧ (a.begun = false) ∧ (a.at_ ≤ s.nt + 100000000) ∧ (s.slotInWay a.at_ = false) :=
  ⟨({ (demo .firing []) with clk := 0, upd := { State.reset.upd with armed := some { at_ := 0, cold := false, deferrals := 0, begun := false } } } : State), { at_ := 0, cold := false, deferrals := 0, begun := false }, by decide, by decide, by decide, by decide, by decide⟩

theorem test_wit_FirmwareCommandsComplete_15 : ∃ (s : State) (a : Armed), (s.actDue = some a) ∧ (s.canRestart = true) ∧ (a.cold = true) :=
  ⟨({ (demo .firing []) with clk := 0, upd := { State.reset.upd with armed := some { at_ := 0, cold := true, deferrals := 0, begun := true } } } : State), { at_ := 0, cold := true, deferrals := 0, begun := true }, by decide, by decide, by decide⟩

theorem test_wit_FirmwareCommandsComplete_16 : ∃ (s : State) (a : Armed), (s.actDue = some a) ∧ (s.canRestart = true) ∧ (a.cold = false) :=
  ⟨({ (demo .firing []) with clk := 0, upd := { State.reset.upd with armed := some { at_ := 0, cold := false, deferrals := 0, begun := true } } } : State), { at_ := 0, cold := false, deferrals := 0, begun := true }, by decide, by decide, by decide⟩

theorem test_wit_FirmwareTrialsComplete_1 : ∃ (s : State) (src : Src) (a v w : State), (s.ready .upd) ∧ ((s.taken .upd 5).authorise src = some a) ∧ (a.upd.glaze = true) ∧ (v = (a.writeSel fun x => { x with fired := x.active, trial := 0 }).setFwBank a.upd.running bankFired 0) ∧ (w = v.withUpd fun u => { u with glaze := false, confirmAt := none, confirmLeft := 0, confirming := true, secMin := max u.secMin (v.fwBank a.upd.running).secVer }) :=
  ⟨({ (demo .firing []) with clk := 0, upd := { State.reset.upd with glaze := true }, key := { State.reset.key with sessions := [{ src := 0, id := 1, ip := 0, port := 0, last := 0 }] } } : State), .hspi, _, _, _, by decide, rfl, by decide, rfl, rfl⟩

theorem test_wit_FirmwareTrialsComplete_2 : ∃ (s : State) (src : Src) (a : State), (s.ready .upd) ∧ ((s.taken .upd 6).authorise src = some a) ∧ ((s.authorise src).isSome = true) ∧ (s.upd.glaze = true) ∧ (s.canRestart = true) :=
  ⟨({ (demo .firing []) with clk := 0, upd := { State.reset.upd with glaze := true }, key := { State.reset.key with sessions := [{ src := 0, id := 1, ip := 0, port := 0, last := 0 }] } } : State), .hspi, _, by decide, rfl, by decide, by decide, by decide⟩

theorem test_wit_FirmwareTrialsComplete_3 : ∃ (s : State) (t : Nat), (s.upd.confirmAt = some t) ∧ (s.upd.glaze = true) ∧ (s.running = true) ∧ (t ≤ s.clk) :=
  ⟨({ (demo .firing []) with clk := 0, upd := { State.reset.upd with glaze := true, confirmAt := some 0 } } : State), 0, by decide, by decide, by decide, by decide⟩

theorem test_wit_FirmwareTrialsComplete_4 : ∃ (s : State) (src : Src) (a v : State) (n : Nat) (key : List Byte), (s.ready .upd) ∧ ((s.taken .upd 0x10).authorise src = some a) ∧ (n = a.fld UPD_CMD_ARG.INDEX) ∧ (n < 4) ∧ (a.campLoaded n = true) ∧ ((a.camp n).run = false) ∧ (a.useSlot (a.fld (UPD_EP_CFG.KEY_SLOT n)) useEpFw (fun t => t == 1) src.code = (v, .inl key)) :=
  ⟨({ (((demo .firing []).put (UPD_EP_SIZE.BLOCKS 0) 64).put (UPD_EP_CFG.KEY_SLOT 0) 70) with clk := 0, upd := { State.reset.upd with camps := [{ run := false, blocks := [(0, [])], targets := [], rounds := 0, installed := 0 }] }, key := { State.reset.key with sessions := [{ src := 0, id := 1, ip := 0, port := 0, last := 0 }], slots := [{ idx := 70, exhausted := false, typ := 1, usage := 512, lc := 31, expireReset := false, uses := 0xFFFFFFFF, key := .bytes [] }] } } : State), .hspi, _, _, _, _, by decide, rfl, rfl, by decide, by decide, by decide, rfl⟩

theorem test_wit_FirmwareTrialsComplete_5 : ∃ (s : State) (t : State) (n : Nat), (s.ready .upd) ∧ (t = s.taken .upd 0x11) ∧ (n = t.fld UPD_CMD_ARG.INDEX) ∧ (n < 4) ∧ ((t.camp n).run = true) :=
  ⟨({ (demo .firing []) with clk := 0, upd := { State.reset.upd with camps := [{ run := true, blocks := [], targets := [], rounds := 0, installed := 0 }] } } : State), _, _, by decide, rfl, rfl, by decide, by decide⟩

theorem test_wit_FirmwareTrialsComplete_6 : ∃ (s : State) (c : Fin 4), (s.up .upd = true) ∧ ((s.camp c.val).run = true) :=
  ⟨({ (demo .firing []) with clk := 0, upd := { State.reset.upd with camps := [{ run := true, blocks := [], targets := [], rounds := 0, installed := 0 }] } } : State), 0, by decide, by decide⟩

theorem test_wit_FirmwareTrialsComplete_7 : ∃ (s : State) (epa : Fin 4096) (id first : BitVec 16) (map : BitVec 256) (l : LinkInfo) (v : State), (s.up .upd = true) ∧ (s.ingests epa.val = true) ∧ (v = s.linkUpdate epa.val l) ∧ (v.campOf epa.val id.toNat = none) :=
  ⟨({ ((demo .firing []).put (EPC_STATE.STATE 7) 2) with clk := 0 } : State), 7, 0, 0, 0, { rssi := -50, lqi := 9, ch := 1 }, _, by decide, by decide, rfl, by decide⟩

theorem test_wit_FirmwareTrialsComplete_8 : ∃ (s : State) (epa : Fin 4096) (id first : BitVec 16) (map : BitVec 256) (l : LinkInfo) (v : State) (c : Nat) (d : Bool), (s.up .upd = true) ∧ (s.ingests epa.val = true) ∧ (v = s.linkUpdate epa.val l) ∧ (v.campOf epa.val id.toNat = some c) ∧ (first ≠ 0xFFFF ∨ (v.camp c).targets.any (fun t => t.epa == epa.val && t.committed) = true) ∧ (d = (first.toNat == 0xFFFF)) :=
  ⟨({ ((demo .firing []).put (EPC_STATE.STATE 7) 2) with clk := 0, upd := { State.reset.upd with camps := [{ run := true, blocks := [], targets := [{ epa := 7, first := 0, map := 0, complete := false, committed := false, silent := 0, result := none }], rounds := 0, installed := 0 }] } } : State), 7, 0, 0, 0, { rssi := -50, lqi := 9, ch := 1 }, _, 0, _, by decide, by decide, rfl, by decide, by decide, rfl⟩

theorem test_wit_FirmwareTrialsComplete_9 : ∃ (s : State) (epa : Fin 4096) (id first : BitVec 16) (map : BitVec 256) (l : LinkInfo) (v : State) (c : Nat) (t : State) (n : Nat), (s.up .upd = true) ∧ (s.ingests epa.val = true) ∧ (v = s.linkUpdate epa.val l) ∧ (v.campOf epa.val id.toNat = some c) ∧ (first = 0xFFFF) ∧ ((v.camp c).targets.any (fun t => t.epa == epa.val && t.committed) = false) ∧ (t = (v.updTarget c epa.val fun t => { t with first := first.toNat, map := map.toNat, complete := true, silent := 0, committed := t.committed || true })) ∧ (n = t.nt + clampN 2 540 (t.fld (UPD_EP_CTL.COMMIT_S c)) * 1000000000) :=
  ⟨({ ((demo .firing []).put (EPC_STATE.STATE 7) 2) with clk := 0, upd := { State.reset.upd with camps := [{ run := true, blocks := [], targets := [{ epa := 7, first := 0, map := 0, complete := false, committed := false, silent := 0, result := none }], rounds := 0, installed := 0 }] } } : State), 7, 0, 0xFFFF, 0, { rssi := -50, lqi := 9, ch := 1 }, _, 0, _, _, by decide, by decide, rfl, by decide, by decide, by decide, rfl, rfl⟩

theorem test_wit_FirmwareTrialsComplete_10 : ∃ (s : State) (epa : Fin 4096) (id : BitVec 16) (result : BitVec 8) (fw : BitVec 32) (l : LinkInfo) (v : State), (s.up .upd = true) ∧ (s.ingests epa.val = true) ∧ (v = s.linkUpdate epa.val l) ∧ (v.campOf epa.val id.toNat = none) :=
  ⟨({ ((demo .firing []).put (EPC_STATE.STATE 7) 2) with clk := 0 } : State), 7, 0, 0, 0, { rssi := -50, lqi := 9, ch := 1 }, _, by decide, by decide, rfl, by decide⟩

theorem test_wit_FirmwareTrialsComplete_11 : ∃ (s : State) (epa : Fin 4096) (id : BitVec 16) (result : BitVec 8) (fw : BitVec 32) (l : LinkInfo) (v : State) (c : Nat) (t : State), (s.up .upd = true) ∧ (s.ingests epa.val = true) ∧ (v = s.linkUpdate epa.val l) ∧ (v.campOf epa.val id.toNat = some c) ∧ (t = v.updTarget c epa.val fun x => { x with result := some result.toNat }) ∧ (result = 0) :=
  ⟨({ ((demo .firing []).put (EPC_STATE.STATE 7) 2) with clk := 0, upd := { State.reset.upd with camps := [{ run := true, blocks := [], targets := [{ epa := 7, first := 0, map := 0, complete := false, committed := false, silent := 0, result := none }], rounds := 0, installed := 0 }] } } : State), 7, 0, 0, 5, { rssi := -50, lqi := 9, ch := 1 }, _, 0, _, by decide, by decide, rfl, by decide, rfl, by decide⟩

theorem test_wit_FirmwareTrialsComplete_12 : ∃ (s : State) (epa : Fin 4096) (id : BitVec 16) (result : BitVec 8) (fw : BitVec 32) (l : LinkInfo) (v : State) (c : Nat) (t : State), (s.up .upd = true) ∧ (s.ingests epa.val = true) ∧ (v = s.linkUpdate epa.val l) ∧ (v.campOf epa.val id.toNat = some c) ∧ (t = v.updTarget c epa.val fun x => { x with result := some result.toNat }) ∧ (result ≠ 0) :=
  ⟨({ ((demo .firing []).put (EPC_STATE.STATE 7) 2) with clk := 0, upd := { State.reset.upd with camps := [{ run := true, blocks := [], targets := [{ epa := 7, first := 0, map := 0, complete := false, committed := false, silent := 0, result := none }], rounds := 0, installed := 0 }] } } : State), 7, 0, 3, 5, { rssi := -50, lqi := 9, ch := 1 }, _, 0, _, by decide, by decide, rfl, by decide, rfl, by decide⟩

theorem test_wit_LeaseFramesComplete_1 : ∃ (s : State) (l : Fin 2) (x : MzRx) (v w y : State), (s.mzUp l.val = true) ∧ (x.hdrOk = true) ∧ (x.crcOk = true) ∧ (v = s.bump (MZL_LINK_RX.FRAMES l.val)) ∧ (v.mzRoute l.val x = none) ∧ (w = v.mzTaken l.val mzTime x) ∧ (w.leaseOk l.val 3 x = true) ∧ (y = w.peerHeard x.payload) ∧ (y.role = 3) ∧ (y.freshSeq (leaseSeq x) = true) :=
  ⟨({ (((((((demo .firing []).put MZL_CFG.EN 1).put MZL_STAT.ENUMERATED 1).put (MZL_LINK_STAT.UP 0) 1).put (MZL_LINK_STAT.UP 1) 1).put PAIR_CFG.EN 1).put PAIR_STAT.ROLE 3) with clk := 0 } : State), 1, { hdrOk := true, crcOk := true, adj := true, dst := 0, src := 1, tag := 7, payload := [3, 2, 7, 0, 0, 0, 0, 0, 0, 0, 0, 0, 0, 0, 0, 0, 0, 0, 0, 0, 0, 0, 0, 0, 0, 0, 0, 0, 0, 0, 0, 0] }, _, _, _, by decide, by decide, by decide, rfl, by decide, rfl, by decide, rfl, heard (fun y => y.role = 3) _ _ (by decide) (by decide), heard (fun y => y.freshSeq (leaseSeq ⟨true, true, true, 0, 1, 7, [3, 2, 7, 0, 0, 0, 0, 0, 0, 0, 0, 0, 0, 0, 0, 0, 0, 0, 0, 0, 0, 0, 0, 0, 0, 0, 0, 0, 0, 0, 0, 0]⟩) = true) _ _ (by decide) (by decide)⟩

theorem test_wit_LeaseFramesComplete_2 : ∃ (s : State) (l : Fin 2) (x : MzRx) (v w y : State), (s.mzUp l.val = true) ∧ (x.hdrOk = true) ∧ (x.crcOk = true) ∧ (v = s.bump (MZL_LINK_RX.FRAMES l.val)) ∧ (v.mzRoute l.val x = none) ∧ (w = v.mzTaken l.val mzTime x) ∧ (w.leaseOk l.val 3 x = true) ∧ (y = w.peerHeard x.payload) ∧ (y.role = 3) ∧ (y.freshSeq (leaseSeq x) = false) :=
  ⟨({ (((((((demo .firing []).put MZL_CFG.EN 1).put MZL_STAT.ENUMERATED 1).put (MZL_LINK_STAT.UP 0) 1).put (MZL_LINK_STAT.UP 1) 1).put PAIR_CFG.EN 1).put PAIR_STAT.ROLE 3) with clk := 0, pair := { State.reset.pair with seqIn := some 9 } } : State), 1, { hdrOk := true, crcOk := true, adj := true, dst := 0, src := 1, tag := 7, payload := [3, 2, 7, 0, 0, 0, 0, 0, 0, 0, 0, 0, 0, 0, 0, 0, 0, 0, 0, 0, 0, 0, 0, 0, 0, 0, 0, 0, 0, 0, 0, 0] }, _, _, _, by decide, by decide, by decide, rfl, by decide, rfl, by decide, rfl, heard (fun y => y.role = 3) _ _ (by decide) (by decide), heard (fun y => y.freshSeq (leaseSeq ⟨true, true, true, 0, 1, 7, [3, 2, 7, 0, 0, 0, 0, 0, 0, 0, 0, 0, 0, 0, 0, 0, 0, 0, 0, 0, 0, 0, 0, 0, 0, 0, 0, 0, 0, 0, 0, 0]⟩) = false) _ _ (by decide) (by decide)⟩

theorem test_wit_LeaseFramesComplete_3 : ∃ (s : State) (l : Fin 2) (x : MzRx) (v w y : State) (z : State), (s.mzUp l.val = true) ∧ (x.hdrOk = true) ∧ (x.crcOk = true) ∧ (v = s.bump (MZL_LINK_RX.FRAMES l.val)) ∧ (v.mzRoute l.val x = none) ∧ (w = v.mzTaken l.val mzTime x) ∧ (w.leaseOk l.val 3 x = true) ∧ (y = w.peerHeard x.payload) ∧ (y.role = 1) ∧ (z = (if y.own then y.put PAIR_STAT.OWN 0 else y).becomeStandby) :=
  ⟨({ (((((((demo .firing []).put MZL_CFG.EN 1).put MZL_STAT.ENUMERATED 1).put (MZL_LINK_STAT.UP 0) 1).put (MZL_LINK_STAT.UP 1) 1).put PAIR_CFG.EN 1).put PAIR_STAT.ROLE 1) with clk := 0 } : State), 1, { hdrOk := true, crcOk := true, adj := true, dst := 0, src := 1, tag := 7, payload := [3, 2, 7, 0, 0, 0, 0, 0, 0, 0, 0, 0, 0, 0, 0, 0, 0, 0, 0, 0, 0, 0, 0, 0, 0, 0, 0, 0, 0, 0, 0, 0] }, _, _, _, _, by decide, by decide, by decide, rfl, by decide, rfl, by decide, rfl, heard (fun y => y.role = 1) _ _ (by decide) (by decide), rfl⟩

theorem test_wit_LeaseFramesComplete_4 : ∃ (s : State) (l : Fin 2) (x : MzRx) (v w y : State) (r : Nat × Nat × Bool), (s.mzUp l.val = true) ∧ (x.hdrOk = true) ∧ (x.crcOk = true) ∧ (v = s.bump (MZL_LINK_RX.FRAMES l.val)) ∧ (v.mzRoute l.val x = none) ∧ (w = v.mzTaken l.val mzTime x) ∧ (w.leaseOk l.val 4 x = true) ∧ (y = w.peerHeard x.payload) ∧ (y.role = 2) ∧ (y.pair.sentSeqs.find? (fun r => r.1 == leaseSeq x) = some r) ∧ (y.pair.handover ≠ some (some (leAt x.payload 16 4))) :=
  ⟨({ (((((((demo .firing []).put MZL_CFG.EN 1).put MZL_STAT.ENUMERATED 1).put (MZL_LINK_STAT.UP 0) 1).put (MZL_LINK_STAT.UP 1) 1).put PAIR_CFG.EN 1).put PAIR_STAT.ROLE 2) with clk := 0, pair := { State.reset.pair with sentSeqs := [(7, 5, false)] } } : State), 1, { hdrOk := true, crcOk := true, adj := true, dst := 0, src := 1, tag := 7, payload := [4, 2, 7, 0, 0, 0, 0, 0, 0, 0, 0, 0, 0, 0, 0, 0, 0, 0, 0, 0, 0, 0, 0, 0, 0, 0, 0, 0, 0, 0, 0, 0] }, _, _, _, (7, 5, false), by decide, by decide, by decide, rfl, by decide, rfl, by decide, rfl, heard (fun y => y.role = 2) _ _ (by decide) (by decide), heard (fun y => y.pair.sentSeqs.find? (fun r => r.1 == leaseSeq ⟨true, true, true, 0, 1, 7, [4, 2, 7, 0, 0, 0, 0, 0, 0, 0, 0, 0, 0, 0, 0, 0, 0, 0, 0, 0, 0, 0, 0, 0, 0, 0, 0, 0, 0, 0, 0, 0]⟩) = some (7, 5, false)) _ _ (by decide) (by decide), heard (fun y => y.pair.handover ≠ some (some (leAt [4, 2, 7, 0, 0, 0, 0, 0, 0, 0, 0, 0, 0, 0, 0, 0, 0, 0, 0, 0, 0, 0, 0, 0, 0, 0, 0, 0, 0, 0, 0, 0] 16 4))) _ _ (by decide) (by decide)⟩

theorem test_wit_LeaseFramesComplete_5 : ∃ (s : State) (l : Fin 2) (x : MzRx) (v w y : State) (r : Nat × Nat × Bool), (s.mzUp l.val = true) ∧ (x.hdrOk = true) ∧ (x.crcOk = true) ∧ (v = s.bump (MZL_LINK_RX.FRAMES l.val)) ∧ (v.mzRoute l.val x = none) ∧ (w = v.mzTaken l.val mzTime x) ∧ (w.leaseOk l.val 4 x = true) ∧ (y = w.peerHeard x.payload) ∧ (y.role = 2) ∧ (y.pair.sentSeqs.find? (fun r => r.1 == leaseSeq x) = some r) ∧ (y.pair.handover = some (some (leAt x.payload 16 4))) :=
  ⟨({ (((((((demo .firing []).put MZL_CFG.EN 1).put MZL_STAT.ENUMERATED 1).put (MZL_LINK_STAT.UP 0) 1).put (MZL_LINK_STAT.UP 1) 1).put PAIR_CFG.EN 1).put PAIR_STAT.ROLE 2) with clk := 0, pair := { State.reset.pair with sentSeqs := [(7, 5, false)], handover := some (some 0) } } : State), 1, { hdrOk := true, crcOk := true, adj := true, dst := 0, src := 1, tag := 7, payload := [4, 2, 7, 0, 0, 0, 0, 0, 0, 0, 0, 0, 0, 0, 0, 0, 0, 0, 0, 0, 0, 0, 0, 0, 0, 0, 0, 0, 0, 0, 0, 0] }, _, _, _, (7, 5, false), by decide, by decide, by decide, rfl, by decide, rfl, by decide, rfl, heard (fun y => y.role = 2) _ _ (by decide) (by decide), heard (fun y => y.pair.sentSeqs.find? (fun r => r.1 == leaseSeq ⟨true, true, true, 0, 1, 7, [4, 2, 7, 0, 0, 0, 0, 0, 0, 0, 0, 0, 0, 0, 0, 0, 0, 0, 0, 0, 0, 0, 0, 0, 0, 0, 0, 0, 0, 0, 0, 0]⟩) = some (7, 5, false)) _ _ (by decide) (by decide), heard (fun y => y.pair.handover = some (some (leAt [4, 2, 7, 0, 0, 0, 0, 0, 0, 0, 0, 0, 0, 0, 0, 0, 0, 0, 0, 0, 0, 0, 0, 0, 0, 0, 0, 0, 0, 0, 0, 0] 16 4))) _ _ (by decide) (by decide)⟩

theorem test_wit_LeaseFramesComplete_6 : ∃ (s : State) (l : Fin 2) (x : MzRx) (v w y : State), (s.mzUp l.val = true) ∧ (x.hdrOk = true) ∧ (x.crcOk = true) ∧ (v = s.bump (MZL_LINK_RX.FRAMES l.val)) ∧ (v.mzRoute l.val x = none) ∧ (w = v.mzTaken l.val mzTime x) ∧ (w.leaseOk l.val 5 x = true) ∧ (y = w.peerHeard x.payload) ∧ (y.role = 3) ∧ (y.freeToClaim = true) ∧ (y.mayTake = true) :=
  ⟨({ ((((((((demo .firing []).put MZL_CFG.EN 1).put MZL_STAT.ENUMERATED 1).put (MZL_LINK_STAT.UP 0) 1).put (MZL_LINK_STAT.UP 1) 1).put PAIR_CFG.EN 1).put PAIR_STAT.ROLE 3).put PAIR_STAT.SYNCED 1) with clk := 0 } : State), 1, { hdrOk := true, crcOk := true, adj := true, dst := 0, src := 1, tag := 7, payload := [5, 2, 7, 0, 0, 0, 0, 0, 0, 0, 0, 0, 0, 0, 0, 0, 0, 0, 0, 0, 0, 0, 0, 0, 0, 0, 0, 0, 0, 0, 0, 0] }, _, _, _, by decide, by decide, by decide, rfl, by decide, rfl, by decide, rfl, heard (fun y => y.role = 3) _ _ (by decide) (by decide), heard (fun y => y.freeToClaim = true) _ _ (by decide) (by decide), heard (fun y => y.mayTake = true) _ _ (by decide) (by decide)⟩

theorem test_wit_LeaseFramesComplete_7 : ∃ (s : State) (l : Fin 2) (x : MzRx) (v w y : State), (s.mzUp l.val = true) ∧ (x.hdrOk = true) ∧ (x.crcOk = true) ∧ (v = s.bump (MZL_LINK_RX.FRAMES l.val)) ∧ (v.mzRoute l.val x = none) ∧ (w = v.mzTaken l.val mzTime x) ∧ (w.leaseOk l.val 5 x = true) ∧ (y = w.peerHeard x.payload) ∧ (y.role = 3) ∧ (y.freeToClaim = false ∨ y.mayTake = false) :=
  ⟨({ ((((((((demo .firing []).put MZL_CFG.EN 1).put MZL_STAT.ENUMERATED 1).put (MZL_LINK_STAT.UP 0) 1).put (MZL_LINK_STAT.UP 1) 1).put PAIR_CFG.EN 1).put PAIR_STAT.ROLE 3).put PAIR_CFG.TAKE_STALE 0) with clk := 0 } : State), 1, { hdrOk := true, crcOk := true, adj := true, dst := 0, src := 1, tag := 7, payload := [5, 2, 7, 0, 0, 0, 0, 0, 0, 0, 0, 0, 0, 0, 0, 0, 0, 0, 0, 0, 0, 0, 0, 0, 0, 0, 0, 0, 0, 0, 0, 0] }, _, _, _, by decide, by decide, by decide, rfl, by decide, rfl, by decide, rfl, heard (fun y => y.role = 3) _ _ (by decide) (by decide), heard (fun y => y.freeToClaim = false ∨ y.mayTake = false) _ _ (by decide) (by decide)⟩

theorem test_wit_LeaseFramesComplete_8 : ∃ (s : State) (l : Fin 2) (x : MzRx) (v w y : State) (z : State), (s.mzUp l.val = true) ∧ (x.hdrOk = true) ∧ (x.crcOk = true) ∧ (v = s.bump (MZL_LINK_RX.FRAMES l.val)) ∧ (v.mzRoute l.val x = none) ∧ (w = v.mzTaken l.val mzTime x) ∧ (w.leaseOk l.val 6 x = true) ∧ (y = w.peerHeard x.payload) ∧ (z = y.withPair fun p => { p with electAt := y.clk }) ∧ (z.pair.claimAt.isSome = true) ∧ (z.bit PAIR_CFG.SIDE = true) :=
  ⟨({ (((((((demo .firing []).put MZL_CFG.EN 1).put MZL_STAT.ENUMERATED 1).put (MZL_LINK_STAT.UP 0) 1).put (MZL_LINK_STAT.UP 1) 1).put PAIR_CFG.EN 1).put PAIR_CFG.SIDE 1) with clk := 0, pair := { State.reset.pair with claimAt := some 0 } } : State), 1, { hdrOk := true, crcOk := true, adj := true, dst := 0, src := 1, tag := 7, payload := [6, 2, 7, 0, 0, 0, 0, 0, 0, 0, 0, 0, 0, 0, 0, 0, 0, 0, 0, 0, 0, 0, 0, 0, 0, 0, 0, 0, 0, 0, 0, 0] }, _, _, _, _, by decide, by decide, by decide, rfl, by decide, rfl, by decide, rfl, rfl, heard (fun y => (y.withPair fun p => { p with electAt := y.clk }).pair.claimAt.isSome = true) _ _ (by decide) (by decide), heard (fun y => (y.withPair fun p => { p with electAt := y.clk }).bit PAIR_CFG.SIDE = true) _ _ (by decide) (by decide)⟩

theorem test_wit_LeaseFramesComplete_9 : ∃ (s : State) (l : Fin 2) (x : MzRx) (v w y : State) (z : State), (s.mzUp l.val = true) ∧ (x.hdrOk = true) ∧ (x.crcOk = true) ∧ (v = s.bump (MZL_LINK_RX.FRAMES l.val)) ∧ (v.mzRoute l.val x = none) ∧ (w = v.mzTaken l.val mzTime x) ∧ (w.leaseOk l.val 6 x = true) ∧ (y = w.peerHeard x.payload) ∧ (z = y.withPair fun p => { p with electAt := y.clk }) ∧ (z.pair.claimAt = none ∨ z.bit PAIR_CFG.SIDE = false) :=
  ⟨({ ((((((demo .firing []).put MZL_CFG.EN 1).put MZL_STAT.ENUMERATED 1).put (MZL_LINK_STAT.UP 0) 1).put (MZL_LINK_STAT.UP 1) 1).put PAIR_CFG.EN 1) with clk := 0 } : State), 1, { hdrOk := true, crcOk := true, adj := true, dst := 0, src := 1, tag := 7, payload := [6, 2, 7, 0, 0, 0, 0, 0, 0, 0, 0, 0, 0, 0, 0, 0, 0, 0, 0, 0, 0, 0, 0, 0, 0, 0, 0, 0, 0, 0, 0, 0] }, _, _, _, _, by decide, by decide, by decide, rfl, by decide, rfl, by decide, rfl, rfl, heard (fun y => (y.withPair fun p => { p with electAt := y.clk }).pair.claimAt = none ∨ (y.withPair fun p => { p with electAt := y.clk }).bit PAIR_CFG.SIDE = false) _ _ (by decide) (by decide)⟩

theorem test_wit_LeaseFramesComplete_10 : ∃ (s : State) (l : Fin 2) (x : MzRx) (v w : State), (s.mzUp l.val = true) ∧ (x.hdrOk = true) ∧ (x.crcOk = true) ∧ (v = s.bump (MZL_LINK_RX.FRAMES l.val)) ∧ (v.mzRoute l.val x = none) ∧ (w = v.mzTaken l.val mzData x) ∧ (w.pairEn = true) ∧ (l.val = w.pairLink) ∧ (x.adj = true) ∧ (x.payload.take 4 = [0x54, 0x4C, 0x4D, 0x52]) ∧ (w.standby = true) ∧ (w.bit PAIR_STAT.CFG_MISMATCH = false) :=
  ⟨({ (((((((demo .firing []).put MZL_CFG.EN 1).put MZL_STAT.ENUMERATED 1).put (MZL_LINK_STAT.UP 0) 1).put (MZL_LINK_STAT.UP 1) 1).put PAIR_CFG.EN 1).put PAIR_STAT.ROLE 3) with clk := 0 } : State), 1, { hdrOk := true, crcOk := true, adj := true, dst := 0, src := 1, tag := 7, payload := [0x54, 0x4C, 0x4D, 0x52] ++ List.replicate 12 0 }, _, _, by decide, by decide, by decide, rfl, by decide, rfl, by decide, by decide, by decide, by decide, by decide, by decide⟩

theorem test_wit_LeaseEventsComplete_1 : ∃ (s : State) (n : Nat) (v : State), (s.pairEn = true) ∧ (s.up .pair = true) ∧ (s.role = 2) ∧ (s.pair.renewAt ≤ s.clk) ∧ (n = (s.pair.seqOut + 1) % 65536) ∧ (v = s.withPair fun p => { p with seqOut := n, renewAt := s.clk + renewInterval, sentSeqs := p.sentSeqs ++ [(n, s.clk, false)] }) :=
  ⟨({ (((((((demo .firing []).put MZL_CFG.EN 1).put MZL_STAT.ENUMERATED 1).put (MZL_LINK_STAT.UP 0) 1).put (MZL_LINK_STAT.UP 1) 1).put PAIR_CFG.EN 1).put PAIR_STAT.ROLE 2) with clk := 0 } : State), _, _, by decide, by decide, by decide, by decide, rfl, rfl⟩

theorem test_wit_LeaseEventsComplete_2 : ∃ (s : State) (d : Nat × Nat × Bool → Bool), (d = fun (r : Nat × Nat × Bool) => !r.2.2 && r.2.1 + renewInterval ≤ s.clk) :=
  ⟨({ ((((((demo .firing []).put MZL_CFG.EN 1).put MZL_STAT.ENUMERATED 1).put (MZL_LINK_STAT.UP 0) 1).put (MZL_LINK_STAT.UP 1) 1).put PAIR_CFG.EN 1) with clk := 0 } : State), _, rfl⟩

theorem test_wit_LeaseEventsComplete_3 : ∃ (s : State) (t : Nat), (s.pair.expiry = some t) ∧ (s.pairEn = true) ∧ (s.up .pair = true) ∧ (s.own = true) ∧ (t ≤ s.clk) ∧ (s.role = 2) :=
  ⟨({ ((((((((demo .firing []).put MZL_CFG.EN 1).put MZL_STAT.ENUMERATED 1).put (MZL_LINK_STAT.UP 0) 1).put (MZL_LINK_STAT.UP 1) 1).put PAIR_CFG.EN 1).put PAIR_STAT.ROLE 2).put PAIR_STAT.OWN 1) with clk := 0, pair := { State.reset.pair with expiry := some 0 } } : State), 0, by decide, by decide, by decide, by decide, by decide, by decide⟩

theorem test_wit_LeaseEventsComplete_4 : ∃ (s : State) (t : Nat), (s.pair.expiry = some t) ∧ (s.pairEn = true) ∧ (s.up .pair = true) ∧ (s.own = true) ∧ (t ≤ s.clk) ∧ (s.role ≠ 2) :=
  ⟨({ ((((((((demo .firing []).put MZL_CFG.EN 1).put MZL_STAT.ENUMERATED 1).put (MZL_LINK_STAT.UP 0) 1).put (MZL_LINK_STAT.UP 1) 1).put PAIR_CFG.EN 1).put PAIR_STAT.ROLE 3).put PAIR_STAT.OWN 1) with clk := 0, pair := { State.reset.pair with expiry := some 0 } } : State), 0, by decide, by decide, by decide, by decide, by decide, by decide⟩

theorem test_wit_LeaseEventsComplete_5 : ∃ (s : State) (v : State), (s.pairEn = true) ∧ (s.role = 3) ∧ (v = s.pubPair) ∧ (v.freeToClaim = true) ∧ (v.role = 3) ∧ (v.pair.deadline ≤ v.clk) ∧ (v.bit PAIR_STAT.ELIGIBLE = true) ∧ (v.mayTake = true) :=
  ⟨({ ((((((((demo .firing []).put MZL_CFG.EN 1).put MZL_STAT.ENUMERATED 1).put (MZL_LINK_STAT.UP 0) 1).put (MZL_LINK_STAT.UP 1) 1).put PAIR_CFG.EN 1).put PAIR_STAT.ROLE 3).put PAIR_STAT.SYNCED 1) with clk := 0 } : State), _, by decide, by decide, rfl, by decide, by decide, by decide, by decide, by decide⟩

theorem test_wit_LeaseEventsComplete_6 : ∃ (s : State) (t : Nat), (s.pair.claimAt = some t) ∧ (s.pairEn = true) ∧ (s.own = true) ∧ (s.peerOwn = false) ∧ (t + msec ≤ s.clk) :=
  ⟨({ (((((((demo .firing []).put MZL_CFG.EN 1).put MZL_STAT.ENUMERATED 1).put (MZL_LINK_STAT.UP 0) 1).put (MZL_LINK_STAT.UP 1) 1).put PAIR_CFG.EN 1).put PAIR_STAT.OWN 1) with clk := 2 ^ 30, pair := { State.reset.pair with claimAt := some 0 } } : State), 0, by decide, by decide, by decide, by decide, by decide⟩

theorem test_wit_LeaseEventsComplete_7 : ∃ (s : State), (s.freeToClaim = true) ∧ (s.role = 1) ∧ (s.pair.electAt + leaseL + leaseG ≤ s.clk) :=
  ⟨({ (((((((demo .firing []).put MZL_CFG.EN 1).put MZL_STAT.ENUMERATED 1).put (MZL_LINK_STAT.UP 0) 1).put (MZL_LINK_STAT.UP 1) 1).put PAIR_CFG.EN 1).put PAIR_STAT.ROLE 1) with clk := 2 ^ 40 } : State), by decide, by decide, by decide⟩

theorem test_wit_LeaseEventsComplete_8 : ∃ (s : State), (s.freeToClaim = true) ∧ (s.role = 4) ∧ (s.pair.releasedAt + leaseL + leaseG ≤ s.clk) :=
  ⟨({ (((((((demo .firing []).put MZL_CFG.EN 1).put MZL_STAT.ENUMERATED 1).put (MZL_LINK_STAT.UP 0) 1).put (MZL_LINK_STAT.UP 1) 1).put PAIR_CFG.EN 1).put PAIR_STAT.ROLE 4) with clk := 2 ^ 40 } : State), by decide, by decide, by decide⟩

theorem test_wit_LeaseEventsComplete_9 : ∃ (s : State) (low : Bool) (v : State), (s.up .pair = true) ∧ (v = s.putB PAIR_STAT.PEER_OWN low) ∧ (v.pairEn = false) :=
  ⟨({ (((((demo .firing []).put MZL_CFG.EN 1).put MZL_STAT.ENUMERATED 1).put (MZL_LINK_STAT.UP 0) 1).put (MZL_LINK_STAT.UP 1) 1) with clk := 0 } : State), true, _, by decide, rfl, by decide⟩

theorem test_wit_LeaseEventsComplete_10 : ∃ (s : State) (v w : State), (s.up .pair = true) ∧ (v = s.putB PAIR_STAT.PEER_OWN true) ∧ (v.pairEn = true) ∧ (w = v.peerDrives) ∧ (w.role = 1 ∨ w.role = 4) ∧ (w.pair.claimAt = none) :=
  ⟨({ (((((((demo .firing []).put MZL_CFG.EN 1).put MZL_STAT.ENUMERATED 1).put (MZL_LINK_STAT.UP 0) 1).put (MZL_LINK_STAT.UP 1) 1).put PAIR_CFG.EN 1).put PAIR_STAT.ROLE 1) with clk := 0 } : State), _, _, by decide, rfl, by decide, rfl, by decide, by decide⟩

theorem test_wit_LeaseEventsComplete_11 : ∃ (s : State) (v w : State), (s.up .pair = true) ∧ (v = s.putB PAIR_STAT.PEER_OWN true) ∧ (v.pairEn = true) ∧ (w = v.peerDrives) ∧ (w.role ≠ 1 ∧ w.role ≠ 4 ∨ w.pair.claimAt.isSome = true) :=
  ⟨({ (((((((demo .firing []).put MZL_CFG.EN 1).put MZL_STAT.ENUMERATED 1).put (MZL_LINK_STAT.UP 0) 1).put (MZL_LINK_STAT.UP 1) 1).put PAIR_CFG.EN 1).put PAIR_STAT.ROLE 2) with clk := 0 } : State), _, _, by decide, rfl, by decide, rfl, by decide⟩

theorem test_wit_LeaseEventsComplete_12 : ∃ (s : State) (v : State), (s.up .pair = true) ∧ (v = s.putB PAIR_STAT.PEER_OWN false) ∧ (v.pairEn = true) ∧ (v.pair.claimAt.isSome = true) :=
  ⟨({ ((((((demo .firing []).put MZL_CFG.EN 1).put MZL_STAT.ENUMERATED 1).put (MZL_LINK_STAT.UP 0) 1).put (MZL_LINK_STAT.UP 1) 1).put PAIR_CFG.EN 1) with clk := 0, pair := { State.reset.pair with claimAt := some 0 } } : State), _, by decide, rfl, by decide, by decide⟩

theorem test_wit_LeaseEventsComplete_13 : ∃ (s : State) (v : State), (s.up .pair = true) ∧ (v = s.putB PAIR_STAT.PEER_OWN false) ∧ (v.pairEn = true) ∧ (v.pair.claimAt = none) :=
  ⟨({ ((((((demo .firing []).put MZL_CFG.EN 1).put MZL_STAT.ENUMERATED 1).put (MZL_LINK_STAT.UP 0) 1).put (MZL_LINK_STAT.UP 1) 1).put PAIR_CFG.EN 1) with clk := 0 } : State), _, by decide, rfl, by decide, by decide⟩

theorem test_wit_LeaseEventsComplete_14 : ∃ (s : State) (src : Src) (a : State), (s.ready .pair) ∧ ((s.taken .pair 1).authorise src = some a) ∧ (a.role = 2) ∧ (a.peerReady = true) :=
  ⟨({ (((((((demo .firing []).put MZL_CFG.EN 1).put MZL_STAT.ENUMERATED 1).put (MZL_LINK_STAT.UP 0) 1).put (MZL_LINK_STAT.UP 1) 1).put PAIR_CFG.EN 1).put PAIR_STAT.ROLE 2) with clk := 0, pair := { State.reset.pair with peerFlags := 3 }, key := { State.reset.key with sessions := [{ src := 0, id := 1, ip := 0, port := 0, last := 0 }] } } : State), .hspi, _, by decide, rfl, by decide, by decide⟩

theorem test_wit_LeaseEventsComplete_15 : ∃ (s : State) (src : Src) (a : State), (s.ready .pair) ∧ ((s.taken .pair 2).authorise src = some a) ∧ (a.role = 2) :=
  ⟨({ (((((((demo .firing []).put MZL_CFG.EN 1).put MZL_STAT.ENUMERATED 1).put (MZL_LINK_STAT.UP 0) 1).put (MZL_LINK_STAT.UP 1) 1).put PAIR_CFG.EN 1).put PAIR_STAT.ROLE 2) with clk := 0, key := { State.reset.key with sessions := [{ src := 0, id := 1, ip := 0, port := 0, last := 0 }] } } : State), .hspi, _, by decide, rfl, by decide⟩

theorem test_wit_LeaseEventsComplete_16 : ∃ (s : State) (t : State), (s.ready .pair) ∧ (t = s.taken .pair 3) ∧ (t.role = 3) :=
  ⟨({ (((((((demo .firing []).put MZL_CFG.EN 1).put MZL_STAT.ENUMERATED 1).put (MZL_LINK_STAT.UP 0) 1).put (MZL_LINK_STAT.UP 1) 1).put PAIR_CFG.EN 1).put PAIR_STAT.ROLE 3) with clk := 0 } : State), _, by decide, rfl, by decide⟩

theorem test_wit_PendingRefusesAnother_1 : ∃ (b : Blk) (s : State), s.cmdStatus b = stPending :=
  ⟨.cfg, demo .firing [(CFG_CMD_STAT.adr, 0x201)], by decide⟩
theorem test_wit_PendingRefusesAnother_2 : ∃ (src : Src) (s : State), (s.bank src.code).status = stPending :=
  ⟨.hspi, (demo .firing []).keyStatus 0 8 stPending, by decide⟩
theorem test_wit_SecondUnplannedStartIsCold_1 : ∃ (s : State) (a : Nat), s.canRestart = true ∧ s.sys.lastUnplanned = some a ∧ s.clk ≤ a + 60 * secs :=
  ⟨(demo .firing []).noteUnplanned, 0, by decide, by decide, by decide⟩
theorem test_wit_ModeCommandsRefused_1 : ∃ (src : Src) (s : State), s.ready .pwr ∧ (s.taken .pwr 1).authorise src = none :=
  ⟨.hspi, demo .firing [], by decide, by decide⟩
theorem test_wit_ModeCommandsRefused_2 : ∃ (src : Src) (s : State), s.ready .pwr ∧ (s.taken .pwr 5).authorise src = none :=
  ⟨.usb, demo .soak [], by decide, by decide⟩
theorem test_wit_ModeCommandsRefused_3 : ∃ (src : Src) (code : Nat) (s : State), s.ready .pwr ∧ code ∉ [1, 2, 3, 4, 5] :=
  ⟨.hspi, 6, demo .firing [], by decide, by decide⟩
theorem test_wit_RegisterStoreKeepsWords_1 : ∃ s : State, regsWf s.regs :=
  ⟨State.reset, List.Pairwise.nil, fun _ h => absurd h (by simp [State.reset])⟩
theorem test_wit_RegisterStoreKeepsWords_2 : ∃ (s : State) (f : Fld), regsWf s.regs ∧ f.lo + f.w ≤ 32 :=
  ⟨State.reset, LOG_CNT.SUPPRESSED, ⟨List.Pairwise.nil, fun _ h => absurd h (by simp [State.reset])⟩, by decide⟩
theorem test_wit_RegisterStoreKeepsWords_3 : ∃ (s : State) (f g : Fld), regsWf s.regs ∧ f.lo + f.w ≤ 32 ∧
    (g.adr ≠ f.adr ∨ g.lo + g.w ≤ f.lo ∨ f.lo + f.w ≤ g.lo) :=
  ⟨State.reset, LOG_CNT.LOST, LOG_CNT.SUPPRESSED, ⟨List.Pairwise.nil, fun _ h => absurd h (by simp [State.reset])⟩, by decide, by decide⟩
theorem test_wit_AccessErrorsAreCaptured_1 : ∃ (s : State) (c : Access), s.Inv ∧ c.sz < 4 ∧ c.off < 2 ^ 26 ∧ s.noAccErr = true :=
  ⟨State.reset, ⟨.usb, true, 3, 2 ^ 26 - 1⟩, test_reset_inv, by decide, by decide, by decide⟩
theorem test_wit_AccessErrorsAreCaptured_2 : ∃ s : State, s.Inv ∧ s.noAccErr = false :=
  ⟨demo .firing [(SYS_ACCESS_ERR.adr, 4)], ⟨by simp [demo, regsWf]; decide, by intro x hx; simp [demo] at hx; subst hx; decide⟩, by decide⟩
theorem test_wit_SettleKeepsWords_1 : ∃ a : Nat, (a < 0x50000 ∨ 0x70000 ≤ a ∧ a < 0x600000 ∨ 0x680000 ≤ a) := ⟨0x4FFFC, by decide⟩
theorem test_wit_SettleKeepsWords_2 : ∃ a : Nat, (a < 0x50000 ∨ 0x70000 ≤ a ∧ a < 0x600000 ∨ 0x680000 ≤ a) := ⟨0x70000, by decide⟩
theorem test_wit_SettleKeepsWords_3 : ∃ a : Nat, (a < 0x50000 ∨ 0x70000 ≤ a ∧ a < 0x600000 ∨ 0x680000 ≤ a) := ⟨0x680000, by decide⟩
theorem test_wit_StepRunsFrontCommand_1 : ∃ (c : Instr) (rest : List Instr) (s : State), s.pending = c :: rest :=
  ⟨.watchdog, [.vsysReturn], { State.reset with pending := [.watchdog, .vsysReturn] }, rfl⟩
theorem test_wit_StepRunsFrontCommand_2 : ∃ s : State, s.pending = [] := ⟨State.reset, rfl⟩
theorem test_wit_StepKeepsInv : ∃ s t : State, s.Inv ∧ step s = .next t :=
  ⟨State.reset, State.reset.idleTick, test_reset_inv, rfl⟩
theorem test_wit_RarReadsLoseNothing_1 : ∃ (s : State) (a : Nat) (p : RarPair) (hi : Bool), regsWf s.regs ∧ rarOf a = some (p, hi) ∧ s.bit p.pending = false :=
  ⟨State.reset, EPC_EN_LO.adr 1023, _, _, test_reset_inv.1, rfl, by decide⟩
theorem test_wit_RarReadsLoseNothing_2 : ∃ (s : State) (a : Nat) (p : RarPair) (hi : Bool), regsWf s.regs ∧ rarOf a = some (p, hi) ∧ s.bit p.pending = true :=
  ⟨demo .firing [(EPC_REMOVED_EN_STAT.adr, 1)], EPC_REMOVED_EN_HI.adr, _, _,
    ⟨by simp [demo], by intro x hx; simp [demo] at hx; subst hx; decide⟩, rfl, by decide⟩
theorem test_wit_RarReadsLoseNothing_3 : ∃ (s : State) (a : Nat) (p : RarPair) (hi : Bool), regsWf s.regs ∧ rarOf a = some (p, hi) :=
  ⟨State.reset, MTR_FDR_ACC_HI.adr 11 6, _, _, test_reset_inv.1, rfl⟩
end

section
/-! The register store through a state's words, fields and accumulators: what a write leaves where (R4, R58). -/

namespace Sys2Proof.Machine

/-! ### Words -/

theorem setWord_regs_wf (s : State) (a : Nat) (w : Word) (h : regsWf s.regs) : regsWf (s.setWord a w).regs := by
  unfold State.setWord
  dsimp only
  split
  · exact regDel_wf _ a h
  · next hw => exact regIns_wf _ a w h hw

/-- A word reads as it was last written, also where that unlists it. -/
theorem setWord_word_same (s : State) (a : Nat) (w : Word) (h : regsWf s.regs) : (s.setWord a w).word a = w := by
  unfold State.word State.setWord
  dsimp only
  split
  · next hw => rw [regFind_regDel_same _ a h.1]; exact hw.symm
  · rw [regFind_regIns_same]; rfl

theorem setWord_word_other (s : State) (a b : Nat) (w : Word) (hb : b ≠ a) : (s.setWord a w).word b = s.word b := by
  unfold State.word
  rw [regFind_setWord s a b w hb]

theorem wr_regs_wf (s : State) (a n : Nat) (h : regsWf s.regs) : regsWf (s.wr a n).regs := setWord_regs_wf s a _ h

theorem wr_rd_same (s : State) (a n : Nat) (h : regsWf s.regs) : (s.wr a n).rd a = n % 2 ^ 32 := by
  unfold State.rd State.wr
  rw [setWord_word_same s a _ h, BitVec.toNat_ofNat]

theorem wr_rd_other (s : State) (a b n : Nat) (hb : b ≠ a) : (s.wr a n).rd b = s.rd b := by
  unfold State.rd State.wr
  rw [setWord_word_other s a b _ hb]

/-! ### Fields -/

theorem put_regs_wf (s : State) (f : Fld) (v : Nat) (h : regsWf s.regs) : regsWf (s.put f v).regs := wr_regs_wf s _ _ h

theorem put_rd_same (s : State) (f : Fld) (v : Nat) (h : regsWf s.regs) (hf : f.lo + f.w ≤ 32) :
    (s.put f v).rd f.adr = putBits (s.rd f.adr) f.lo f.w v :=
  (wr_rd_same s f.adr _ h).trans (Nat.mod_eq_of_lt (putBits_lt _ _ _ _ (s.word f.adr).isLt hf))

theorem put_rd_other (s : State) (f : Fld) (v a : Nat) (ha : a ≠ f.adr) : (s.put f v).rd a = s.rd a :=
  wr_rd_other s f.adr a _ ha

theorem put_fld_same (s : State) (f : Fld) (v : Nat) (h : regsWf s.regs) (hf : f.lo + f.w ≤ 32) :
    (s.put f v).fld f = v % 2 ^ f.w := by
  unfold State.fld
  rw [put_rd_same s f v h hf, bitsOf_putBits_same]

/-- A field keeps its value where another is put: in another word, or in other bits of its own. -/
theorem put_fld_other (s : State) (f g : Fld) (v : Nat) (h : regsWf s.regs) (hf : f.lo + f.w ≤ 32)
    (hg : g.adr ≠ f.adr ∨ g.lo + g.w ≤ f.lo ∨ f.lo + f.w ≤ g.lo) : (s.put f v).fld g = s.fld g := by
  unfold State.fld
  by_cases ha : g.adr = f.adr
  · rw [ha, put_rd_same s f v h hf, bitsOf_putBits_other _ _ _ _ _ _ (hg.resolve_left (· ha))]
  · rw [put_rd_other s f v _ ha]

theorem put_bit_same (s : State) (f : Fld) (v : Nat) (h : regsWf s.regs) (hf : f.lo + f.w ≤ 32) (hw : f.w = 1) :
    (s.put f v).bit f = (v % 2 == 1) := by
  unfold State.bit
  rw [put_fld_same s f v h hf, hw, Nat.pow_one]

theorem put_bit_other (s : State) (f g : Fld) (v : Nat) (h : regsWf s.regs) (hf : f.lo + f.w ≤ 32)
    (hg : g.adr ≠ f.adr ∨ g.lo + g.w ≤ f.lo ∨ f.lo + f.w ≤ g.lo) : (s.put f v).bit g = s.bit g := by
  unfold State.bit
  rw [put_fld_other s f g v h hf hg]

/-- Settles O52, by the rules of a word's and a field's write. -/
theorem registerStoreKeepsWords : Obligations.RegisterStoreKeepsWords := by
  unfold Obligations.RegisterStoreKeepsWords
  refine ⟨fun s a b w h => ⟨?_, setWord_regs_wf s a w h⟩, put_fld_same, put_fld_other⟩
  split
  · next hb => rw [hb, setWord_word_same s a w h]
  · next hb => exact setWord_word_other s a b w hb

end Sys2Proof.Machine
end

section
/-! How every command and every step ends: settled, with a canonical register store (R6, R14, R58). -/

namespace Sys2Proof.Machine

/-! ### The canonical store names no reserved bit -/

/-- No listed word holds a bit that its register does not name. -/
def namedOnly (l : List (Nat × Word)) : Prop := ∀ x ∈ l, x.2 &&& BitVec.ofNat 32 (namedBits x.1) = x.2

theorem canonAdd_namedOnly (x : Nat × Word) (l : List (Nat × Word)) (h : namedOnly l) : namedOnly (canonAdd x l) := by
  intro y hy
  unfold canonAdd at hy
  dsimp only at hy
  split at hy
  · exact h y (mem_regDel l _ y hy)
  · rcases mem_regIns l _ _ y hy with rfl | hy
    · show _ &&& _ &&& _ = _ &&& _
      rw [BitVec.and_assoc, BitVec.and_self]
    · exact h y hy

theorem canonRegs_namedOnly (l : List (Nat × Word)) : namedOnly (canonRegs l) := by
  induction l with
  | nil => exact fun _ h => absurd h (by simp [canonRegs])
  | cons x t ih => exact canonAdd_namedOnly x _ ih

theorem reservedZero_iff (s : State) : s.reservedZero ↔ namedOnly s.regs := Iff.rfl

/-! ### Settling -/

@[simp] theorem settle_pending (s u : State) : (settle s u).pending = s.pending := rfl

theorem settle_regs (s u : State) : (settle s u).regs = canonRegs (irqFollow s (State.noteStale s u)).regs := rfl

theorem settle_inv (s u : State) : (settle s u).Inv := by
  refine ⟨?_, (reservedZero_iff _).mpr ?_⟩
  · exact (canonRegs_listed _).1
  · exact canonRegs_namedOnly _

theorem noteStale_regs (s u : State) : (State.noteStale s u).regs = u.regs := by
  unfold State.noteStale
  split <;> rfl

/-- Before the store takes its one form, what follows a command's effect has kept every word outside LOG, KEY, BBN and MZL. -/
theorem irqFollow_noteStale_regFind (s u : State) (a : Nat) (ha : unfollowed a) :
    regFind (irqFollow s (State.noteStale s u)).regs a = regFind u.regs a := by
  rw [(irqFollow_follows s (State.noteStale s u)).words a ha, noteStale_regs]

/-- Settles O55: the words outside the four windows are those of the effect, and the canonical form keeps their named bits. -/
theorem settleKeepsWords : Obligations.SettleKeepsWords := by
  unfold Obligations.SettleKeepsWords
  intro s u a ha
  have hkeep := irqFollow_noteStale_regFind s u a ha
  obtain ⟨-, hlisted, hunlisted⟩ := canonRegs_listed (irqFollow s (State.noteStale s u)).regs
  rw [State.word, settle_regs]
  cases hu : regFind u.regs a with
  | none => rw [hunlisted a (hkeep.trans hu)]; rfl
  | some w => rw [hlisted a w (hkeep.trans hu)]; simp [State.word, hu]

/-! ### Commands and steps -/

/-- Every command is an effect, settled: none faults and none is refused. -/
theorem exec_settles (c : Instr) (s : State) : ∃ u : State, exec c s = .next (settle s u) := by
  cases c <;> exact ⟨_, rfl⟩

/-- Settles O58: the next state is a settled one. -/
theorem everyCommandCompletes : Obligations.EveryCommandCompletes := by
  unfold Obligations.EveryCommandCompletes
  intro c s
  obtain ⟨u, hu⟩ := exec_settles c s
  exact ⟨settle s u, hu, settle_pending s u, settle_inv s u⟩

/-- Settles O57, by the two equations of `step`. -/
theorem stepRunsFrontCommand : Obligations.StepRunsFrontCommand := by
  unfold Obligations.StepRunsFrontCommand
  constructor
  · intro c rest s hs
    unfold step
    rw [hs]
  · intro s hs
    unfold step
    rw [hs]
    rfl

/-- A step on an empty queue settles the state, or lets the clock run and keeps the register store. -/
theorem idleTick_keepsInv (s : State) (h : s.Inv) : s.idleTick.Inv ∧ s.idleTick.pending = s.pending := by
  unfold State.idleTick
  dsimp only
  split
  · exact ⟨settle_inv s _, settle_pending s _⟩
  · exact ⟨h, rfl⟩

/-- Settles O59: the command in front ends settled, and so does the tick of an empty queue where something is due. -/
theorem stepKeepsInv : Obligations.StepKeepsInv := by
  unfold Obligations.StepKeepsInv
  intro s t h hst
  unfold step at hst
  split at hst
  · next hp =>
    cases hst
    obtain ⟨hinv, hpend⟩ := idleTick_keepsInv s h
    exact ⟨hinv, by rw [hpend, hp]; rfl⟩
  · next c rest hp =>
    obtain ⟨u, hu⟩ := exec_settles c { s with pending := rest }
    cases hu.symm.trans hst
    exact ⟨settle_inv _ u, by rw [settle_pending, hp]; rfl⟩

end Sys2Proof.Machine
end

section
/-! Reads of an RAR pair: the accumulator, its snapshot, and the two bits beside them (R12). -/

namespace Sys2Proof.Machine

/-! ### Accumulators -/

theorem setAcc_regs_wf (s : State) (lo hi v : Nat) (h : regsWf s.regs) : regsWf (s.setAcc lo hi v).regs :=
  wr_regs_wf _ hi _ (wr_regs_wf s lo v h)

/-- An accumulator of two different words reads as it was set, modulo its 64 bits. -/
theorem setAcc_acc (s : State) (lo hi v : Nat) (h : regsWf s.regs) (hne : lo ≠ hi) :
    (s.setAcc lo hi v).acc lo hi = v % 2 ^ 64 := by
  unfold State.acc State.setAcc
  rw [wr_rd_same _ hi _ (wr_regs_wf s lo v h), wr_rd_other _ hi lo _ hne, wr_rd_same s lo v h]
  omega

theorem put_acc (s : State) (f : Fld) (v lo hi : Nat) (hlo : lo ≠ f.adr) (hhi : hi ≠ f.adr) :
    (s.put f v).acc lo hi = s.acc lo hi := by
  unfold State.acc
  rw [put_rd_other s f v lo hlo, put_rd_other s f v hi hhi]

/-! ### Snapshots -/

@[simp] theorem put_rarShadow (s : State) (f : Fld) (v lo : Nat) : (s.put f v).rarShadow lo = s.rarShadow lo := rfl

@[simp] theorem setAcc_rarShadow (s : State) (lo hi v a : Nat) : (s.setAcc lo hi v).rarShadow a = s.rarShadow a := rfl

theorem setRar_rarShadow (s : State) (lo v : Nat) : (s.setRar lo v).rarShadow lo = v := by
  have hold : (s.rar.filter (·.1 != lo)).find? (·.1 == lo) = none := by simp
  unfold State.rarShadow State.setRar
  rw [List.find?_append, hold]
  simp

theorem rarSnap_regs_wf (s : State) (lo hi : Nat) (h : regsWf s.regs) : regsWf (s.rarSnap lo hi).regs :=
  setAcc_regs_wf (s.setRar lo _) lo hi 0 h

/-- A snapshot holds the whole accumulator. -/
theorem rarSnap_rarShadow (s : State) (lo hi : Nat) : (s.rarSnap lo hi).rarShadow lo = s.acc lo hi :=
  setRar_rarShadow s lo _

theorem rarSnap_acc (s : State) (lo hi : Nat) (h : regsWf s.regs) (hne : lo ≠ hi) : (s.rarSnap lo hi).acc lo hi = 0 :=
  setAcc_acc (s.setRar lo _) lo hi 0 h hne

/-! ### Where a pair's words and bits lie -/

/-- PENDING and REREAD are different bits of one word, which is neither word of the accumulator. -/
structure RarPair.Apart (p : RarPair) : Prop where
  words : p.lo ≠ p.hi
  stat_lo : p.lo ≠ p.pending.adr
  stat_hi : p.hi ≠ p.pending.adr
  same : p.reread.adr = p.pending.adr
  pending_w : p.pending.w = 1
  reread_w : p.reread.w = 1
  bits : p.pending.lo < p.reread.lo
  room : p.reread.lo < 32

/-- Every RAR pair of the map is laid out so. -/
theorem rarOf_apart (a : Nat) (p : RarPair) (hi : Bool) (h : rarOf a = some (p, hi)) : p.Apart := by
  unfold rarOf at h
  split at h
  · cases h; constructor <;> decide
  · split at h
    · cases h
      constructor <;> simp [EPC_EN_LO.adr, EPC_EN_HI.adr, EPC_EN_STAT.PENDING, EPC_EN_STAT.REREAD, EPC_EN_STAT.adr]
    · split at h
      · cases h
        constructor <;>
          simp [DRV_GRP_EN_LO.adr, DRV_GRP_EN_HI.adr, DRV_GRP_EN_STAT.PENDING, DRV_GRP_EN_STAT.REREAD, DRV_GRP_EN_STAT.adr]
      · split at h
        · next hm =>
          cases h
          constructor <;> simp [MTR_FDR_ACC_LO.adr, MTR_FDR_ACC_HI.adr, accPending, accReread, MTR_FDR_ACC_STAT.adr] <;> omega
        · cases h

/-! ### The reads -/

theorem RarPair.Apart.pending_room {p : RarPair} (hp : p.Apart) : p.pending.lo + p.pending.w ≤ 32 := by
  have := hp.pending_w; have := hp.bits; have := hp.room; omega

theorem RarPair.Apart.reread_room {p : RarPair} (hp : p.Apart) : p.reread.lo + p.reread.w ≤ 32 := by
  have := hp.reread_w; have := hp.room; omega

/-- The low read that makes a new snapshot. -/
theorem rarLow_fresh (s : State) (p : RarPair) (h : s.bit p.pending = false) :
    s.rarLow p = (s.acc p.lo p.hi % 2 ^ 32, (s.rarSnap p.lo p.hi).put p.pending 1) := by
  unfold State.rarLow
  rw [h, if_neg Bool.false_ne_true]
  dsimp only
  rw [put_rarShadow, rarSnap_rarShadow]

/-- The low read that gives the pending snapshot again. -/
theorem rarLow_again (s : State) (p : RarPair) (h : s.bit p.pending = true) :
    s.rarLow p = (s.rarShadow p.lo % 2 ^ 32, s.put p.reread 1) := by
  unfold State.rarLow
  rw [h, if_pos rfl]

/-- Settles O60: a pair's two words and its two bits lie apart, so each read's updates leave the others as they were. -/
theorem rarReadsLoseNothing : Obligations.RarReadsLoseNothing := by
  unfold Obligations.RarReadsLoseNothing
  refine ⟨fun s a p hi hwf hr hpend => ?_, fun s a p hi hwf hr hpend => ?_, fun s a p hi hwf hr => ?_⟩ <;>
    have hp := rarOf_apart a p hi hr
  · have hsnap := rarSnap_regs_wf s p.lo p.hi hwf
    rw [rarLow_fresh s p hpend]
    refine ⟨rfl, rarSnap_rarShadow s _ _, ?_, ?_, ?_⟩
    · rw [put_acc _ _ _ _ _ hp.stat_lo hp.stat_hi, rarSnap_acc s _ _ hwf hp.words]
    · rw [put_bit_same _ _ 1 hsnap hp.pending_room hp.pending_w]; rfl
    · show _ + 2 ^ 32 * ((s.rarSnap p.lo p.hi).rarShadow p.lo / 2 ^ 32) = _
      rw [rarSnap_rarShadow, Nat.mod_add_div]
  · rw [rarLow_again s p hpend]
    refine ⟨rfl, rfl, ?_, ?_, ?_⟩
    · exact put_acc s _ _ _ _ (hp.same ▸ hp.stat_lo) (hp.same ▸ hp.stat_hi)
    · have hbits : p.pending.lo + p.pending.w ≤ p.reread.lo := by have := hp.pending_w; have := hp.bits; omega
      rw [put_bit_other s _ _ _ hwf hp.reread_room (.inr (.inl hbits)), hpend]
    · rw [put_bit_same s _ 1 hwf hp.reread_room hp.reread_w]; rfl
  · refine ⟨rfl, ?_, ?_⟩
    · show (s.put p.pending 0).bit p.pending = false
      rw [put_bit_same s _ 0 hwf hp.pending_room hp.pending_w]; rfl
    · exact put_acc s _ _ _ _ hp.stat_lo hp.stat_hi

end Sys2Proof.Machine
end

section
/-! Register accesses that are answered (R28): what each performs, and what a refused one records (R6, R12, R13, R58,
R60). -/

namespace Sys2Proof.Machine

/-! ### How an access is performed -/

/-- A write that reaches its word is performed there. -/
theorem write_ok (s : State) (c : Access) (v : Nat) (h : s.reaches c = true) (ha : c.aligned = true) (hw : c.wr = true) :
    s.perform c v = s.writeAt c v := by
  simp [State.perform, State.access, h, ha, hw]

/-- An unaligned read records ALIGN and returns all ones. -/
theorem read_unaligned (s : State) (c : Access) (v : Nat) (h : s.reaches c = true) (ha : c.aligned = false) (hw : c.wr = false) :
    s.perform c v = (s.accErr c .align).reply c (2 ^ (8 * 2 ^ c.sz) - 1) := by
  simp [State.perform, State.access, h, ha, hw]

/-- An unaligned write records ALIGN. -/
theorem write_unaligned (s : State) (c : Access) (v : Nat) (h : s.reaches c = true) (ha : c.aligned = false) (hw : c.wr = true) :
    s.perform c v = s.accErr c .align := by
  simp [State.perform, State.access, h, ha, hw]

/-! ### Reserved space -/

theorem aligned_of_word (c : Access) (hs : c.sz = 2) (h : c.off % 4 = 0) : c.aligned = true := by
  simp [Access.aligned, hs, h]

/-- A 64-bit access stands at a multiple of 4. -/
theorem aligned_of_pair (c : Access) (hs : c.sz = 3) (h : c.off % 4 = 0) : c.aligned = true := by
  simp [Access.aligned, hs, h]

theorem reserved_of_regAt_none (c : Access) (ha : c.off % 4 = 0) (h : regAt c.off = none) : c.reserved = true := by
  have hoff : c.off / 4 * 4 = c.off := by omega
  simp [Access.reserved, hoff, h]

theorem readAt_reserved (s : State) (c : Access) (hs : c.sz = 2) (h : regAt c.off = none) :
    s.readAt c = (0, s.accErr c .reserved) := by
  simp [State.readAt, State.read32, hs, h]

theorem writeAt_reserved (s : State) (c : Access) (v : Nat) (hs : c.sz = 2) (h : regAt c.off = none) :
    s.writeAt c v = s.accErr c .reserved := by
  simp [State.writeAt, State.write32, State.storeWord, hs, h]

/-- RESERVED_SPACE_ACCESS performs an aligned 32-bit access to a word of no register. -/
theorem reservedSpaceAccess_word (src : Src) (wr : Bool) (off v : Nat) (s : State) (ha : off % 4 = 0) (h : regAt off = none) :
    reservedSpaceAccess src wr off 2 v s = s.perform { src := src, wr := wr, sz := 2, off := off } v := by
  unfold reservedSpaceAccess
  dsimp only
  rw [aligned_of_word _ rfl ha, reserved_of_regAt_none _ ha h]
  exact if_pos rfl

/-! ### Refused accesses -/

/-- A narrow access that its register refuses: it is one of 8 or 16 bits, to a word of a register. -/
theorem narrowRefused_iff (s : State) (c : Access) : s.narrowRefused c = true ↔
    c.sz < 2 ∧ (regAt (c.off / 4 * 4)).isSome = true ∧
      (if c.wr then !byteWritable (c.off / 4 * 4) else readActs (c.off / 4 * 4) && !s.lostWord (c.off / 4 * 4)) = true := by
  simp [State.narrowRefused, and_assoc]

theorem readAt_narrowRefused (s : State) (c : Access) (hw : c.wr = false) (h : s.narrowRefused c = true) :
    s.readAt c = (2 ^ (8 * 2 ^ c.sz) - 1, s.accErr c .width) := by
  obtain ⟨hsz, hreg, hacts⟩ := (narrowRefused_iff s c).mp h
  obtain ⟨d, hd⟩ := Option.isSome_iff_exists.mp hreg
  rw [hw, if_neg Bool.false_ne_true] at hacts
  unfold State.readAt State.readNarrow
  rw [if_pos hsz]
  dsimp only
  rw [hd]
  exact if_pos hacts

theorem writeAt_narrowRefused (s : State) (c : Access) (v : Nat) (hw : c.wr = true) (h : s.narrowRefused c = true) :
    s.writeAt c v = s.accErr c .width := by
  obtain ⟨hsz, hreg, hbyte⟩ := (narrowRefused_iff s c).mp h
  obtain ⟨d, hd⟩ := Option.isSome_iff_exists.mp hreg
  rw [hw, if_pos rfl] at hbyte
  unfold State.writeAt State.writeNarrow
  rw [if_pos hsz]
  dsimp only
  rw [hd]
  exact if_pos hbyte

/-- ACCESS_ERROR performs an unaligned access, and a narrow one that its register refuses. -/
theorem accessError_performs (src : Src) (wr : Bool) (off sz v : Nat) (s : State)
    (h : Access.aligned { src := src, wr := wr, sz := sz, off := off } = false ∨
      s.narrowRefused { src := src, wr := wr, sz := sz, off := off } = true) :
    accessError src wr off sz v s = s.perform { src := src, wr := wr, sz := sz, off := off } v := by
  unfold accessError
  exact if_pos (by simpa using h)

/-! ### Read rows -/

theorem rarLowRead_low (src : Src) (a : Nat) (s : State) (h : ∃ p, rarOf a = some (p, false)) :
    rarLowRead src a s = readRow src a false s := by
  obtain ⟨p, hp⟩ := h
  unfold rarLowRead
  rw [hp]

theorem rarHighRead_high (src : Src) (a : Nat) (s : State) (h : ∃ p, rarOf a = some (p, true)) :
    rarHighRead src a s = readRow src a false s := by
  obtain ⟨p, hp⟩ := h
  unfold rarHighRead
  rw [hp]

theorem rarPairRead_low (src : Src) (a : Nat) (s : State) (h : ∃ p, rarOf a = some (p, false)) :
    rarPairRead src a s = readRow src a true s := by
  obtain ⟨p, hp⟩ := h
  unfold rarPairRead
  rw [hp]

/-- A read row of one word that is answered: the read, and its value to the requester. -/
theorem readRow_word (src : Src) (a : Nat) (s : State) (h : s.reaches { src := src, wr := false, sz := 2, off := a } = true)
    (ha : a % 4 = 0) : readRow src a false s = (s.readAt { src := src, wr := false, sz := 2, off := a }).2.reply
      { src := src, wr := false, sz := 2, off := a } (s.readAt { src := src, wr := false, sz := 2, off := a }).1 :=
  read_ok s _ 0 h (aligned_of_word _ rfl ha) rfl

/-- The same of a pair, as one 64-bit access. -/
theorem readRow_pair (src : Src) (a : Nat) (s : State) (h : s.reaches { src := src, wr := false, sz := 3, off := a } = true)
    (ha : a % 4 = 0) : readRow src a true s = (s.readAt { src := src, wr := false, sz := 3, off := a }).2.reply
      { src := src, wr := false, sz := 3, off := a } (s.readAt { src := src, wr := false, sz := 3, off := a }).1 :=
  read_ok s _ 0 h (aligned_of_pair _ rfl ha) rfl

/-- A command's outcome is known where its effect is. -/
theorem finish_of_eq (s : State) {u v : State} (h : u = v) : finish s u = .next (settle s v) := by
  rw [h]; rfl

/-- Settles O4: each row performs its access, and the rules above say what that does. -/
theorem writesAndReadsComplete : Obligations.WritesAndReadsComplete := by
  unfold Obligations.WritesAndReadsComplete
  refine ⟨?_, ?_, ?_, ?_, ?_, ?_, ?_, ?_, ?_, ?_, ?_⟩
  · intro s src off sz val h ha
    exact finish_of_eq s (write_ok s _ _ h ha rfl)
  · intro s src off val h ha hr
    refine finish_of_eq s ((reservedSpaceAccess_word src false _ _ s ha hr).trans ?_)
    rw [read_ok s _ _ h (aligned_of_word _ rfl ha) rfl, readAt_reserved s _ rfl hr]
  · intro s src off val h ha hr
    refine finish_of_eq s ((reservedSpaceAccess_word src true _ _ s ha hr).trans ?_)
    rw [write_ok s _ _ h (aligned_of_word _ rfl ha) rfl, writeAt_reserved s _ _ rfl hr]
  · intro s src off sz val h ha
    exact finish_of_eq s ((accessError_performs src false _ _ _ s (.inl ha)).trans (read_unaligned s _ _ h ha rfl))
  · intro s src off sz val h ha
    exact finish_of_eq s ((accessError_performs src true _ _ _ s (.inl ha)).trans (write_unaligned s _ _ h ha rfl))
  · intro s src off sz val h ha hn
    refine finish_of_eq s ((accessError_performs src false _ _ _ s (.inr hn)).trans ?_)
    rw [read_ok s _ _ h ha rfl, readAt_narrowRefused s _ rfl hn]
  · intro s src off sz val h ha hn
    refine finish_of_eq s ((accessError_performs src true _ _ _ s (.inr hn)).trans ?_)
    rw [write_ok s _ _ h ha rfl, writeAt_narrowRefused s _ _ rfl hn]
  · intro s src off h ha hp
    exact finish_of_eq s ((rarLowRead_low src _ s hp).trans (readRow_word src _ s h ha))
  · intro s src off h ha hp
    exact finish_of_eq s ((rarHighRead_high src _ s hp).trans (readRow_word src _ s h ha))
  · intro s src off h ha hp
    exact finish_of_eq s ((rarPairRead_low src _ s hp).trans (readRow_pair src _ s h ha))
  · intro s src off h ha hm
    exact finish_of_eq s ((if_neg hm : rcReadRow src off.toNat s = readRow src off.toNat false s).trans (readRow_word src _ s h ha))

end Sys2Proof.Machine
end

section
/-! The commands of CFG and PWR where their block carries them out (R14, R54 to R57, R64, R67, R71 to R78). -/

namespace Sys2Proof.Machine

/-! ### What a carried-out command leaves -/

/-- A command that its block carries out, from what its body answers. -/
theorem runCmd_of_body (b : Blk) (code st : Nat) (f : State → Nat × State) (s u : State) (hr : b.cmdRegs.isSome = true)
    (h : s.ready b) (hf : f (s.taken b code) = (st, u)) : runCmd b code f s = u.ended b code st := by
  rw [runCmd_ready b code f s hr h, hf]

/-- A privileged command under a session is its body on the state that the session has authorised. -/
theorem privileged_some (src : Src) (f : State → Nat × State) (s a : State) (h : s.authorise src = some a) :
    privileged src f s = f a := by
  unfold privileged
  rw [h]

/-! ### The store and digest commands -/

/-- STORE outside KINDLING, under an image and with room for its triples. -/
theorem cfgStore_pending (s : State) (i : Nat × Nat × Nat × Nat) (h : s.ready .cfg) (hk : s.pwr.mode ≠ .kindling)
    (hi : s.cfg.image = some i) (hl : (s.taken .cfg 1).triples.length ≤ 10240) :
    cfgStore s = ((fun t : State => { t with cfg := { t.cfg with
      storing := some (copyBytes ((t.cfg.lastGen + 1) % 2 ^ 32) i.1 i.2.1 t.triples), storeJoins := t.epc.joins } })
        (s.taken .cfg 1)).ended .cfg 1 stPending := by
  refine runCmd_of_body .cfg 1 stPending _ s _ rfl h ?_
  dsimp only
  rw [if_neg (show (s.taken .cfg 1).pwr.mode ≠ .kindling from hk), show (s.taken .cfg 1).cfg.image = some i from hi]
  exact if_neg (by omega)

/-- STORE_DONE where a STORE has collected its content. -/
theorem storeDone_of_storing (s : State) (b : List Byte) (h : s.up .cfg = true) (hb : s.cfg.storing = some b) :
    storeDone s = finishCmd .cfg stDone (((((
      { s with cfg := { s.cfg with areas := [.bytes b, .bytes b, .bytes b], storing := none, storeJoins := [], lastGen := leAt b 4 4 },
               epc := { s.epc with joins := s.epc.joins.filter fun x => !s.cfg.storeJoins.contains x } } : State).put
      CFG_STAT.CONFLICT 0).put CFG_STAT.STORE_STALE 0).put
      CFG_STAT.STORE_APPLIED 1).put CFG_STORE_GEN.GEN (leAt b 4 4)).pubEpoch := by
  unfold storeDone
  rw [hb]
  dsimp only
  rw [h]
  rfl

/-- Whether the 50 ms of a DIGEST_REQ have passed, from its instant. -/
theorem reqInTime_iff (s : State) (a : Nat) (h : s.cfg.reqAt = some a) : s.reqInTime = true ↔ s.clk ≤ a + 50 * msec := by
  simp [State.reqInTime, h]

theorem digestReqDone_done (s : State) (h : s.up .cfg = true) (hp : s.isPending .cfg 3 = true) (hs : s.reqStale = false)
    (ht : s.reqInTime = true) : digestReqDone s = finishCmd .cfg stDone
      ((fun t : State => { t with cfg := { t.cfg with reqAt := none } }) (s.putDigest CFG_REQ_DIGEST.WORD (s.digestOver s.reqMask))) := by
  unfold digestReqDone
  exact if_pos (by simp [h, hp, hs, ht])

theorem digestReqTimeout_timeout (s : State) (h : s.up .cfg = true) (hp : s.isPending .cfg 3 = true) (ht : s.reqInTime = false) :
    digestReqTimeout s = finishCmd .cfg stTimeout { s with cfg := { s.cfg with reqAt := none } } := by
  unfold digestReqTimeout
  exact if_pos (by simp [h, hp, ht])

theorem digestUpdate_stale (s : State) (h : s.up .cfg = true) (hs : s.cfg.stale ≠ []) : digestUpdate s = s.redigest := by
  unfold digestUpdate
  exact if_pos (by simp [h, hs])

/-- Settles O7: each command by its body, or by the condition under which it completes. -/
theorem configurationCommandsComplete : Obligations.ConfigurationCommandsComplete := by
  unfold Obligations.ConfigurationCommandsComplete
  refine ⟨?_, ?_, ?_, ?_, ?_, ?_, ?_⟩
  · intro s i h hk hi hl
    exact finish_of_eq s (cfgStore_pending s i h hk hi hl)
  · intro s b h hb
    exact finish_of_eq s (storeDone_of_storing s b h hb)
  · intro s h
    exact finish_of_eq s (runCmd_of_body .cfg 2 stPending _ s _ rfl h rfl)
  · intro s h
    exact finish_of_eq s (runCmd_of_body .cfg 3 stPending _ s _ rfl h rfl)
  · intro s a h hp hs ha ht
    exact finish_of_eq s (digestReqDone_done s h hp hs ((reqInTime_iff s a ha).mpr ht))
  · intro s a h hp ha ht
    have hlate : s.reqInTime = false := Bool.eq_false_iff.mpr fun hin => by
      have := (reqInTime_iff s a ha).mp hin
      omega
    exact finish_of_eq s (digestReqTimeout_timeout s h hp hlate)
  · intro s h hs
    exact finish_of_eq s (digestUpdate_stale s h hs)

/-! ### The mode commands -/

theorem enterServiceBody_done (a : State) (hr : a.running = true) (he : a.pwr.entry = none) :
    enterServiceBody a = (stDone, ((a.confirmPause).setMode .service).modeFollow) := by
  unfold enterServiceBody
  exact if_pos (by simp [hr, he])

/-- LEAVE_SERVICE from SERVICE under an accepted image: the mode that the island order decides, and the timers anew. -/
theorem leaveServiceBody_done (s : State) (hm : s.pwr.mode = .service) (hi : s.bit CFG_STAT.IMG_OK = true) (he : s.pwr.entry = none) :
    leaveServiceBody s = (stDone, (fun t : State =>
      ((((t.withPwr fun p => { p with soakFrom := t.clk }).idleRestart).confirmResume).verifyAgain).modeFollow)
      ((s.setMode (if s.island then .soak else .firing)).toFiring)) := by
  unfold leaveServiceBody
  exact if_neg (by simp [hm, hi, he])

theorem enterBankedBody_pending (a : State) (hc : a.canRestart = true) (hb : a.bankedRefused = false) :
    enterBankedBody a = (stPending, a.beginBanked) := by
  unfold enterBankedBody
  exact if_neg (by simp [hc, hb])

/-- ISLAND: the order, and SOAK where the module was in FIRING. -/
theorem pwrIsland_done (s : State) (h : s.ready .pwr) : pwrIsland s =
    (if s.pwr.mode = .firing then ((s.taken .pwr 3).put PWR_STAT.ISLAND 1).setMode .soak
      else (s.taken .pwr 3).put PWR_STAT.ISLAND 1).ended .pwr 3 stDone :=
  runCmd_of_body .pwr 3 stDone _ s _ rfl h rfl

/-- UNISLAND: no order, and FIRING where the module was in SOAK. -/
theorem pwrUnisland_done (s : State) (h : s.ready .pwr) : pwrUnisland s =
    (if s.pwr.mode = .soak then (((s.taken .pwr 4).put PWR_STAT.ISLAND 0).setMode .firing).toFiring
      else (s.taken .pwr 4).put PWR_STAT.ISLAND 0).ended .pwr 4 stDone :=
  runCmd_of_body .pwr 4 stDone _ s _ rfl h rfl

/-- Settles O8: each command by its body, where no condition refuses it. -/
theorem modeCommandsComplete : Obligations.ModeCommandsComplete := by
  unfold Obligations.ModeCommandsComplete
  refine ⟨?_, ?_, ?_, ?_, ?_, ?_, ?_⟩
  · intro s src a h ha hr he
    exact finish_of_eq s (runCmd_of_body .pwr 1 stDone _ s _ rfl h
      ((privileged_some src _ _ a ha).trans (enterServiceBody_done a hr he)))
  · intro s h hm hi he
    exact finish_of_eq s (runCmd_of_body .pwr 2 stDone _ s _ rfl h (leaveServiceBody_done (s.taken .pwr 2) hm hi he))
  · intro s h hm
    exact finish_of_eq s ((pwrIsland_done s h).trans (by rw [if_pos hm]))
  · intro s h hm
    exact finish_of_eq s ((pwrIsland_done s h).trans (by rw [if_neg hm]))
  · intro s h hm
    exact finish_of_eq s ((pwrUnisland_done s h).trans (by rw [if_pos hm]))
  · intro s h hm
    exact finish_of_eq s ((pwrUnisland_done s h).trans (by rw [if_neg hm]))
  · intro s src a h ha hc hb
    exact finish_of_eq s (runCmd_of_body .pwr 5 stPending _ s _ rfl h
      ((privileged_some src _ _ a ha).trans (enterBankedBody_pending a hc hb)))

end Sys2Proof.Machine
end

section
/-! What settling a command leaves alone (R30, R64, R369), and the module after an ember reset (R69, R86, Table 1.6). -/

namespace Sys2Proof.Machine

/-! ### Settling, by component -/

/-- Noting the stale digests changes the list of stale sets at most. -/
theorem noteStale_eq (s u : State) : ∃ l, State.noteStale s u = { u with cfg := { u.cfg with stale := l } } := by
  unfold State.noteStale
  split
  · exact ⟨_, rfl⟩
  · exact ⟨u.cfg.stale, rfl⟩

/-- Settles O54: noting the stale digests touches one component, what follows it is framed by `Follows`, and the canonical form
touches the store alone. -/
theorem settleKeepsComponents : Obligations.SettleKeepsComponents := by
  unfold Obligations.SettleKeepsComponents
  intro s u
  obtain ⟨l, hl⟩ := noteStale_eq s u
  have hf : Follows { u with cfg := { u.cfg with stale := l } } (irqFollow s (State.noteStale s u)) :=
    hl ▸ irqFollow_follows s (State.noteStale s u)
  have hcfg : (settle s u).cfg = { u.cfg with stale := l } := hf.cfg
  exact ⟨settle_pending s u, hf.unplanned, by rw [hcfg], hf.key, hf.shadow, hf.clk, hf.free, hf.pwr, hf.emb, hf.ntu, hf.epc,
    hf.rar, hf.nvm, hf.sch, hf.latch, hf.drv, hf.lfe, hf.trn, hf.lbus, hf.swc, hf.hmq, hf.rad, hf.hb, hf.usb, hf.mtr, hf.upd,
    hf.pair, hf.hlt⟩

/-! ### The reset state -/

/-- An empty register store is canonical. -/
theorem inv_of_regs_nil (s : State) (h : s.regs = []) : s.Inv := by
  simp [State.Inv, regsWf, State.reservedZero, h]

/-- Where nothing is listed, every word is at its reset value. -/
theorem word_of_regs_nil (s : State) (a : Nat) (h : s.regs = []) : s.word a = resetWord a := by
  rw [State.word, h]; rfl

/-- Settles O56: the reset state lists no word, so each reads at its reset value, or 0 where its table gives none (assumption 5). -/
theorem resetState : Obligations.ResetState := by
  unfold Obligations.ResetState
  exact ⟨inv_of_regs_nil _ rfl, rfl, rfl, rfl, rfl, rfl, fun a => word_of_regs_nil _ a rfl⟩

end Sys2Proof.Machine
end

section
/-! How each restart begins, by its cause (R20 to R25, R36, R79). -/

namespace Sys2Proof.Machine

/-! ### Where a restart can begin -/

theorem restartCold_starts (s : State) (h : s.canRestart = true) :
    restartCold s = (s.put SYS_RST_CAUSE.COLD_CMD 1).coldStart false := if_pos h

theorem restartWarm_starts (s : State) (h : s.canRestart = true) :
    restartWarm s = (s.put SYS_RST_CAUSE.WARM_CMD 1).warmStart true := if_pos h

theorem watchdog_starts (s : State) (h : s.canRestart = true) :
    watchdog s = (s.put SYS_RST_CAUSE.WATCHDOG 1).unplanned := if_pos h

theorem lockstepMismatch_starts (s : State) (h : s.canRestart = true) :
    lockstepMismatch s = (s.put SYS_RST_CAUSE.LOCKSTEP 1).unplanned := if_pos h

/-- What a new content of the configuration flash leaves: whether a restart can begin. -/
theorem withFlash_canRestart (s : State) (flash : Option (List Byte)) : (s.withFlash flash).canRestart = s.canRestart := by
  cases flash <;> rfl

/-- During an entry to BANKED no restart begins. -/
theorem canRestart_of_entry (s : State) (h : s.pwr.entry.isSome = true) : s.canRestart = false := by
  simp [State.canRestart, h]

theorem latchStart_of_entry (s : State) (cause : Fld) (h : s.pwr.entry.isSome = true) :
    s.latchStart cause = (s.put cause 1).withPwr fun p => { p with trigger := true } := if_pos h

theorem watchdog_latched (s : State) (h : s.pwr.entry.isSome = true) :
    watchdog s = (s.put SYS_RST_CAUSE.WATCHDOG 1).withPwr fun p => { p with trigger := true } := by
  unfold watchdog
  rw [canRestart_of_entry s h, if_neg Bool.false_ne_true, latchStart_of_entry s _ h]

/-! ### Unplanned starts (R24) -/

/-- An unplanned start with its cause recorded, where none came within the last 60 s. -/
theorem put_unplanned_warm (s : State) (cause : Fld) (h : s.escalates = false) :
    (s.put cause 1).unplanned = ((s.put cause 1).noteUnplanned).newFlash.warmStart false := by
  unfold State.unplanned
  rw [put_escalates, h]
  exact if_neg Bool.false_ne_true

/-- The same where one did: a cold start with ESCALATED. -/
theorem put_unplanned_cold (s : State) (cause : Fld) (h : s.escalates = true) :
    (s.put cause 1).unplanned = ((s.put cause 1).put SYS_RST_CAUSE.ESCALATED 1).newFlash.coldStart false := by
  unfold State.unplanned
  rw [put_escalates, h]
  exact if_pos rfl

theorem escalates_of_recent (s : State) (a : Nat) (h : s.sys.lastUnplanned = some a) (ht : s.clk ≤ a + 60 * secs) :
    s.escalates = true := by
  simp [State.escalates, h, ht]

theorem watchdog_warm (s : State) (h : s.canRestart = true) (he : s.escalates = false) :
    watchdog s = ((s.put SYS_RST_CAUSE.WATCHDOG 1).noteUnplanned).newFlash.warmStart false :=
  (watchdog_starts s h).trans (put_unplanned_warm s _ he)

theorem watchdog_cold (s : State) (h : s.canRestart = true) (he : s.escalates = true) :
    watchdog s = ((s.put SYS_RST_CAUSE.WATCHDOG 1).put SYS_RST_CAUSE.ESCALATED 1).newFlash.coldStart false :=
  (watchdog_starts s h).trans (put_unplanned_cold s _ he)

theorem lockstepMismatch_warm (s : State) (h : s.canRestart = true) (he : s.escalates = false) :
    lockstepMismatch s = ((s.put SYS_RST_CAUSE.LOCKSTEP 1).noteUnplanned).newFlash.warmStart false :=
  (lockstepMismatch_starts s h).trans (put_unplanned_warm s _ he)

theorem lockstepMismatch_cold (s : State) (h : s.canRestart = true) (he : s.escalates = true) :
    lockstepMismatch s = ((s.put SYS_RST_CAUSE.LOCKSTEP 1).put SYS_RST_CAUSE.ESCALATED 1).newFlash.coldStart false :=
  (lockstepMismatch_starts s h).trans (put_unplanned_cold s _ he)

/-! ### The clock monitor (R20) -/

/-- CLOCK_FAIL on a bad clock: PAIR_OWN is let go where it is owned, and the module starts cold unless an entry to BANKED goes on
then. -/
theorem clockFail_starts (s t : State) (hb : s.clockBad = true) (hc : s.coreOn = true)
    (ht : t = if s.own then s.letGo stInterrupted else s) (he : t.pwr.entry = none) : clockFail s =
      ((t.withPwr fun p => { p with tcxo := [], unlock := 0 }).put SYS_RST_CAUSE.CLOCK_FAIL 1).newFlash.coldStart false := by
  unfold clockFail
  rw [if_neg (by simp [hb, hc]), ← ht]
  exact if_neg (by simp [he])

/-- Settles O2: each trigger where a restart can begin, and where an entry to BANKED latches it. Which modes a trigger acts in, the
flash read anew and the monitor begun anew are the model's choices (assumptions 105, 140 and 141). -/
theorem restartsByCause : Obligations.RestartsByCause := by
  unfold Obligations.RestartsByCause
  refine ⟨?_, ?_, ?_, ?_, ?_, ?_, ?_, ?_, ?_⟩
  · intro s flash h
    exact finish_of_eq s (restartCold_starts _ ((withFlash_canRestart s flash).trans h))
  · intro s flash h
    exact finish_of_eq s (restartWarm_starts _ ((withFlash_canRestart s flash).trans h))
  · intro s h he
    exact finish_of_eq s (watchdog_warm s h he)
  · intro s h he
    exact finish_of_eq s (watchdog_cold s h he)
  · intro s h he
    exact finish_of_eq s (lockstepMismatch_warm s h he)
  · intro s h he
    exact finish_of_eq s (lockstepMismatch_cold s h he)
  · intro s hb hc he ho
    exact finish_of_eq s (clockFail_starts s s hb hc (if_neg (by simp [ho])).symm he)
  · intro s hb hc he ho
    exact finish_of_eq s (clockFail_starts s _ hb hc (if_pos ho).symm he)
  · intro s h
    exact finish_of_eq s (watchdog_latched s h)

/-- Settles O49: a last unplanned start no more than 60 s ago is what escalates. -/
theorem secondUnplannedStartIsCold : Obligations.SecondUnplannedStartIsCold := by
  unfold Obligations.SecondUnplannedStartIsCold
  constructor
  · intro s a h ha ht
    exact finish_of_eq s (watchdog_cold s h (escalates_of_recent s a ha ht))
  · intro s a h ha ht
    exact finish_of_eq s (lockstepMismatch_cold s h (escalates_of_recent s a ha ht))

end Sys2Proof.Machine
end

section
/-! Event hold-offs, heartbeats and the timers of the modes (R3, R10, R30, R70, R77, R78, R374, R375). -/

namespace Sys2Proof.Machine

/-! ### Event frames and heartbeats -/

theorem evtHoldoffEnd_open (s : State) (b : Nat) (h : s.sys.evtHold.any (fun x => x.1 == b && x.2 ≤ s.clk) = true) :
    evtHoldoffEnd b s = (fun t : State => if s.sys.evtPend.contains b && t.bit SYS_IRQ_CTL.EVT_EN && t.summary b then
        t.sendEvent b else t)
      { s with sys := { s.sys with evtHold := s.sys.evtHold.filter (·.1 != b), evtPend := s.sys.evtPend.filter (· != b) } } :=
  if_pos h

/-- A MODULE_HB on a live port: the frame is counted and heard. -/
theorem moduleHb_up (s : State) (p : Nat) (b : List Byte) (h : s.bbUp p = true) :
    moduleHb p b s = (s.bump (BBN_PORT_RX.FRAMES p)).hearHb b :=
  if_neg (by simp [h])

theorem moduleHbSend_due (s : State) (h : s.bbOn = true) (he : s.bit BBN_HB_CFG.EN = true)
    (hd : s.bb.hbAt = none ∨ ∃ t, s.bb.hbAt = some t ∧ t + clampN 100 60000 (s.fld BBN_HB_CFG.MS) * msec ≤ s.clk) :
    moduleHbSend s = (s.withBb fun b => { b with hbAt := some s.clk }).rafSend rafModuleHb s.hbBody := by
  unfold moduleHbSend
  rcases hd with hn | ⟨t, hs, ht⟩
  · exact if_pos (by simp [h, he, hn])
  · exact if_pos (by simp [h, he, hs, ht])

/-- A HOST_HB on a live port: the frame is counted, and where it is accepted it is a heartbeat here and a request to each position
that it names. -/
theorem hostHb_up (s : State) (p : Nat) (b : List Byte) (h : s.bbUp p = true) :
    hostHb p b s = (fun r : Bool × State =>
      if !r.1 || leAt b 3 1 != rafHostHb then r.2
      else (fun u : State => (u.hbTargets (leAt b 10 1)).foldl (fun (t : State) k =>
        if t.reachable k then t.sendReq k (opBytes 2 PWR_HEARTBEAT.adr 1) .heartbeat else t) u)
        (if leAt b 10 1 = 255 ∨ leAt b 10 1 = r.2.pos then r.2.heartbeat else r.2))
      ((s.bump (BBN_PORT_RX.FRAMES p)).rafAccept b) := by
  have hne : (leAt b 3 1 != rafHostHb) = decide (leAt b 3 1 ≠ rafHostHb) := by simp [bne, Bool.beq_eq_decide_eq]
  unfold hostHb
  rw [hne]
  exact if_neg (by simp [h])

theorem pwrHeartbeat_hspi (s : State) (h : s.up .pwr = true) : pwrHeartbeat .hspi s = s.heartbeat :=
  if_neg (by simp [h])

/-! ### The SOAK and idle timers -/

theorem soakTimeout_due (s : State) (hm : s.pwr.mode = .firing)
    (ht : s.pwr.soakFrom + clampN 1 3600 (s.fld PWR_SOAK_TO.SEC) * secs ≤ s.clk) : soakTimeout s = s.setMode .soak :=
  if_pos ⟨hm, ht⟩

theorem idleWarn_due (s : State) (h : s.idleDue (60 * secs) = true) (hw : s.pwr.idleWarned = false) (hl : s.anyLit = false) :
    idleWarn s = (s.raise PWR_IRQ_STAT.IDLE_WARN).withPwr fun p => { p with idleWarned := true } := by
  unfold idleWarn
  rw [if_neg (by simp [h, hw]), hl]
  exact if_neg Bool.false_ne_true

/-- The idle timer at its time: it restarts where an output is lit or BANKED is refused, and the entry begins otherwise. -/
theorem idleTimeout_due (s : State) (h : s.idleDue 0 = true) :
    idleTimeout s = if s.anyLit || s.bankedRefused then s.idleRestart else s.beginBanked :=
  if_neg (by simp [h])

/-- Settles O6: each report under the condition that makes it due; the positions of a HOST_HB are those of assumption 102. -/
theorem reportsComplete : Obligations.ReportsComplete := by
  unfold Obligations.ReportsComplete
  refine ⟨?_, ?_, ?_, ?_, ?_, ?_, ?_, ?_, ?_⟩
  · intro s b h
    exact finish_of_eq s (evtHoldoffEnd_open s b.val h)
  · intro s p b h
    exact finish_of_eq s (moduleHb_up s p.val b h)
  · intro s h he hd
    exact finish_of_eq s (moduleHbSend_due s h he hd)
  · intro s p b h
    exact finish_of_eq s (hostHb_up s p.val b h)
  · intro s h
    exact finish_of_eq s (pwrHeartbeat_hspi s h)
  · intro s hm ht
    exact finish_of_eq s (soakTimeout_due s hm ht)
  · intro s h hw hl
    exact finish_of_eq s (idleWarn_due s h hw hl)
  · intro s h hl
    exact finish_of_eq s ((idleTimeout_due s h).trans (if_pos (by simp [hl])))
  · intro s h hl hb
    exact finish_of_eq s ((idleTimeout_due s h).trans (if_neg (by simp [hl, hb])))

end Sys2Proof.Machine
end

section
/-! Temperature, supply and margin monitors (R24, R460 to R464). -/

namespace Sys2Proof.Machine

/-! ### Temperature -/

/-- What a sample with HLT up publishes, before its throttle step: T_J, its sensor, the flags, and how long it has been cool. -/
def State.sampled (s : State) (r : Int × Nat) : State :=
  (((s.putI HLT_TEMP.TJ r.1).put HLT_TEMP.HOT r.2).tempFlags r.1 r.2).noteCool r.1

/-- TEMP_SAMPLE with HLT up: at THROTTLE a step where none is timed, and below it no timing. -/
theorem tempSample_up (s : State) (readings : List Int) (v : State) (hc : s.coreOn = true) (hr : readings ≠ [])
    (hu : s.up .hlt = true) (hv : v = s.sampled (hottest 0 readings)) : tempSample readings s =
      if v.tempThrottle ≤ (hottest 0 readings).1 then (if v.hlt.throttleFrom.isNone then v.addStep else v)
      else v.withHlt fun h => { h with throttleFrom := none } := by
  subst hv
  unfold tempSample
  dsimp only
  rw [if_neg (by simp [hc, hr])]
  exact if_neg (by simp [hu])

/-- Without HLT a powered module notes how long it has been cool. -/
theorem tempSample_down (s : State) (readings : List Int) (hc : s.coreOn = true) (hr : readings ≠ []) (hu : s.up .hlt = false) :
    tempSample readings s = s.noteCool (hottest 0 readings).1 := by
  unfold tempSample
  dsimp only
  rw [if_neg (by simp [hc, hr])]
  exact if_pos (by simp [hu])

/-! ### Throttle steps -/

theorem since_of_le (s : State) (x : Option Nat) (a t : Nat) (hx : x = some a) (h : a + t ≤ s.clk) : s.since x t = true := by
  simp [State.since, hx, h]

theorem throttleStep_due (s : State) (a : Nat) (hu : s.up .hlt = true) (ha : s.hlt.throttleFrom = some a)
    (ht : a + 10 * secs ≤ s.clk) : throttleStep s = s.addStep :=
  if_pos (by simp [hu, since_of_le s _ a _ ha ht])

theorem throttleRestore_due (s : State) (a : Nat) (hu : s.up .hlt = true) (ha : s.hlt.coolFrom = some a)
    (ht : a + 60 * secs ≤ s.clk) (hn : s.fld RAD_STAT.TX_STEP ≠ 0) : throttleRestore s =
      (s.setStep (s.fld RAD_STAT.TX_STEP - 1)).withHlt fun h => { h with coolFrom := some s.clk } :=
  if_pos (by simp [hu, since_of_le s _ a _ ha ht, hn])

/-! ### The thermal trip -/

/-- THERMAL_TRIP at 140 °C where a restart can begin: logged, then a cold start as a second unplanned one, or the hold. -/
theorem thermalTrip_trips (s : State) (readings : List Int) (v : State) (hc : s.canRestart = true)
    (ht : 1400 ≤ (hottest 0 readings).1)
    (hv : v = (s.put HLT_STAT.TRIPPED 1).logEv 4 4 (tjBytes (hottest 0 readings).1 ++ leBytes 1 (hottest 0 readings).2)) :
    thermalTrip readings s = if v.escalates then (v.put SYS_RST_CAUSE.ESCALATED 1).newFlash.coldStart false
      else (((v.noteUnplanned.loseSlots).setMode .kindling).resetDomains true).withHlt fun h =>
        { h with hold := true, coolFrom := none } := by
  subst hv
  exact if_neg (by simp [hc, ht])

theorem tripRelease_due (s : State) (a : Nat) (hh : s.hlt.hold = true) (ha : s.hlt.coolFrom = some a)
    (ht : a + 10 * secs ≤ s.clk) : tripRelease s = (s.newFlash.kindle true).publishLog :=
  if_pos (by simp [hh, since_of_le s _ a _ ha ht])

/-! ### Supplies and margin -/

theorem supplyAlarm_up (s : State) (rail mv : Nat) (h : s.up .hlt = true) : supplyAlarm rail mv s = s.railState rail mv :=
  if_neg (by simp [h])

theorem avsEvaluation_up (s : State) (slowest count : Nat) (h : s.up .hlt = true) :
    avsEvaluation slowest count s = s.evalMargin slowest count :=
  if_neg (by simp [h])

/-- Settles O41: each monitor with its block up and its time come. That a trip's hold has mode KINDLING, and that a second
unplanned one starts cold at once, are the model's choices (assumptions 104 and 52). -/
theorem healthMonitorsComplete : Obligations.HealthMonitorsComplete := by
  unfold Obligations.HealthMonitorsComplete
  refine ⟨?_, ?_, ?_, ?_, ?_, ?_, ?_, ?_, ?_, ?_, ?_⟩
  · rintro s readings _ v hc hr hu rfl hv ht hn
    exact finish_of_eq s (congrArg State.pairFollow
      ((tempSample_up s readings v hc hr hu hv).trans ((if_pos ht).trans (if_pos (by simp [hn])))))
  · rintro s readings _ v hc hr hu rfl hv ht hn
    exact finish_of_eq s (congrArg State.pairFollow
      ((tempSample_up s readings v hc hr hu hv).trans ((if_pos ht).trans (if_neg (by simpa using hn)))))
  · rintro s readings _ v hc hr hu rfl hv ht
    exact finish_of_eq s (congrArg State.pairFollow
      ((tempSample_up s readings v hc hr hu hv).trans (if_neg (by omega))))
  · intro s readings hc hr hu
    exact finish_of_eq s (congrArg State.pairFollow (tempSample_down s readings hc hr hu))
  · intro s a hu ha ht
    exact finish_of_eq s (throttleStep_due s a hu ha ht)
  · intro s a hu ha ht hn
    exact finish_of_eq s (throttleRestore_due s a hu ha ht hn)
  · rintro s readings _ v rfl hc ht hv he
    exact finish_of_eq s ((thermalTrip_trips s readings v hc ht hv).trans (if_pos he))
  · rintro s readings _ v rfl hc ht hv he
    exact finish_of_eq s ((thermalTrip_trips s readings v hc ht hv).trans (if_neg (by simp [he])))
  · intro s a hh ha ht
    exact finish_of_eq s (tripRelease_due s a hh ha ht)
  · intro s rail mv h
    exact finish_of_eq s (congrArg State.pairFollow (supplyAlarm_up s rail.val mv.toNat h))
  · intro s slowest count h
    exact finish_of_eq s (congrArg State.pairFollow (avsEvaluation_up s slowest.toNat count.toNat h))

end Sys2Proof.Machine
end

section
/-! The record of refused accesses: what the first error captures, and what a later one leaves (R60). -/

namespace Sys2Proof.Machine

/-! ### Where the fields of the record lie -/

/-- A field that no error's flag and no event bit touches: outside SYS_EVT_STAT, and above the flags in SYS_ACCESS_ERR. -/
abbrev besideFlags (g : Fld) : Prop := g.adr ≠ SYS_EVT_STAT.adr ∧ (g.adr = SYS_ACCESS_ERR.adr → 5 ≤ g.lo)

theorem AccErr.fld_adr (e : AccErr) : e.fld.adr = SYS_ACCESS_ERR.adr := by cases e <;> rfl

theorem AccErr.fld_w (e : AccErr) : e.fld.w = 1 := by cases e <;> rfl

theorem AccErr.fld_lo (e : AccErr) : e.fld.lo < 5 := by cases e <;> decide

theorem AccErr.fld_room (e : AccErr) : e.fld.lo + e.fld.w ≤ 32 := by
  have := e.fld_w; have := e.fld_lo; omega

theorem source_code_lt (src : Src) : src.code < 2 ^ 4 := by cases src <;> simp [Src.code]

/-! ### What an access error does in turn -/

/-- The captured values of a first error, or OVF of a later one. -/
def State.accCapture (s : State) (c : Access) : State :=
  if s.noAccErr then
    (((s.put SYS_ACCESS_ERR.SOURCE c.src.code).put SYS_ACCESS_ERR.SIZE c.sz).putB SYS_ACCESS_ERR.DIR c.wr).put
      SYS_ACCESS_ADDR.OFFSET c.off
  else s.put SYS_ACCESS_ERR.OVF 1

/-- The event bit of a flag that rises. -/
def State.accEvent (s t : State) (e : AccErr) : State := if s.bit e.fld then t else t.raise SYS_EVT_STAT.ACCESS_ERR

theorem accErr_eq (s : State) (c : Access) (e : AccErr) :
    s.accErr c e = (s.accEvent (s.accCapture c) e).put e.fld 1 := rfl

theorem accCapture_regs_wf (s : State) (c : Access) (h : regsWf s.regs) : regsWf (s.accCapture c).regs := by
  unfold State.accCapture
  split
  · exact put_regs_wf _ _ _ (put_regs_wf _ _ _ (put_regs_wf _ _ _ (put_regs_wf s _ _ h)))
  · exact put_regs_wf s _ _ h

theorem accEvent_regs_wf (s t : State) (e : AccErr) (h : regsWf t.regs) : regsWf (s.accEvent t e).regs := by
  unfold State.accEvent
  split
  · exact h
  · exact put_regs_wf t _ _ h

theorem accEvent_fld (s t : State) (e : AccErr) (g : Fld) (h : regsWf t.regs) (hg : g.adr ≠ SYS_EVT_STAT.adr) :
    (s.accEvent t e).fld g = t.fld g := by
  unfold State.accEvent
  split
  · rfl
  · exact put_fld_other t _ g 1 h (by decide) (.inl hg)

/-- The flag of the error is set. -/
theorem accErr_flag (s : State) (c : Access) (e : AccErr) (h : regsWf s.regs) : (s.accErr c e).bit e.fld = true := by
  rw [accErr_eq, put_bit_same _ _ 1 (accEvent_regs_wf s _ e (accCapture_regs_wf s c h)) e.fld_room e.fld_w]
  rfl

/-- Every field beside the flags is what the capture leaves in it. -/
theorem accErr_fld (s : State) (c : Access) (e : AccErr) (g : Fld) (h : regsWf s.regs) (hg : besideFlags g) :
    (s.accErr c e).fld g = (s.accCapture c).fld g := by
  obtain ⟨hevt, hlo⟩ := hg
  have hwf := accCapture_regs_wf s c h
  have hapart : g.adr ≠ e.fld.adr ∨ g.lo + g.w ≤ e.fld.lo ∨ e.fld.lo + e.fld.w ≤ g.lo := by
    rw [e.fld_adr, e.fld_w]
    by_cases ha : g.adr = SYS_ACCESS_ERR.adr
    · have := hlo ha; have := e.fld_lo; omega
    · exact .inl ha
  rw [accErr_eq, put_fld_other _ _ g 1 (accEvent_regs_wf s _ e hwf) e.fld_room hapart, accEvent_fld s _ e g hwf hevt]

/-! ### The first error and a later one -/

/-- The first error captures the access: each value fits its field, and the fields lie apart. -/
theorem accCapture_first (s : State) (c : Access) (h : regsWf s.regs) (hsz : c.sz < 4) (hoff : c.off < 2 ^ 26)
    (hn : s.noAccErr = true) : (s.accCapture c).fld SYS_ACCESS_ERR.SIZE = c.sz ∧
      (s.accCapture c).fld SYS_ACCESS_ERR.DIR = (if c.wr then 1 else 0) ∧
      (s.accCapture c).fld SYS_ACCESS_ERR.SOURCE = c.src.code ∧ (s.accCapture c).fld SYS_ACCESS_ADDR.OFFSET = c.off := by
  have h1 := put_regs_wf s SYS_ACCESS_ERR.SOURCE c.src.code h
  have h2 := put_regs_wf _ SYS_ACCESS_ERR.SIZE c.sz h1
  have h3 := put_regs_wf _ SYS_ACCESS_ERR.DIR (if c.wr then 1 else 0) h2
  unfold State.accCapture State.putB
  rw [if_pos hn]
  refine ⟨?_, ?_, ?_, ?_⟩
  · rw [put_fld_other _ _ _ _ h3 (by decide) (by decide), put_fld_other _ _ _ _ h2 (by decide) (by decide),
      put_fld_same _ _ _ h1 (by decide)]
    exact Nat.mod_eq_of_lt hsz
  · rw [put_fld_other _ _ _ _ h3 (by decide) (by decide), put_fld_same _ _ _ h2 (by decide)]
    cases c.wr <;> rfl
  · rw [put_fld_other _ _ _ _ h3 (by decide) (by decide), put_fld_other _ _ _ _ h2 (by decide) (by decide),
      put_fld_other _ _ _ _ h1 (by decide) (by decide), put_fld_same _ _ _ h (by decide)]
    exact Nat.mod_eq_of_lt (source_code_lt c.src)
  · rw [put_fld_same _ _ _ h3 (by decide)]
    exact Nat.mod_eq_of_lt hoff

/-- A later error changes no field of the record but OVF. -/
theorem accCapture_later (s : State) (c : Access) (hn : s.noAccErr = false) :
    s.accCapture c = s.put SYS_ACCESS_ERR.OVF 1 := by
  unfold State.accCapture
  rw [hn]
  exact if_neg Bool.false_ne_true

/-- Settles O53: the flag is written last, the event bit lies in another word, and so the captured fields are what the capture
leaves. -/
theorem accessErrorsAreCaptured : Obligations.AccessErrorsAreCaptured := by
  unfold Obligations.AccessErrorsAreCaptured
  constructor
  · rintro s c e ⟨hwf, -⟩ hsz hoff hn
    obtain ⟨hsize, hdir, hsource, haddr⟩ := accCapture_first s c hwf hsz hoff hn
    refine ⟨accErr_flag s c e hwf, ?_, ?_, ?_, ?_⟩
    · rw [accErr_fld s c e _ hwf (by decide), hsize]
    · rw [State.bit, accErr_fld s c e _ hwf (by decide), hdir]
      cases c.wr <;> rfl
    · rw [accErr_fld s c e _ hwf (by decide), hsource]
    · rw [accErr_fld s c e _ hwf (by decide), haddr]
  · rintro s c e ⟨hwf, -⟩ hn
    have hkeep (g : Fld) (hg : besideFlags g) (ha : g.adr ≠ SYS_ACCESS_ERR.OVF.adr ∨
        g.lo + g.w ≤ SYS_ACCESS_ERR.OVF.lo ∨ SYS_ACCESS_ERR.OVF.lo + SYS_ACCESS_ERR.OVF.w ≤ g.lo) :
        (s.accErr c e).fld g = s.fld g := by
      rw [accErr_fld s c e g hwf hg, accCapture_later s c hn, put_fld_other s _ g 1 hwf (by decide) ha]
    refine ⟨accErr_flag s c e hwf, ?_, hkeep _ (by decide) (by decide), hkeep _ (by decide) (by decide),
      hkeep _ (by decide) (by decide), hkeep _ (by decide) (by decide)⟩
    rw [State.bit, accErr_fld s c e _ hwf (by decide), accCapture_later s c hn,
      put_fld_same s _ 1 hwf (by decide)]
    rfl

end Sys2Proof.Machine
end


section
/-! The read rows whose word latches others: each is answered while its block is up (R28, R66, R87). -/

namespace Sys2Proof.Machine

/-! ### What answers a read -/

/-- An aligned word and the one after it are registers of a block, in its own domain. -/
structure WordsOf (b : Blk) (a : Nat) : Prop where
  aligned : a % 4 = 0
  inMap : a + 4 < 2 ^ 26
  dom : wordDom a = none
  domNext : wordDom (a + 4) = none
  blk : blkOf a = some b
  blkNext : blkOf (a + 4) = some b

theorem answers_of_blk (s : State) (b : Blk) (a : Nat) (hd : wordDom a = none) (hb : blkOf a = some b) :
    s.answers a = s.up b := by
  unfold State.answers
  rw [hd, hb]

/-- A read of one word of a block that is up, or of that word and the next, is answered unless EMB is still blind to it. -/
theorem reaches_of_words (s : State) (b : Blk) (c : Access) (hw : WordsOf b c.off) (hu : s.up b = true)
    (he : s.embBlind c = false) : s.reaches c = true := by
  have hnext : (c.off + 4) % 2 ^ 26 = c.off + 4 := Nat.mod_eq_of_lt hw.inMap
  unfold State.reaches
  rw [hnext, answers_of_blk s b _ hw.dom hw.blk, answers_of_blk s b _ hw.domNext hw.blkNext, hu, he]
  simp

/-- A read row of a word whose block is up, as one access of 32 bits or of 64: the read, and its value to the requester. -/
theorem readRow_up (s : State) (src : Src) (b : Blk) (a : Nat) (wide : Bool) (hw : WordsOf b a) (hu : s.up b = true)
    (he : s.embBlind { src := src, wr := false, sz := if wide then 3 else 2, off := a } = false) :
    readRow src a wide s = (s.readAt { src := src, wr := false, sz := if wide then 3 else 2, off := a }).2.reply
      { src := src, wr := false, sz := if wide then 3 else 2, off := a }
      (s.readAt { src := src, wr := false, sz := if wide then 3 else 2, off := a }).1 := by
  have hr := reaches_of_words s b { src := src, wr := false, sz := if wide then 3 else 2, off := a } hw hu he
  cases wide
  · exact readRow_word src a s hr hw.aligned
  · exact readRow_pair src a s hr hw.aligned

/-! ### The 61 µs after VAUX returns -/

theorem embBlind_elsewhere (s : State) (c : Access) (h : c.off < 0x30000 ∨ 0x40000 ≤ c.off) : s.embBlind c = false := by
  unfold State.embBlind
  rcases h with h | h
  · rw [decide_eq_false (show ¬ 0x30000 ≤ c.off by omega)]; simp
  · rw [decide_eq_false (show ¬ c.off < 0x40000 by omega)]; simp

theorem embBlind_over (s : State) (c : Access) (h : (c.src == .hspi) = false ∨ s.pwr.vauxAt + 61 * usec ≤ s.clk) :
    s.embBlind c = false := by
  unfold State.embBlind
  rcases h with h | h
  · simp [h]
  · rw [decide_eq_false (show ¬ s.clk < s.pwr.vauxAt + 61 * usec by omega)]; simp

/-- A read row of another block than EMB asks only that its block is up. -/
theorem readRow_elsewhere (s : State) (src : Src) (b : Blk) (a : Nat) (wide : Bool) (hw : WordsOf b a) (hu : s.up b = true)
    (ha : a < 0x30000 ∨ 0x40000 ≤ a) :
    readRow src a wide s = (s.readAt { src := src, wr := false, sz := if wide then 3 else 2, off := a }).2.reply
      { src := src, wr := false, sz := if wide then 3 else 2, off := a }
      (s.readAt { src := src, wr := false, sz := if wide then 3 else 2, off := a }).1 :=
  readRow_up s src b a wide hw hu (embBlind_elsewhere s _ ha)

/-! ### The words of slots and result blocks -/

/-- Offsets with the same block ends past them lie in the same block. -/
theorem blkOf_congr (a b : Nat) (h : ∀ x ∈ blkEnds, a < x.1 ↔ b < x.1) : blkOf a = blkOf b := by
  unfold blkOf
  rw [← List.head?_filter, ← List.head?_filter, List.filter_congr fun x hx => decide_eq_decide.mpr (h x hx)]

theorem blkOf_trn (a : Nat) (hlo : 0x380000 ≤ a) (hhi : a < 0x400000) : blkOf a = some .trn :=
  blkOf_congr a 0x380000 (by simp [blkEnds]; omega)

theorem blkOf_mtr (a : Nat) (hlo : 0x480000 ≤ a) (hhi : a < 0x500000) : blkOf a = some .mtr :=
  blkOf_congr a 0x480000 (by simp [blkEnds]; omega)

/-- The words of another domain than their block's lie in NTU, PAIR and LBUS. -/
theorem wordDom_own (a : Nat) (hlo : 0xA0000 ≤ a) (h : a < 0x440000 ∨ 0x480000 ≤ a) : wordDom a = none := by
  unfold wordDom
  rw [if_neg (by omega), if_neg (by omega), if_neg]
  simp [PAIR_MIRROR.adr, PAIR_MIRROR_LAG.adr]
  omega

theorem wordsOf_trn (a : Nat) (h4 : a % 4 = 0) (hlo : 0x380000 ≤ a) (hhi : a + 4 < 0x400000) : WordsOf .trn a :=
  ⟨h4, by omega, wordDom_own a (by omega) (by omega), wordDom_own _ (by omega) (by omega), blkOf_trn a hlo (by omega),
    blkOf_trn _ (by omega) hhi⟩

theorem wordsOf_mtr (a : Nat) (h4 : a % 4 = 0) (hlo : 0x480000 ≤ a) (hhi : a + 4 < 0x500000) : WordsOf .mtr a :=
  ⟨h4, by omega, wordDom_own a (by omega) (by omega), wordDom_own _ (by omega) (by omega), blkOf_mtr a hlo (by omega),
    blkOf_mtr _ (by omega) hhi⟩

theorem trnTimeWord_place (slot : Option (Fin 64)) : trnTimeWord (slot.map Fin.val) % 4 = 0 ∧
    0x380000 ≤ trnTimeWord (slot.map Fin.val) ∧ trnTimeWord (slot.map Fin.val) + 4 < 0x400000 := by
  cases slot with
  | none => decide
  | some n => simp [trnTimeWord, TRN_SLOT_T_SEC_LO.adr]; omega

theorem mtrBlockWord_place (blk : Fin 16) :
    mtrBlockWord blk.val % 4 = 0 ∧ 0x480000 ≤ mtrBlockWord blk.val ∧ mtrBlockWord blk.val + 4 < 0x500000 := by
  unfold mtrBlockWord
  split <;> simp [MTR_SET_RES0.adr, MTR_FDR_RES0.adr] <;> omega

/-- Settles O5: each row reads a word of the block that is up, and only EMB's may still be blind to HSPI. -/
theorem latchReadsComplete : Obligations.LatchReadsComplete := by
  unfold Obligations.LatchReadsComplete
  refine ⟨?_, ?_, ?_, ?_, ?_, ?_, ?_, ?_, ?_, ?_⟩
  · intro s src h
    exact finish_of_eq s (readRow_elsewhere s src .cfg _ false (by constructor <;> decide) h (by decide))
  · intro s src wide h hb
    exact finish_of_eq s (readRow_up s src .emb _ wide (by constructor <;> decide) h (embBlind_over s _ hb))
  · intro s src wide h
    exact finish_of_eq s (readRow_elsewhere s src .sch _ wide (by constructor <;> decide) h (by decide))
  · intro s src wide h
    exact finish_of_eq s (readRow_elsewhere s src .sch _ wide (by constructor <;> decide) h (by decide))
  · intro s src wide h
    exact finish_of_eq s (readRow_elsewhere s src .lfe _ wide (by constructor <;> decide) h (by decide))
  · intro s src wide h
    exact finish_of_eq s (readRow_elsewhere s src .ntu _ wide (by constructor <;> decide) h (by decide))
  · intro s src wide h
    exact finish_of_eq s (readRow_elsewhere s src .ntu _ wide (by constructor <;> decide) h (by decide))
  · intro s src h
    exact finish_of_eq s (readRow_elsewhere s src .epc _ false (by constructor <;> decide) h (by decide))
  · intro s src slot wide h
    obtain ⟨h4, hlo, hhi⟩ := trnTimeWord_place slot
    exact finish_of_eq s (readRow_elsewhere s src .trn _ wide (wordsOf_trn _ h4 hlo hhi) h (.inr (by omega)))
  · intro s src blk h
    obtain ⟨h4, hlo, hhi⟩ := mtrBlockWord_place blk
    exact finish_of_eq s (readRow_elsewhere s src .mtr _ false (wordsOf_mtr _ h4 hlo hhi) h (.inr (by omega)))

end Sys2Proof.Machine
end

section
/-! The ends of the commands and events that take time (R57, R292, R437, R463, R467, R473). -/

namespace Sys2Proof.Machine

/-! ### Commands that were PENDING -/

theorem clearStoreDone_pending (s : State) (h : s.up .cfg = true) (hp : s.isPending .cfg 2 = true) :
    clearStoreDone s = finishCmd .cfg stDone { s with cfg := { s.cfg with areas := [.blank, .blank, .blank] } } :=
  if_pos (by simp [h, hp])

theorem logClearDone_clearing (s : State) (hc : s.log.clearing.isSome = true) (h : s.up .log = true) :
    logClearDone s = if s.finishClear.isPending .log 1 then finishCmd .log stDone s.finishClear else s.finishClear :=
  if_pos (by simp [hc, h])

/-- The other bank after its verification: BISQUE where it is sound, failed where it is not. -/
def State.otherVerified (s : State) (r : Nat × State) : State :=
  if r.1 = 0 then (r.2.withUpd fun u => { u with confirming := false }).setFwBank (1 - s.upd.running) bankBisque 0
  else (r.2.withUpd fun u => { u with confirming := false }).bankFails (1 - s.upd.running) failDigest 1

theorem confirmDone_confirming (s : State) (t : State) (h : s.up .upd = true) (hc : s.upd.confirming = true)
    (ht : t = s.otherVerified (s.verifyBank (1 - s.upd.running))) :
    confirmDone s = if t.isPending .upd 5 then finishCmd .upd stDone t else t := by
  subst ht
  exact if_neg (by simp [h, hc])

/-! ### A spare transceiver takes over -/

/-- A channel whose swap is over: its timed frames resume, and RAD_STAT names the channel that the spare serves. -/
def State.swapOver (s : State) (ch : Nat) : State :=
  (((s.updChan ch fun c => { c with swap := false }).resumeTimed ch).put RAD_STAT.SPARE_USED 1).put RAD_STAT.SPARE_FOR ch

theorem channelResumes_swapped (ch : Nat) (s : State) (h : s.up .rad = true) (hs : (s.chan ch).swap = true) :
    channelResumes ch s = timedFrameLaunch ch (((s.swapOver ch).raise RAD_IRQ_STAT.SPARE_IN).pubChan ch) :=
  if_neg (by simp [h, hs])

theorem channelBack_idle (ch : Nat) (s : State)
    (hn : s.hlt.busy.find? (fun x => x.1 == 3 && x.2.1 == ch) = none) : channelBack ch s = channelResumes ch s := by
  unfold channelBack
  dsimp only
  rw [hn]

/-- Where the health engine is substituting the channel, the substitution ends with it. -/
theorem channelBack_busy (ch : Nat) (s : State) (n : Nat × Nat × Nat) (h : s.up .rad = true)
    (hn : s.hlt.busy.find? (fun x => x.1 == 3 && x.2.1 == ch) = some n) :
    channelBack ch s = ((channelResumes ch s).spareIn 3 ch n.2.2).serveUnits 3 0 9 := by
  unfold channelBack
  dsimp only
  rw [hn]
  exact if_pos h

/-! ### The radio supply is back -/

theorem vrfRecovered_held (s : State) (h : s.up .hlt = true) (hv : s.hlt.vrfHold = true) :
    vrfRecovered s = (List.range 8).foldl (fun v ch => timedFrameLaunch ch (v.resumeTimed ch))
      (s.withHlt fun h => { h with vrfHold := false }) :=
  if_neg (by simp [h, hv])

/-- Settles O37: each end under the condition that its command or event still waits for it. The areas that CLEAR_STORE_DONE leaves
blank are those of the settings store. -/
theorem longCommandsEnd : Obligations.LongCommandsEnd := by
  unfold Obligations.LongCommandsEnd
  refine ⟨?_, ?_, ?_, ?_, ?_, ?_⟩
  · intro s h hp
    exact finish_of_eq s (clearStoreDone_pending s h hp)
  · rintro s _ hc h rfl
    exact finish_of_eq s (logClearDone_clearing s hc h)
  · rintro s _ _ t h hc rfl rfl ht
    exact finish_of_eq s (confirmDone_confirming s t h hc ht)
  · rintro s ch _ _ h hs rfl rfl hn
    exact finish_of_eq s ((channelBack_idle ch.val s hn).trans (channelResumes_swapped ch.val s h hs))
  · rintro s ch _ _ n h hs rfl rfl hn
    refine finish_of_eq s ((channelBack_busy ch.val s n h hn).trans ?_)
    rw [channelResumes_swapped ch.val s h hs]
    rfl
  · intro s h hv
    exact finish_of_eq s (vrfRecovered_held s h hv)

end Sys2Proof.Machine
end

section
/-! What the supplies and an ember reset do, and what writes the context snapshot (R26, R69, R76, R80, R83, R86, R471). -/

namespace Sys2Proof.Machine

/-! ### Supplies -/

/-- What a new content of the configuration flash leaves: the PWR fields. -/
theorem withFlash_pwr (s : State) (flash : Option (List Byte)) : (s.withFlash flash).pwr = s.pwr := by
  cases flash <;> rfl

/-- POWER_UP in EMBER: the supplies are noted, the causes recorded, and the module starts cold. -/
theorem powerUp_ember (s : State) (h : s.pwr.mode = .ember) : powerUp s =
    (((((s.withPwr fun p => { p with vaux := true, vsys := true, vauxAt := s.clk }).put SYS_RST_CAUSE.COLD_POWER 1).putB
      SYS_RST_CAUSE.EMBER_POR s.emb.por).withEmb fun e => { e with por := false }).coldStart true).offlineEvents :=
  if_neg (by simp [h])

theorem vauxLoss_supplied (s : State) (h : s.pwr.vaux = true) : vauxLoss s =
    (((storeCut (s.noteLoss.noteCounts)).haltEngines false).loseAlwaysOn).withPwr fun p =>
      { State.reset.pwr with mode := .ember, snapOld := p.snapOld, vsys := p.vsys } :=
  if_neg (by simp [h])

theorem vsysLoss_supplied (s : State) (h : s.pwr.vaux = true) : vsysLoss s =
    (((s.noteLoss.loseAct).clampCore).reachBanked).withPwr fun p => { p with vsys := false, trigger := false } :=
  if_neg (by simp [h])

/-- VSYS_RETURN in BANKED without VSYS: the wake is recorded with the sources latched before it, and the module starts cold. -/
theorem vsysReturn_banked (s : State) (hm : s.pwr.mode = .banked) (hv : s.pwr.vsys = false) : vsysReturn s =
    ((((s.withPwr fun p => { p with vsys := true, latched := 0, wokeAt := some s.clk }).put PWR_WAKE_SRC.SRC
      (256 ||| s.pwr.latched)).put SYS_RST_CAUSE.BANKED_WAKE 1).put SYS_RST_CAUSE.COLD_POWER 1).newFlash.coldStart true :=
  if_neg (by simp [hm, hv])

/-- An ember reset comes while VAUX is absent: the EMB words and the RTC at their reset values, and the reset noted. -/
theorem emberReset_unsupplied (s : State) (h : s.pwr.vaux = false) : emberReset s =
    (s.resetRange 0x30000 0x40000).withEmb fun _ =>
      { rtc := 0, secAt := s.clk, queue := [], periodAt := none, por := true, doorAtLoss := 0, tampAtLoss := 0 } :=
  if_neg (by simp [h])

/-- Settles O1: each supply event where it acts. Model choices within it are where a start finds the configuration flash's content
(assumption 140), the mirror writes dropped with VAUX (121), and the causes that VSYS_RETURN records (103). -/
theorem startsFromSupply : Obligations.StartsFromSupply := by
  unfold Obligations.StartsFromSupply
  refine ⟨?_, ?_, ?_, ?_, ?_⟩
  · intro s flash h
    exact finish_of_eq s (powerUp_ember _ ((congrArg PwrState.mode (withFlash_pwr s flash)).trans h))
  · intro s h
    exact finish_of_eq s (vauxLoss_supplied s h)
  · intro s h
    exact finish_of_eq s (vsysLoss_supplied s h)
  · intro s hm hv
    exact finish_of_eq s (vsysReturn_banked s hm hv)
  · intro s h
    exact finish_of_eq s (emberReset_unsupplied s h)

/-! ### The context snapshot -/

theorem pfail_up (s : State) (he : s.up .epc = true) (hl : s.up .log = true) :
    pfail s = (s.snapshot.flushLog).withPwr fun p => { p with pfail := true } :=
  if_pos (by simp [he, hl])

theorem snapshotPeriodic_running (s : State) (hr : s.running = true) (he : s.up .epc = true) :
    snapshotPeriodic s = s.snapshot.withPwr fun p => { p with pfail := false } :=
  if_pos (by simp [hr, he])

theorem snapshotDone_pending (s : State) (hs : s.epc.snapping = true) (hp : s.isPending .epc 7 = true) :
    snapshotDone s = finishCmd .epc stDone { s with epc := { s.epc with snapping := false } } :=
  (if_pos hs).trans (if_pos hp)

/-- Settles O3: PFAIL and the period where their blocks are up, SNAPSHOT by its body, and its end while it is PENDING.
That a periodic snapshot ends the effect of PFAIL_N is assumption 106. -/
theorem snapshotsComplete : Obligations.SnapshotsComplete := by
  unfold Obligations.SnapshotsComplete
  refine ⟨?_, ?_, ?_, ?_⟩
  · intro s he hl
    exact finish_of_eq s (pfail_up s he hl)
  · intro s hr he
    exact finish_of_eq s (snapshotPeriodic_running s hr he)
  · intro s h
    exact finish_of_eq s (runCmd_of_body .epc 7 stPending _ s _ rfl h rfl)
  · intro s hs hp
    exact finish_of_eq s (snapshotDone_pending s hs hp)

end Sys2Proof.Machine
end

section
/-! The PWR commands that are refused: those without a session, and unlisted codes (R73). -/

namespace Sys2Proof.Machine

/-- A privileged command without a session is refused, and changes nothing. -/
theorem privileged_none (src : Src) (f : State → Nat × State) (s : State) (h : s.authorise src = none) :
    privileged src f s = (stRefusedAuth, s) := by
  unfold privileged
  rw [h]

/-- A code that Table 3.2 does not list. -/
theorem pwrCmd_unlisted (src : Src) (code : Nat) (s : State) (h : code ∉ [1, 2, 3, 4, 5]) :
    pwrCmd src code s = runCmd .pwr code (fun s => (stRefusedArg, s)) s := by
  unfold pwrCmd
  split
  case h_6 => rfl
  all_goals exact absurd (by decide) h

/-- Settles O50: the two privileged commands end at their session, and every code but 1 to 5 ends at its argument. -/
theorem modeCommandsRefused : Obligations.ModeCommandsRefused := by
  unfold Obligations.ModeCommandsRefused
  refine ⟨?_, ?_, ?_⟩
  · intro src s h ha
    exact finish_of_eq s (runCmd_of_body .pwr 1 stRefusedAuth _ s _ rfl h (privileged_none src _ _ ha))
  · intro src s h ha
    exact finish_of_eq s (runCmd_of_body .pwr 5 stRefusedAuth _ s _ rfl h (privileged_none src _ _ ha))
  · intro src code s h hc
    exact (pwrCmd_unlisted src code s hc).trans (runCmd_of_body .pwr code stRefusedArg _ s _ rfl h rfl)

end Sys2Proof.Machine
end

section
/-! Wakes from BANKED, WSP, the listening of RC0, and the requests on AVSBus (R79 to R82, R84, R115). -/

namespace Sys2Proof.Machine

/-! ### Wakes -/

/-- An enabled source in BANKED with VSYS present wakes. -/
theorem wake_banked (s : State) (b : Nat) (hm : s.pwr.mode = .banked) (hv : s.pwr.vsys = true) (he : s.pwr.entry = none)
    (hb : b &&& (s.fld PWR_WAKE_EN.EN ||| 2 ^ 8) = b) (h0 : b ≠ 0) : s.wake b = s.wakeStart b := by
  unfold State.wake
  dsimp only
  rw [hb, if_neg h0, if_neg (by simp [he]), if_neg (by simp [hm]), if_neg (by simp [hm]), if_neg (by simp [hv])]

/-- During an entry to BANKED it is latched. -/
theorem wake_latched (s : State) (b : Nat) (he : s.pwr.entry.isSome = true)
    (hb : b &&& (s.fld PWR_WAKE_EN.EN ||| 2 ^ 8) = b) (h0 : b ≠ 0) :
    s.wake b = s.withPwr fun p => { p with latched := p.latched ||| b } := by
  unfold State.wake
  dsimp only
  rw [hb, if_neg h0, if_pos he]

/-- WAKE_WSP in BANKED at the module's address: acknowledged, and recognised. -/
theorem wakeWsp_banked (s : State) (adr : Nat) (hm : s.pwr.mode = .banked) (ha : adr = s.fld PWR_WSP_ADDR.ADDR)
    (hv : s.pwr.vaux = true) : wakeWsp adr s = (s.emit .wsp []).wake 1 :=
  (if_neg (by simp [ha, hv])).trans (if_pos hm)

theorem wakeFio_selected (s : State) (n : Nat) (rising : Bool) (hs : bitOf (s.fld PWR_WAKE_FIO.SEL) n = true)
    (he : bitOf (s.fld PWR_WAKE_FIO.EDGE) n = rising) : wakeFio n rising s = s.wake 16 :=
  if_pos (by simp [hs, he])

theorem wakeTep_heard (s : State) (seg code : Nat) (h : s.rc0Hears = true) (hs : seg = s.fld SYS_ID_SEG.SEG)
    (hc : code = s.fld PWR_RC0_CODE.CODE) : wakeTep seg code s = s.wake 32 :=
  if_pos (by simp [h, hs, hc])

/-! ### WSP reads and the listening of RC0 -/

theorem wspRead_answered (s : State) (adr : Nat) (he : s.pwr.mode ≠ .ember) (hb : s.pwr.mode ≠ .banked)
    (ha : adr = s.fld PWR_WSP_ADDR.ADDR) : wspRead adr s = s.emit .wsp (leBytes 1 (s.rd PWR_STAT.adr)) :=
  if_neg (by simp [he, hb, ha])

theorem rc0Listen_due (s : State) (h : s.rc0On = true)
    (hd : s.pwr.rc0At = none ∨ ∃ t, s.pwr.rc0At = some t ∧ t + s.rc0Time ≤ s.clk) :
    rc0Listen s = s.withPwr fun p => { p with rc0At := some s.clk } := by
  unfold rc0Listen
  rcases hd with hn | ⟨t, hs, ht⟩
  · exact if_pos (by simp [h, hn])
  · exact if_pos (by simp [h, hs, ht])

/-! ### AVSBus -/

/-- The voltage of an acknowledged request is recorded, and nothing is outstanding. -/
def State.avsRecord (s : State) (r : AvsReq) : State :=
  ((s.put PWR_AVS_STAT.MV r.req).put PWR_AVS_STAT.FAIL 0).withPwr fun p => { p with avsReq := none, avsAcked := true }

/-- AVS_ACK of a request on the bus: recorded, and the next step follows where the target is not reached. -/
theorem avsAck_onBus (s : State) (r : AvsReq) (h : s.pwr.avsReq = some r) (hw : r.waits = none) : avsAck s =
    if s.pwr.avsTarget = r.req then s.avsRecord r
    else (s.avsRecord r).avsSend { req := avsStep r.req s.pwr.avsTarget, tries := 1, waits := none } := by
  unfold avsAck
  rw [h]
  exact if_neg (by simp [hw])

/-- AVS_ATTEMPT_TIMEOUT of a request on the bus: another attempt where fewer than three were made. -/
theorem avsAttemptTimeout_repeats (s : State) (r : AvsReq) (h : s.pwr.avsReq = some r) (hw : r.waits = none)
    (ht : r.tries < 3) : avsAttemptTimeout s = s.avsSend { r with tries := r.tries + 1 } := by
  unfold avsAttemptTimeout
  rw [h]
  exact (if_neg (by simp [hw])).trans (if_pos ht)

/-- After the third the acknowledged voltage is kept as the target, and the failure reported. -/
theorem avsAttemptTimeout_fails (s : State) (r : AvsReq) (h : s.pwr.avsReq = some r) (hw : r.waits = none)
    (ht : 3 ≤ r.tries) (ha : s.pwr.avsAcked = true) : avsAttemptTimeout s =
      ((((s.withPwr fun p => { p with avsReq := none, avsTarget := s.fld PWR_AVS_STAT.MV }).put PWR_AVS_STAT.MV
        (s.fld PWR_AVS_STAT.MV)).put PWR_AVS_STAT.FAIL 1).raise PWR_IRQ_STAT.AVS_FAIL).logEv 2 1
        (leBytes 2 s.pwr.avsTarget ++ leBytes 2 (s.fld PWR_AVS_STAT.MV)) := by
  unfold avsAttemptTimeout
  rw [h, ha]
  exact (if_neg (by simp [hw])).trans (if_neg (by omega))

/-- Settles O9: each source is recognised by its own condition, and what a recognised source does is said once (`wake_banked`,
`wake_latched`). Which latched sources PWR_WAKE_SRC records with it is assumption 103. -/
theorem wakesComplete : Obligations.WakesComplete := by
  unfold Obligations.WakesComplete
  refine ⟨?_, ?_, ?_, ?_, ?_, ?_, ?_, ?_, ?_, ?_, ?_, ?_⟩
  · intro s adr hm hv he hen ha hx
    exact finish_of_eq s ((wakeWsp_banked s adr.toNat hm ha hx).trans
      (wake_banked (s.emit .wsp []) 1 hm hv he hen (by decide)))
  · intro s n rising hm hv he hen hs hr
    exact finish_of_eq s ((wakeFio_selected s n.val rising hs hr).trans (wake_banked s 16 hm hv he hen (by decide)))
  · intro s hm hv he hen
    exact finish_of_eq s (wake_banked s 64 hm hv he hen (by decide))
  · intro s hm hv he hen
    exact finish_of_eq s (wake_banked s 128 hm hv he hen (by decide))
  · intro s he hen
    exact finish_of_eq s (wake_latched s 64 he hen (by decide))
  · intro s seg code hm hv he hen hh hs hc
    exact finish_of_eq s ((wakeTep_heard s seg.toNat code.toNat hh hs hc).trans
      (wake_banked s 32 hm hv he hen (by decide)))
  · intro s adr he hb ha
    exact finish_of_eq s (wspRead_answered s adr.toNat he hb ha)
  · intro s h hd
    exact finish_of_eq s (rc0Listen_due s h hd)
  · intro s r h hw ht
    exact finish_of_eq s ((avsAck_onBus s r h hw).trans (if_pos ht))
  · intro s r h hw ht
    exact finish_of_eq s ((avsAck_onBus s r h hw).trans (if_neg ht))
  · intro s r h hw ht
    exact finish_of_eq s (avsAttemptTimeout_repeats s r h hw ht)
  · intro s r h hw ht ha
    exact finish_of_eq s (avsAttemptTimeout_fails s r h hw ht ha)

end Sys2Proof.Machine
end

section
/-! The ember domain: mirror writes, the RTC's events, door and tamper, and VBAT (R87, R88, R90 to R95). -/

namespace Sys2Proof.Machine

/-! ### Mirror writes -/

/-- A host's write of a mirrored word, but for EMB_ALARM[1]: lost where four writes wait, and queued otherwise. -/
theorem embMirrorWrite_host (s : State) (w : EmbWrite) (hu : s.up .emb = true) (hm : isMirror w.adr = true)
    (ha : isAlarm1 w.adr = false) : embMirrorWrite w s =
      if 4 ≤ s.emb.queue.length then s.put EMB_STAT.WLOST 1
      else (s.withEmb fun e => { e with queue := e.queue ++ [w] }).put EMB_STAT.WBUSY 1 :=
  if_neg (by simp [hu, hm, ha])

/-- PWR_ON_WRITE is such a write, of LEVEL 0 and the SET_ON bits. -/
theorem pwrOnWrite_mirror (s : State) (on : Nat) (hu : s.up .emb = true) : pwrOnWrite on s =
    if 4 ≤ s.emb.queue.length then s.put EMB_STAT.WLOST 1
    else (s.withEmb fun e => { e with queue := e.queue ++
      [{ adr := EMB_PWRON_CTL.adr, val := BitVec.ofNat 32 (on % 8 * 2), pair := none, own := false }] }).put EMB_STAT.WBUSY 1 :=
  embMirrorWrite_host s _ hu (show isMirror EMB_PWRON_CTL.adr = true by decide)
    (show isAlarm1 EMB_PWRON_CTL.adr = false by decide)

/-- The oldest write leaves the queue. -/
def State.embTake (s : State) (l : List EmbWrite) : State :=
  (s.withEmb fun e => { e with queue := l }).putB EMB_STAT.WBUSY (!l.isEmpty)

/-- EMB_WRITE_LAND takes the oldest write: a bad value sets BADVAL, and another lands. -/
theorem landWrite_oldest (s : State) (w : EmbWrite) (l : List EmbWrite) (hu : s.up .emb = true) (hq : s.emb.queue = w :: l) :
    s.landWrite = if w.bad then ([], (s.embTake l).put EMB_STAT.BADVAL 1) else (s.embTake l).embLand w := by
  unfold State.landWrite
  rw [hq]
  exact if_neg (by simp [hu])

/-! ### Periodic wake and VBAT -/

theorem periodicWake_due (s : State) (h : s.periodDue = true) : periodicWake s = s.periodFire.wake 8 := if_pos h

/-- VBAT below 2.0 V, not low so far. -/
theorem vbatMeasure_falls (s : State) (mv : Nat) (hd : s.domUp .alwaysOn = true) (hv : mv < 2000)
    (hl : s.bit EMB_STAT.VBAT_LOW = false) : vbatMeasure mv s = (s.put EMB_STAT.VBAT_LOW 1).raise EMB_IRQ_STAT.VBAT_LOW :=
  (if_neg (by simp [hd])).trans ((if_pos hv).trans (if_neg (by simp [hl])))

/-- VBAT at 2.1 V or above. -/
theorem vbatMeasure_good (s : State) (mv : Nat) (hd : s.domUp .alwaysOn = true) (hv : 2100 ≤ mv) :
    vbatMeasure mv s = s.put EMB_STAT.VBAT_LOW 0 :=
  (if_neg (by simp [hd])).trans ((if_neg (by omega)).trans (if_pos hv))

/-- Settles O10: the queue's two ends, CAPTURE by its body, the events that are always recorded by their definitions, and VBAT on
either side of its hysteresis. -/
theorem emberCommandsComplete : Obligations.EmberCommandsComplete := by
  unfold Obligations.EmberCommandsComplete
  refine ⟨?_, ?_, ?_, ?_, ?_, ?_, ?_, ?_, ?_, ?_, ?_, ?_⟩
  · intro s off val pair hu hm ha hq
    exact finish_of_eq s ((embMirrorWrite_host s _ hu hm ha).trans (if_neg (by omega)))
  · intro s off val pair hu hm ha hq
    exact finish_of_eq s ((embMirrorWrite_host s _ hu hm ha).trans (if_pos hq))
  · intro s w l hu hq hb
    exact finish_of_eq s (congrArg State.alarmWake ((landWrite_oldest s w l hu hq).trans (if_neg (by simp [hb]))))
  · intro s w l hu hq hb
    exact finish_of_eq s (congrArg State.alarmWake ((landWrite_oldest s w l hu hq).trans (if_pos hb)))
  · intro s h
    exact finish_of_eq s (runCmd_of_body .emb 1 stDone _ s _ rfl h rfl)
  · intro s
    rfl
  · intro s h
    exact finish_of_eq s (periodicWake_due s h)
  · intro s
    rfl
  · intro s
    rfl
  · intro s on hu hq
    exact finish_of_eq s ((pwrOnWrite_mirror s on.toNat hu).trans (if_neg (by omega)))
  · intro s mv hd hv hl
    exact finish_of_eq s (vbatMeasure_falls s mv.toNat hd hv hl)
  · intro s mv hd hv
    exact finish_of_eq s (vbatMeasure_good s mv.toNat hd hv)

end Sys2Proof.Machine
end

section
/-! The endpoint commands of EPC where they are carried out (R100, R101, R104, R105, R109, R110, R125). -/

namespace Sys2Proof.Machine

/-! ### A command on the context that EPC_CMD_ARG0 names -/

/-- An EPC command that is carried out, from what its body answers for the context named. -/
theorem epcCmd_of_body (code st : Nat) (f : Nat → State → Nat × State) (s u : State) (h : s.ready .epc)
    (hf : f ((s.taken .epc code).fld EPC_CMD_ARG0.EPA) (s.taken .epc code) = (st, u)) :
    epcCmd code f s = u.ended .epc code st :=
  runCmd_of_body .epc code st _ s u rfl h hf

/-- A command that can bring gear into service commissions it afterwards. -/
theorem epcCommission_of_body (code st : Nat) (f : Nat → State → Nat × State) (s u : State) (h : s.ready .epc)
    (hf : f ((s.taken .epc code).fld EPC_CMD_ARG0.EPA) (s.taken .epc code) = (st, u)) :
    epcCommission code f s = (u.ended .epc code st).commissionNew :=
  congrArg State.commissionNew (epcCmd_of_body code st f s u h hf)

/-! ### The bodies, where nothing refuses them -/

theorem activateBody_done (s : State) (e : Nat) (he : s.epState e = stEmpty)
    (hc : classOk (s.fld (EPC_STATE.CLASS e)) (s.reach e) (s.fld (EPC_REACH.PORT e)) (s.fld (EPC_REACH.ADDR e)) = true)
    (hd : s.duplicate e (s.euiOf e) = false) (hr : s.reachRefused e = false) :
    activateBody e s = (stDone, (fun v : State => v.setEpState e (if v.isRadio e then stReserved else stActive))
      (s.setRun { s.run e with heardAt := s.clk })) :=
  (if_neg (not_not_intro he)).trans (if_neg (by simp [hc, hd, hr]))

theorem suspendBody_done (s : State) (e : Nat) (he : s.epState e = stReserved ∨ s.epState e = stActive) :
    suspendBody e s = (stDone, s.setEpState e stSuspended) := if_pos he

theorem resumeBody_done (s : State) (e : Nat) (he : s.epState e = stSuspended) :
    resumeBody e s = (stDone, s.setEpState e (if s.bit (EPC_SEC.JOINED e) || !s.isRadio e then stActive else stReserved)) :=
  if_neg (not_not_intro he)

/-- The context with the EUI-64 of EPC_CMD_ARG1 and EPC_CMD_ARG2, and its reports cleared (R109). -/
def State.renamed (s : State) (e : Nat) : State :=
  ((s.put (EPC_EUI_LO.EUI_LO e) (s.fld EPC_CMD_ARG1.EUI_LO + 2 ^ 32 * s.fld EPC_CMD_ARG2.EUI_HI)).put (EPC_EUI_HI.EUI_HI e)
    ((s.fld EPC_CMD_ARG1.EUI_LO + 2 ^ 32 * s.fld EPC_CMD_ARG2.EUI_HI) / 2 ^ 32)).clearReports e

/-- A replaced endpoint has no energy baseline and no mismatches, and counts as heard (R109). -/
def State.runAnew (s : State) (e : Nat) : State :=
  s.setRun { s.run e with baseline := true, mismatches := 0, energyAt := none, energyNt := none, heardAt := s.clk }

/-- REPLACE of a wired endpoint in service: no EUI-64 is compared, and the context is ACTIVE at once. -/
theorem replaceBody_wired (s : State) (e : Nat) (hl : s.epLive e = true) (hw : s.isRadio e = false)
    (hw' : ((s.renamed e).runAnew e).isRadio e = false) :
    replaceBody e s = (stDone, (((s.renamed e).runAnew e).setEpState e stActive).joinRecord e) := by
  have hbody : replaceBody e s = (stDone, (if ((s.renamed e).runAnew e).isRadio e
      then ((s.renamed e).runAnew e).replaceRadio e else ((s.renamed e).runAnew e).setEpState e stActive).joinRecord e) :=
    (if_neg (by simp [hl])).trans (if_neg (by simp [hw]))
  rw [hbody, if_neg (by simp [hw'])]

theorem removeBody_done (s : State) (e : Nat) (hl : s.epLive e = true) :
    removeBody e s = (stDone, ((((s.sendLeave e).saveEnergy e).clearCtx e).dropLinkKey e).joinRecord e) :=
  if_neg (by simp [hl])

theorem clearFaultBody_done (s : State) (e : Nat) (hl : s.epLive e = true) :
    clearFaultBody e s = (stDone, s.put (EPC_FAULT_ACT.ACTIVE e) 0) := if_neg (by simp [hl])

/-- Settles O11: each command by its body on the context named. -/
theorem endpointCommandsComplete : Obligations.EndpointCommandsComplete := by
  unfold Obligations.EndpointCommandsComplete
  refine ⟨?_, ?_, ?_, ?_, ?_, ?_⟩
  · rintro s _ _ h rfl rfl he hc hd hr
    exact finish_of_eq s (epcCommission_of_body 1 stDone activateBody s _ h (activateBody_done _ _ he hc hd hr))
  · rintro s _ _ h rfl rfl he
    exact finish_of_eq s (epcCmd_of_body 2 stDone suspendBody s _ h (suspendBody_done _ _ he))
  · rintro s _ _ h rfl rfl he
    exact finish_of_eq s (epcCommission_of_body 3 stDone resumeBody s _ h (resumeBody_done _ _ he))
  · rintro s _ _ _ _ h rfl rfl hl hw rfl rfl hw'
    exact finish_of_eq s (epcCommission_of_body 4 stDone replaceBody s _ h (replaceBody_wired _ _ hl hw hw'))
  · rintro s _ _ h rfl rfl hl
    exact finish_of_eq s (epcCmd_of_body 5 stDone removeBody s _ h (removeBody_done _ _ hl))
  · rintro s _ _ h rfl rfl hl
    exact finish_of_eq s (epcCmd_of_body 6 stDone clearFaultBody s _ h (clearFaultBody_done _ _ hl))

end Sys2Proof.Machine
end

section
/-! Joining: the answers to JOIN_REQ, the lapse of a join, and the repeat of a rekey (R106 to R108, R414). -/

namespace Sys2Proof.Machine

/-! ### JOIN_REQ -/

theorem joinReq_shortSource (ch eui cls : Nat) (nonce : List Byte) (s : State) (hu : s.up .epc = true) :
    joinReq ch false eui cls nonce s = s.bump EPC_RX_DROP.UNKNOWN_SRC :=
  (if_neg (by simp [hu])).trans (if_pos rfl)

/-- JOIN_REQ from the EUI-64 of a context in service: case 1 of R106 where it is RESERVED, case 2 otherwise. -/
theorem joinReq_held (ch eui cls n : Nat) (nonce : List Byte) (s : State) (hu : s.up .epc = true) (hn : s.holder eui = some n) :
    joinReq ch true eui cls nonce s =
      (s.beginJoin n (if s.epState n = stReserved then 1 else 2) (s.epState n) nonce).idleRestart := by
  unfold joinReq
  rw [if_neg (by simp [hu]), if_neg (by decide), hn]

/-- JOIN_REQ from an EUI-64 that no context holds: case 3 of R106 for a radio class while joining is open. -/
theorem joinReq_unknown (ch eui cls : Nat) (nonce : List Byte) (s : State) (hu : s.up .epc = true) (hn : s.holder eui = none) :
    joinReq ch true eui cls nonce s =
      if s.bit EPC_JOIN_CTL.OPEN && radioClass cls then s.openJoin ch eui cls nonce else s.bump EPC_RX_DROP.UNKNOWN_SRC := by
  unfold joinReq
  rw [if_neg (by simp [hu]), if_neg (by decide), hn]

/-! ### What falls due -/

/-- A lapsed join of a context that had a state before it: generation, state and link key are those of before, and fault 0x85
stands (R107). -/
def State.joinUndone (s : State) (e : Nat) (j : JoinPend) : State :=
  (fun t : State => (if t.bit (EPC_SEC.JOINED e) then t.deriveLink e else t.dropLinkKey e).raiseFault e 0x85 0)
    ((((s.setRun { s.run e with join := none, rekeyAt := if j.kind = 4 then some (s.clk + 60 * secs) else none }).put
      (EPC_RPT_FLAGS.JOIN_PENDING e) 0).put (EPC_SEC.KEY_GEN e) j.oldGen).setEpState e j.oldState)

theorem joinLapse_due (e : Nat) (s : State) (j : JoinPend) (hj : (s.run e).join = some j) (hd : j.deadline ≤ s.clk)
    (hu : s.up .epc = true) (hs : s.standby = false) :
    joinLapse e s = if j.kind = 3 then (s.clearCtx e).dropLinkKey e else s.joinUndone e j := by
  have hnot : ¬ (decide (s.clk < j.deadline) || !s.up .epc || s.standby) = true := by simp [hd, hu, hs]
  unfold joinLapse
  dsimp only
  rw [hj]
  exact if_neg hnot

theorem joinOpenExpiry_due (s : State) (hu : s.up .epc = true) (ho : s.bit EPC_JOIN_CTL.OPEN = true)
    (ht : s.epc.openAt + clampN 1 1440 (s.fld EPC_JOIN_CTL.OPEN_MIN) * 60 * secs ≤ s.clk) :
    joinOpenExpiry s = s.put EPC_JOIN_CTL.OPEN 0 := if_pos (by simp [hu, ho, ht])

theorem rekeyRetry_due (e : Nat) (s : State) (a : Nat) (ha : (s.run e).rekeyAt = some a) (ht : a ≤ s.clk)
    (hu : s.up .epc = true) (hm : s.mayCommand = true) :
    rekeyRetry e s = (s.setRun { s.run e with rekeyAt := none }).rekey e := by
  unfold rekeyRetry
  rw [ha]
  exact if_pos (by simp [ht, hu, hm])

/-- Settles O12: a request by the source that it names, and each timer where it is due. -/
theorem joiningCompletes : Obligations.JoiningCompletes := by
  unfold Obligations.JoiningCompletes
  refine ⟨?_, ?_, ?_, ?_, ?_, ?_, ?_, ?_⟩
  · intro s ch eui cls nonce hu
    exact finish_of_eq s (joinReq_shortSource ch.val eui.toNat cls.toNat nonce s hu)
  · intro s ch eui cls nonce n hu hn
    exact finish_of_eq s (joinReq_held ch.val eui.toNat cls.toNat n nonce s hu hn)
  · intro s ch eui cls nonce hu hn ho hc
    exact finish_of_eq s ((joinReq_unknown ch.val eui.toNat cls.toNat nonce s hu hn).trans (if_pos (by simp [ho, hc])))
  · intro s ch eui cls nonce hu hn ho
    exact finish_of_eq s ((joinReq_unknown ch.val eui.toNat cls.toNat nonce s hu hn).trans (if_neg (by simp [ho])))
  · intro s e j hj hd hu hs hk
    exact finish_of_eq s ((joinLapse_due e.val s j hj hd hu hs).trans (if_pos hk))
  · intro s e j hj hd hu hs hk
    exact finish_of_eq s ((joinLapse_due e.val s j hj hd hu hs).trans (if_neg hk))
  · intro s hu ho ht
    exact finish_of_eq s (joinOpenExpiry_due s hu ho ht)
  · intro s e a ha ht hu hm
    exact finish_of_eq s (rekeyRetry_due e.val s a ha ht hu hm)

end Sys2Proof.Machine
end

section
/-! Group membership and reporting intervals: their writes, their repeats and CFG_ACK (R111, R119, R497). -/

namespace Sys2Proof.Machine

/-! ### The writes -/

/-- A membership word of an available context is stored, and a change of it is told to a radio endpoint in service. -/
theorem epcGrpWrite_available (e w : Nat) (val : Word) (s : State) (hu : s.up .epc = true) (he : s.epState e ≠ stUnavailable) :
    epcGrpWrite e w val.toNat s = (fun t : State =>
      if s.fld (EPC_GRP.MEMBER e w) ≠ val.toNat ∧ (t.epLive e && t.isRadio e) = true then t.sendGroups e else t)
      (s.put (EPC_GRP.MEMBER e w) val.toNat) := by
  have hword : val.toNat % 2 ^ 32 = val.toNat := Nat.mod_eq_of_lt val.isLt
  unfold epcGrpWrite
  rw [if_neg (by simp [hu, he])]
  simp only [hword, Bool.and_eq_true, Bool.not_eq_true', beq_eq_false_iff_ne, and_assoc]

/-- A write of the reporting intervals is stored, and each interval that it changes is told to a joined radio endpoint. -/
theorem reportCfgWrite_available (e v : Nat) (s : State) (hu : s.up .epc = true) (he : s.epState e ≠ stUnavailable) :
    reportCfgWrite e v s = (fun t : State =>
      if !(t.epLive e && t.isRadio e && t.bit (EPC_SEC.JOINED e)) then t
      else (fun v : State => if v.fld (EPC_REPORT_CFG.ENERGY_S e) = s.fld (EPC_REPORT_CFG.ENERGY_S e) then v else v.sendConfig e 2)
        (if t.fld (EPC_REPORT_CFG.STATUS_S e) = s.fld (EPC_REPORT_CFG.STATUS_S e) then t else t.sendConfig e 1))
      (s.wr (EPC_REPORT_CFG.adr e) v) :=
  if_neg (by simp [hu, he])

/-! ### The repeats, 30 s after the last -/

theorem groupsRepeat_due (e : Nat) (s : State) (a : AckWait) (ha : (s.run e).grp = some a) (hu : s.up .swc = true)
    (hm : s.mayCommand = true) (hp : s.bit (EPC_RPT_FLAGS.GRP_PENDING e) = true) (ht : a.at_ + 30 * secs ≤ s.clk) :
    groupsRepeat e s = s.sendGroups e := by
  have hdue : s.repeatDue (s.run e).grp = true := by simp [State.repeatDue, ha, ht]
  exact if_pos (by simp [hu, hm, hp, hdue])

theorem configRepeat_due (e param : Nat) (s : State) (a : AckWait)
    (ha : (if param = 1 then (s.run e).cfg1 else (s.run e).cfg2) = some a) (hu : s.up .swc = true) (hm : s.mayCommand = true)
    (ht : a.at_ + 30 * secs ≤ s.clk) : configRepeat e param s = s.sendConfig e param := by
  unfold configRepeat
  dsimp only
  rw [ha]
  exact if_pos (by simp [hu, hm, ht])

theorem resyncRepeat_due (e : Nat) (s : State) (a : AckWait) (ha : (s.run e).resync = some a) (hu : s.up .swc = true)
    (hm : s.mayCommand = true) (hp : s.bit (EPC_RPT_FLAGS.RESYNC e) = true) (ht : a.at_ + 30 * secs ≤ s.clk) :
    resyncRepeat e s = s.sendResync e := by
  unfold resyncRepeat
  rw [ha]
  exact if_pos (by simp [hu, hm, hp, ht])

theorem cfgAck_ingested (e typ tsn : Nat) (l : LinkInfo) (s : State) (h : s.ingests e = true) :
    cfgAck e typ tsn l s = (s.linkUpdate e l).acked e typ tsn := if_pos h

/-- Settles O13: the two writes by what they store, and each repeat where it is due. -/
theorem endpointConfigurationCompletes : Obligations.EndpointConfigurationCompletes := by
  unfold Obligations.EndpointConfigurationCompletes
  refine ⟨?_, ?_, ?_, ?_, ?_, ?_, ?_, ?_⟩
  · rintro s e w val _ hu he rfl hr
    exact finish_of_eq s ((epcGrpWrite_available e.val w.val val s hu he).trans (if_neg (by simp [hr])))
  · rintro s e w val _ hu he hne rfl hr
    exact finish_of_eq s ((epcGrpWrite_available e.val w.val val s hu he).trans (if_pos ⟨hne, hr⟩))
  · intro s e a ha hu hm hp ht
    exact finish_of_eq s (groupsRepeat_due e.val s a ha hu hm hp ht)
  · intro s e typ tsn l h
    exact finish_of_eq s (cfgAck_ingested e.val typ.toNat tsn.toNat l s h)
  · rintro s e val _ hu he rfl hr
    exact finish_of_eq s ((reportCfgWrite_available e.val val.toNat s hu he).trans (if_pos (by simp [hr])))
  · rintro s e val _ hu he rfl hr
    exact finish_of_eq s ((reportCfgWrite_available e.val val.toNat s hu he).trans (if_neg (by simp [hr])))
  · intro s e param a ha hu hm ht
    exact finish_of_eq s (configRepeat_due e.val param.toNat s a ha hu hm ht)
  · intro s e a ha hu hm hp ht
    exact finish_of_eq s (resyncRepeat_due e.val s a ha hu hm hp ht)

end Sys2Proof.Machine
end

section
/-! Accepted frames of endpoints in service, the silence check and context ECC errors (R121 to R126, R129). -/

namespace Sys2Proof.Machine

/-! ### Frames of an endpoint whose context ingests them -/

theorem statusFrame_ingested (e : Nat) (m : StatusMsg) (l : LinkInfo) (s : State) (h : s.ingests e = true) :
    statusFrame e m l s = (fun t : State => if t.up .trn && t.epState e == stActive && t.isRadio e then
      (List.range 64).foldl (fun t n => t.catchUpSlot e m.level n) t else t) (epcStatus e m l s) :=
  if_neg (by simp [h])

theorem epcEnergy_ingested (e epoch cum power : Nat) (l : LinkInfo) (s : State) (h : s.ingests e = true) :
    epcEnergy e epoch cum power l s = (s.linkUpdate e l).addEnergy e epoch cum power := if_pos h

/-- FAULT raises its fault where RAISED is 1 and clears it where it is 0; the link is recorded for any value. -/
theorem epcFault_ingested (e code raised detail : Nat) (l : LinkInfo) (s : State) (h : s.ingests e = true) :
    epcFault e code raised detail l s =
      if raised = 1 then (s.linkUpdate e l).faultUp e code detail
      else if raised = 0 then (s.linkUpdate e l).clearFault e code else s.linkUpdate e l :=
  if_neg (by simp [h])

theorem epcDetect_ingested (e cls heading speed conf count age tEnd : Nat) (l : LinkInfo) (s : State) (h : s.ingests e = true)
    (hl : (s.linkUpdate e l).up .lfe = true) : epcDetect e cls heading speed conf count age tEnd l s =
      (s.linkUpdate e l).takeRecord ⟨e, cls, heading, speed, conf, count, age, tEnd, false⟩ :=
  (if_neg (by simp [h])).trans (if_pos hl)

theorem epcInfo_ingested (e fw model hours : Nat) (l : LinkInfo) (s : State) (h : s.ingests e = true) :
    epcInfo e fw model hours l s = ((((s.linkUpdate e l).put (EPC_INFO_FW.FW e) fw).put (EPC_INFO_HOURS.HOURS e) hours).put
      (EPC_INFO_MODEL.MODEL e 0) model).put (EPC_INFO_MODEL.MODEL e 1) (model / 2 ^ 32) :=
  if_neg (by simp [h])

theorem silentCheck_judges (s : State) (hu : s.up .epc = true) (hs : s.standby = false) :
    silentCheck s = (s.epas fun _ => true).foldl State.silentEp s := if_pos (by simp [hu, hs])

/-! ### ECC errors of context words -/

/-- An error of a word of the context memory, as the offset's alignment and range tell it, is judged. -/
theorem contextEccError_judged (a : Nat) (uncorr : Bool) (bad : Nat) (s : State) (hu : s.up .epc = true) (hlo : 0x100000 ≤ a)
    (hhi : a < 0x300000) (hal : a % 4 = 0) : contextEccError a uncorr bad s = s.eccError a uncorr bad :=
  if_neg (by simp [hu, hal, Nat.not_lt.mpr hlo, Nat.not_le.mpr hhi])

/-- The correctable errors of the last 24 h, with one now in the bank of offset a (R129). -/
def State.noteEccError (s : State) (a : Nat) : State :=
  s.withHlt fun h => { h with ecc := (h.ecc.filter fun x => s.clk < x.2 + 86400 * secs) ++ [((a - 0x100000) / 0x200 / 256, s.clk)] }

/-- A correctable error that is not its bank's eighth within 24 h is only counted. -/
theorem eccError_counted (s : State) (a bad : Nat)
    (hc : (s.noteEccError a).hlt.ecc.countP (·.1 == (a - 0x100000) / 0x200 / 256) < 8) :
    s.eccError a false bad = s.noteEccError a :=
  if_neg (Nat.not_le.mpr hc)

/-- Settles O14: each frame as a context in service takes it, and the two checks where they judge. -/
theorem endpointReportsComplete : Obligations.EndpointReportsComplete := by
  unfold Obligations.EndpointReportsComplete
  refine ⟨?_, ?_, ?_, ?_, ?_, ?_, ?_, ?_⟩
  · intro s e m l h
    exact finish_of_eq s (statusFrame_ingested e.val m l s h)
  · intro s e epoch cum power l h
    exact finish_of_eq s (epcEnergy_ingested e.val epoch.toNat cum.toNat power.toNat l s h)
  · intro s e code raised detail l h hr
    exact finish_of_eq s ((epcFault_ingested e.val code.toNat raised.toNat detail.toNat l s h).trans (if_pos (by simp [hr])))
  · intro s e code raised detail l h hr
    exact finish_of_eq s ((epcFault_ingested e.val code.toNat raised.toNat detail.toNat l s h).trans
      ((if_neg (by simp [hr])).trans (if_pos (by simp [hr]))))
  · intro s e cls heading speed conf count age tEnd l h hl
    exact finish_of_eq s (epcDetect_ingested e.val cls.toNat heading.toNat speed.toNat conf.toNat count.toNat age.toNat tEnd l s h hl)
  · intro s e fw model hours l h
    exact finish_of_eq s (epcInfo_ingested e.val fw.toNat model.toNat hours.toNat l s h)
  · intro s hu hs
    exact finish_of_eq s (silentCheck_judges s hu hs)
  · rintro s off bad _ hu hlo hhi hal rfl hc
    exact finish_of_eq s (congrArg State.pairFollow
      ((contextEccError_judged off.toNat false bad s hu hlo hhi hal).trans (eccError_counted s off.toNat bad hc)))

end Sys2Proof.Machine
end

section
/-! The tests that declare a unit to the stockpile (R129, R176, R292, R315, R466 to R468). -/

namespace Sys2Proof.Machine

theorem bufferBankTest_failing (b failing bad : Nat) (s : State) (hu : s.up .swc = true) (hf : 2 ≤ failing) :
    bufferBankTest b failing bad s = s.declareUnit 0 b false bad := if_pos (by simp [hu, hf])

/-- Every failing lane is declared in turn; the first of them meets the bad spares. -/
theorem laneCheck_up (failing : List Nat) (bad : Nat) (s : State) (hu : s.up .lfe = true) : laneCheck failing bad s =
    (failing.zip (bad :: failing.map fun _ => 0)).foldl (fun (t : State) x => t.declareUnit 2 x.1 false x.2) s := if_pos hu

theorem radioLoopback_worn (ch bad : Nat) (s : State) (hu : s.up .rad = true) (ht : (s.chan ch).tx = none) :
    radioLoopback ch true bad s = s.declareUnit 3 ch false bad := if_pos (by simp [hu, ht])

theorem nvmSectorRetire_up (sector bad : Nat) (s : State) (hu : s.up .hlt = true) :
    nvmSectorRetire sector bad s = s.declareUnit 5 sector false bad := if_pos hu

/-- Settles O42: each test by the unit that it declares. `State.eccError` gives the uncorrectable error by region. -/
theorem stockpileComplete : Obligations.StockpileComplete := by
  unfold Obligations.StockpileComplete
  refine ⟨?_, ?_, ?_, ?_, ?_⟩
  · intro s b failing bad hu hf
    exact finish_of_eq s (congrArg State.pairFollow (bufferBankTest_failing b.val failing bad s hu hf))
  · intro s failing bad hu
    exact finish_of_eq s (congrArg State.pairFollow (laneCheck_up (failing.map Fin.val) bad s hu))
  · intro s ch bad hu ht
    exact finish_of_eq s (congrArg State.pairFollow (radioLoopback_worn ch.val bad s hu ht))
  · intro s sector bad hu
    exact finish_of_eq s (congrArg State.pairFollow (nvmSectorRetire_up sector.val bad s hu))
  · intro s off bad hu hlo hhi hal
    exact finish_of_eq s (congrArg State.pairFollow (contextEccError_judged off.toNat true bad s hu hlo hhi hal))

end Sys2Proof.Machine
end

section
/-! The schedule second, the solar times and the light field engine (R135, R136, R143, R144, R150, R151, R160, R165, R181,
R182). -/

namespace Sys2Proof.Machine

/-! ### The schedule second and the solar times -/

/-- A new NT second is noted; without HOLD the schedules are evaluated, as the standby allows, and a late one is flagged. -/
theorem scheduleSecond_newSecond (late : Bool) (s : State) (hu : s.up .sch = true) (hm : s.pwr.mode ≠ .kindling)
    (hn : s.sch.lastSec ≠ some s.ntSec) : scheduleSecond late s =
      (fun n : State => if n.bit SCH_CTL.HOLD then n
        else (fun t : State => if late then (t.put SCH_STAT.LATE 1).raise SCH_IRQ_STAT.LATE else t) (n.quiet State.evaluate))
        { s with sch := { s.sch with lastSec := some s.ntSec } } :=
  if_neg (by simp [hu, hm, hn])

theorem holdExpiry_due (s : State) (a : Nat) (ha : s.sch.holdAt = some a) (hu : s.up .sch = true) (hh : s.bit SCH_CTL.HOLD = true)
    (ht : a + 10 * secs ≤ s.clk) : holdExpiry s = ((({ s with sch := { s.sch with holdAt := none } } : State).put SCH_CTL.HOLD
      0).put SCH_STAT.HOLD_EXPIRED 1).raise SCH_IRQ_STAT.HOLD_EXPIRED := by
  unfold holdExpiry
  rw [ha]
  exact if_pos (by simp [hu, hh, ht])

theorem solarNow_done (s : State) (h : s.ready .sch) (hc : (s.taken .sch 1).cf SCH_SOLAR_CTL.HOST ≠ 1)
    (hv : (s.taken .sch 1).localValid = true) : solarNow s = ((fun t : State => { t with sch := { t.sch with solarBusy := true } })
      (s.taken .sch 1)).ended .sch 1 stDone :=
  runCmd_of_body .sch 1 stDone _ s _ rfl h (if_neg (by simp [hc, hv]))

theorem solarPublish_published (d : Nat) (evs : List (Option Nat)) (s : State) (hu : s.up .sch = true)
    (hc : s.cf SCH_SOLAR_CTL.HOST ≠ 1) : solarPublish d evs s =
      (fun t : State => if (List.range 21).all fun k => t.bit (SCH_SOLAR.VALID (k / 7) (k % 7)) then
        { t with sch := { t.sch with solarBusy := false } } else t)
      ((List.range 7).foldl (fun t e => t.publishEvent d e ((evs[e]?).getD none)) s) :=
  if_neg (by simp [hu, hc])

/-! ### The tick -/

/-- With the engine running, the present boundary is ticked where it has not been; where it has, only an open tick goes on. -/
theorem lfeTick_running (s : State) (hu : s.up .lfe = true) (he : s.bit LFE_CTL.EN = true) : lfeTick s =
    if s.lfe.ticked && s.nt / s.tickNs * s.tickNs ≤ s.lfe.lastTick then s.tickOn
    else (s.endTick.quiet fun t => t.openTick (s.nt / s.tickNs * s.tickNs)).tickOn :=
  if_neg (by simp [hu, he])

theorem endTick_opened (s : State) (o : TickOpen) (ho : s.lfe.opened = some o) : s.endTick = s.quiet fun t => t.closeTick o := by
  unfold State.endTick
  rw [ho]

theorem tickDue_opened (s : State) (o : TickOpen) (hu : s.up .lfe = true) (ho : s.lfe.opened = some o)
    (ht : o.at_ + 150000 ≤ s.nt) : s.tickDue = true := by
  unfold State.tickDue
  rw [hu, ho]
  exact decide_eq_true ht

/-- The tick of a boundary that is new, or the first at all. -/
theorem lfeTick_newBoundary (s : State) (hu : s.up .lfe = true) (he : s.bit LFE_CTL.EN = true)
    (hb : s.lfe.ticked = false ∨ s.lfe.lastTick < s.nt / s.tickNs * s.tickNs) :
    lfeTick s = (s.endTick.quiet fun t => t.openTick (s.nt / s.tickNs * s.tickNs)).tickOn := by
  refine (lfeTick_running s hu he).trans (if_neg fun h => ?_)
  obtain ⟨hticked, hle⟩ := Bool.and_eq_true_iff.mp h
  rcases hb with hfalse | hlt
  · exact Bool.false_ne_true (hfalse.symm.trans hticked)
  · exact Nat.not_le.mpr hlt (of_decide_eq_true hle)

/-- On a boundary already ticked, an open tick closes once its 150 µs have passed. -/
theorem lfeTick_intakeClosed (s : State) (o : TickOpen) (hu : s.up .lfe = true) (he : s.bit LFE_CTL.EN = true)
    (hticked : s.lfe.ticked = true) (hb : s.nt / s.tickNs * s.tickNs ≤ s.lfe.lastTick) (ho : s.lfe.opened = some o)
    (ht : o.at_ + 150000 ≤ s.nt) : lfeTick s = s.quiet fun t => t.closeTick o := by
  calc lfeTick s
    _ = s.tickOn := (lfeTick_running s hu he).trans (if_pos (by simp [hticked, hb]))
    _ = s.endTick := if_pos (tickDue_opened s o hu ho ht)
    _ = s.quiet fun t => t.closeTick o := endTick_opened s o ho

/-- The mirror delta follows a tick, whatever state that tick leaves. -/
theorem lfeTickMirror_of_tick {s t : State} (h : lfeTick s = t) :
    lfeTickMirror s = if t.lfe.ticks = s.lfe.ticks then t else t.mirrorTick := by
  unfold lfeTickMirror
  rw [h]

/-! ### The intake, the sources and the holds -/

theorem detectionRecord_up (r : DetRec) (s : State) (hu : s.up .lfe = true) : detectionRecord r s = s.takeRecord r := if_pos hu

theorem sourceExpiry_running (s : State) (hu : s.up .lfe = true) (he : s.bit LFE_CTL.EN = true) : sourceExpiry s =
    (s.expire (s.nt / s.tickNs * s.tickNs)).pubSources (s.nt / s.tickNs * s.tickNs) s.slotsUsed :=
  if_pos (by simp [hu, he])

theorem lfeHoldExpiry_due (e : Nat) (s : State) (hu : s.up .lfe = true) (he : s.bit LFE_CTL.EN = true)
    (ho : s.onUntil e ≤ s.nt / s.tickNs * s.tickNs) (hl : s.bit LFE_STAT.NO_LANES = false) : lfeHoldExpiry e s =
      s.quiet fun t => ({ t with lfe := { t.lfe with onUntil := t.lfe.onUntil.filter (·.1 != e) } } : State).put
        (EPC_LVL_BASE.LFE e) 0 :=
  if_pos (by simp [hu, he, ho, hl])

/-- INJECT into an open intake with room for the record of its registers. -/
theorem lfeInject_done (s : State) (h : s.ready .lfe) (hopen : (s.taken .lfe 1).intakeOpen = true)
    (hm : (s.taken .lfe 1).pwr.mode ≠ .soak) (hroom : (s.taken .lfe 1).intakeFull (s.taken .lfe 1).injectRec = false) :
    lfeInject s = ((s.taken .lfe 1).takeRecord (s.taken .lfe 1).injectRec).ended .lfe 1 stDone :=
  runCmd_of_body .lfe 1 stDone _ s _ rfl h ((if_neg (by simpa [hopen] using hm)).trans (if_neg (by simp [hroom])))

theorem clearSources_running (s : State) (h : s.ready .lfe) (he : (s.taken .lfe 2).bit LFE_CTL.EN = true) : clearSources s =
    ((fun t : State => { t with lfe := { t.lfe with clearing := true } }) (s.taken .lfe 2)).ended .lfe 2 stPending :=
  runCmd_of_body .lfe 2 stPending _ s _ rfl h (if_pos he)

theorem clearSources_stopped (s : State) (h : s.ready .lfe) (he : (s.taken .lfe 2).bit LFE_CTL.EN = false) :
    clearSources s = (s.taken .lfe 2).noSources.ended .lfe 2 stDone :=
  runCmd_of_body .lfe 2 stDone _ s _ rfl h (if_neg (Bool.eq_false_iff.mp he))

/-- A write of LFE_CTL stores EN and PROP_EN. PROP_EN set reopens the intake; EN clear drops the open tick and carries out a
clearing that waits. -/
theorem lfeCtlWrite_up (en prop : Bool) (s : State) (hu : s.up .lfe = true) : lfeCtlWrite en prop s =
    (fun t : State => if !en && t.lfe.clearing then t.clearAt else t)
      ((fun t : State => if en then t else { t with lfe := { t.lfe with opened := none } })
        ((fun t : State => if prop then { t with lfe := { t.lfe with closed := false } } else t)
          ((s.putB LFE_CTL.EN en).putB LFE_CTL.PROP_EN prop))) :=
  if_neg (by simp [hu])

/-- Settles O15: each event where its block acts on it, a tick by whether its boundary is new, and each command by its body. -/
theorem schedulesAndFieldComplete : Obligations.SchedulesAndFieldComplete := by
  unfold Obligations.SchedulesAndFieldComplete
  refine ⟨?_, ?_, ?_, ?_, ?_, ?_, ?_, ?_, ?_, ?_, ?_, ?_, ?_, ?_⟩
  · intro s late hu hm hn hh
    exact finish_of_eq s ((scheduleSecond_newSecond late s hu hm hn).trans (if_pos hh))
  · intro s late hu hm hn hh
    exact finish_of_eq s ((scheduleSecond_newSecond late s hu hm hn).trans (if_neg (Bool.eq_false_iff.mp hh)))
  · intro s h hc hv
    exact finish_of_eq s (solarNow_done s h hc hv)
  · intro s d evs hu hc
    exact finish_of_eq s (solarPublish_published d.val evs s hu hc)
  · intro s a ha hu hh ht
    exact finish_of_eq s (holdExpiry_due s a ha hu hh ht)
  · intro s hu he hb
    exact finish_of_eq s (lfeTickMirror_of_tick (lfeTick_newBoundary s hu he hb))
  · intro s o hu he hticked hb ho ht
    exact finish_of_eq s (lfeTickMirror_of_tick (lfeTick_intakeClosed s o hu he hticked hb ho ht))
  · intro s r hu
    exact finish_of_eq s (detectionRecord_up r s hu)
  · intro s hu he
    exact finish_of_eq s (sourceExpiry_running s hu he)
  · intro s e hu he ho hl
    exact finish_of_eq s (lfeHoldExpiry_due e.val s hu he ho hl)
  · rintro s _ h rfl hopen hm hroom
    exact finish_of_eq s (lfeInject_done s h hopen hm hroom)
  · intro s h he
    exact finish_of_eq s (clearSources_running s h he)
  · intro s h he
    exact finish_of_eq s (clearSources_stopped s h he)
  · intro s en prop hu
    exact finish_of_eq s (lfeCtlWrite_up en prop s hu)

end Sys2Proof.Machine
end

section
/-! The commands and events of transition slots and pattern engines where they act (R188, R190, R192, R197, R200, R201, R203,
R209 to R212). -/

namespace Sys2Proof.Machine

/-! ### The commands of TRN -/

theorem trnArm_done (s t : State) (h : s.ready .trn) (ht : t = s.taken .trn 1) (hn : t.fld TRN_CMD_ARG.INDEX < 64)
    (hv : t.ntValid = true) (hm : t.pwr.mode ≠ .service) (hf : t.slotFree (t.fld TRN_CMD_ARG.INDEX) = true)
    (ha : t.armArgOk (t.fld TRN_CMD_ARG.INDEX) = true) : trnArm s =
      (armRound (t.fld TRN_CMD_ARG.INDEX) (t.armSlot (t.fld TRN_CMD_ARG.INDEX))).ended .trn 1 stDone := by
  subst ht
  refine runCmd_of_body .trn 1 stDone _ s _ rfl h ((if_neg (Nat.not_le.mpr hn)).trans ?_)
  exact (if_neg (by simpa [hv, hf] using hm)).trans (if_neg (by simp [ha]))

theorem trnCancel_done (s t : State) (h : s.ready .trn) (ht : t = s.taken .trn 2) (hn : t.fld TRN_CMD_ARG.INDEX < 64)
    (ha : t.slotState (t.fld TRN_CMD_ARG.INDEX) = 1) :
    trnCancel s = (t.cancelSlot (t.fld TRN_CMD_ARG.INDEX)).ended .trn 2 stDone := by
  subst ht
  exact runCmd_of_body .trn 2 stDone _ s _ rfl h ((if_neg (Nat.not_le.mpr hn)).trans (if_neg (by simp [ha])))

/-- RELEASE of a HELD slot marks the release and is DONE; the claim itself ends later, at a tick (assumption 81). -/
theorem trnRelease_done (s t : State) (h : s.ready .trn) (ht : t = s.taken .trn 3) (hn : t.fld TRN_CMD_ARG.INDEX < 64)
    (hheld : t.slotState (t.fld TRN_CMD_ARG.INDEX) = 3) : trnRelease s =
      (t.setSlotRun { t.slotRun (t.fld TRN_CMD_ARG.INDEX) with release := true }).ended .trn 3 stDone := by
  subst ht
  exact runCmd_of_body .trn 3 stDone _ s _ rfl h ((if_neg (Nat.not_le.mpr hn)).trans (if_neg (by simp [hheld])))

/-- PAT_START of an engine in order at the next tick, or with AT at an instant from now to 549 s ahead. -/
theorem patStart_done (s t : State) (h : s.ready .trn) (ht : t = s.taken .trn 4) (hok : t.patOk (t.fld TRN_CMD_ARG.INDEX) = true)
    (hin : t.bit TRN_CMD_ARG.AT = true → t.nt ≤ t.trnCmdT ∧ t.trnCmdT ≤ t.nt + 549000000000) : patStart s =
      (t.patRunFrom (t.fld TRN_CMD_ARG.INDEX) (if t.bit TRN_CMD_ARG.AT then t.trnCmdT else t.nextTick) false).ended .trn 4
        stDone := by
  subst ht
  exact runCmd_of_body .trn 4 stDone _ s _ rfl h (if_neg (by simpa [hok] using hin))

/-- PAT_STOP marks the stop of its engine; during an emergency it also keeps the emergency from starting that engine. -/
theorem patStop_done (s t : State) (h : s.ready .trn) (ht : t = s.taken .trn 5) (he : t.fld TRN_CMD_ARG.INDEX < 32) :
    patStop s = ({ t with trn := { t.trn with
      pats := t.trn.pats.map (fun (r : PatRun) => if r.engine == t.fld TRN_CMD_ARG.INDEX then { r with stop := true } else r),
      blocked := if t.lfe.emerg && t.cfB (TRN_PAT_CTL.START_ON_EMERG (t.fld TRN_CMD_ARG.INDEX)) then
        t.fld TRN_CMD_ARG.INDEX :: t.trn.blocked else t.trn.blocked } } : State).ended .trn 5 stDone := by
  subst ht
  exact runCmd_of_body .trn 5 stDone _ s _ rfl h (if_neg (Nat.not_le.mpr he))

/-- Settles O16: each command by its body, where no condition refuses it. That RELEASE is DONE before the claim has ended is the
model's choice (assumption 81). -/
theorem transitionCommandsComplete : Obligations.TransitionCommandsComplete := by
  unfold Obligations.TransitionCommandsComplete
  refine ⟨?_, ?_, ?_, ?_, ?_, ?_⟩
  · intro s t h ht hn hv hm hf ha
    exact finish_of_eq s (trnArm_done s t h ht hn hv hm hf ha)
  · intro s t h ht hn ha
    exact finish_of_eq s (trnCancel_done s t h ht hn ha)
  · intro s t h ht hn hheld
    exact finish_of_eq s (trnRelease_done s t h ht hn hheld)
  · intro s t h ht hok hat
    have hstart := patStart_done s t h ht hok (by simp [hat])
    rw [if_neg (by simp [hat])] at hstart
    exact finish_of_eq s hstart
  · intro s t h ht hok hat hfrom hto
    have hstart := patStart_done s t h ht hok fun _ => ⟨hfrom, hto⟩
    rw [if_pos hat] at hstart
    exact finish_of_eq s hstart
  · intro s t h ht he
    exact finish_of_eq s (patStop_done s t h ht he)

/-! ### Slots in time -/

/-- The rounds of a slot that have fallen due and are not sent yet (R190). -/
def State.roundsDue (s : State) (n : Nat) : List Nat :=
  (List.range s.armRepeat).filter fun k => (s.slotRun n).round ≤ k && s.roundAt n k ≤ s.nt

theorem armRound_due (n : Nat) (s : State) (hu : s.up .trn = true) (hm : s.mayCommand = true) (ha : s.slotState n = 1)
    (hd : s.roundsDue n ≠ []) : armRound n s =
      (s.setSlotRun { s.slotRun n with round := (s.slotRun n).round + (s.roundsDue n).length }).sendArmRound n
        ((s.slotRun n).round == 0) :=
  (if_neg (by simp [hu, hm, ha])).trans (if_neg (mt List.isEmpty_iff.mp hd))

/-- The commit boundary of an ARMED slot, before its T: a commit, or in SERVICE a cancellation that is logged. -/
theorem slotCommit_atBoundary (n : Nat) (s : State) (hu : s.up .trn = true) (hm : s.mayCommand = true) (ha : s.slotState n = 1)
    (hc : s.commitAt n ≤ s.nt) (hT : s.nt < s.slotT n) : slotCommit n s =
      if s.pwr.mode == .service then (s.cancelSlot n).slotLog 5 n else s.commitSlot n :=
  if_neg (by simp [hu, hm, ha, hc, hT])

/-- The armed endpoints of a slot that are in its scope record its level and CCT as commanded. -/
def State.armedTakeLevel (t : State) (n : Nat) (armed : List Nat) : State :=
  (armed.filter fun e => t.inScope n e).foldl (fun v e =>
    (v.recordCmd e (t.fld (TRN_SLOT_LVL.LEVEL n)) (t.fld (TRN_SLOT_LVL.CCT n)) false).launched e
      (v.fld (TRN_SLOT_FADE.FADE n))) t

/-- T of a COMMITTED slot: HELD, its level recorded, and what the slot had armed kept. -/
theorem slotFire_atT (n : Nat) (s : State) (hu : s.up .trn = true) (hm : s.mayCommand = true) (hc : s.slotState n = 2)
    (hT : s.slotT n ≤ s.nt) : slotFire n s =
      ((s.holdSlot n).armedTakeLevel n (s.slotRun n).armed).setSlotRun (s.slotRun n) :=
  if_neg (by simp [hu, hm, hc, hT])

theorem slotHoldEnd_due (n : Nat) (s : State) (hu : s.up .trn = true) (hm : s.mayCommand = true) (hheld : s.slotState n = 3)
    (hh : s.fld (TRN_SLOT_FADE.HOLD_S n) ≠ 0)
    (ht : s.slotT n + s.fld (TRN_SLOT_FADE.HOLD_S n) * 1000000000 ≤ s.nt) : slotHoldEnd n s = s.endSlot n :=
  if_pos (by simp [hu, hm, hheld, hh, ht])

/-! ### Pattern engines in time -/

theorem patternCountEnd_over (e : Nat) (s : State) (r : PatRun) (hu : s.up .trn = true) (hm : s.mayCommand = true)
    (hr : s.trn.pats.find? (fun r => r.engine == e) = some r) (ho : s.patOver r (s.nt / s.tickNs * s.tickNs) = true) :
    patternCountEnd e s = s.patStopNow e := by
  unfold patternCountEnd
  rw [hr]
  exact if_pos (by simp [hu, hm, ho])

/-- The chase of an engine goes on to its next edge; `act` where the edge has switched its members. -/
def State.nextEdge (s : State) (e : Nat) (act : Bool) : State :=
  { s with drv := { s.drv with chases := s.drv.chases.map fun (x : Chase) =>
    if x.engine == e then { x with k := x.k + 1, live := x.live || act } else x } }

/-- The edge of a fast chase that is due: outside SERVICE each member takes its level, and in either case the chase goes on. -/
theorem fastChaseEdge_due (e : Nat) (s : State) (c : Chase) (hu : s.up .drv = true) (hd : s.drives = true)
    (hc : s.drv.chases.find? (fun c => c.engine == e) = some c) (hk : c.edge c.k ≤ s.nt) : fastChaseEdge e s =
      (if s.pwr.mode != .service then (List.range c.units.length).foldl (fun t i => t.chaseStep c i) s else s).nextEdge e
        (s.pwr.mode != .service) := by
  unfold fastChaseEdge
  rw [hc]
  exact if_neg (by simp [hu, hd, hk])

/-- Settles O17: each event where it is due, a commit by the mode, and an edge of a chase by whether it may switch its members.
That a member's commanded level follows such an edge is the model's choice (assumption 38). -/
theorem transitionEventsComplete : Obligations.TransitionEventsComplete := by
  unfold Obligations.TransitionEventsComplete
  refine ⟨?_, ?_, ?_, ?_, ?_, ?_, ?_, ?_⟩
  · rintro s n _ hu hm ha rfl hd
    exact finish_of_eq s (armRound_due n.val s hu hm ha hd)
  · intro s n hu hm ha hc hT hmode
    exact finish_of_eq s ((slotCommit_atBoundary n.val s hu hm ha hc hT).trans (if_neg (by simpa using hmode)))
  · intro s n hu hm ha hc hT hmode
    exact finish_of_eq s ((slotCommit_atBoundary n.val s hu hm ha hc hT).trans (if_pos (by simp [hmode])))
  · intro s n hu hm hc hT
    exact finish_of_eq s (slotFire_atT n.val s hu hm hc hT)
  · intro s n hu hm hheld hh ht
    exact finish_of_eq s (slotHoldEnd_due n.val s hu hm hheld hh ht)
  · intro s e r hu hm hr ho
    exact finish_of_eq s (patternCountEnd_over e.val s r hu hm hr ho)
  · intro s e c hu hd hc hk hmode
    have hact : (s.pwr.mode != .service) = true := by simpa using hmode
    have hedge := fastChaseEdge_due e.val s c hu hd hc hk
    simp only [hact, if_true, State.nextEdge, Bool.or_true] at hedge
    exact finish_of_eq s hedge
  · intro s e c hu hd hc hk hmode
    have hact : (s.pwr.mode != .service) = false := by simp [hmode]
    have hedge := fastChaseEdge_due e.val s c hu hd hc hk
    simp only [hact, Bool.false_eq_true, if_false, State.nextEdge, Bool.or_false] at hedge
    exact finish_of_eq s hedge

end Sys2Proof.Machine
end

section
/-! The outputs of direct drive where they act: ramps, comparators, PWM periods, current loops, compensation, and the enables of
channels and sets (R184, R216, R222, R223, R225, R226, R230, R239). -/

namespace Sys2Proof.Machine

/-! ### Ramps and comparators -/

/-- An event of the outputs acts where DRV is up and the module drives them. -/
theorem outputsAct {s : State} (hu : s.up .drv = true) (hd : s.drives = true) : ¬ (!s.up .drv || !s.drives) = true := by
  simp [hu, hd]

theorem fadeUnitUpdate_driven (s : State) (hu : s.up .drv = true) (hd : s.drives = true) : fadeUnitUpdate s =
    (List.range 12).foldl State.aoUpdate { s with drv := { s.drv with units := s.drv.units.map FadeUnit.tick } } :=
  if_neg (outputsAct hu hd)

/-- A comparator's load is used up. -/
def State.dropLoad (s : State) (l : Load) : State :=
  { s with drv := { s.drv with loads := s.drv.loads.filter fun (x : Load) => x != l } }

/-- A load whose instant has come goes before any step of a timed fade. -/
theorem driveComparatorFire_load (u : Nat) (s : State) (l : Load) (hu : s.up .drv = true) (hd : s.drives = true)
    (hl : s.drv.loads.find? (fun l => l.unit == u && l.at_ ≤ s.nt) = some l) : driveComparatorFire u s =
      ((s.dropLoad l).updUnit u fun x => x.fire l.level l.cct l.fade ((s.dropLoad l).unitBase u) l.at_).applyUnit l.at_ u := by
  unfold driveComparatorFire
  rw [if_neg (outputsAct hu hd), hl]
  rfl

theorem driveComparatorFire_step (u : Nat) (s : State) (t : Nat) (hu : s.up .drv = true) (hd : s.drives = true)
    (hl : s.drv.loads.find? (fun l => l.unit == u && l.at_ ≤ s.nt) = none) (ht : (s.unit u).nextTimed = some t) (hnow : t ≤ s.nt) :
    driveComparatorFire u s = (s.updUnit u fun x => x.stepTimed t).applyUnit t u := by
  unfold driveComparatorFire
  rw [if_neg (outputsAct hu hd), hl, ht]
  exact if_pos hnow

/-! ### Periods, loops and compensation -/

theorem pwmPeriodEnd_due (n : Nat) (s : State) (hu : s.up .drv = true) (hd : s.drives = true) (he : (s.chRun n).pEnd ≤ s.clk) :
    pwmPeriodEnd n s = s.pwmEnd n := if_neg (by simp [hu, hd, he])

theorem currentLoopUpdate_gating (n sense vo : Nat) (s : State) (hu : s.up .drv = true) (hg : s.gating n = true) :
    currentLoopUpdate n sense vo s = s.loopStep n sense vo := if_neg (by simp [hu, hg])

theorem compEval_enabled (k : Nat) (s : State) (hu : s.up .drv = true) (he : s.bit (DRV_SET_CFG.EN k) = true) :
    compEval k s = s.compStep k := if_neg (by simp [hu, he])

/-! ### The enables of channels and sets -/

theorem drvChEn_off (n : Nat) (s : State) (hu : s.up .drv = true) : drvChEn n false s = s.disableCh n :=
  (if_neg (by simp [hu])).trans (if_pos rfl)

/-- EN set on a channel that is not enabled: by whether it is in order, and as a standby allows. -/
theorem drvChEn_on (n : Nat) (s : State) (hu : s.up .drv = true) (he : s.bit (DRV_CH_CTL.EN n) = false) : drvChEn n true s =
    if s.chOk n && s.standby then s.put (DRV_CH_CTL.EN n) 1
    else if s.chOk n then s.enableCh n
    else s.raise DRV_IRQ_STAT.BAD_CFG :=
  (if_neg (by simp [hu])).trans ((if_neg (by decide)).trans (if_neg (by simp [he])))

theorem drvSetEn_off (k : Nat) (s : State) (hu : s.up .drv = true) : drvSetEn k false s = s.put (DRV_SET_CFG.EN k) 0 :=
  (if_neg (by simp [hu])).trans (if_pos rfl)

/-- EN set on a set that is not enabled: by whether its colours are in order. -/
theorem drvSetEn_on (k : Nat) (s : State) (hu : s.up .drv = true) (he : s.bit (DRV_SET_CFG.EN k) = false) : drvSetEn k true s =
    if s.setOk k then s.setEnabled k else s.raise DRV_IRQ_STAT.BAD_CFG :=
  (if_neg (by simp [hu])).trans ((if_neg (by decide)).trans (if_neg (by simp [he])))

/-- Settles O18: each event where it is due, a comparator by whether a load is, and each enable by whether its words are in order. -/
theorem driveOutputsComplete : Obligations.DriveOutputsComplete := by
  unfold Obligations.DriveOutputsComplete
  refine ⟨?_, ?_, ?_, ?_, ?_, ?_, ?_, ?_, ?_, ?_, ?_, ?_⟩
  · intro s hu hd
    exact finish_of_eq s (fadeUnitUpdate_driven s hu hd)
  · intro s u l hu hd hl
    exact finish_of_eq s (driveComparatorFire_load u.val s l hu hd hl)
  · intro s u t hu hd hl ht hnow
    exact finish_of_eq s (driveComparatorFire_step u.val s t hu hd hl ht hnow)
  · intro s n hu hd he
    exact finish_of_eq s (pwmPeriodEnd_due n.val s hu hd he)
  · intro s n sense vo hu hg
    exact finish_of_eq s (currentLoopUpdate_gating n.val sense.toNat vo.toNat s hu hg)
  · intro s k hu he
    exact finish_of_eq s (compEval_enabled k.val s hu he)
  · intro s n hu
    exact finish_of_eq s (drvChEn_off n.val s hu)
  · intro s n hu he hok hstandby
    exact finish_of_eq s ((drvChEn_on n.val s hu he).trans ((if_neg (by simp [hstandby])).trans (if_pos hok)))
  · intro s n hu he hok
    exact finish_of_eq s ((drvChEn_on n.val s hu he).trans ((if_neg (by simp [hok])).trans (if_neg (by simp [hok]))))
  · intro s k hu
    exact finish_of_eq s (drvSetEn_off k.val s hu)
  · intro s k hu he hok
    exact finish_of_eq s ((drvSetEn_on k.val s hu he).trans (if_pos hok))
  · intro s k hu he hok
    exact finish_of_eq s ((drvSetEn_on k.val s hu he).trans (if_neg (by simp [hok])))

end Sys2Proof.Machine
end

section
/-! The faults of direct channels and supply groups, and their recovery (R229 to R234). -/

namespace Sys2Proof.Machine

/-! ### Soft start and inrush -/

theorem softStartEnd_due (n : Nat) (s : State) (hu : s.up .drv = true) (hc : s.chState n = 2)
    (ht : (s.chRun n).rampAt + s.ssTime n ≤ s.clk) : softStartEnd n s = s.softStartDone n :=
  if_pos (by simp [hu, hc, ht])

theorem inrushEnd_due (n : Nat) (s : State) (hu : s.up .drv = true) (hi : s.bit (DRV_CH_STAT.IN_INRUSH n) = true)
    (ht : (s.chRun n).inrushAt + s.inrushTime n ≤ s.clk) :
    inrushEnd n s = (s.put (DRV_CH_STAT.IN_INRUSH n) 0).pubDrv :=
  if_pos (by simp [hu, hi, ht])

/-! ### The faults of one channel, each by its threshold and its time -/

theorem fastTrip_above (n sense : Nat) (s : State) (hu : s.up .drv = true) (hs : s.sees n 1 = true) (hx : s.tripAt n < sense) :
    fastTrip n sense s = s.ownFault n 1 :=
  if_pos (by simp [hu, hs, hx])

theorem stringShort_below (n vo us : Nat) (s : State) (hu : s.up .drv = true) (hs : s.sees n 2 = true) (hc : s.chState n ≠ 2)
    (hw : s.inWindow n = false) (hv : vo < s.cf (DRV_CH_VTH.SHORT_MV n))
    (ht : max 1 (s.cf (DRV_CH_VTIME.SHORT_10US n)) * 10 ≤ us) : stringShort n vo us s = s.ownFault n 2 :=
  if_pos (by simpa [hu, hs, hc, hw, hv] using ht)

theorem stringOpen_above (n vo us : Nat) (s : State) (hu : s.up .drv = true) (hs : s.sees n 3 = true)
    (hv : s.cf (DRV_CH_VTH.OPEN_MV n) < vo) (ht : max 1 (s.cf (DRV_CH_VTIME.OPEN_US n)) ≤ us) :
    stringOpen n vo us s = s.ownFault n 3 :=
  if_pos (by simpa [hu, hs, hv] using ht)

theorem startShort_below (n vo : Nat) (s : State) (hu : s.up .drv = true) (hs : s.sees n 4 = true) (hw : s.inWindow n = true)
    (hv : vo < s.cf (DRV_CH_VTH.SHORT_MV n))
    (ht : (s.chRun n).rampAt + clampN 1 50 (s.cf (DRV_CH_VTIME.SS_SHORT_MS n)) * msec ≤ s.clk) :
    startShort n vo s = s.ownFault n 4 :=
  if_pos (by simp [hu, hs, hw, hv, ht])

/-! ### The faults of a group -/

/-- A group's retries are used, so that its next GROUP_OC latches (R234). -/
def State.groupRetriesUsed (s : State) (g : Nat) : Bool :=
  s.cf (DRV_GRP_CTL.HICCUP_N g) ≤ s.fld (DRV_GRP_STAT.RETRIES g)

/-- A group's gating channels stop together, in HICCUP or LATCHED. -/
def State.stopGating (s : State) (g : Nat) (latch : Bool) : State :=
  (s.gatingOf g).foldl (fun t n =>
    ((t.put (DRV_CH_STAT.STATE n) (if latch then 5 else 4)).drvFault n 6 latch).updCh n fun r => { r with byGroup := true }) s

/-- The group's own state follows its stopped channels, and its restart counts from this instant. -/
def State.groupStopped (t : State) (g : Nat) (latch : Bool) : State :=
  (t.put (DRV_GRP_STAT.STATE g) (if latch then 3 else 2)).updGrp g fun r => { r with ocAt := t.clk }

theorem groupOc_above (g us : Nat) (s : State) (hu : s.up .drv = true) (hx : s.groupLimit g < s.groupMa g)
    (ht : clampN 10 10000 (s.cf (DRV_GRP_LIMIT.GOC_US g)) ≤ us) : groupOc g us s =
      (((s.stopGating g (s.groupRetriesUsed g)).groupStopped g (s.groupRetriesUsed g)).raise DRV_IRQ_STAT.GROUP_OC).pubDrv := by
  have hover : s.overCurrent g us = true := by simp [State.overCurrent, hx, ht]
  unfold groupOc
  simp only [State.stopGating, State.groupStopped, State.groupRetriesUsed, decide_eq_true_eq]
  exact if_neg (by simp [hu, hover])

theorem supplyUv_below (g vdrv : Nat) (s : State) (hu : s.up .drv = true) (hv : vdrv < s.cf (DRV_GRP_UV.UV_10MV g)) :
    supplyUv g vdrv s = s.uvTrip g vdrv :=
  if_neg (by simp [hu, hv])

theorem supplyRecovered_above (g vdrv : Nat) (s : State) (hu : s.up .drv = true) (hf : (s.grpRun g).uv = true)
    (hv : s.cf (DRV_GRP_UV.UV_10MV g) + s.cf (DRV_GRP_UV.HYST_10MV g) ≤ vdrv) : supplyRecovered g vdrv s = s.uvClear g vdrv :=
  if_neg (by simp [hu, hf, hv])

/-! ### Retries -/

theorem hiccupRetry_due (n : Nat) (s : State) (hu : s.up .drv = true) (hr : s.retryDue n = true)
    (hd : s.fld (DRV_CH_OUT.D n) ≠ 0) : hiccupRetry n s = (s.retry n).pubDrv :=
  if_pos (by simp [hu, hr, hd])

/-- A group whose gating channels have all run 60 s counts its retries from 0 again (R234). -/
def State.resetRestedGroup (t : State) (g : Nat) : State :=
  if t.groupRested g then t.put (DRV_GRP_STAT.RETRIES g) 0 else t

theorem retriesReset_due (n : Nat) (s : State) (hu : s.up .drv = true) (hc : s.chState n = 3)
    (ht : (s.chRun n).runAt + 60 * secs ≤ s.clk) :
    retriesReset n s = (s.put (DRV_CH_STAT.RETRIES n) 0).resetRestedGroup (n / 8) :=
  if_pos (by simp [hu, hc, ht])

theorem groupHiccupRetry_due (g : Nat) (s : State) (hu : s.up .drv = true) (hs : s.fld (DRV_GRP_STAT.STATE g) = 2)
    (ht : (s.grpRun g).ocAt + s.hiccupTime g ≤ s.clk) (hv : (s.grpRun g).uv = false) :
    groupHiccupRetry g s = s.groupRestart g :=
  if_pos (by simp [hu, hs, ht, hv])

/-- Settles O19: each fault beyond its threshold for its time, in its window where it has one, and each recovery where it is due. -/
theorem driveFaultsComplete : Obligations.DriveFaultsComplete := by
  unfold Obligations.DriveFaultsComplete
  refine ⟨?_, ?_, ?_, ?_, ?_, ?_, ?_, ?_, ?_, ?_, ?_, ?_⟩
  · intro s n hu hc ht
    exact finish_of_eq s (softStartEnd_due n.val s hu hc ht)
  · intro s n hu hi ht
    exact finish_of_eq s (inrushEnd_due n.val s hu hi ht)
  · intro s n sense hu hs hx
    exact finish_of_eq s (fastTrip_above n.val sense s hu hs hx)
  · intro s n vo us hu hs hc hw hv ht
    exact finish_of_eq s (stringShort_below n.val vo us s hu hs hc hw hv ht)
  · intro s n vo us hu hs hv ht
    exact finish_of_eq s (stringOpen_above n.val vo us s hu hs hv ht)
  · intro s n vo hu hs hw hv ht
    exact finish_of_eq s (startShort_below n.val vo s hu hs hw hv ht)
  · rintro s g us _ hu hx ht rfl
    exact finish_of_eq s (groupOc_above g.val us s hu hx ht)
  · intro s g vdrv hu hv
    exact finish_of_eq s (supplyUv_below g.val vdrv.toNat s hu hv)
  · intro s g vdrv hu hf hv
    exact finish_of_eq s (supplyRecovered_above g.val vdrv.toNat s hu hf hv)
  · intro s n hu hr hd
    exact finish_of_eq s (hiccupRetry_due n.val s hu hr hd)
  · intro s n hu hc ht
    exact finish_of_eq s (retriesReset_due n.val s hu hc ht)
  · intro s g hu hs ht hv
    exact finish_of_eq s (groupHiccupRetry_due g.val s hu hs ht hv)

end Sys2Proof.Machine
end

section
/-! The services of direct drive where they act: pad scans, faults cleared, energy and power (R235 to R237, R240). -/

namespace Sys2Proof.Machine

/-! ### Pad scans -/

/-- A pass is taken: none is asked for any more, and the period counts from `t`. -/
def State.passTaken (s : State) (t : Nat) : State := { s with drv := { s.drv with scanAt := t, scanDue := false } }

theorem padScan_due (visits : List PadProbe) (s : State) (hu : s.up .drv = true) (hd : s.padDue = true) :
    padScan visits s = (s.passTaken (if s.drv.scanDue then s.drv.scanAt else s.clk)).padPass visits :=
  if_pos (by simp [hu, hd])

/-- A pass that SCAN_NOW asked for leaves the period of the scan as it was (assumption 61). -/
theorem padScan_asked (visits : List PadProbe) (s : State) (hu : s.up .drv = true) (ha : s.drv.scanDue = true) :
    padScan visits s = (s.passTaken s.drv.scanAt).padPass visits := by
  rw [padScan_due visits s hu (by simp [State.padDue, ha]), if_pos ha]

theorem padScan_periodic (visits : List PadProbe) (s : State) (hu : s.up .drv = true) (ha : s.drv.scanDue = false)
    (he : s.bit DRV_SCAN_CTL.EN = true) (ht : s.drv.scanAt + clampN 1 1000 (s.fld DRV_SCAN_CTL.MS) * msec ≤ s.clk) :
    padScan visits s = (s.passTaken s.clk).padPass visits := by
  rw [padScan_due visits s hu (by simp [State.padDue, he, ht]), if_neg (by simp [ha])]

/-! ### The commands of DRV -/

theorem scanNow_done (visits : List PadProbe) (s : State) (h : s.ready .drv) :
    scanNow visits s = ((s.taken .drv 2).padPass visits).ended .drv 2 stDone :=
  runCmd_of_body .drv 2 stDone _ s _ rfl h rfl

theorem drvClearFault_channel (s t : State) (h : s.ready .drv) (ht : t = s.taken .drv 1) (hg : t.bit DRV_CMD_ARG.GROUP = false) :
    drvClearFault s = ((t.clearCh (t.fld DRV_CMD_ARG.INDEX)).pubDrv).ended .drv 1 stDone := by
  subst ht
  exact runCmd_of_body .drv 1 stDone _ s _ rfl h ((if_neg (by simp [hg])).trans (if_neg (by simp [hg])))

/-- A group's channels are cleared in order. -/
def State.clearGroupChs (t : State) (g : Nat) : State := ((List.range 8).map fun k => 8 * g + k).foldl State.clearCh t

/-- A group counts its retries from 0 again, and is in order unless its supply is still out of range. -/
def State.groupCleared (u : State) (g : Nat) : State :=
  (u.put (DRV_GRP_STAT.RETRIES g) 0).put (DRV_GRP_STAT.STATE g) (if (u.grpRun g).uv then 1 else 0)

theorem drvClearFault_group (s t : State) (h : s.ready .drv) (ht : t = s.taken .drv 1) (hg : t.bit DRV_CMD_ARG.GROUP = true)
    (hi : t.fld DRV_CMD_ARG.INDEX < 8) : drvClearFault s =
      (((t.clearGroupChs (t.fld DRV_CMD_ARG.INDEX)).groupCleared (t.fld DRV_CMD_ARG.INDEX)).pubDrv).ended .drv 1 stDone := by
  subst ht
  exact runCmd_of_body .drv 1 stDone _ s _ rfl h ((if_neg (by simp [hi])).trans (if_pos hg))

/-! ### Energy and power -/

theorem drvEnergyUpdate_up (s : State) (hu : s.up .drv = true) : drvEnergyUpdate s =
    ((List.range 64).filter fun n => s.chEnergy n != 0).foldl State.addDrvEnergy s := if_pos hu

/-- An endpoint's mean power from its sum, which begins anew; its remainder stays. -/
def State.reportPower (t : State) (epa : Nat) : State :=
  (t.put (EPC_POWER.DW epa) (min 65535 (divRound (t.epEnergy epa).2 (100 * 64 * 100000)))).setEpEnergy epa (t.epEnergy epa).1 0

theorem powerReport_active (s : State) (hu : s.up .drv = true) (hb : s.standby = false) : powerReport s =
    (s.epas fun n => s.reach n == 3).foldl State.reportPower s := if_neg (by simp [hu, hb])

/-- Settles O20: a pass as it is asked for or due, each command by its body, and the two sums where DRV is up. That a SCAN_NOW by
register leaves its pass to the next PAD_SCAN, and that the command takes its visits as operands, are the model's choices
(assumption 61). -/
theorem driveServicesComplete : Obligations.DriveServicesComplete := by
  unfold Obligations.DriveServicesComplete
  refine ⟨?_, ?_, ?_, ?_, ?_, ?_, ?_⟩
  · intro s visits hu ha
    exact finish_of_eq s (padScan_asked visits s hu ha)
  · intro s visits hu ha he ht
    exact finish_of_eq s (padScan_periodic visits s hu ha he ht)
  · rintro s _ visits h rfl
    exact finish_of_eq s (scanNow_done visits s h)
  · intro s t h ht hg
    exact finish_of_eq s (drvClearFault_channel s t h ht hg)
  · rintro s t _ _ h ht hg rfl hi rfl
    exact finish_of_eq s (drvClearFault_group s t h ht hg hi)
  · intro s hu
    exact finish_of_eq s (drvEnergyUpdate_up s hu)
  · intro s hu hb
    exact finish_of_eq s (powerReport_active s hu hb)

end Sys2Proof.Machine
end

section
/-! The DL ports of LBUS frame by frame: sending, answers, the bus itself and its events (R247 to R249, R251 to R253). -/

namespace Sys2Proof.Machine

/-! ### Sending -/

/-- An event of a DL port acts where LBUS is up and the port is enabled and not DOWN. -/
theorem dlActs {s : State} {p : Nat} (hu : s.up .lbus = true) (hp : s.dlUp p = true) : ¬ (!s.up .lbus || !s.dlUp p) = true := by
  simp [hu, hp]

/-- A DL port may send where it acts, the module may command and no answer is awaited. -/
theorem dlMaySend {s : State} {p : Nat} (hu : s.up .lbus = true) (hp : s.dlUp p = true) (hm : s.mayCommand = true)
    (hw : (s.dlPort p).waiting = false) : ¬ (!s.up .lbus || !s.mayCommand || !s.dlUp p || (s.dlPort p).waiting) = true := by
  simp [hu, hp, hm, hw]

/-- The boundary of a port's H words leaves network time. -/
theorem nt_dlBound (s : State) (p : Nat) : (s.dlBound p).nt = s.nt := rfl

/-- The rest of a transaction goes on, unless a committed frame is near and the transaction is no committed one itself (R252). -/
theorem dlForwardFrame_rest (p : Nat) (s : State) (f : DlFrame) (l : List DlFrame) (hu : s.up .lbus = true) (hp : s.dlUp p = true)
    (hm : s.mayCommand = true) (hw : (s.dlPort p).waiting = false)
    (hh : (s.dlPort p).holdOff s.nt = false ∨ (s.dlPort p).slot = true) (hc : (s.dlPort p).cur = f :: l) :
    dlForwardFrame p s = (s.dlBound p).dlSend p f l := by
  have hgoesOn : ¬ ((s.dlPort p).holdOff s.nt && !(s.dlPort p).cur.isEmpty && !(s.dlPort p).slot) = true := by
    rcases hh with h | h <;> simp [h]
  unfold dlForwardFrame
  dsimp only
  rw [if_neg (dlMaySend hu hp hm hw), nt_dlBound, if_neg hgoesOn, hc]

/-- With no transaction in progress and none committed, the next one in priority order begins. -/
theorem dlForwardFrame_next (p : Nat) (s : State) (hu : s.up .lbus = true) (hp : s.dlUp p = true) (hm : s.mayCommand = true)
    (hw : (s.dlPort p).waiting = false) (hc : (s.dlPort p).cur = []) (hk : (s.dlPort p).committed = []) :
    dlForwardFrame p s = (s.dlBound p).dlNext p := by
  unfold dlForwardFrame
  dsimp only
  rw [if_neg (dlMaySend hu hp hm hw), if_neg (by simp [hc]), hc, hk]

/-- A corrupted frame that is no query, or a query with attempts left, is counted and goes first again (R251). -/
theorem dlFrameCorrupted_again (p : Nat) (s : State) (f : DlFrame) (hu : s.up .lbus = true) (hp : s.dlUp p = true)
    (hl : (s.dlPort p).last = some f) (ha : f.asks = false ∨ (s.dlPort p).attempts < 3) : dlFrameCorrupted p s =
      (s.bump (LBUS_DL_CNT.COLL p)).updDl p fun x => { x with cur := f :: x.cur, waiting := false } := by
  have hagain : ¬ (f.asks && decide (3 ≤ (s.dlPort p).attempts)) = true := by
    rcases ha with h | h
    · simp [h]
    · simp [Nat.not_le.mpr h]
  unfold dlFrameCorrupted
  dsimp only
  rw [hl]
  exact (if_neg (dlActs hu hp)).trans (if_neg hagain)

/-! ### Answers -/

/-- The port awaits no answer to its last frame any more. -/
def State.answerOver (s : State) (p : Nat) : State := s.updDl p fun x => { x with waiting := false, last := none }

/-- An answer that a port awaits is taken where the port acts. -/
theorem dlAwaits {s : State} {p : Nat} (hu : s.up .lbus = true) (hp : s.dlUp p = true) (hw : (s.dlPort p).waiting = true) :
    ¬ (!s.up .lbus || !s.dlUp p || !(s.dlPort p).waiting) = true := by
  simp [hu, hp, hw]

/-- A good answer means what its query asked, and restarts the idle timer (R77, R249). -/
theorem dlBackwardFrame_good (p n : Nat) (s : State) (f : DlFrame) (hu : s.up .lbus = true) (hp : s.dlUp p = true)
    (hw : (s.dlPort p).waiting = true) (hl : (s.dlPort p).last = some f) :
    dlBackwardFrame p n false s = (((s.answerOver p).idleRestart).dlAnswer p f.kind n).dlBound p := by
  unfold dlBackwardFrame
  dsimp only
  rw [hl]
  exact if_neg (dlAwaits hu hp hw)

theorem dlNoAnswer_awaited (p : Nat) (s : State) (f : DlFrame) (hu : s.up .lbus = true) (hp : s.dlUp p = true)
    (hw : (s.dlPort p).waiting = true) (hl : (s.dlPort p).last = some f) : dlNoAnswer p s =
      (((s.answerOver p).bump (LBUS_DL_CNT.NOANSWER p)).dlNo p f.kind).dlBound p := by
  unfold dlNoAnswer
  dsimp only
  rw [hl]
  exact if_neg (dlAwaits hu hp hw)

/-! ### The bus, its events and the query cycles -/

/-- A port goes DOWN with its interrupt and its log event, and what it was sending is dropped. -/
def State.dlGoDown (s : State) (p : Nat) : State :=
  (((s.dlDrop p).put (LBUS_DL_STAT.STATE p) 3).raise LBUS_IRQ_STAT.DL_DOWN).logEv 15 2 (leBytes 1 p)

/-- A DL_RAW of the port that went DOWN ends without an answer. -/
def State.endRawOf (t : State) (p : Nat) : State := if t.lbus.rawPort = some p then t.rawDone true 1 0 else t

theorem dlBusDown_up (p : Nat) (s : State) (hu : s.up .lbus = true) (hp : s.dlUp p = true) :
    dlBusDown p s = (s.dlGoDown p).endRawOf p := if_neg (dlActs hu hp)

/-- Every active gear of a port is sent its commanded level again, with fade 0. -/
def State.resendLevels (t : State) (p : Nat) : State :=
  ((t.onPort p 4).filter fun n => t.epState n == stActive).foldl (fun v n => v.dlLevel n (v.fld (EPC_LVL_CMD.LEVEL n)) 0) t

theorem dlBusUp_down (p : Nat) (s : State) (hu : s.up .lbus = true) (hd : s.fld (LBUS_DL_STAT.STATE p) = 3) :
    dlBusUp p s = ((s.put (LBUS_DL_STAT.STATE p) 1).pubDl p).resendLevels p := if_neg (by simp [hu, hd])

/-- An event frame waits in the queue that LBUS_EVT reads. -/
def State.keepEvent (s : State) (p f : Nat) : State :=
  { s with lbus := { s.lbus with events := s.lbus.events ++ [(p, f % 2 ^ 24)] } }

theorem dlEventFrame_room (p f : Nat) (s : State) (hu : s.up .lbus = true) (hp : s.dlUp p = true) (hr : s.lbus.events.length < 16) :
    dlEventFrame p f s = ((s.keepEvent p f).pubEvt).raise LBUS_IRQ_STAT.DL_EVENT :=
  (if_neg (dlActs hu hp)).trans (if_neg (Nat.not_le.mpr hr))

theorem dlEventFrame_lost (p f : Nat) (s : State) (hu : s.up .lbus = true) (hp : s.dlUp p = true) (hr : 16 ≤ s.lbus.events.length) :
    dlEventFrame p f s = s.bump (LBUS_DL_CNT.EVT_LOST p) :=
  (if_neg (dlActs hu hp)).trans (if_pos hr)

theorem dlQueryCycle_up (p : Nat) (s : State) (hu : s.up .lbus = true) (hp : s.dlUp p = true) : dlQueryCycle p s = s.dlCycles p :=
  if_neg (dlActs hu hp)

/-- Settles O21: a port that acts sends by what it has in progress, judges its last frame by what came back, and follows its bus. -/
theorem lightingBusFramesComplete : Obligations.LightingBusFramesComplete := by
  unfold Obligations.LightingBusFramesComplete
  refine ⟨?_, ?_, ?_, ?_, ?_, ?_, ?_, ?_, ?_, ?_⟩
  · intro s p f l hu hp hm hw hh hc
    exact finish_of_eq s (dlForwardFrame_rest p.val s f l hu hp hm hw hh hc)
  · intro s p hu hp hm hw hc hk
    exact finish_of_eq s (dlForwardFrame_next p.val s hu hp hm hw hc hk)
  · intro s p n f hu hp hw hl
    exact finish_of_eq s (dlBackwardFrame_good p.val n.toNat s f hu hp hw hl)
  · intro s p f hu hp hw hl
    exact finish_of_eq s (dlNoAnswer_awaited p.val s f hu hp hw hl)
  · intro s p f hu hp hl ha
    exact finish_of_eq s (dlFrameCorrupted_again p.val s f hu hp hl ha)
  · intro s p hu hp
    exact finish_of_eq s (dlBusDown_up p.val s hu hp)
  · intro s p hu hd
    exact finish_of_eq s (dlBusUp_down p.val s hu hd)
  · intro s p f hu hp hr
    exact finish_of_eq s (dlEventFrame_room p.val f.toNat s hu hp hr)
  · intro s p f hu hp hr
    exact finish_of_eq s (dlEventFrame_lost p.val f.toNat s hu hp hr)
  · intro s p hu hp
    exact finish_of_eq s (dlQueryCycle_up p.val s hu hp)

end Sys2Proof.Machine
end

section
/-! The commands of LBUS where they are carried out, and the read that takes an event (R246, R253, R263, R269). -/

namespace Sys2Proof.Machine

/-! ### Commands on the port or FIO that LBUS_CMD_ARG names -/

/-- The port or FIO that LBUS_CMD_ARG names. -/
def State.lbusIndex (t : State) : Nat := t.fld LBUS_CMD_ARG.INDEX

/-- The gear of a port is commissioned, each with its identity read. -/
def State.commissionPort (t : State) (p : Nat) : State := (t.onPort p 4).foldl (fun v n => v.commission p n true) t

theorem dlCommission_enabled (s t : State) (h : s.ready .lbus) (ht : t = s.taken .lbus 1) (hi : t.lbusIndex < 16)
    (he : t.bit (LBUS_DL_CFG.EN t.lbusIndex) = true) :
    dlCommission s = (t.commissionPort t.lbusIndex).ended .lbus 1 stDone := by
  subst ht
  refine runCmd_of_body .lbus 1 stDone _ s _ rfl h ((if_neg (Nat.not_le.mpr hi)).trans ?_)
  exact congrArg (Prod.mk stDone) (if_pos he)

/-- The gear of a port at a short address is asked for its level and status. -/
def State.requeryGear (t : State) (p a : Nat) : State :=
  ((t.onPort p 4).filter fun n => t.dlAddr n == a).foldl (fun v n => v.dlPush p 4 (v.levelQuery n)) t

theorem dlRequery_enabled (s t : State) (h : s.ready .lbus) (ht : t = s.taken .lbus 2) (hi : t.lbusIndex < 16)
    (he : t.bit (LBUS_DL_CFG.EN t.lbusIndex) = true) :
    dlRequery s = (t.requeryGear t.lbusIndex (t.fld LBUS_CMD_ARG.ADDR)).ended .lbus 2 stDone := by
  subst ht
  refine runCmd_of_body .lbus 2 stDone _ s _ rfl h ((if_neg (Nat.not_le.mpr hi)).trans ?_)
  exact congrArg (Prod.mk stDone) (if_pos he)

/-- The frame that LBUS_RAW_TX gives. -/
def State.rawFrame (t : State) : DlFrame :=
  ⟨t.fld LBUS_RAW_TX.FRAME, if t.bit LBUS_RAW_TX.LONG then 24 else 16, .raw (t.bit LBUS_RAW_TX.ANSWER)⟩

/-- DL_RAW belongs to a port until its outcome. -/
def State.rawOn (t : State) (p : Nat) : State := { t with lbus := { t.lbus with rawPort := some p } }

theorem dlRaw_up (s t : State) (h : s.ready .lbus) (ht : t = s.taken .lbus 3) (hi : t.lbusIndex < 16)
    (hp : t.dlUp t.lbusIndex = true) : dlRaw s =
      (((t.rawOn t.lbusIndex).put LBUS_RAW_RX.VALID 0).dlPush t.lbusIndex 3 [t.rawFrame]).ended .lbus 3 stPending := by
  have hsends : ¬ (!t.dlUp t.lbusIndex) = true := by simp [hp]
  subst ht
  exact runCmd_of_body .lbus 3 stPending _ s _ rfl h ((if_neg (Nat.not_le.mpr hi)).trans (if_neg hsends))

theorem fioClear_done (s t : State) (h : s.ready .lbus) (ht : t = s.taken .lbus 4) (hi : t.lbusIndex < 72) :
    fioClear s = (t.put (LBUS_FIO_STAT.CFAULT t.lbusIndex) 0).ended .lbus 4 stDone := by
  subst ht
  exact runCmd_of_body .lbus 4 stDone _ s _ rfl h (if_neg (Nat.not_le.mpr hi))

/-! ### The event read -/

/-- Only words of the EPC window can be lost with their bank. -/
theorem lostWord_elsewhere (s : State) (a : Nat) (h : 0x300000 ≤ a) : s.lostWord a = false := by
  unfold State.lostWord
  rw [decide_eq_false (Nat.not_lt.mpr h)]
  simp

/-- A 32-bit read of LBUS_EVT takes the oldest event. -/
theorem readAt_lbusEvt (s : State) (src : Src) :
    s.readAt { src := src, wr := false, sz := 2, off := LBUS_EVT.adr } = lbusEvtRead s := by
  obtain ⟨d, hd⟩ := Option.isSome_iff_exists.mp (show (regAt LBUS_EVT.adr).isSome = true by decide)
  simp only [State.readAt, State.read32, hd]
  unfold State.readWord
  rw [lostWord_elsewhere s _ (by decide)]
  rfl

/-- The event that a read of LBUS_EVT takes is no longer there. -/
def State.dropEvent (s : State) : State := { s with lbus := { s.lbus with events := s.lbus.events.drop 1 } }

theorem readRow_lbusEvt (s : State) (src : Src) (hu : s.up .lbus = true) : readRow src LBUS_EVT.adr false s =
    ((s.dropEvent).pubEvt).reply { src := src, wr := false, sz := 2, off := LBUS_EVT.adr } (s.rd LBUS_EVT.adr) := by
  rw [readRow_elsewhere s src .lbus LBUS_EVT.adr false (by constructor <;> decide) hu (by decide),
    if_neg Bool.false_ne_true, readAt_lbusEvt]
  rfl

/-- Settles O22: each command by its body on the port or FIO it names, and the read by the word it reads. -/
theorem lightingBusCommandsComplete : Obligations.LightingBusCommandsComplete := by
  unfold Obligations.LightingBusCommandsComplete
  refine ⟨?_, ?_, ?_, ?_, ?_⟩
  · intro s t h ht hi he
    exact finish_of_eq s (dlCommission_enabled s t h ht hi he)
  · intro s t h ht hi he
    exact finish_of_eq s (dlRequery_enabled s t h ht hi he)
  · intro s t h ht hi hp
    exact finish_of_eq s (dlRaw_up s t h ht hi hp)
  · intro s t h ht hi
    exact finish_of_eq s (fioClear_done s t h ht hi)
  · intro s src hu
    exact finish_of_eq s (readRow_lbusEvt s src hu)

end Sys2Proof.Machine
end

section
/-! Analogue outputs, field inputs and outputs, serial buses and temperature inputs where they act (R258 to R261, R263 to
R267). -/

namespace Sys2Proof.Machine

/-! ### Analogue outputs, field inputs and temperatures -/

theorem aoMeasure_driven (a mv : Nat) (s : State) (hu : s.up .drv = true) (hd : s.bit (LBUS_AO_OUT.DRIVEN a) = true) :
    aoMeasure a mv s = s.aoJudge a mv := if_neg (by simp [hu, hd])

/-- An input is inactive, in its own word and in the word of all inputs. -/
def State.inputOff (s : State) (i : Nat) : State :=
  (s.putB (LBUS_FIO_STAT.LEVEL i) false).putB ⟨LBUS_FIO_IN.adr (i / 32), i % 32, 1⟩ false

/-- An active INPUT or DETECT pad that takes its inactive level. -/
theorem fioInputChange_inactive (i : Nat) (level : Bool) (s : State) (hu : s.up .drv = true) (hi : i < 72)
    (hm : s.fioMode i = 1 ∨ s.fioMode i = 2) (hl : level = s.cfB (LBUS_FIO_CFG.INV i)) (ha : s.fioActive i = true) :
    fioInputChange i level s = (s.inputOff i).idleRestart := by
  have hin : s.fioIn i = true := by rcases hm with h | h <;> simp [State.fioIn, h]
  have hacts : ¬ (!s.up .drv || decide (72 ≤ i) || s.fioMode i == 0 || decide (6 ≤ s.fioMode i)) = true := by
    rcases hm with h | h <;> simp [hu, h, Nat.not_le.mpr hi]
  have hoff : (level != s.cfB (LBUS_FIO_CFG.INV i)) = false := by simp [hl]
  unfold fioInputChange
  dsimp only
  rw [if_neg hacts, hoff, ha, if_neg (by simp [hin]), if_neg (by decide)]
  rfl

/-- An activation of a loop A waits for its loop B no longer. -/
def State.dropLoop (s : State) (i t : Nat) : State := { s with lbus := { s.lbus with loops := s.lbus.loops.erase (i, t) } }

theorem loopPairTimeout_due (i : Nat) (s : State) (x : Nat × Nat) (hu : s.up .drv = true)
    (hx : s.lbus.loops.find? (·.1 == i) = some x) (ht : x.2 + 2550000000 ≤ s.nt) :
    loopPairTimeout i s = (s.dropLoop i x.2).fioRecord i 0 255 (x.2 + 2550000000) := by
  unfold loopPairTimeout
  rw [hx]
  exact if_pos (by simp [hu, ht])

theorem tsMeasure_outOfRange (t r : Nat) (s : State) (hu : s.up .drv = true) (hr : 1500000 < r ∨ r < 50) : tsMeasure t r s =
    (((s.put (LBUS_TS_VAL.FAULT t) 1).putB (LBUS_TS_VAL.SHORT t) (r < 50)).put (LBUS_TS_VAL.TEMP t) 0x8000).raise
      LBUS_IRQ_STAT.TS_FAULT :=
  (if_neg (by simp [hu])).trans (if_pos hr)

theorem tsMeasure_inRange (t r : Nat) (s : State) (hu : s.up .drv = true) (hlo : 50 ≤ r) (hhi : r ≤ 1500000) : tsMeasure t r s =
    ((s.put (LBUS_TS_VAL.FAULT t) 0).put (LBUS_TS_VAL.SHORT t) 0).putI (LBUS_TS_VAL.TEMP t)
      (tsTemp r (10 * s.fld (LBUS_TS_CFG.R25 t)) (s.fld (LBUS_TS_CFG.BETA t))) :=
  (if_neg (by simp [hu])).trans (if_neg (by omega))

/-! ### Contactors -/

theorem contactorEval_commanding (s : State) (hu : s.up .drv = true) (hm : s.mayCommand = true) : contactorEval s =
    ((List.range 72).filter fun i => s.fioMode i == 4).foldl State.contEval s := if_pos (by simp [hu, hm])

/-- What a contactor's feedback shows: 0 as commanded, 1 open when on, 2 closed when off (R263). -/
def State.contShown (s : State) (i : Nat) : Nat :=
  if s.bit (LBUS_FIO_STAT.OUT i) = s.fioActive (s.cf (LBUS_FIO_CONT.FB i)) then 0
  else if s.bit (LBUS_FIO_STAT.OUT i) then 1 else 2

/-- A contactor's fault takes a code; one other than 0 has its interrupt and its log event. -/
def State.setContFault (s : State) (i c : Nat) : State :=
  if c = 0 then s.put (LBUS_FIO_STAT.CFAULT i) c
  else ((s.put (LBUS_FIO_STAT.CFAULT i) c).raise LBUS_IRQ_STAT.CONT_FAULT).logEv 15 3 (leBytes 1 i ++ leBytes 1 c)

/-- A contactor's feedback counts once it has had its time since the last switching. -/
theorem contactorFbCheck_changed (i : Nat) (s : State) (hu : s.up .drv = true) (hm : s.fioMode i = 4)
    (he : s.cfB (LBUS_FIO_CONT.FB_EN i) = true) (hf : s.cf (LBUS_FIO_CONT.FB i) ≤ 71)
    (ht : s.sinceOut i (s.cf (LBUS_FIO_CTIME.FB_10MS i) * 10 * msec) = false)
    (hc : s.contShown i ≠ s.fld (LBUS_FIO_STAT.CFAULT i)) : contactorFbCheck i s = s.setContFault i (s.contShown i) :=
  (if_neg (by simp [hu, hm, he, ht, Nat.not_lt.mpr hf])).trans (if_neg hc)

/-! ### Serial ports in HOST mode -/

/-- A frame goes to the port's up queue in pieces of 256 bytes. -/
def State.sbDeliver (s : State) (p : Nat) (b : List Byte) : State :=
  (split256 b.length b).foldl (fun t x => t.sbUp (t.cf (LBUS_SB_HOST.HMQ p)) x) s

/-- The boundary of a port's H words leaves its mode. -/
theorem sbMode_sbBound (s : State) (p : Nat) : (s.sbBound p).sbMode p = s.sbMode p := rfl

theorem sbFrameRx_host (p : Nat) (b : List Byte) (bad : Bool) (s : State) (hu : s.up .lbus = true) (hm : s.sbMode p = 1) :
    sbFrameRx p b bad s =
      if bad then (s.sbBound p).bump (LBUS_SB_STAT.CRC_ERR p) else (s.sbBound p).sbDeliver p b := by
  unfold sbFrameRx
  dsimp only
  rw [if_neg (by simp [hu, hm]), if_pos ((sbMode_sbBound s p).trans hm)]
  rfl

/-- What became of a packet taken from a down queue: sent, unless there was none or it is corrupt. -/
def sbSend (p q : Nat) (bad : Bool) (r : Option (List HWord) × State) : State :=
  if bad || (r.1.getD []).any (·.poison) || r.1.isNone then r.2
  else r.2.emit (.sb p) (packetBytes (r.2.fld (HMQ_Q_CFG.TAIL q)) (r.1.getD []))

theorem sbFrameTx_host (p : Nat) (bad : Bool) (s : State) (hu : s.up .lbus = true) (hc : s.mayCommand = true)
    (hm : s.sbMode p = 1) (hq : s.sbOf (s.cf (LBUS_SB_HOST.HMQ p)) = some p) : sbFrameTx p bad s =
      sbSend p (s.cf (LBUS_SB_HOST.HMQ p)) bad ((s.sbBound p).takeDown (s.cf (LBUS_SB_HOST.HMQ p)) bad) := by
  unfold sbFrameTx
  dsimp only
  rw [if_neg (by simp [hu, hc, hm]), if_neg (by simp [hq])]
  rcases (s.sbBound p).takeDown (s.cf (LBUS_SB_HOST.HMQ p)) bad with ⟨_ | ws, v⟩ <;> simp [sbSend]

/-! ### Serial ports in POLL mode -/

/-- An entry's poll is due where it has not run yet, or its period is over (R266). -/
theorem sbPoll_due (p k : Nat) (s u : State) (hu : s.up .lbus = true) (hc : s.mayCommand = true) (hb : u = s.sbBound p)
    (hm : u.sbMode p = 2) (he : u.cfB (LBUS_SB_POLL_W0.EN p k) = true) (hw : (u.pollRun p k).waiting = false)
    (ht : (u.pollRun p k).at_ = 0 ∨
      (u.pollRun p k).at_ + clampN 100 60000 (u.cf (LBUS_SB_POLL_W1.POLL_MS p k)) * msec ≤ u.clk) :
    sbPoll p k s = (u.setPoll { u.pollRun p k with at_ := max 1 u.clk, waiting := true }).emit (.sb p)
      (pollRequest (u.cf (LBUS_SB_POLL_W0.UNIT p k))) := by
  have hup : u.up .lbus = true := hb ▸ hu
  have hcmd : u.mayCommand = true := hb ▸ hc
  have hdue : ((u.pollRun p k).at_ != 0 && decide (u.clk <
      (u.pollRun p k).at_ + clampN 100 60000 (u.cf (LBUS_SB_POLL_W1.POLL_MS p k)) * msec)) = false := by
    rcases ht with h | h
    · simp [h]
    · simp [Nat.not_lt.mpr h]
  subst hb
  exact if_neg (by simp only [hup, hcmd, hm, he, hw, hdue]; decide)

/-- An answer counts where its poll waits for one. -/
theorem sbPollAnswer_awaited (p k count kind speed age : Nat) (bad : Bool) (s : State) (hu : s.up .lbus = true)
    (hm : s.sbMode p = 2) (hw : (s.pollRun p k).waiting = true) : sbPollAnswer p k count kind speed age bad s =
      (if bad then (s.bump (LBUS_SB_STAT.CRC_ERR p)).pollBad p k else s.pollGood p k count kind speed age).sbBound p :=
  if_neg (by simp [hu, hm, hw])

/-- The first good answer of an entry in order only sets its baseline. -/
theorem pollGood_baseline (s : State) (p k count kind speed age : Nat) (hn : (s.pollRun p k).count = none)
    (hf : bitOf (s.fld (LBUS_SB_STAT.ENT_FAULT p)) k = false) : s.pollGood p k count kind speed age =
      s.setPoll { s.pollRun p k with count := some (count % 65536), bad := 0, waiting := false } := by
  unfold State.pollGood
  dsimp only
  rw [hn, hf]
  rfl

theorem sbPollTimeout_due (p k : Nat) (s : State) (hu : s.up .lbus = true) (hm : s.sbMode p = 2)
    (hw : (s.pollRun p k).waiting = true) (ht : (s.pollRun p k).at_ + 100 * msec ≤ s.clk) :
    sbPollTimeout p k s = ((s.bump (LBUS_SB_STAT.TIMEOUT p)).pollBad p k).sbBound p :=
  if_pos (by simp [hu, hm, hw, ht])

/-- Settles O23: each event where its pad, port or entry is in the mode and the state that it asks for. -/
theorem fieldIoComplete : Obligations.FieldIoComplete := by
  unfold Obligations.FieldIoComplete
  refine ⟨?_, ?_, ?_, ?_, ?_, ?_, ?_, ?_, ?_, ?_, ?_, ?_, ?_, ?_⟩
  · intro s a mv hu hd
    exact finish_of_eq s (aoMeasure_driven a.val mv.toNat s hu hd)
  · intro s n level hu hm hl ha
    exact finish_of_eq s (fioInputChange_inactive n.val level s hu n.isLt hm hl ha)
  · intro s n x hu hx ht
    exact finish_of_eq s (loopPairTimeout_due n.val s x hu hx ht)
  · intro s hu hm
    exact finish_of_eq s (contactorEval_commanding s hu hm)
  · rintro s n _ hu hm he hf ht rfl hc
    exact finish_of_eq s (contactorFbCheck_changed n.val s hu hm he hf ht hc)
  · intro s p b hu hm _
    exact finish_of_eq s (sbFrameRx_host p.val b false s hu hm)
  · intro s p b hu hm
    exact finish_of_eq s (sbFrameRx_host p.val b true s hu hm)
  · rintro s p bad _ hu hc hm hq rfl
    exact finish_of_eq s (sbFrameTx_host p.val bad s hu hc hm hq)
  · intro s p k u hu hc hb hm he hw ht
    exact finish_of_eq s (sbPoll_due p.val k.val s u hu hc hb hm he hw ht)
  · intro s p k count kind speed age hu hm hw
    exact finish_of_eq s (sbPollAnswer_awaited p.val k.val count.toNat kind.toNat speed.toNat age.toNat true s hu hm hw)
  · intro s p k count kind speed age hu hm hw hn hf
    exact finish_of_eq s ((sbPollAnswer_awaited p.val k.val count.toNat kind.toNat speed.toNat age.toNat false s hu hm hw).trans
      (congrArg (State.sbBound · p.val) (pollGood_baseline s p.val k.val count.toNat kind.toNat speed.toNat age.toNat hn hf)))
  · intro s p k hu hm hw ht
    exact finish_of_eq s (sbPollTimeout_due p.val k.val s hu hm hw ht)
  · intro s t r hu hr
    exact finish_of_eq s (tsMeasure_outOfRange t.val r s hu hr)
  · intro s t r hu hlo hhi
    exact finish_of_eq s (tsMeasure_inRange t.val r s hu hlo hhi)

end Sys2Proof.Machine
end

section
/-! Radio channels as they send: enabling, medium access, the end of a transmission and its acknowledgement (R270, R276, R277,
R280). -/

namespace Sys2Proof.Machine

/-! ### What ends on a channel -/

/-- A channel's transmission is over. -/
def State.stopTx (s : State) (ch : Nat) : State := s.updChan ch fun c => { c with tx := none }

/-- A channel's listening window is over. -/
def State.endListening (s : State) (ch : Nat) : State := s.updChan ch fun c => { c with window := none }

/-- A channel's acknowledgement is due no longer. -/
def State.takeAck (s : State) (ch : Nat) : State := s.updChan ch fun c => { c with ack := none }

/-! ### Enabling (R270) -/

theorem radChEnWrite_off (ch : Nat) (s : State) (hu : s.up .rad = true) :
    radChEnWrite ch false s = (s.put (RAD_CH_CTL.EN ch) 0).pubChan ch :=
  if_neg (by simp [hu])

theorem radChEnWrite_on (ch : Nat) (s : State) (hu : s.up .rad = true) (he : s.bit (RAD_CH_CTL.EN ch) = false) :
    radChEnWrite ch true s = s.enableRad ch (s.enabledChs ch) := by
  unfold radChEnWrite
  rw [if_neg (by simp [hu]), if_pos rfl, if_neg (by simp [he])]

/-! ### Medium access (R276) -/

/-- A channel's frame in service has its backoff over, on a channel that may start and is not occupied, and it waits for no
credit. -/
structure State.BackoffOver (s : State) (ch : Nat) (x : InService) : Prop where
  cur : (s.chan ch).cur = some x
  starts : s.canStart ch = true
  due : x.backoffAt ≤ s.clk
  tx : (s.chan ch).tx = none
  window : (s.chan ch).window = none
  rx : (s.chan ch).rxFrom = none
  credit : x.credit = false

/-- CCA has found `energy` dBm, or a valid SFD: the channel is busy above its threshold, and clear otherwise. -/
def State.afterCca (s : State) (ch : Nat) (energy : Int) (sfd : Bool) (x : InService) : State :=
  if s.cfI (RAD_CH_MAC.CCA_DBM ch) < energy || sfd then s.busy ch x else s.tryStart ch x

/-- A backoff that is over starts its frame at once where CCA is off, and by what CCA finds where it is on. -/
theorem csmaBackoffEnd_over (ch : Nat) (energy : Int) (sfd : Bool) (s : State) (x : InService) (h : s.BackoffOver ch x) :
    csmaBackoffEnd ch energy sfd s =
      if !s.cfB (RAD_CH_CTL.CCA_EN ch) then s.tryStart ch x else (s.noteNoise ch energy).afterCca ch energy sfd x := by
  have hacts : ¬ (!s.canStart ch || decide (s.clk < x.backoffAt) || (s.chan ch).tx.isSome || (s.chan ch).window.isSome ||
      (s.chan ch).rxFrom.isSome) = true := by
    simp [h.starts, h.tx, h.window, h.rx, Nat.not_lt.mpr h.due]
  unfold csmaBackoffEnd
  dsimp only
  rw [h.cur]
  dsimp only
  rw [if_neg hacts, if_neg (by simp [h.credit])]
  rfl

theorem afterCca_busy (s : State) (ch : Nat) (energy : Int) (sfd : Bool) (x : InService)
    (h : (s.cfI (RAD_CH_MAC.CCA_DBM ch) < energy || sfd) = true) : s.afterCca ch energy sfd x = s.busy ch x := if_pos h

theorem afterCca_clear (s : State) (ch : Nat) (energy : Int) (sfd : Bool) (x : InService)
    (h : (s.cfI (RAD_CH_MAC.CCA_DBM ch) < energy || sfd) = false) : s.afterCca ch energy sfd x = s.tryStart ch x :=
  if_neg (Bool.eq_false_iff.mp h)

/-! ### The end of a transmission (R277) -/

/-- A transmission that has ended: an acknowledgement leaves nothing to wait for, a frame that asks for one opens its window, and
any other frame is sent. -/
theorem txEnd_over (ch : Nat) (s : State) (t : Tx) (ht : (s.chan ch).tx = some t) (hc : t.stop ≤ s.clk) (hu : s.up .rad = true) :
    txEnd ch s =
      if t.kind = 2 then (s.stopTx ch).pubChan ch
      else if t.frame.wantsAck then (s.dropWindow ch).openWindow ch t.stop t.frame (t.kind == 1)
      else if t.kind = 0 then ((s.stopTx ch).txOk ch t.frame .sent).endCur ch
      else ((s.stopTx ch).txOk ch t.frame .sent).pubChan ch := by
  unfold txEnd
  rw [ht]
  exact if_neg (by simp [hu, Nat.not_lt.mpr hc])

/-! ### The listening window (R277) -/

theorem enhAckRx_heard (ch : Nat) (s : State) (w : Listen) (hw : (s.chan ch).window = some w) (hr : s.radOn ch = true)
    (hl : w.lost = false) (ho : w.opens ≤ s.clk) (hc : s.clk ≤ w.closes) (ht : w.timed = false) :
    enhAckRx ch s = ((s.endListening ch).txOk ch w.frame .acked).endCur ch := by
  unfold enhAckRx
  rw [hw]
  exact (if_neg (by simp [hr, hl, Nat.not_lt.mpr ho, Nat.not_lt.mpr hc])).trans (if_neg (by simp [ht]))

/-- The retries that a channel's frame in service has had. -/
def State.retriesHad (s : State) (ch : Nat) : Nat := ((s.chan ch).cur.map (·.retries)).getD 0

/-- The window of an untimed frame that closes empty fails the attempt. -/
theorem windowFailed_untimed (s : State) (ch : Nat) (w : Listen) (ht : w.timed = false) :
    s.windowFailed ch w = (s.endListening ch).attemptFailed ch w.frame (s.retriesHad ch) s.clk :=
  if_neg (by simp [ht])

theorem ackTimeout_closed (ch : Nat) (s : State) (w : Listen) (hw : (s.chan ch).window = some w) (hc : w.closes ≤ s.clk)
    (hu : s.up .rad = true) : ackTimeout ch s = s.windowFailed ch w := by
  unfold ackTimeout
  rw [hw]
  exact if_neg (by simp [hu, Nat.not_lt.mpr hc])

/-! ### Hardware acknowledgements (R280) -/

/-- A transmission of a channel that lasts beyond an instant. -/
def State.sendsPast (s : State) (ch at_ : Nat) : Bool := ((s.chan ch).tx.map fun t => decide (at_ < t.stop)).getD false

theorem sendsPast_silent (s : State) (ch at_ : Nat) (h : (s.chan ch).tx = none) : s.sendsPast ch at_ = false := by
  unfold State.sendsPast
  rw [h]
  rfl

/-- The antenna port or the ledger has no room for an acknowledgement at its instant (Table 10.4). -/
def State.ackSkipped (s : State) (ch : Nat) (a : AckDue) : Bool :=
  s.sendsPast ch a.at_ || s.sendsPast (partnerOf ch) a.at_ ||
    s.ackDisplaced ch a.at_ (a.at_ + s.ackTime ch a.ext.isSome * usec) || s.chCredit ch true < s.ackTime ch a.ext.isSome

theorem ackSkipped_free (s : State) (ch : Nat) (a : AckDue) (ht : (s.chan ch).tx = none)
    (hp : (s.chan (partnerOf ch)).tx = none)
    (hd : s.ackDisplaced ch a.at_ (a.at_ + s.ackTime ch a.ext.isSome * usec) = false)
    (hc : s.ackTime ch a.ext.isSome ≤ s.chCredit ch true) : s.ackSkipped ch a = false := by
  simp [State.ackSkipped, sendsPast_silent s _ _ ht, sendsPast_silent s _ _ hp, hd, hc]

/-- The frame that carries an acknowledgement. -/
def State.ackFrame (s : State) (ch : Nat) (a : AckDue) : Frame :=
  ⟨0, [], .all, 0, none, none, .none, some (s.ackPsdu ch a)⟩

/-- A due acknowledgement is taken, and sent unless the channel may not start or the acknowledgement is skipped. -/
theorem hwAckSend_due (ch : Nat) (s : State) (a : AckDue) (ha : (s.chan ch).ack = some a) (ht : a.at_ ≤ s.clk)
    (hu : s.up .rad = true) : hwAckSend ch s =
      if !(s.takeAck ch).canStart ch then (s.takeAck ch).pubChan ch
      else if s.ackSkipped ch a then ((s.takeAck ch).bump (RAD_CH_CNT_MISC.ACK_SKIPPED ch)).pubChan ch
      else (s.takeAck ch).startTx ch 2 ((s.takeAck ch).ackFrame ch a) a.at_ 0 (s.ackTime ch a.ext.isSome) := by
  unfold hwAckSend
  rw [ha]
  exact if_neg (by simp [hu, Nat.not_lt.mpr ht])

/-- Settles O24: each event where its channel is in the state that it asks for. -/
theorem radioSendingCompletes : Obligations.RadioSendingCompletes := by
  unfold Obligations.RadioSendingCompletes
  refine ⟨?_, ?_, ?_, ?_, ?_, ?_, ?_, ?_, ?_, ?_, ?_, ?_⟩
  · intro s ch hu
    exact finish_of_eq s (radChEnWrite_off ch.val s hu)
  · intro s ch hu he
    exact finish_of_eq s (radChEnWrite_on ch.val s hu he)
  · intro s ch energy sfd x hx hs hb ht hw hr hc hcca
    have hover : s.BackoffOver ch.val x := ⟨hx, hs, hb, ht, hw, hr, hc⟩
    exact finish_of_eq s ((csmaBackoffEnd_over ch.val energy sfd s x hover).trans (if_pos (by simp [hcca])))
  · intro s ch energy sfd x hx hs hb ht hw hr hc hcca hbusy
    have hover : s.BackoffOver ch.val x := ⟨hx, hs, hb, ht, hw, hr, hc⟩
    exact finish_of_eq s ((csmaBackoffEnd_over ch.val energy sfd s x hover).trans
      ((if_neg (by simp [hcca])).trans (afterCca_busy _ ch.val energy sfd x hbusy)))
  · intro s ch energy sfd x hx hs hb ht hw hr hc hcca hclear
    have hover : s.BackoffOver ch.val x := ⟨hx, hs, hb, ht, hw, hr, hc⟩
    exact finish_of_eq s ((csmaBackoffEnd_over ch.val energy sfd s x hover).trans
      ((if_neg (by simp [hcca])).trans (afterCca_clear _ ch.val energy sfd x hclear)))
  · intro s ch t ht hc hu hk
    exact finish_of_eq s ((txEnd_over ch.val s t ht hc hu).trans (if_pos hk))
  · intro s ch t ht hc hu hk hw
    exact finish_of_eq s ((txEnd_over ch.val s t ht hc hu).trans ((if_neg hk).trans (if_pos hw)))
  · intro s ch t ht hc hu hk hw
    exact finish_of_eq s ((txEnd_over ch.val s t ht hc hu).trans
      ((if_neg (by omega)).trans ((if_neg (by simp [hw])).trans (if_pos hk))))
  · intro s ch w hw hr hl ho hc ht
    exact finish_of_eq s (enhAckRx_heard ch.val s w hw hr hl ho hc ht)
  · intro s ch w hw hc hu ht
    exact finish_of_eq s ((ackTimeout_closed ch.val s w hw hc hu).trans (windowFailed_untimed s ch.val w ht))
  · rintro s ch a _ ha ht hu rfl hs
    exact finish_of_eq s ((hwAckSend_due ch.val s a ha ht hu).trans
      (if_pos (by simpa [State.takeAck] using hs)))
  · rintro s ch a _ ha ht hu rfl hs hx hp hd hc
    have hroom : s.ackSkipped ch.val a = false := ackSkipped_free s ch.val a hx hp hd hc
    exact finish_of_eq s ((hwAckSend_due ch.val s a ha ht hu).trans
      ((if_neg (by simpa [State.takeAck] using hs)).trans (if_neg (by simp [hroom]))))

end Sys2Proof.Machine
end

section
/-! Timed frames, TIME frames, the ledger's second, and the commands of RAD where they are carried out (R274, R281, R282, R285,
R295). -/

namespace Sys2Proof.Machine

/-! ### Preparing a timed frame (R281, R282) -/

/-- A channel's timed frame that is not prepared and whose 2 ms have come. -/
def State.unprepared (s : State) (ch : Nat) : Option Timed :=
  (s.chan ch).timed.find? fun t => t.ready.isNone && t.frame.launch.getD 0 ≤ s.nt + 2000000

/-- It is discarded on a channel that may not send; on any other it is moved by a second where it is a TIME frame at a FIRE's
instant, and booked otherwise. -/
theorem timedFramePrepare_due (ch : Nat) (s : State) (t : Timed) (ht : s.unprepared ch = some t) (hu : s.up .rad = true) :
    timedFramePrepare ch s =
      if !s.radOn ch || !s.mayCommand then ((s.dropTimed ch t).outcome ch t.frame .discarded).pubChan ch
      else if t.frame.typ = 0x0C ∧ s.fireAt ch t.frame.launch then (s.dropTimed ch t).addTimed ch (timeLater t.frame)
      else s.bookTimed ch t := by
  unfold timedFramePrepare
  rw [show (s.chan ch).timed.find? _ = some t from ht]
  exact if_neg (by simp [hu])

/-! ### Launching a timed frame (R281) -/

/-- A timed frame waits on until a transmission of its antenna port ends. -/
def State.delayTimed (s : State) (ch : Nat) (t : Timed) (e : Nat) : State :=
  s.updChan ch fun c => { c with timed := c.timed.map fun x => if x == t then { t with notBefore := e } else x }

/-- A frame at its instant with nothing before it starts, or waits for the antenna port. -/
theorem timedFrameLaunch_due (ch : Nat) (s : State) (t : Timed) (ht : s.timedDue ch = some t) (hs : s.canStart ch = true)
    (hw : s.timedWaits ch t = false) : timedFrameLaunch ch s =
      match s.portBusy ch with
      | some e => s.delayTimed ch t e
      | none => s.launchTimed ch t := by
  unfold timedFrameLaunch
  rw [ht]
  exact if_neg (by simp [hs, hw])

theorem timedFrameLaunch_free (ch : Nat) (s : State) (t : Timed) (ht : s.timedDue ch = some t) (hs : s.canStart ch = true)
    (hw : s.timedWaits ch t = false) (hp : s.portBusy ch = none) : timedFrameLaunch ch s = s.launchTimed ch t := by
  rw [timedFrameLaunch_due ch s t ht hs hw, hp]

theorem timedFrameLaunch_busy (ch : Nat) (s : State) (t : Timed) (e : Nat) (ht : s.timedDue ch = some t)
    (hs : s.canStart ch = true) (hw : s.timedWaits ch t = false) (hp : s.portBusy ch = some e) :
    timedFrameLaunch ch s = s.delayTimed ch t e := by
  rw [timedFrameLaunch_due ch s t ht hs hw, hp]

/-! ### Seconds (R282, R285) -/

/-- The TIME frames of a second are being prepared. -/
def State.markTime (s : State) (sec : Nat) : State := { s with rad := { s.rad with timeAt := sec } }

/-- A channel's TIME frame for a second. -/
def State.queueTime (s : State) (ch sec : Nat) : State :=
  (s.takeTsn 4096).2.addTimed ch
    ⟨0x0C, timeMsg (s.takeTsn 4096).1 sec, .all, 2, some (sec * 1000000000), none, .time, none⟩

theorem timeFrame_due (s : State) (hu : s.up .rad = true) (hn : s.cf RAD_CTL.TIME_S ≠ 0) (hv : s.ntValid = true)
    (hm : (s.ntSec + 1) % s.cf RAD_CTL.TIME_S = 0) (ht : s.rad.timeAt ≠ s.ntSec + 1) : timeFrame s =
      ((List.range 8).filter (s.markTime (s.ntSec + 1)).radOn).foldl (fun v ch => v.queueTime ch (s.ntSec + 1))
        (s.markTime (s.ntSec + 1)) :=
  if_neg (by simp [hu, hn, hv, hm, ht])

/-- Every window of the ledgers, the channels' own and the partner's included, moves on by a second. -/
def State.moveLedgers (s : State) : State :=
  { s with
    rad := { s.rad with ledger := s.rad.ledger.map nextBucket, secAt := s.rad.secAt + secs
                        chans := s.rad.chans.map fun c => { c with share := nextBucket c.share } }
    pair := { s.pair with ledger := s.pair.ledger.map nextBucket } }

theorem ledgerSecond_due (s : State) (hu : s.up .rad = true) (he : s.bit RAD_CTL.EN = true) (ht : s.rad.secAt + secs ≤ s.clk) :
    ledgerSecond s = s.moveLedgers.pubLedger :=
  if_pos (by simp [hu, he, ht])

/-! ### The commands of RAD (R274, R295) -/

theorem radAirtime_done (s t : State) (h : s.ready .rad) (ht : t = s.taken .rad 1) (hl : t.fld RAD_CMD_ARG.LEN ≠ 0) :
    radAirtime s =
      (t.put RAD_AIRTIME.US (t.airtime (t.fld RAD_CMD_ARG.CH) (t.fld RAD_CMD_ARG.LEN))).ended .rad 1 stDone := by
  subst ht
  exact runCmd_of_body .rad 1 stDone _ s _ rfl h (if_neg hl)

theorem chFlush_done (s t : State) (h : s.ready .rad) (ht : t = s.taken .rad 2) :
    chFlush s = (t.flushChan (t.fld RAD_CMD_ARG.CH)).ended .rad 2 stDone := by
  subst ht
  exact runCmd_of_body .rad 2 stDone _ s _ rfl h rfl

/-- Settles O25: a timed frame by its channel and its antenna port, each second where it is due, and the commands by their
bodies. -/
theorem timedFramesComplete : Obligations.TimedFramesComplete := by
  unfold Obligations.TimedFramesComplete
  refine ⟨?_, ?_, ?_, ?_, ?_, ?_, ?_, ?_, ?_⟩
  · intro s ch t ht hu hr hm hf
    have halone : ¬ (t.frame.typ = 0x0C ∧ s.fireAt ch.val t.frame.launch = true) := by
      rintro ⟨htime, hfire⟩
      exact hf.elim (· htime) (by simp [hfire])
    exact finish_of_eq s ((timedFramePrepare_due ch.val s t ht hu).trans
      ((if_neg (by simp [hr, hm])).trans (if_neg halone)))
  · intro s ch t ht hu hr hm htime hfire
    exact finish_of_eq s ((timedFramePrepare_due ch.val s t ht hu).trans
      ((if_neg (by simp [hr, hm])).trans (if_pos ⟨htime, hfire⟩)))
  · intro s ch t ht hu hr
    exact finish_of_eq s ((timedFramePrepare_due ch.val s t ht hu).trans (if_pos (by simp [hr])))
  · intro s ch t ht hs hw hp
    exact finish_of_eq s (timedFrameLaunch_free ch.val s t ht hs hw hp)
  · intro s ch t e ht hs hw hp
    exact finish_of_eq s (timedFrameLaunch_busy ch.val s t e ht hs hw hp)
  · intro s hu hn hv hm ht
    exact finish_of_eq s (timeFrame_due s hu hn hv hm ht)
  · intro s hu he ht
    exact finish_of_eq s (ledgerSecond_due s hu he ht)
  · intro s t h ht hl
    exact finish_of_eq s (radAirtime_done s t h ht hl)
  · intro s t h ht
    exact finish_of_eq s (chFlush_done s t h ht)

end Sys2Proof.Machine
end

section
/-! Receptions of a radio channel: how one starts, and what becomes of its frame (R289, R290). -/

namespace Sys2Proof.Machine

/-! ### The start of a reception (R289) -/

/-- A reception starts on a channel, or is lost from its start. -/
def State.startRx (s : State) (ch : Nat) (lost : Bool) : State :=
  (s.updChan ch fun c => { c with rxFrom := if lost then none else some s.clk, rxLost := lost }).pubChan ch

theorem rxSfd_full (ch : Nat) (long : Bool) (s : State) (hl : s.listens ch = true) :
    rxSfd ch long true s = (s.bump (RAD_CH_CNT_RX2.OVERRUN ch)).raise RAD_IRQ_STAT.RX_OVERRUN :=
  if_neg (by simp [hl])

theorem rxSfd_long (ch : Nat) (s : State) (hl : s.listens ch = true) :
    rxSfd ch true false s = s.bump (RAD_CH_CNT_RX2.TOO_LONG ch) :=
  if_neg (by simp [hl])

/-- A reception that finds a bank and is not too long is lost, and counted, while the antenna port sends. -/
theorem rxSfd_fits (ch : Nat) (s : State) (hl : s.listens ch = true) : rxSfd ch false false s =
    (if (s.portBusy ch).isSome then s.bump (RAD_CH_CNT_RX2.BLANKED ch) else s).startRx ch (s.portBusy ch).isSome :=
  if_neg (by simp [hl])

theorem rxSfd_free (ch : Nat) (s : State) (hl : s.listens ch = true) (hp : s.portBusy ch = none) :
    rxSfd ch false false s = s.startRx ch false := by
  rw [rxSfd_fits ch s hl, hp, Option.isSome_none, if_neg Bool.false_ne_true]

theorem rxSfd_busy (ch : Nat) (s : State) (e : Nat) (hl : s.listens ch = true) (hp : s.portBusy ch = some e) :
    rxSfd ch false false s = (s.bump (RAD_CH_CNT_RX2.BLANKED ch)).startRx ch true := by
  rw [rxSfd_fits ch s hl, hp, Option.isSome_some, if_pos rfl]

/-! ### The frame of a reception (R290, Table 10.5) -/

/-- The reception in progress is over. -/
def State.endRx (s : State) (ch : Nat) : State :=
  (s.updChan ch fun c => { c with rxFrom := none, rxLost := false }).pubChan ch

/-- The steps of Table 10.5 on a frame: its FCS, its destination, its security, its source. -/
def State.judgeRx (v : State) (ch : Nat) (r : RxFrame) : State :=
  if !r.fcsOk then v.bump (RAD_CH_CNT_RX.FCS_ERR ch)
  else if !v.addressed r then v.bump (RAD_CH_CNT_RX2.FILTERED ch)
  else if !r.secured then
    if leAt r.payload 0 1 = 0x7F then v else v.bump (RAD_CH_CNT_MISC.UNSECURED ch)
  else if r.srcExt then v.rxJoin ch r
  else if r.src < 4096 && v.epLive r.src && v.isRadio r.src then v.rxLink ch r.src r
  else v.bump EPC_RX_DROP.UNKNOWN_SRC

/-- A frame that was not lost is judged once its reception is over. -/
theorem rxFrame_kept (ch : Nat) (r : RxFrame) (s v : State) (hl : s.listens ch = true) (hk : (s.chan ch).rxLost = false)
    (hv : v = s.endRx ch) : rxFrame ch r s = v.judgeRx ch r := by
  subst hv
  exact (if_neg (by simp [hl])).trans (if_neg (by simp [hk]))

section
variable (v : State) (ch : Nat) (r : RxFrame)

theorem judgeRx_badFcs (hf : r.fcsOk = false) : v.judgeRx ch r = v.bump (RAD_CH_CNT_RX.FCS_ERR ch) :=
  if_pos (by simp [hf])

theorem judgeRx_foreign (hf : r.fcsOk = true) (ha : v.addressed r = false) :
    v.judgeRx ch r = v.bump (RAD_CH_CNT_RX2.FILTERED ch) :=
  (if_neg (by simp [hf])).trans (if_pos (by simp [ha]))

theorem judgeRx_unsecured (hf : r.fcsOk = true) (ha : v.addressed r = true) (hs : r.secured = false)
    (hp : leAt r.payload 0 1 ≠ 0x7F) : v.judgeRx ch r = v.bump (RAD_CH_CNT_MISC.UNSECURED ch) :=
  (if_neg (by simp [hf])).trans ((if_neg (by simp [ha])).trans ((if_pos (by simp [hs])).trans (if_neg hp)))

/-- A secured frame to the module is judged by its source. -/
theorem judgeRx_secured (hf : r.fcsOk = true) (ha : v.addressed r = true) (hs : r.secured = true) : v.judgeRx ch r =
    if r.srcExt then v.rxJoin ch r
    else if r.src < 4096 && v.epLive r.src && v.isRadio r.src then v.rxLink ch r.src r
    else v.bump EPC_RX_DROP.UNKNOWN_SRC :=
  (if_neg (by simp [hf])).trans ((if_neg (by simp [ha])).trans (if_neg (by simp [hs])))

end

/-- Settles O26: the start by the channel's banks and its antenna port, and the frame by the step of Table 10.5 that ends it. -/
theorem radioReceptionCompletes : Obligations.RadioReceptionCompletes := by
  unfold Obligations.RadioReceptionCompletes
  refine ⟨?_, ?_, ?_, ?_, ?_, ?_, ?_, ?_, ?_, ?_⟩
  · intro s ch long hl
    exact finish_of_eq s (rxSfd_full ch.val long s hl)
  · intro s ch hl
    exact finish_of_eq s (rxSfd_long ch.val s hl)
  · intro s ch hl hp
    exact finish_of_eq s (rxSfd_free ch.val s hl hp)
  · intro s ch e hl hp
    exact finish_of_eq s (rxSfd_busy ch.val s e hl hp)
  · intro s ch r v hl hk hv hf
    exact finish_of_eq s ((rxFrame_kept ch.val r s v hl hk hv).trans (judgeRx_badFcs v ch.val r hf))
  · intro s ch r v hl hk hv hf ha
    exact finish_of_eq s ((rxFrame_kept ch.val r s v hl hk hv).trans (judgeRx_foreign v ch.val r hf ha))
  · intro s ch r v hl hk hv hf ha hs hp
    exact finish_of_eq s ((rxFrame_kept ch.val r s v hl hk hv).trans (judgeRx_unsecured v ch.val r hf ha hs hp))
  · intro s ch r v hl hk hv hf ha hs hx
    exact finish_of_eq s ((rxFrame_kept ch.val r s v hl hk hv).trans
      ((judgeRx_secured v ch.val r hf ha hs).trans (if_pos hx)))
  · intro s ch r v hl hk hv hf ha hs hx hn he hr
    exact finish_of_eq s ((rxFrame_kept ch.val r s v hl hk hv).trans
      ((judgeRx_secured v ch.val r hf ha hs).trans
        ((if_neg (by simp [hx])).trans (if_pos (by simp [hn, he, hr])))))
  · intro s ch r v hl hk hv hf ha hs hx he
    exact finish_of_eq s ((rxFrame_kept ch.val r s v hl hk hv).trans
      ((judgeRx_secured v ch.val r hf ha hs).trans
        ((if_neg (by simp [hx])).trans (if_neg (by simp [he])))))

end Sys2Proof.Machine
end

section
/-! Packets at the ports of the switch: how they enter, who serves each port, and the boundary of a tenant's words (R300, R302,
R304, R306, R308). -/

namespace Sys2Proof.Machine

/-! ### Packets that enter (R302, R304, R308) -/

/-- What a packet that entered at port `p` offers on behalf of tenant `t`, to its one queue. -/
def State.ingressOffer (s : State) (p : Nat) (k : PacketIn) (t : Nat) : Offer :=
  ⟨k.bytes.length, t, k.cls % 8, (s.tenantOf p k.bytes).2, p, k.hmq % 32, .raw k.bytes, [k.queue % 4256], none⟩

theorem packetIngress_ethernet (p : Nat) (fcsOk joined : Bool) (k : PacketIn) (s : State) (hp : p = 8 ∨ p = 9) :
    packetIngress p fcsOk joined k s = s.bbFrame (p - 8) fcsOk joined k := if_pos hp

theorem packetIngress_packet (p : Nat) (fcsOk joined : Bool) (k : PacketIn) (s : State) (h8 : p ≠ 8) (h9 : p ≠ 9) :
    packetIngress p fcsOk joined k s = s.packetIn p k := if_neg (not_or.mpr ⟨h8, h9⟩)

theorem packetIn_tooLong (s : State) (p : Nat) (k : PacketIn) (hu : s.up .swc = true) (hl : 9728 < k.bytes.length) :
    s.packetIn p k = s.bump (SWC_PORT_CNT.TOO_LONG p) := by
  have hne : k.bytes ≠ [] := List.ne_nil_of_length_pos (by omega)
  exact (if_neg (by simp [hu, hne])).trans (if_pos hl)

section
variable (s : State) (p : Nat) (k : PacketIn) (hu : s.up .swc = true) (hne : k.bytes ≠ []) (hl : k.bytes.length ≤ 9728)
include hu hne hl

theorem packetIn_queue (hg : k.group = none) : s.packetIn p k =
    (s.offer (s.ingressOffer p k (s.tenantFor (k.queue % 4256) (s.tenantOf p k.bytes).1))).2 := by
  unfold State.packetIn
  rw [if_neg (by simp [hu, hne]), if_neg (by omega), hg]
  rfl

theorem packetIn_group (g : Nat) (hg : k.group = some g) : s.packetIn p k =
    s.admitGroup (s.ingressOffer p k (s.tenantOf p k.bytes).1) (g % 1024) := by
  unfold State.packetIn
  rw [if_neg (by simp [hu, hne]), if_neg (by omega), hg]
  rfl

end

/-! ### Who serves a port (R300) -/

section
variable (p : Nat) (s : State) (hu : s.up .swc = true)
include hu

theorem portDequeue_radio (hp : p < 8) : portDequeue p s = radDequeue p s := by
  simp [portDequeue, hu, hp]

theorem portDequeue_backbone (hp : p = 8 ∨ p = 9) : portDequeue p s = s.bbDequeue (p - 8) := by
  rcases hp with rfl | rfl <;> simp [portDequeue, hu]

theorem portDequeue_mistazil (hp : p = 10 ∨ p = 11) : portDequeue p s = s.mzDequeue (p - 10) := by
  rcases hp with rfl | rfl <;> simp [portDequeue, hu]

theorem portDequeue_bus : portDequeue 13 s = busDequeue s := by simp [portDequeue, hu]

theorem portDequeue_upQueues : portDequeue 15 s = hmqUpDeliver s := by simp [portDequeue, hu]

theorem portDequeue_usb : portDequeue 17 s = usbBulkIn s := by simp [portDequeue, hu]

theorem portDequeue_core (hp : p = 12 ∨ p = 14 ∨ p = 16 ∨ p = 18 ∨ p = 19) : portDequeue p s = coreDequeue p s := by
  rcases hp with rfl | rfl | rfl | rfl | rfl <;> simp [portDequeue, hu]

end

/-- A consumer inside the module takes the packet that its port's scheduler gives. -/
theorem coreDequeue_scheduled (p : Nat) (s v : State) (d : Desc) (hd : s.schedule p = (some d, v)) :
    coreDequeue p s = (v.dropDesc d).emit (.core p) (v.egress d) := by
  unfold coreDequeue
  rw [hd]

theorem busDequeue_level (s v : State) (d : Desc) (e l c f : Nat) (hd : s.schedule 13 = (some d, v))
    (hb : d.body = .bus e l c f) : busDequeue s = (v.dropDesc d).dlLevel e l f := by
  unfold busDequeue
  rw [hd]
  dsimp only
  rw [hb]

/-! ### The boundary of a tenant's words (R306) -/

/-- A tenant's words wait for their boundary no longer, and are in force. -/
def State.tenantInForce (s : State) (t : Nat) : State :=
  State.boundary { s with swc := { s.swc with writeAt := s.swc.writeAt.filter fun x => !isTenantWord t x.1 } }
    (SWC_TENANT_CFG.adr t) (SWC_TENANT_CFG.adr t + 0x40)

/-- Words that are due come into force, and the quota in force then is judged against what the tenant uses. -/
theorem quotaBoundary_due (t : Nat) (s v : State) (hu : s.up .swc = true)
    (hd : (s.swc.writeAt.any fun x => isTenantWord t x.1 && s.swcDue x) = true) (hv : v = s.tenantInForce t) :
    quotaBoundary t s =
      if v.cf (SWC_TENANT_CFG.QUOTA t) < v.fld (SWC_TENANT_STAT.USE t) then
        (v.put (SWC_TENANT_STAT.OVER t) 1).raise SWC_IRQ_STAT.TENANT_OVER
      else v.checkOver t := by
  subst hv
  exact if_neg (by rw [hu, hd]; decide)

/-- Settles O27: a packet by its port, its length and its group, a port by who serves it, and a tenant's words where they are
due. -/
theorem switchPacketsComplete : Obligations.SwitchPacketsComplete := by
  unfold Obligations.SwitchPacketsComplete
  refine ⟨?_, ?_, ?_, ?_, ?_, ?_, ?_, ?_, ?_, ?_, ?_, ?_⟩
  · rintro s p fcsOk joined k _ _ h8 h9 hu hne hl hg rfl rfl
    exact finish_of_eq s ((packetIngress_packet p.val fcsOk joined k s h8 h9).trans (packetIn_queue s p.val k hu hne hl hg))
  · rintro s p fcsOk joined k _ _ g h8 h9 hu hne hl hg rfl rfl
    exact finish_of_eq s ((packetIngress_packet p.val fcsOk joined k s h8 h9).trans (packetIn_group s p.val k hu hne hl g hg))
  · intro s p fcsOk joined k h8 h9 hu hl
    exact finish_of_eq s ((packetIngress_packet p.val fcsOk joined k s h8 h9).trans (packetIn_tooLong s p.val k hu hl))
  · intro s p fcsOk joined k hp
    exact finish_of_eq s (packetIngress_ethernet p.val fcsOk joined k s hp)
  · intro s p hu hp
    exact finish_of_eq s (portDequeue_radio p.val s hu hp)
  · intro s p hu hp
    exact finish_of_eq s (portDequeue_backbone p.val s hu hp)
  · intro s p hu hp
    exact finish_of_eq s (portDequeue_mistazil p.val s hu hp)
  · intro s p d v hu hp hd hv
    exact finish_of_eq s ((portDequeue_core p.val s hu hp).trans
      (coreDequeue_scheduled p.val s v d (Prod.ext hd hv.symm)))
  · intro s p d v e l c f hu hp hd hv hb
    exact finish_of_eq s ((hp ▸ portDequeue_bus s hu).trans (busDequeue_level s v d e l c f (Prod.ext hd hv.symm) hb))
  · intro s p hu hp
    exact finish_of_eq s (hp ▸ portDequeue_upQueues s hu)
  · intro s p hu hp
    exact finish_of_eq s (hp ▸ portDequeue_usb s hu)
  · intro s t v hu hd hv
    exact finish_of_eq s (quotaBoundary_due t.val s v hu hd hv)

end Sys2Proof.Machine
end

section
/-! Claims, the cell window and the commands of SWC where they are carried out (R310 to R313, R325). -/

namespace Sys2Proof.Machine

/-! ### Claims and the cell window (R310, R311) -/

/-- A 32-bit read of SWC_CLAIM claims a cell. -/
theorem readAt_swcClaim (s : State) (src : Src) :
    s.readAt { src := src, wr := false, sz := 2, off := SWC_CLAIM.adr } = swcClaim src s := by
  obtain ⟨d, hd⟩ := Option.isSome_iff_exists.mp (show (regAt SWC_CLAIM.adr).isSome = true by decide)
  simp only [State.readAt, State.read32, hd]
  unfold State.readWord
  rw [lostWord_elsewhere s _ (by decide)]
  rfl

theorem readRow_swcClaim (s : State) (src : Src) (hu : s.up .swc = true) : readRow src SWC_CLAIM.adr false s =
    (swcClaim src s).2.reply { src := src, wr := false, sz := 2, off := SWC_CLAIM.adr } (swcClaim src s).1 := by
  rw [readRow_elsewhere s src .swc SWC_CLAIM.adr false (by constructor <;> decide) hu (by decide),
    if_neg Bool.false_ne_true, readAt_swcClaim]

/-- SWC_CELL_SEL takes a written word; its bit 15 is reserved. -/
def State.cellSelected (s : State) (w : Nat) : State := s.wr SWC_CELL_SEL.adr (w - bitsOf w 15 1 * 2 ^ 15)

section
variable (src : Src) (w : Nat) (s : State) (hu : s.up .swc = true)
include hu

theorem swcCellSel_selects (hw : bitOf w 31 = false) : swcCellSel src w s = s.cellSelected w :=
  (if_neg (by simp [hu])).trans (if_neg (by simp [hw]))

theorem swcCellSel_links (hw : bitOf w 31 = true) (k : Claimed)
    (hk : (s.cellSelected w).claimOf src (bitsOf w 0 15) = some k) :
    swcCellSel src w s = (s.cellSelected w).setClaim { k with link := bitsOf w 16 15 } := by
  unfold State.cellSelected at hk
  refine ((if_neg (by simp [hu])).trans (if_pos hw)).trans ?_
  rw [hk]
  rfl

theorem swcCellSel_denied (hw : bitOf w 31 = true) (hk : (s.cellSelected w).claimOf src (bitsOf w 0 15) = none) :
    swcCellSel src w s = (s.cellSelected w).put SWC_STAT.WIN_DENIED 1 := by
  unfold State.cellSelected at hk
  refine ((if_neg (by simp [hu])).trans (if_pos hw)).trans ?_
  rw [hk]
  rfl

end

/-! ### Freeing (R313) -/

/-- A claimed cell is free again. -/
def State.cellFreed (s : State) (c : Nat) : State :=
  ({ s with swc := { s.swc with claims := s.swc.claims.filter (·.cell != c) } } : State).pubFree

/-- A refused free is counted, recorded, and told of. -/
def State.freeRefused (s : State) (src : Src) (c r : Nat) : State :=
  (((((s.bump SWC_FREE_ERR.COUNT).put SWC_FREE_LAST.REASON r).put SWC_FREE_LAST.REQUESTER (tagOf src)).put
    SWC_FREE_LAST.CELL c).raise SWC_IRQ_STAT.FREE_ERR).logEv 18 1 (leBytes 2 c ++ leBytes 1 (tagOf src) ++ leBytes 1 r)

theorem swcFree_returned (src : Src) (c : Nat) (s : State) (hu : s.up .swc = true) (hr : s.freeRefusal src c = none) :
    swcFree src c s = s.cellFreed c := by
  unfold swcFree
  rw [if_neg (by simp [hu]), hr]
  rfl

theorem swcFree_refused (src : Src) (c r : Nat) (s : State) (hu : s.up .swc = true) (hr : s.freeRefusal src c = some r) :
    swcFree src c s = s.freeRefused src c r := by
  unfold swcFree
  rw [if_neg (by simp [hu]), hr]
  rfl

/-! ### ENQUEUE (R312) -/

/-- What a chain of claimed cells offers, by the operands of ENQUEUE; that it enters at the port of its requester is the model's
choice (assumption 142). -/
def State.chainOffer (t : State) (src : Src) (cells : List Nat) : Offer :=
  ⟨t.fld SWC_CMD_ARG0.LEN, t.tenantFor (t.fld SWC_CMD_ARG1.QUEUE) (t.fld SWC_CMD_ARG1.TENANT), t.fld SWC_CMD_ARG1.CLASS, 0,
    ingressOf src, t.fld SWC_CMD_ARG1.HMQ,
    .raw ((cells.flatMap fun c => ((t.claimOf src c).map (·.data)).getD []).take (t.fld SWC_CMD_ARG0.LEN)),
    [t.fld SWC_CMD_ARG1.QUEUE], some cells⟩

/-- The claims on the cells of a packet that was admitted are over. -/
def State.endClaims (s : State) (cells : List Nat) : State :=
  ({ s with swc := { s.swc with claims := s.swc.claims.filter fun x => !cells.contains x.cell } } : State).pubFree

/-- Operands of ENQUEUE in order: a length and a queue in range, and a chain of as many cells that the requester holds, each
once. -/
structure State.ChainOk (t : State) (src : Src) (cells : List Nat) : Prop where
  lenPos : 1 ≤ t.fld SWC_CMD_ARG0.LEN
  lenMax : t.fld SWC_CMD_ARG0.LEN ≤ 9728
  queue : t.fld SWC_CMD_ARG1.QUEUE ≤ 4255
  chain : t.chain src (cellsFor (t.fld SWC_CMD_ARG0.LEN)) (t.fld SWC_CMD_ARG0.CELL) = some cells
  once : cells.eraseDups.length = cells.length

/-- A chain in order is offered, and ENQUEUE ends by whether its packet was admitted. -/
theorem enqueueBody_offers (t : State) (src : Src) (cells : List Nat) (h : t.ChainOk src cells) :
    enqueueBody src t =
      if (t.offer (t.chainOffer src cells)).1 = 0 then (stNoResource, (t.offer (t.chainOffer src cells)).2)
      else (stDone, (t.offer (t.chainOffer src cells)).2.endClaims cells) := by
  have hlen := h.lenPos
  have hmax := h.lenMax
  have hqueue := h.queue
  refine (if_neg (by omega)).trans ?_
  rw [h.chain]
  exact if_neg (by simp [h.once])

theorem swcEnqueue_full (src : Src) (s : State) (cells : List Nat) (hr : s.ready .swc)
    (h : (s.taken .swc 1).ChainOk src cells) (ho : ((s.taken .swc 1).offer ((s.taken .swc 1).chainOffer src cells)).1 = 0) :
    swcEnqueue src s =
      ((s.taken .swc 1).offer ((s.taken .swc 1).chainOffer src cells)).2.ended .swc 1 stNoResource :=
  runCmd_of_body .swc 1 stNoResource _ s _ rfl hr ((enqueueBody_offers _ src cells h).trans (if_pos ho))

theorem swcEnqueue_done (src : Src) (s : State) (cells : List Nat) (hr : s.ready .swc)
    (h : (s.taken .swc 1).ChainOk src cells) (ho : ((s.taken .swc 1).offer ((s.taken .swc 1).chainOffer src cells)).1 ≠ 0) :
    swcEnqueue src s =
      (((s.taken .swc 1).offer ((s.taken .swc 1).chainOffer src cells)).2.endClaims cells).ended .swc 1 stDone :=
  runCmd_of_body .swc 1 stDone _ s _ rfl hr ((enqueueBody_offers _ src cells h).trans (if_neg ho))

/-! ### Q_FLUSH (R325) -/

/-- Every packet of a queue leaves it, and counts as a drop. -/
def State.flushQueue (t : State) (q : Nat) : State :=
  (t.swc.q.filter (·.queue == q)).foldl (fun v d => (v.dropDesc d).bump (SWC_Q_DROP.DROPS q)) t

theorem swcQFlush_done (s : State) (hr : s.ready .swc) (hq : (s.taken .swc 2).fld SWC_CMD_ARG1.QUEUE ≤ 4255) :
    swcQFlush s = ((s.taken .swc 2).flushQueue ((s.taken .swc 2).fld SWC_CMD_ARG1.QUEUE)).ended .swc 2 stDone :=
  runCmd_of_body .swc 2 stDone _ s _ rfl hr (if_neg (Nat.not_lt.mpr hq))

/-- Settles O28: the claim by the word it reads, the cell window as the access it is, and each write and command by the claims
that its requester holds. The port through which ENQUEUE's packet enters is the model's choice (assumption 142). -/
theorem switchClaimsComplete : Obligations.SwitchClaimsComplete := by
  unfold Obligations.SwitchClaimsComplete
  refine ⟨?_, ?_, ?_, ?_, ?_, ?_, ?_, ?_, ?_, ?_, ?_⟩
  · intro s src hu
    exact finish_of_eq s (readRow_swcClaim s src hu)
  · intro s src val hu hw
    exact finish_of_eq s (swcCellSel_selects src val.toNat s hu hw)
  · intro s src val k hu hw hk
    exact finish_of_eq s (swcCellSel_links src val.toNat s hu hw k hk)
  · intro s src val hu hw hk
    exact finish_of_eq s (swcCellSel_denied src val.toNat s hu hw hk)
  · intro s src off sz val h ha
    exact finish_of_eq s (write_ok s _ _ h ha rfl)
  · intro s src off sz h ha
    exact finish_of_eq s (read_ok s _ _ h ha rfl)
  · intro s src cell hu hr
    exact finish_of_eq s (swcFree_returned src cell.toNat s hu hr)
  · intro s src cell r hu hr
    exact finish_of_eq s (swcFree_refused src cell.toNat r s hu hr)
  · rintro s _ src cells _ hr rfl hpos hmax hq hc honce rfl ho
    exact finish_of_eq s (swcEnqueue_full src s cells hr ⟨hpos, hmax, hq, hc, honce⟩ ho)
  · rintro s _ src cells _ hr rfl hpos hmax hq hc honce rfl ho
    exact finish_of_eq s (swcEnqueue_done src s cells hr ⟨hpos, hmax, hq, hc, honce⟩ ho)
  · rintro s _ hr rfl hq
    exact finish_of_eq s (swcQFlush_done s hr hq)

end Sys2Proof.Machine
end

section
/-! The host message queues: words in and out, whole packets to and from their consumers, and FLUSH (R316 to R324). -/

namespace Sys2Proof.Machine

/-! ### Words into a down queue (R320) -/

/-- A down queue discards what is pushed up to the end of a packet, or no longer. -/
def State.setDiscard (s : State) (q : Nat) (on : Bool) : State :=
  { s with hmq := updAt s.hmq q fun h => { h with discard := on } }

section
variable (q v : Nat) (s : State) (hu : s.up .hmq = true) (he : s.bit (HMQ_Q_CFG.EN q) = true) (hq : q < 16)
include hu he hq

/-- A push into an enabled down queue, by what the queue still takes. -/
theorem hmqPush_enabled (fin : Bool) : hmqPush q v fin s =
    if (s.hq q).discard then (s.setDiscard q !fin).hmqDrop q
    else if (s.hq q).room = 0 then (s.setDiscard q true).hmqDrop q
    else if !fin && (s.hq q).room = 1 then
      (s.setHq q { (s.hq q).push ⟨0, true, true⟩ s.clk with discard := true }).countEnd q
    else if fin then (s.setHq q ((s.hq q).push ⟨v, fin, false⟩ s.clk)).countEnd q
    else s.setHq q ((s.hq q).push ⟨v, fin, false⟩ s.clk) :=
  if_neg (by simp [hu, he, Nat.not_le.mpr hq])

/-- A discarding queue drops each word, and an END word is the last it drops. -/
theorem hmqPush_discarding (fin : Bool) (hd : (s.hq q).discard = true) :
    hmqPush q v fin s = (s.setDiscard q !fin).hmqDrop q :=
  (hmqPush_enabled q v s hu he hq fin).trans (if_pos hd)

/-- A full queue drops the word, END or not, and discards from then on. -/
theorem hmqPush_full (fin : Bool) (hd : (s.hq q).discard = false) (hr : (s.hq q).room = 0) :
    hmqPush q v fin s = (s.setDiscard q true).hmqDrop q := by
  rw [hmqPush_enabled q v s hu he hq, if_neg (by simp [hd]), if_pos hr]

/-- The last room takes an abort word in place of a word that ends no packet; the word replaced is not counted in OVF_DROP
(assumption 86). -/
theorem hmqPush_aborts (hd : (s.hq q).discard = false) (hr : (s.hq q).room = 1) : hmqPush q v false s =
    (s.setHq q { (s.hq q).push ⟨0, true, true⟩ s.clk with discard := true }).countEnd q := by
  rw [hmqPush_enabled q v s hu he hq, if_neg (by simp [hd]), if_neg (by omega), if_pos (by simp [hr])]

theorem hmqPush_word (hd : (s.hq q).discard = false) (hr : 2 ≤ (s.hq q).room) :
    hmqPush q v false s = s.setHq q ((s.hq q).push ⟨v, false, false⟩ s.clk) := by
  have hr1 : (s.hq q).room ≠ 1 := by omega
  rw [hmqPush_enabled q v s hu he hq, if_neg (by simp [hd]), if_neg (by omega), if_neg (by simp [hr1]), if_neg Bool.false_ne_true]

theorem hmqPush_endWord (hd : (s.hq q).discard = false) (hr : (s.hq q).room ≠ 0) :
    hmqPush q v true s = (s.setHq q ((s.hq q).push ⟨v, true, false⟩ s.clk)).countEnd q := by
  rw [hmqPush_enabled q v s hu he hq, if_neg (by simp [hd]), if_neg hr, if_neg (by simp), if_pos rfl]

end

theorem hmqBankPass_due (q : Nat) (s : State) (hu : s.up .hmq = true) (hq : q < 16) (ha : (s.hq q).active ≠ [])
    (ht : (s.hq q).pushAt + usec ≤ s.clk) : hmqBankPass q s = s.setHq q (s.hq q).passBank :=
  if_pos (by simp [hu, hq, ha, ht])

/-! ### Words out of an up queue (R318, R319) -/

/-- An up queue without its front word, which was popped at `now`. -/
def Hq.popped (h : Hq) (l : List HWord) (now : Nat) : Hq :=
  { h with active := l, rp := (h.rp + 1) % 2048, popAt := now, stale := false }

/-- HMQ_POP_HI of a queue tells of the word popped, and of the words left. -/
def State.tellPop (s : State) (q : Nat) (w : HWord) (bad : Bool) (left : Nat) : State :=
  (((s.put (HMQ_Q_POP_HI.VALID q) 1).putB (HMQ_Q_POP_HI.POISON q) (w.poison || bad)).putB (HMQ_Q_POP_HI.END q) w.fin).put
    (HMQ_Q_POP_HI.WORDS q) left

section
variable (q : Nat) (bad : Bool) (s : State) (hu : s.up .hmq = true) (hq : 16 ≤ q)
include hu hq

theorem hmqPop_empty (ha : (s.hq q).refill.active = []) : hmqPop q bad s = (0, s.wr (HMQ_Q_POP_HI.adr q) 0) := by
  unfold hmqPop
  dsimp only
  rw [if_neg (by simp [hu, Nat.not_lt.mpr hq]), ha]

theorem hmqPop_word (w : HWord) (l : List HWord) (ha : (s.hq q).refill.active = w :: l) : hmqPop q bad s =
    (w.data, ((s.parity q bad).setHq q ((s.hq q).refill.popped l s.clk).refill).tellPop q w bad
      ((s.hq q).refill.popped l s.clk).words.length) := by
  unfold hmqPop
  dsimp only
  rw [if_neg (by simp [hu, Nat.not_lt.mpr hq]), ha, parity_clk]
  rfl

end

/-- The word that a pop returns goes to its requester. -/
theorem hmqPopRow_pops (src : Src) (q n : Nat) (bad : Bool) (s v : State) (hu : s.up .hmq = true)
    (hp : hmqPop q bad s = (n, v)) : hmqPopRow src q bad s = v.emit (.reg src.code) (leBytes 4 n) := by
  unfold hmqPopRow
  dsimp only
  rw [if_neg (by simp [hu]), hp]

/-! ### Whole packets (R316, R319, R321) -/

/-- A packet taken from a down queue of no SB port goes where BIND says, and a corrupt one not to the switch. -/
theorem hmqDownPacket_taken (q : Nat) (bad : Bool) (s v : State) (p : List HWord) (hu : s.up .hmq = true) (hq : q < 16)
    (hb : s.sbOf q = none) (hp : s.takeDown q bad = (some p, v)) : hmqDownPacket q bad s =
      if v.fld (HMQ_Q_CFG.BIND q) = 0 then v.emit (.core 14) (packetBytes 0 p)
      else if bad || p.any (·.poison) then v
      else v.hmqToSwitch q p := by
  unfold hmqDownPacket
  rw [if_neg (by simp [hu, hb, Nat.not_le.mpr hq]), hp]

/-- SP15's next packet is stored in its up queue where that one is the switch's and has room. -/
theorem hmqUpDeliver_room (s v t : State) (d : Desc) (hu : s.up .hmq = true) (hd : s.schedule 15 = (some d, v))
    (hb : s.fld (HMQ_Q_CFG.BIND d.hmq) ≠ 0) (hq : 16 ≤ d.hmq) (hs : s.sbOf (d.hmq - 16) = none)
    (ht : v.hmqStore d.hmq (upWords d) = some t) : hmqUpDeliver s = t.dropDesc d := by
  unfold hmqUpDeliver
  dsimp only
  rw [if_neg (by simp [hu]), hd]
  dsimp only
  rw [if_neg (by simp [hb, hs, Nat.not_lt.mpr hq]), ht]

/-! ### The stale notice and FLUSH (R323, R324) -/

/-- A queue's stale notice has been given. -/
def State.markStale (s : State) (q : Nat) : State :=
  { s with hmq := updAt s.hmq q fun h => { h with stale := true } }

theorem hmqStale_due (q n : Nat) (s : State) (hu : s.up .hmq = true) (hn : n = min 1000000 (s.cf (HMQ_Q_CFG.STALE_US q)))
    (h0 : n ≠ 0) (hw : (s.hq q).words ≠ []) (hs : (s.hq q).stale = false) (ht : (s.hq q).popAt + n * usec ≤ s.clk) :
    hmqStale q s = ((s.markStale q).put ⟨HMQ_STALE.adr, q, 1⟩ 1).raise HMQ_IRQ_STAT.STALE := by
  unfold hmqStale
  dsimp only
  rw [← hn]
  exact if_pos (by simp [hu, h0, hw, hs, ht])

/-- A queue with nothing in it: its read pointer at its write pointer, its banks empty, discarding nothing. -/
def Hq.emptied (h : Hq) : Hq := { h with rp := h.wp, buf := [], active := [], idle := [], discard := false }

theorem hmqFlush_done (s t : State) (h : s.ready .hmq) (ht : t = s.taken .hmq 1) : hmqFlush s =
    (t.setHq (t.fld HMQ_CMD_ARG.INDEX) (t.hq (t.fld HMQ_CMD_ARG.INDEX)).emptied).ended .hmq 1 stDone := by
  subst ht
  exact runCmd_of_body .hmq 1 stDone _ s _ rfl h rfl

/-- Settles O29: a push by the room of its queue, a pop by the queue's front word, a packet by its consumer. That the word
replaced by the abort word is not counted is the model's choice (assumption 86). -/
theorem hostQueuesComplete : Obligations.HostQueuesComplete := by
  unfold Obligations.HostQueuesComplete
  refine ⟨?_, ?_, ?_, ?_, ?_, ?_, ?_, ?_, ?_, ?_, ?_, ?_, ?_, ?_, ?_, ?_⟩
  · intro s q val hu he hd
    exact finish_of_eq s (hmqPush_discarding q.val val.toNat s hu he q.isLt false hd)
  · intro s q val hu he hd hr
    exact finish_of_eq s (hmqPush_full q.val val.toNat s hu he q.isLt false hd hr)
  · intro s q val hu he hd hr
    exact finish_of_eq s (hmqPush_aborts q.val val.toNat s hu he q.isLt hd hr)
  · intro s q val hu he hd hr
    exact finish_of_eq s (hmqPush_word q.val val.toNat s hu he q.isLt hd hr)
  · intro s q val hu he hd
    exact finish_of_eq s (hmqPush_discarding q.val val.toNat s hu he q.isLt true hd)
  · intro s q val hu he hd hr
    exact finish_of_eq s (hmqPush_full q.val val.toNat s hu he q.isLt true hd hr)
  · intro s q val hu he hd hr
    exact finish_of_eq s (hmqPush_endWord q.val val.toNat s hu he q.isLt hd hr)
  · intro s src q bad hu ha
    exact finish_of_eq s (hmqPopRow_pops src _ 0 bad s _ hu (hmqPop_empty (16 + q.val) bad s hu (by omega) ha))
  · rintro s src q bad w l _ hu ha rfl
    exact finish_of_eq s (hmqPopRow_pops src _ w.data bad s _ hu (hmqPop_word (16 + q.val) bad s hu (by omega) w l ha))
  · intro s q hu hq ha ht
    exact finish_of_eq s (hmqBankPass_due q.val s hu hq ha ht)
  · intro s q bad p v hu hb hp hv hbind
    exact finish_of_eq s ((hmqDownPacket_taken q.val bad s v p hu q.isLt hb (Prod.ext hp hv.symm)).trans (if_pos hbind))
  · intro s q bad p v hu hb hp hv hbind hbad
    exact finish_of_eq s ((hmqDownPacket_taken q.val bad s v p hu q.isLt hb (Prod.ext hp hv.symm)).trans
      ((if_neg hbind).trans (if_pos hbad)))
  · intro s q bad p v hu hb hp hv hbind hgood
    exact finish_of_eq s ((hmqDownPacket_taken q.val bad s v p hu q.isLt hb (Prod.ext hp hv.symm)).trans
      ((if_neg hbind).trans (if_neg (Bool.eq_false_iff.mp hgood))))
  · intro s d v t hu hd hv hb hq hs ht
    exact finish_of_eq s (hmqUpDeliver_room s v t d hu (Prod.ext hd hv.symm) hb hq hs ht)
  · intro s q n hu hn h0 hw hs ht
    exact finish_of_eq s (hmqStale_due q.val n s hu hn h0 hw hs ht)
  · intro s t h ht
    exact finish_of_eq s (hmqFlush_done s t h ht)

end Sys2Proof.Machine
end

section
/-! Network time: the update, the writes of the phase and the commands of NTU (R329, R332 to R335, R337, R348, R350). -/

namespace Sys2Proof.Machine

/-! ### The update (R329) -/

/-- An update that is due takes up the configuration at its count, then goes through its steps in order. -/
theorem ntuUpdate_due (s : State) (f : Nat) (hu : s.up .ntu = true) (he : s.bit NTU_CTL.EN = true)
    (hf : f = s.ntu.frc / 500000 * 500000) (hn : s.ntu.fb < f) : ntuUpdate s =
      ((((((s.boundary 0x80000 0x90000).rebase f).stepNow.measureSrcs).countHold).selectSrc).servo) := by
  subst hf
  exact if_neg (by simp [hu, he, Nat.not_le.mpr hn])

/-! ### Writes of the phase (R332) -/

/-- The phase that its owner writes counts from the next update on. -/
def State.phaseWritten (s : State) (p : Int) : State :=
  ({ s with ntu := { s.ntu with phase := p * 65536 + s.ntu.slew } } : State).putI NTU_PHASE.NS p

section
variable (src : Src) (v : Nat) (s : State) (hu : s.up .ntu = true)
include hu

/-- A write by the owner of the servo, by the jump limit. -/
theorem ntuPhaseWrite_owner (ho : s.bit NTU_CTL.SERVO ≠ (src == .core)) : ntuPhaseWrite src v s =
    if s.jumpOver (toSigned 32 v) then s.jumpRefused (toSigned 32 v) else s.phaseWritten (toSigned 32 v) :=
  (if_neg (by simp [hu])).trans (if_neg ho)

/-- A host's write while the internal servo owns the phase. -/
theorem ntuPhaseWrite_servoOwned (ho : s.bit NTU_CTL.SERVO = (src == .core)) (hs : src ≠ .core) :
    ntuPhaseWrite src v s = s.put NTU_STAT.SERVO_OWNED 1 :=
  (if_neg (by simp [hu])).trans ((if_pos ho).trans (if_neg (by simpa using hs)))

end

/-! ### Steps (R333 to R335) -/

/-- The step that NTU_STEP asks for. -/
def State.askedStep (t : State) : Int := t.pair64 NTU_STEP_LO.adr NTU_STEP_HI.adr

theorem ntuStep_within (s t : State) (h : s.ready .ntu) (ht : t = s.taken .ntu 1) (hj : t.jumpOver t.askedStep = false) :
    ntuStep s = (t.askStep t.askedStep false).ended .ntu 1 stPending := by
  subst ht
  exact runCmd_of_body .ntu 1 stPending _ s _ rfl h (if_neg (Bool.eq_false_iff.mp hj))

theorem ntuStep_over (s t : State) (h : s.ready .ntu) (ht : t = s.taken .ntu 1) (hj : t.jumpOver t.askedStep = true) :
    ntuStep s = (t.jumpRefused t.askedStep).ended .ntu 1 stRefusedArg := by
  subst ht
  exact runCmd_of_body .ntu 1 stRefusedArg _ s _ rfl h (if_pos hj)

theorem ntuStepForce_session (src : Src) (s a : State) (h : s.ready .ntu) (ha : (s.taken .ntu 2).authorise src = some a) :
    ntuStepForce src s = ((a.disarmFar a.askedStep).askStep a.askedStep true).ended .ntu 2 stPending :=
  runCmd_of_body .ntu 2 stPending _ s _ rfl h (privileged_some src _ _ a ha)

/-! ### SRC_SELECT (R337) -/

/-- An intact source whose offset is within the limit is followed, with a step where it has an offset. -/
theorem srcSelectBody_intact (t : State) (k : Nat) (o : Int) (hk : k = t.fld NTU_CMD_ARG.INDEX) (h4 : k ≤ 4)
    (hi : t.intact k = true) (ho : o = (t.offset k).getD 0) (hj : t.jumpOver o = false) :
    srcSelectBody t = if o = 0 then (stDone, t.follow k) else (stPending, (t.askStep o false).follow k) := by
  subst hk ho
  exact (if_neg (Nat.not_lt.mpr h4)).trans ((if_neg (by simp [hi])).trans (if_neg (Bool.eq_false_iff.mp hj)))

theorem ntuSrcSelect_done (s t : State) (k : Nat) (o : Int) (h : s.ready .ntu) (ht : t = s.taken .ntu 3)
    (hk : k = t.fld NTU_CMD_ARG.INDEX) (h4 : k ≤ 4) (hi : t.intact k = true) (ho : o = (t.offset k).getD 0)
    (hj : t.jumpOver o = false) (h0 : o = 0) : ntuSrcSelect s = (t.follow k).ended .ntu 3 stDone := by
  have hbody := (srcSelectBody_intact t k o hk h4 hi ho hj).trans (if_pos h0)
  subst ht
  exact runCmd_of_body .ntu 3 stDone _ s _ rfl h hbody

theorem ntuSrcSelect_pending (s t : State) (k : Nat) (o : Int) (h : s.ready .ntu) (ht : t = s.taken .ntu 3)
    (hk : k = t.fld NTU_CMD_ARG.INDEX) (h4 : k ≤ 4) (hi : t.intact k = true) (ho : o = (t.offset k).getD 0)
    (hj : t.jumpOver o = false) (h0 : o ≠ 0) :
    ntuSrcSelect s = ((t.askStep o false).follow k).ended .ntu 3 stPending := by
  have hbody := (srcSelectBody_intact t k o hk h4 hi ho hj).trans (if_neg h0)
  subst ht
  exact runCmd_of_body .ntu 3 stPending _ s _ rfl h hbody

/-! ### Comparators (R348, R350) -/

/-- CMP_ARM of a target in range arms the comparator, and fires it where the target is already past. -/
theorem ntuCmpArm_inRange (s t : State) (i : Nat) (h : s.ready .ntu) (ht : t = s.taken .ntu 4)
    (hi : i = t.fld NTU_CMD_ARG.INDEX) (hr : t.inRange (t.cmpTarget i) = true) : ntuCmpArm s =
      (if t.cmpTarget i < (t.armedCmp i).nt then (t.armedCmp i).fireCmp i true else t.armedCmp i).ended .ntu 4 stDone := by
  subst hi ht
  exact runCmd_of_body .ntu 4 stDone _ s _ rfl h (if_neg (by simp [hr]))

theorem ntuCmpDisarm_done (s t : State) (h : s.ready .ntu) (ht : t = s.taken .ntu 5) :
    ntuCmpDisarm s = (t.put (NTU_CMP_W0.ARMED (t.fld NTU_CMD_ARG.INDEX)) 0).ended .ntu 5 stDone := by
  subst ht
  exact runCmd_of_body .ntu 5 stDone _ s _ rfl h rfl

/-- Settles O30: the update where it is due, a write of the phase by who owns it, and each command by its body. -/
theorem networkTimeCommandsComplete : Obligations.NetworkTimeCommandsComplete := by
  unfold Obligations.NetworkTimeCommandsComplete
  refine ⟨?_, ?_, ?_, ?_, ?_, ?_, ?_, ?_, ?_, ?_, ?_⟩
  · intro s f hu he hf hn
    exact finish_of_eq s (ntuUpdate_due s f hu he hf hn)
  · intro s src val hu ho hj
    exact finish_of_eq s ((ntuPhaseWrite_owner src val.toNat s hu ho).trans (if_neg (Bool.eq_false_iff.mp hj)))
  · intro s src val hu ho hj
    exact finish_of_eq s ((ntuPhaseWrite_owner src val.toNat s hu ho).trans (if_pos hj))
  · intro s src val hu ho hs
    exact finish_of_eq s (ntuPhaseWrite_servoOwned src val.toNat s hu ho hs)
  · intro s t h ht hj
    exact finish_of_eq s (ntuStep_within s t h ht hj)
  · intro s t h ht hj
    exact finish_of_eq s (ntuStep_over s t h ht hj)
  · intro s src a h ha
    exact finish_of_eq s (ntuStepForce_session src s a h ha)
  · intro s t o h ht h4 hi ho hj h0
    exact finish_of_eq s (ntuSrcSelect_done s t _ o h ht rfl h4 hi ho hj h0)
  · intro s t o h ht h4 hi ho hj h0
    exact finish_of_eq s (ntuSrcSelect_pending s t _ o h ht rfl h4 hi ho hj h0)
  · rintro s t _ _ h ht rfl hr rfl
    exact finish_of_eq s (ntuCmpArm_inRange s t _ h ht rfl hr)
  · intro s t h ht
    exact finish_of_eq s (ntuCmpDisarm_done s t h ht)

end Sys2Proof.Machine
end

section
/-! Network time by itself, PTP and GNSS (R336, R339 to R341, R344, R346 to R348, R351). -/

namespace Sys2Proof.Machine

/-! ### What NTU does by itself -/

theorem comparatorFire_reached (i : Nat) (s : State) (hu : s.up .ntu = true) (ha : s.bit (NTU_CMP_W0.ARMED i) = true)
    (hr : reached s.nt (s.cmpTarget i) = true) : comparatorFire i s = s.fireCmp i false := if_pos (by simp [hu, ha, hr])

theorem holdoverExpiry_over (s : State) (hu : s.up .ntu = true) (hs : s.fld NTU_STAT.STATE = 3)
    (ht : s.cf NTU_HOLD.HOLD_S * secs ≤ s.unlockedFor) : holdoverExpiry s =
      ((s.setNtu 4).raise NTU_IRQ_STAT.HOLD_EXPIRED).logEv 8 4 (leBytes 2 (s.cf NTU_HOLD.HOLD_S)) :=
  if_pos (by simp [hu, hs, ntuHoldover, ht])

section
variable (s : State) (hu : s.up .ntu = true) (hv : s.ntValid = true)
include hu hv

/-- The last minute of a day with 61 s ends one second later. -/
theorem leapSecond_inserts (hl : s.bit NTU_UTC.LEAP61 = true) (hd : s.utcSec % 86400 = 0) :
    leapSecond s = (s.put NTU_UTC.LEAP61 0).setOfs (s.sfld NTU_UTC.OFS + 1) :=
  (if_neg (by simp [hu, hv])).trans (if_pos (by simp [hl, hd]))

/-- The last minute of a day with 59 s ends one second sooner. -/
theorem leapSecond_removes (hl : s.bit NTU_UTC.LEAP59 = true) (hd : s.utcSec % 86400 = 86399) :
    leapSecond s = (s.put NTU_UTC.LEAP59 0).setOfs (s.sfld NTU_UTC.OFS - 1) :=
  (if_neg (by simp [hu, hv])).trans ((if_neg (by simp [hd])).trans (if_pos (by simp [hl, hd])))

end

/-! ### The RTC and RATE -/

/-- A capture is due: the first, or the next after its interval. -/
def State.captureDue (s : State) : Bool :=
  match s.ntu.capAt with
  | none => true
  | some (t, _, _) => t + clampN 1 255 (s.cf NTU_RTC_CFG.INTERVAL_MIN) * 60 * secs ≤ s.clk

theorem captureDue_first (s : State) (h : s.ntu.capAt = none) : s.captureDue = true := by simp [State.captureDue, h]

theorem captureDue_interval (s : State) (a : Nat) (u r : Int) (h : s.ntu.capAt = some (a, u, r))
    (ht : a + clampN 1 255 (s.cf NTU_RTC_CFG.INTERVAL_MIN) * 60 * secs ≤ s.clk) : s.captureDue = true := by
  simp [State.captureDue, h, ht]

/-- RTC_DISCIPLINE captures where a capture is due, or OFS has changed. -/
theorem rtcDiscipline_due (s : State) (hu : s.up .ntu = true) (he : s.cfB NTU_RTC_CFG.EN = true)
    (hy : s.bit NTU_STAT.SYNC = true) (hd : s.captureDue = true ∨ s.ntu.ofsChg = true) :
    rtcDiscipline s = s.disciplineRtc := by
  have hdue : (s.captureDue || s.ntu.ofsChg) = true := Bool.or_eq_true_iff.mpr hd
  have hacts : ¬ (!s.up .ntu || !s.cfB NTU_RTC_CFG.EN || !s.bit NTU_STAT.SYNC || !(s.captureDue || s.ntu.ofsChg)) = true := by
    simp only [hu, he, hy, hdue]; decide
  exact if_neg hacts

theorem rateRecord_locked (s : State) (hu : s.up .ntu = true) (hs : s.fld NTU_STAT.STATE = 2)
    (ht : s.ntu.recAt + 3600 * secs ≤ s.ntu.frc) :
    rateRecord s = { s with ntu := { s.ntu with nvmRate := s.ntu.rate, recAt := s.ntu.frc } } :=
  if_pos (by simp [hu, hs, ntuLocked, ht])

/-! ### PTP (R344, R346, R347) -/

theorem ptpRx_up (p : Nat) (sync slave : Bool) (ofs : Option Int) (utc : Option (Int × Bool × Bool)) (msg : List Byte)
    (s : State) (hb : s.up .bbn = true) (he : s.bit BBN_CTL.EN = true) (hu : s.up .ntu = true) :
    ptpRx p sync slave ofs utc msg s = s.ptpTaken p sync slave ofs utc msg := if_neg (by simp [hb, he, hu])

/-- A message leaves a BB port with its FCS, which is false where the frame left the buffer bad. -/
def State.ptpSent (s : State) (p : Nat) (bad : Bool) (c : List Byte) : State :=
  (s.emit (.bb p) (c ++ leBytes 4 (if bad then crc32 c ^^^ 0xFFFFFFFF else crc32 c))).bump (BBN_PORT_TX.FRAMES p)

/-- The cores are given the timestamp `y` of a message whose PTP header stands at `o`. -/
def State.ptpStamped (t : State) (c : List Byte) (o y : Nat) : State :=
  t.emit (.core 18) ((c.drop (o + 30)).take 2 ++ (beBytes 6 (y / 65536 / 1000000000) ++
    beBytes 4 (y / 65536 % 1000000000) ++ beBytes 2 (y % 65536)))

/-- A message with its insertions; over UDP with a checksum, that is corrected for them. -/
def ptpMended (b c : List Byte) : Option Nat → List Byte
  | none => c
  | some u => if beAt b (u + 6) 2 = 0 then c
      else splice c (u + 6) (beBytes 2 (fixCsum b c (u + 8) (beAt b (u + 6) 2)))

theorem ptpEgress_sent (p : Nat) (origin addCf tsReq bad : Bool) (b : List Byte) (s : State) (y o : Nat) (u : Option Nat)
    (c : List Byte) (hb : s.up .bbn = true) (he : s.bit BBN_CTL.EN = true) (hu : s.up .ntu = true)
    (hl : s.bit (BBN_PORT_STAT.LINK p) = true) (hy : y = s.stamp (s.txCorr p)) (ho : ptpAt b = some (o, u))
    (hc : c = ptpMended b (ptpInsert origin addCf y o b) u) : ptpEgress p origin addCf tsReq bad b s =
      if tsReq then (s.ptpSent p bad c).ptpStamped c o y else s.ptpSent p bad c := by
  subst hc hy
  unfold ptpEgress
  rw [if_neg (by simp [hb, he, hu, hl]), ho]
  cases u <;> rfl

/-! ### GNSS (R336) -/

section
variable (s : State) (hu : s.up .ntu = true) (he : s.cfB NTU_GNSS_CFG.EN = true)
include hu he

theorem gnssPps_selected (rising : Bool) (hr : rising ≠ s.cfB NTU_GNSS_CFG.EDGE) : gnssPps rising s = s.gnssEdge :=
  if_neg (by simp [hu, he, hr])

theorem gnssSentence_noFix (utc : Nat) :
    gnssSentence false utc s = s.updSrc 4 fun x => { x with ok := false, good := 0 } :=
  (if_neg (by simp [hu, he])).trans (if_pos rfl)

/-- GNSS has a fix. -/
def State.gnssFix (s : State) : State := s.updSrc 4 fun x => { x with ok := true }

/-- The pulse at counter value `f` is labelled with a UTC second. -/
def State.labelPulse (v : State) (f utc : Nat) : State :=
  (fun t : State => { t with ntu := { t.ntu with pps := none } })
    (v.updSrc 4 fun x => { x.measured f (((utc : Int) + v.sfld NTU_UTC.OFS) * 1000000000) with good := x.good + 1 })

theorem gnssSentence_noPulse (utc : Nat) (hp : s.ntu.pps = none) : gnssSentence true utc s = s.gnssFix := by
  have hp' : s.gnssFix.ntu.pps = none := hp
  unfold gnssSentence
  rw [if_neg (by simp [hu, he]), if_neg (by decide)]
  dsimp only
  rw [← State.gnssFix, hp']

theorem gnssSentence_pulse (utc f : Nat) (hp : s.ntu.pps = some f) (hlo : f + 10 * msec ≤ s.ntu.frc)
    (hhi : s.ntu.frc ≤ f + 900 * msec) : gnssSentence true utc s = s.gnssFix.labelPulse f utc := by
  have hp' : s.gnssFix.ntu.pps = some f := hp
  unfold gnssSentence
  rw [if_neg (by simp [hu, he]), if_neg (by decide)]
  dsimp only
  rw [← State.gnssFix, hp']
  exact if_pos (by simp [show s.gnssFix.ntu.frc = s.ntu.frc from rfl, hlo, hhi])

end

/-- Settles O31: each event where it is due, a PTP message by the ports it may pass, and a sentence by the pulse that waits. -/
theorem networkTimeEventsComplete : Obligations.NetworkTimeEventsComplete := by
  unfold Obligations.NetworkTimeEventsComplete
  refine ⟨?_, ?_, ?_, ?_, ?_, ?_, ?_, ?_, ?_, ?_, ?_, ?_, ?_, ?_⟩
  · intro s n hu ha hr
    exact finish_of_eq s (comparatorFire_reached n.val s hu ha hr)
  · intro s hu hs ht
    exact finish_of_eq s (holdoverExpiry_over s hu hs ht)
  · intro s hu hv hl hd
    exact finish_of_eq s (leapSecond_inserts s hu hv hl hd)
  · intro s hu hv hl hd
    exact finish_of_eq s (leapSecond_removes s hu hv hl hd)
  · intro s hu he hy hd
    exact finish_of_eq s (rtcDiscipline_due s hu he hy (hd.imp_left (captureDue_first s)))
  · intro s a u r hu he hy ha ht
    exact finish_of_eq s (rtcDiscipline_due s hu he hy (.inl (captureDue_interval s a u r ha ht)))
  · intro s hu hs ht
    exact finish_of_eq s (rateRecord_locked s hu hs ht)
  · intro s p sync slave ofs utc msg hb he hu
    exact finish_of_eq s (ptpRx_up p.val sync slave ofs utc msg s hb he hu)
  · intro s p origin addCf tsReq bad b y o c hb he hu hl hy ho hc
    exact finish_of_eq s (ptpEgress_sent p.val origin addCf tsReq bad b s y o none c hb he hu hl hy ho hc)
  · intro s p origin addCf tsReq bad b y o u c hb he hu hl hy ho hc
    exact finish_of_eq s (ptpEgress_sent p.val origin addCf tsReq bad b s y o (some u) c hb he hu hl hy ho hc)
  · intro s rising hu he hr
    exact finish_of_eq s (gnssPps_selected s hu he rising hr)
  · intro s utc hu he
    exact finish_of_eq s (gnssSentence_noFix s hu he utc)
  · intro s utc hu he hp
    exact finish_of_eq s (gnssSentence_noPulse s hu he utc hp)
  · rintro s utc f _ hu he hp hlo hhi rfl
    exact finish_of_eq s (gnssSentence_pulse s hu he utc f hp hlo hhi)

end Sys2Proof.Machine
end

section
/-! Frames received on Mistazil links, and the TIME exchange (R361 to R365, R369). -/

namespace Sys2Proof.Machine

/-! ### A received frame of any kind -/

section
variable (l kind : Nat) (x : MzRx) (use : State → State) (s : State)

theorem mzRecv_badHeader (hu : s.mzUp l = true) (hh : x.hdrOk = false) : mzRecv l kind x use s = s.retrain l :=
  (if_neg (by simp [hu])).trans (if_pos (by simp [hh]))

/-- A frame with a good header is judged by its CRC, and then goes where it is routed. -/
theorem mzRecv_goodHeader (hu : s.mzUp l = true) (hh : x.hdrOk = true) : mzRecv l kind x use s =
    if !x.crcOk then ((s.bump (MZL_LINK_RX.FRAMES l)).bump (MZL_LINK_CNT.CRC_ERR l)).returnCredit l kind x.payload.length
    else ((s.bump (MZL_LINK_RX.FRAMES l)).mzRoute l x).elim (use ((s.bump (MZL_LINK_RX.FRAMES l)).mzTaken l kind x))
      fun out => (s.bump (MZL_LINK_RX.FRAMES l)).mzForward l out ⟨kind, x.adj, x.dst, x.src, x.tag, x.payload⟩ := by
  unfold mzRecv
  rw [if_neg (by simp [hu]), if_neg (by simp [hh])]
  dsimp only
  cases (s.bump (MZL_LINK_RX.FRAMES l)).mzRoute l x <;> rfl

theorem mzRecv_badCrc (hu : s.mzUp l = true) (hh : x.hdrOk = true) (hc : x.crcOk = false) : mzRecv l kind x use s =
    ((s.bump (MZL_LINK_RX.FRAMES l)).bump (MZL_LINK_CNT.CRC_ERR l)).returnCredit l kind x.payload.length :=
  (mzRecv_goodHeader l kind x use s hu hh).trans (if_pos (by simp [hc]))

theorem mzRecv_forwarded (out : Nat) (hu : s.mzUp l = true) (hh : x.hdrOk = true) (hc : x.crcOk = true)
    (hr : (s.bump (MZL_LINK_RX.FRAMES l)).mzRoute l x = some out) : mzRecv l kind x use s =
      (s.bump (MZL_LINK_RX.FRAMES l)).mzForward l out ⟨kind, x.adj, x.dst, x.src, x.tag, x.payload⟩ := by
  rw [mzRecv_goodHeader l kind x use s hu hh, if_neg (by simp [hc]), hr]
  rfl

end

/-- A good frame on a link that is up, for this module. -/
structure State.MzForMe (s : State) (l : Nat) (x : MzRx) : Prop where
  up : s.mzUp l = true
  header : x.hdrOk = true
  crc : x.crcOk = true
  route : (s.bump (MZL_LINK_RX.FRAMES l)).mzRoute l x = none

/-- A frame for this module is counted and taken, its credit going back. -/
def State.mzHeard (s : State) (l kind : Nat) (x : MzRx) : State := (s.bump (MZL_LINK_RX.FRAMES l)).mzTaken l kind x

theorem mzRecv_forMe (l kind : Nat) (x : MzRx) (use : State → State) (s : State) (h : s.MzForMe l x) :
    mzRecv l kind x use s = use (s.mzHeard l kind x) := by
  rw [mzRecv_goodHeader l kind x use s h.up h.header, if_neg (by simp [h.crc]), h.route]
  rfl

/-! ### Operations and their answers (R362) -/

/-- The answer to an operation: its outcome, its value, and the state it leaves. -/
def State.mzAnswer (w : State) (l : Nat) (x : MzRx) (r : Nat × Nat × State) : State :=
  r.2.2.mzOffer l ⟨mzRsp, false, x.src, w.pos, x.tag, opAnswer x.payload r.1 r.2.1⟩ false

theorem mzlReq_forMe (l : Nat) (x : MzRx) (s w : State) (h : s.MzForMe l x) (hw : w = s.mzHeard l mzReq x) :
    mzlReq l x s = w.mzAnswer l x
      (if opListed x.payload then w.access (opAccess x.payload .mz) (leAt x.payload 8 8) else (2, 0, w)) := by
  subst hw
  exact mzRecv_forMe l mzReq x _ s h

/-- The module at a position has answered. -/
def State.noteAnswered (t : State) (p : Nat) : State :=
  t.withMz fun m => { m with answered := (p, t.clk) :: m.answered.filter (·.1 != p) }

/-- An RSP with the TAG of an open REQ closes it. -/
theorem mzlRsp_open (l : Nat) (x : MzRx) (s w t : State) (r : Req) (h : s.MzForMe l x) (hw : w = s.mzHeard l mzRsp x)
    (hr : w.mz.reqs.find? (fun r => r.tag == x.tag && r.link == l) = some r) (ht : t = (w.closeReq r.tag).mzFlow l) :
    mzlRsp l x s =
      if x.src = r.pos then (t.noteAnswered r.pos).complete r (leAt x.payload 1 1 % 4) (leAt x.payload 8 8)
      else t.complete r (t.lostCode r.pos) 0 := by
  subst hw ht
  unfold mzlRsp
  rw [mzRecv_forMe l mzRsp x _ s h]
  dsimp only
  rw [hr]
  rfl

/-! ### Data and credits (R362) -/

/-- A DATA frame that is neither a mirror frame nor a frame of RAF is a packet for the switch. -/
theorem mzlDataFrame_packet (l : Nat) (x : MzRx) (k : PacketIn) (s : State) (h : s.MzForMe l x)
    (hraf : x.payload.take 3 ≠ [0x52, 0x46, 0x01])
    (hmirror : (s.pairEn && l == s.pairLink && x.adj && x.payload.take 4 == [0x54, 0x4C, 0x4D, 0x52]) = false) :
    mzlDataFrame l x k s = (s.mzHeard l mzData x).packetIn (linkPort l) { k with bytes := x.payload } :=
  calc mzlDataFrame l x k s
    _ = mzlData l x k s := if_neg (Bool.eq_false_iff.mp hmirror)
    _ = _ := mzRecv_forMe l mzData x _ s h
    _ = _ := if_neg fun hc => hraf hc.1

/-- Credits that come back, up to the grant; in BACKOFF those of REQ and RSP go to the pool. -/
def MzLink.withReturned (y : MzLink) (b : List Byte) : MzLink :=
  { y with
    credits := (List.range 5).map fun k => min (MzLink.fresh.credits.getD k 0)
      (if k = 4 then y.credits.getD 4 0 + leAt b 0 1 + leAt b 1 1 else y.credits.getD k 0 + leAt b k 1) }

theorem creditFrame_forMe (l : Nat) (x : MzRx) (s w : State) (h : s.MzForMe l x) (hw : w = s.mzHeard l mzCredit x) :
    creditFrame l x s = (w.setLink l ((w.link l).withReturned x.payload)).mzFlow l := by
  subst hw
  exact mzRecv_forMe l mzCredit x _ s h

/-! ### Enumeration and interrupt notices (R364, R369) -/

/-- An ENUM from upstream offers a position. -/
theorem enumFrame_upstream (l : Nat) (x : MzRx) (s : State) (h : s.MzForMe l x) (hl : l = 0) :
    enumFrame l x s = (s.mzHeard l mzEnum x).enumOffered (leAt x.payload 0 1) (leAt x.payload 1 1 == 1) :=
  (mzRecv_forMe l mzEnum x _ s h).trans (if_pos hl)

/-- The last position so far is `p` where it was a lower one. -/
def State.raiseLastPos (w : State) (p : Nat) : State := if w.fld MZL_STAT.LAST_POS < p then w.put MZL_STAT.LAST_POS p else w

/-- The module at `p` has answered an enumeration, which goes on from then. -/
def State.enumAnswered (t : State) (p : Nat) : State :=
  t.withMz fun m => { m with enumAt := some t.clk, answered := (p, t.clk) :: m.answered.filter (·.1 != p) }

/-- An ENUM from downstream at POS 0 is the answer of a module that has taken its position. -/
theorem enumFrame_answer (l : Nat) (x : MzRx) (s w : State) (h : s.MzForMe l x) (hw : w = s.mzHeard l mzEnum x) (hl : l = 1)
    (he : w.enumerated = true) (hp : w.pos = 0) :
    enumFrame l x s = (w.raiseLastPos (leAt x.payload 0 1)).enumAnswered (leAt x.payload 0 1) := by
  subst hw
  exact (mzRecv_forMe l mzEnum x _ s h).trans ((if_neg (by omega)).trans (if_pos ⟨he, hp⟩))

/-- At POS 0 the bit of a position in HBR_CASC_PEND follows its notice. -/
theorem mzlIrq_posZero (l : Nat) (x : MzRx) (s w : State) (h : s.MzForMe l x) (hw : w = s.mzHeard l mzIrq x) (hp : w.pos = 0) :
    mzlIrq l x s = w.putB ⟨if x.src < 32 then HBR_CASC_PEND_LO.adr else HBR_CASC_PEND_HI.adr, x.src % 32, 1⟩
      (leAt x.payload 0 1 == 1) := by
  subst hw
  exact (mzRecv_forMe l mzIrq x _ s h).trans (if_neg (not_not_intro hp))

/-! ### The TIME exchange (R363) -/

theorem tReq_forMe (l : Nat) (x : MzRx) (s w : State) (h : s.MzForMe l x) (hw : w = s.mzHeard l mzTime x)
    (hk : leAt x.payload 0 1 = 1) : tReq l x s = w.mzAdj l mzTime
      (w.timePayload 2 (leAt x.payload 4 2) (stampBytes (w.stamp (w.mzRxCorr l))) (stampBytes (w.stamp (w.mzTxCorr l)))) := by
  subst hw
  exact (mzRecv_forMe l mzTime x _ s h).trans (if_neg (not_not_intro hk))

/-- The measurement that an answer gives of the upstream module, `t1` being the departure of its request. -/
def State.measureUpstream (w : State) (b : List Byte) (t1 : Int) : State :=
  w.updSrc 2 fun y =>
    { (y.measured w.ntu.frc
        ((w.ntLine w.ntu.frc + ((stampAt b 8 - t1) + (stampAt b 20 - (w.stamp (w.mzRxCorr 0) : Nat))) / 2) / 65536)) with
      ok := leAt b 1 1 == 1, lastAt := w.ntu.frc,
      badAt := if (leAt b 1 1 == 1) = true then none else some (y.badAt.getD w.ntu.frc) }

/-- No exchange is running. -/
def State.exchangeOver (y : State) : State := { y with ntu := { y.ntu with exch := none } }

/-- Where the upstream module is the current source, its OFS is this module's. -/
def State.followOfs (y : State) (b : List Byte) : State :=
  if y.ntuCur = some 2 then y.setOfs (toSigned 16 (leAt b 2 2)) else y

/-- T_RSP of the running exchange. -/
theorem tRsp_running (l : Nat) (x : MzRx) (s w : State) (seq : Nat) (t1 : Int) (h : s.MzForMe l x)
    (hw : w = s.mzHeard l mzTime x) (he : w.ntu.exch = some (seq, t1)) (hl : l = 0) (hk : leAt x.payload 0 1 = 2)
    (hq : leAt x.payload 4 2 = seq) :
    tRsp l x s = ((w.measureUpstream x.payload t1).exchangeOver).followOfs x.payload := by
  subst hw
  unfold tRsp
  rw [mzRecv_forMe l mzTime x _ s h]
  dsimp only
  rw [he]
  exact if_neg (by simp [hl, hk, hq])

/-- TIME_EXCHANGE is due at link-up, and 1 ms after the last. -/
theorem timeExchange_due (s : State) (hu : s.mzUp 0 = true)
    (hd : s.mz.timeAt = none ∨ ∃ a, s.mz.timeAt = some a ∧ a + msec ≤ s.clk) : timeExchange s = s.sendTReq := by
  unfold timeExchange
  rcases hd with hn | ⟨a, ha, ht⟩
  · exact if_neg (by simp [hu, hn])
  · exact if_neg (by simp [hu, ha, ht])

/-- Settles O32: a received frame by its header, its CRC and its route, and one for this module by its kind. That a module which
takes a position answers towards POS 0 is the model's choice (assumption 46). -/
theorem mistazilFramesComplete : Obligations.MistazilFramesComplete := by
  unfold Obligations.MistazilFramesComplete
  refine ⟨?_, ?_, ?_, ?_, ?_, ?_, ?_, ?_, ?_, ?_, ?_, ?_, ?_, ?_, ?_, ?_⟩
  · intro s l x hu hh
    exact finish_of_eq s (mzRecv_badHeader l.val mzReq x _ s hu hh)
  · intro s l x hu hh hc
    exact finish_of_eq s (mzRecv_badCrc l.val mzReq x _ s hu hh hc)
  · rintro s l x _ out hu hh hc rfl hr
    exact finish_of_eq s (mzRecv_forwarded l.val mzReq x _ s out hu hh hc hr)
  · rintro s l x _ w hu hh hc rfl hr hw ho
    exact finish_of_eq s ((mzlReq_forMe l.val x s w ⟨hu, hh, hc, hr⟩ hw).trans (by rw [if_pos ho]; rfl))
  · rintro s l x _ w hu hh hc rfl hr hw ho
    exact finish_of_eq s ((mzlReq_forMe l.val x s w ⟨hu, hh, hc, hr⟩ hw).trans (by rw [if_neg (by simp [ho])]; rfl))
  · rintro s l x _ w r t hu hh hc rfl hr hw hq hp ht
    exact finish_of_eq s ((mzlRsp_open l.val x s w t r ⟨hu, hh, hc, hr⟩ hw hq ht).trans (if_pos hp))
  · rintro s l x _ w r t hu hh hc rfl hr hw hq hp ht
    exact finish_of_eq s ((mzlRsp_open l.val x s w t r ⟨hu, hh, hc, hr⟩ hw hq ht).trans (if_neg hp))
  · rintro s l x _ _ k hu hh hc rfl hr rfl hraf hm
    exact finish_of_eq s (mzlDataFrame_packet l.val x k s ⟨hu, hh, hc, hr⟩ hraf hm)
  · rintro s l x _ w _ hu hh hc rfl hr hw rfl
    exact finish_of_eq s (creditFrame_forMe l.val x s w ⟨hu, hh, hc, hr⟩ hw)
  · rintro s l x _ _ hu hh hc rfl hr rfl hl
    exact finish_of_eq s (enumFrame_upstream l.val x s ⟨hu, hh, hc, hr⟩ hl)
  · rintro s l x _ w hu hh hc rfl hr hw hl he hp
    exact finish_of_eq s (enumFrame_answer l.val x s w ⟨hu, hh, hc, hr⟩ hw hl he hp)
  · rintro s l x _ w hu hh hc rfl hr hw hp
    exact finish_of_eq s (mzlIrq_posZero l.val x s w ⟨hu, hh, hc, hr⟩ hw hp)
  · rintro s l x _ w hu hh hc rfl hr hw hk
    exact finish_of_eq s (tReq_forMe l.val x s w ⟨hu, hh, hc, hr⟩ hw hk)
  · rintro s l x _ w seq t1 hu hh hc rfl hr hw he hl hk hq
    exact finish_of_eq s (tRsp_running l.val x s w seq t1 ⟨hu, hh, hc, hr⟩ hw he hl hk hq)
  · intro s hu hn
    exact finish_of_eq s (timeExchange_due s hu (.inl hn))
  · intro s a hu ha ht
    exact finish_of_eq s (timeExchange_due s hu (.inr ⟨a, ha, ht⟩))

end Sys2Proof.Machine
end

section
/-! Mistazil links besides their frames: changes of a link, enumeration, notices and backoff (R362, R364, R368, R369). -/

namespace Sys2Proof.Machine

/-! ### A REQ without an answer, and a link that waits (R362, R368) -/

theorem mzlReqTimeout_over (t : Nat) (s : State) (r : Req) (hr : s.mz.reqs.find? (fun r => r.tag == t) = some r)
    (ht : r.at_ + clampN 10 10000 (s.fld MZL_CFG.REQ_TO_US) * usec ≤ s.clk) :
    mzlReqTimeout t s = ((s.closeReq t).bump (MZL_LINK_CNT.TIMEOUT r.link)).complete r 2 0 := by
  unfold mzlReqTimeout
  rw [hr]
  exact if_pos ht

theorem dlaBackoff_waited (s : State) (a : Nat) (hu : s.mzUp 1 = true) (hd : s.bit MZL_CFG.DLA = true)
    (hb : (s.link 1).blockedAt = some a) (ht : a + 20 * usec ≤ s.clk) : dlaBackoff true s = s.withdrawReqs := by
  unfold dlaBackoff
  rw [hb]
  exact if_neg (by simp [hu, hd, ht])

/-! ### Changes of a link (R362, R457) -/

/-- MZL_STAT tells of a link whose ends use different modes. -/
def State.noteModes (s : State) (on same : Bool) : State := s.putB MZL_STAT.DLA_MISMATCH (on && !same)

section
variable (s : State) (l : Nat) (on same : Bool) (hu : s.up .mzl = true) (he : s.bit MZL_CFG.EN = true)
include hu he

theorem linkChange_up (hn : (on && same) = true) (hb : (s.noteModes on same).bit (MZL_LINK_STAT.UP l) = false) :
    s.linkChange l on same = (s.noteModes on same).linkUp l := by
  unfold State.linkChange
  dsimp only
  rw [if_neg (by simp [hu, he]), ← State.noteModes, hb, hn, if_neg (by decide), if_pos rfl]

theorem linkChange_down (hn : (on && same) = false) (hb : (s.noteModes on same).bit (MZL_LINK_STAT.UP l) = true) :
    s.linkChange l on same = (s.noteModes on same).linkDown l := by
  unfold State.linkChange
  dsimp only
  rw [if_neg (by simp [hu, he]), ← State.noteModes, hb, hn, if_neg (by decide), if_neg (by decide)]

end

/-- A change of a link that is not the pair's is that change alone. -/
theorem mzLinkChange_other (l : Nat) (on same : Bool) (s w : State) (hw : s.linkChange l on same = w)
    (hp : (w.pairEn && l == w.pairLink) = false) : mzLinkChange l on same s = w := by
  subst hw
  exact if_pos ((Bool.not_and _ _).symm.trans (congrArg not hp))

/-- What a change of the pair link means follows it. -/
theorem mzLinkChange_pairLink (l : Nat) (on same : Bool) (s w : State) (hw : s.linkChange l on same = w)
    (hp : (w.pairEn && l == w.pairLink) = true) :
    mzLinkChange l on same s = w.pairLinkFollow l (s.bit PAIR_STAT.LINK) := by
  subst hw
  exact if_neg (Bool.eq_false_iff.mp ((Bool.not_and _ _).symm.trans (congrArg not hp)))

/-! ### Enumeration (R364) -/

theorem enumTimeout_alone (s : State) (hu : s.up .mzl = true) (he : s.bit MZL_CFG.EN = true) (hn : s.enumerated = false)
    (ha : s.mz.aSeen = false) (ht : s.epc.coldAt + 100 * msec ≤ s.clk) : enumTimeout s = s.takePos 0 false :=
  if_pos (by simp [hu, he, hn, ha, ht])

theorem enumDone_due (s : State) (a : Nat) (ha : s.mz.enumAt = some a) (hu : s.up .mzl = true) (he : s.enumerated = true)
    (hp : s.pos = 0) (ht : a + 10 * msec ≤ s.clk) :
    enumDone s = (s.raise MZL_IRQ_STAT.ENUM_DONE).withMz fun m => { m with enumAt := none } := by
  unfold enumDone
  rw [ha]
  exact if_pos (by simp [hu, he, hp, ht])

theorem mzReenum_posZero (s t : State) (h : s.ready .mzl) (ht : t = s.taken .mzl 1) (he : t.enumerated = true)
    (hp : t.pos = 0) : mzReenum s =
      (((t.put MZL_STAT.LAST_POS 0).sendEnum true).withMz fun m => { m with enumAt := some t.clk }).ended .mzl 1 stDone := by
  subst ht
  exact runCmd_of_body .mzl 1 stDone _ s _ rfl h (if_pos (by simp [he, hp]))

theorem mzReenum_elsewhere (s t : State) (h : s.ready .mzl) (ht : t = s.taken .mzl 1) (hp : t.pos ≠ 0) :
    mzReenum s = t.ended .mzl 1 stRefusedState := by
  subst ht
  exact runCmd_of_body .mzl 1 stRefusedState _ s _ rfl h (if_neg (by simp [hp]))

/-! ### Notices (R369) -/

theorem irqRepeat_due (s : State) (hu : s.mzUp 0 = true) (hp : s.pos ≠ 0) (hc : s.irqCond = true)
    (ht : s.mz.irqAt + 100 * msec ≤ s.clk) : irqRepeat s = s.sendIrq := if_pos (by simp [hu, hp, hc, ht])

/-- Settles O33: a change of a link by its direction and by whose link it is, each timer where it is due, REENUM by POS. -/
theorem mistazilEventsComplete : Obligations.MistazilEventsComplete := by
  unfold Obligations.MistazilEventsComplete
  refine ⟨?_, ?_, ?_, ?_, ?_, ?_, ?_, ?_, ?_, ?_, ?_⟩
  · intro s t r hr ht
    exact finish_of_eq s (mzlReqTimeout_over t.toNat s r hr ht)
  · rintro s l on same _ _ hu he rfl hn hb rfl hp
    exact finish_of_eq s (mzLinkChange_other l.val on same s _ (linkChange_up s l.val on same hu he hn hb) hp)
  · rintro s l on same _ _ hu he rfl hn hb rfl hp
    exact finish_of_eq s (mzLinkChange_other l.val on same s _ (linkChange_down s l.val on same hu he hn hb) hp)
  · rintro s l on same _ _ hu he rfl hn hb rfl hp
    exact finish_of_eq s (mzLinkChange_pairLink l.val on same s _ (linkChange_up s l.val on same hu he hn hb) hp)
  · rintro s l on same _ _ hu he rfl hn hb rfl hp
    exact finish_of_eq s (mzLinkChange_pairLink l.val on same s _ (linkChange_down s l.val on same hu he hn hb) hp)
  · intro s hu he hn ha ht
    exact finish_of_eq s (enumTimeout_alone s hu he hn ha ht)
  · intro s a ha hu he hp ht
    exact finish_of_eq s (enumDone_due s a ha hu he hp ht)
  · intro s t h ht he hp
    exact finish_of_eq s (mzReenum_posZero s t h ht he hp)
  · intro s t h ht hp
    exact finish_of_eq s (mzReenum_elsewhere s t h ht hp)
  · intro s hu hp hc ht
    exact finish_of_eq s (irqRepeat_due s hu hp hc ht)
  · intro s a hu hd hb ht
    exact finish_of_eq s (dlaBackoff_waited s a hu hd hb ht)

end Sys2Proof.Machine
end

section
/-! The HSPI: its transactions, its fetch slots and its posted writes (R354 to R360). -/

namespace Sys2Proof.Machine

/-! ### An operation in the bridge -/

/-- No bytes are the value 0, in either order. -/
theorem ruleVal_nil (s : State) (off : Nat) : s.ruleVal off [] = 0 := by
  unfold State.ruleVal
  split <;> rfl

/-- At this module an operation that needs no slot is answered at once. -/
theorem newSlotOp_atOnce (s : State) (o : HostOp) (hp : o.pos = s.pos) (hr : s.reaches o.access = true)
    (hd : o.destr = false) (hb : s.canBegin o.pos = true) : s.newSlotOp o =
      (fun r : Nat × Nat × State => r.2.2.hspiReply o none r.1 r.2.1) (s.access o.access (s.ruleVal o.off o.data)) := by
  unfold State.newSlotOp
  dsimp only
  rw [if_neg (by simp [hr]), if_neg (by simp [hp]), if_pos (by simp [hp, hd, hp ▸ hb])]

/-- An operation takes a fetch slot, and is answered RETRY. -/
def State.fetchOp (s : State) (o : HostOp) (k : Nat) : State := (s.acceptOp { o with slot := some k }).hspiReply o (some k) 1 0

/-- A destructive read at this module takes a slot while fewer than six are held so. -/
theorem newSlotOp_destructive (s : State) (o : HostOp) (k : Nat) (hp : o.pos = s.pos) (hr : s.reaches o.access = true)
    (hd : o.destr = true) (h6 : s.destrSlots < 6) (hk : s.freeFetch = some k) : s.newSlotOp o = s.fetchOp o k := by
  unfold State.newSlotOp
  dsimp only
  rw [if_neg (by simp [hr]), if_neg (by simp [hp]), if_neg (by simp [hd]), if_neg (by simp [Nat.not_le.mpr h6]), hk]
  rfl

/-- A read of another position takes a slot. -/
theorem newSlotOp_remote (s : State) (o : HostOp) (k : Nat) (hp : o.pos ≠ s.pos) (hr : s.reachable o.pos = true)
    (hd : o.destr = false) (hk : s.freeFetch = some k) : s.newSlotOp o = s.fetchOp o k := by
  unfold State.newSlotOp
  dsimp only
  rw [if_neg (by simp [hp]), if_neg (by simp [hr]), if_neg (by simp [hp]), if_neg (by simp [hd]), hk]
  rfl

/-! ### Transactions (R354, R355, R358 to R360) -/

/-- Outside EMBER and BANKED a transaction reaches the bridge. -/
theorem onHspi_awake (s : State) (o : HostOp) (f : State → State) (he : s.pwr.mode ≠ .ember) (hb : s.pwr.mode ≠ .banked) :
    s.onHspi o f = f s := (if_neg he).trans (if_neg fun h => hb h.1)

section
variable (cmd addr : Nat) (s : State) (he : s.pwr.mode ≠ .ember) (hb : s.pwr.mode ≠ .banked)
include he hb

section
variable (full : Bool) (o : HostOp) (ho : o = hspiOp cmd addr [] (destrRead cmd addr)) (h0 : o.op = 0) (hc : cmd % 16 = 0)
include ho h0 hc

/-- A read is answered from the slot that it repeats, or is a new operation. -/
theorem hspiRead_read :
    hspiRead cmd addr full s = (s.matching cmd addr []).elim (s.newSlotOp o) fun x => s.repeatOp x full := by
  have h1 : ¬ o.op = 1 := by omega
  subst ho
  unfold hspiRead
  dsimp only
  rw [if_neg h1, onHspi_awake s _ _ he hb, if_neg (by simp [h0, hc])]
  cases s.matching cmd addr [] <;> rfl

theorem hspiRead_new (hm : s.matching cmd addr [] = none) : hspiRead cmd addr full s = s.newSlotOp o :=
  (hspiRead_read cmd addr s he hb full o ho h0 hc).trans (by rw [hm]; rfl)

theorem hspiRead_repeat (x : HostOp) (hm : s.matching cmd addr [] = some x) : hspiRead cmd addr full s = s.repeatOp x full :=
  (hspiRead_read cmd addr s he hb full o ho h0 hc).trans (by rw [hm]; rfl)

end

/-- A reserved command is an ERROR. -/
theorem hspiRead_reserved (full : Bool) (h : 2 ≤ bitsOf cmd 6 2 ∨ bitsOf cmd 6 2 = 0 ∧ cmd % 16 ≠ 0) :
    hspiRead cmd addr full s = s.hspiOut none 2 [] := by
  have hop : (hspiOp cmd addr [] (destrRead cmd addr)).op = bitsOf cmd 6 2 := rfl
  unfold hspiRead
  dsimp only
  rw [hop, if_neg (by omega), onHspi_awake s _ _ he hb, if_pos (by omega)]

section
variable (data : List Byte) (o : HostOp) (ho : o = hspiOp cmd addr data false) (h1 : o.op = 1)
include ho h1

theorem hspiWrite_reserved (hc : cmd % 16 ≠ 0) : hspiWrite cmd addr data s = s.hspiOut none 2 [] := by
  subst ho
  exact (if_neg (not_not_intro h1)).trans ((onHspi_awake s _ _ he hb).trans (if_pos hc))

section
variable (hc : cmd % 16 = 0) (hl : data.length = o.bytes)
include hc hl

/-- A write with all its bytes is answered from the slot that it repeats, is DENIED, takes the way of a read where its window's NP
is set, or is posted. -/
theorem hspiWrite_whole : hspiWrite cmd addr data s =
    (s.matching cmd addr data).elim
      (if !s.mayWrite .hspi o.off then s.hspiReply o none 3 0
        else if s.bit (HBR_WIN.NP (s.window o.off)) then s.newSlotOp o else s.postWrite o)
      fun x => s.repeatOp x true := by
  subst ho
  unfold hspiWrite
  dsimp only
  rw [if_neg (not_not_intro h1), onHspi_awake s _ _ he hb, if_neg (not_not_intro hc), if_neg (not_not_intro hl)]
  cases s.matching cmd addr data <;> rfl

theorem hspiWrite_repeat (x : HostOp) (hm : s.matching cmd addr data = some x) : hspiWrite cmd addr data s = s.repeatOp x true :=
  (hspiWrite_whole cmd addr s he hb data o ho h1 hc hl).trans (by rw [hm]; rfl)

theorem hspiWrite_denied (hm : s.matching cmd addr data = none) (hw : s.mayWrite .hspi o.off = false) :
    hspiWrite cmd addr data s = s.hspiReply o none 3 0 := by
  rw [hspiWrite_whole cmd addr s he hb data o ho h1 hc hl, hm]
  exact if_pos (by simp [hw])

theorem hspiWrite_admitted (hm : s.matching cmd addr data = none) (hw : s.mayWrite .hspi o.off = true) :
    hspiWrite cmd addr data s = if s.bit (HBR_WIN.NP (s.window o.off)) then s.newSlotOp o else s.postWrite o := by
  rw [hspiWrite_whole cmd addr s he hb data o ho h1 hc hl, hm]
  exact if_neg (by simp [hw])

end
end
end

/-- A posted write is answered OK where the buffer has room and its position can be reached: one at this module also where its
block has no power, which is the model's choice (assumption 13). -/
theorem postWrite_accepted (s : State) (o : HostOp) (hn : s.hb.ops.countP (·.posted) < 16)
    (hr : o.pos = s.pos ∨ s.reachable o.pos = true) : s.postWrite o = (s.acceptOp o).hspiReply o none 0 0 := by
  unfold State.postWrite
  rcases hr with h | h
  · exact if_neg (by simp [Nat.not_le.mpr hn, h])
  · exact if_neg (by simp [Nat.not_le.mpr hn, h])

/-! ### What the bridge does by itself (R357, R359, R360) -/

theorem postedWriteDone_oldest (s : State) (o : HostOp) (ho : s.hb.ops.find? (fun o => o.posted && o.pos == s.pos) = some o) :
    postedWriteDone s = (s.beginOp o).kick s.pos := by
  unfold postedWriteDone
  rw [ho]

theorem slotHoldExpiry_unclaimed (k : Nat) (s : State) (o : HostOp) (ho : s.hb.ops.find? (fun o => o.slot == some k) = some o)
    (hd : o.destr = false) (hr : o.result.isSome = true)
    (ht : o.doneAt + clampN 10 10000 (s.fld HBR_FETCH_CFG.HOLD_US) * usec ≤ s.clk) :
    slotHoldExpiry k s = (s.dropOp o.seq).raise HBR_IRQ_STAT.SLOT_EXPIRED := by
  unfold slotHoldExpiry
  rw [ho]
  exact if_pos (by simp [hd, hr, ht])

/-- No operation holds a slot any more. -/
def State.freeSlots (t : State) : State := { t with hb := { t.hb with ops := t.hb.ops.filter (·.slot.isNone) } }

theorem slotFlush_done (s t : State) (h : s.ready .hbr) (ht : t = s.taken .hbr 1) : slotFlush s =
    (t.freeSlots.logEv 22 1 (leBytes 1 t.destrSlots)).ended .hbr 1 stDone := by
  subst ht
  exact runCmd_of_body .hbr 1 stDone _ s _ rfl h rfl

/-- Settles O34: a transaction by its command, its slot, its window and its position. That a posted write to this module's own
unpowered block is answered as posted is the model's choice (assumption 13). -/
theorem hostPortComplete : Obligations.HostPortComplete := by
  unfold Obligations.HostPortComplete
  refine ⟨?_, ?_, ?_, ?_, ?_, ?_, ?_, ?_, ?_, ?_, ?_, ?_, ?_⟩
  · intro s cmd addr full o he hb ho h0 hc hm hp hr hd hk
    have hdata : s.ruleVal o.off o.data = 0 := by rw [ho]; exact ruleVal_nil s _
    exact finish_of_eq s ((hspiRead_new cmd.toNat addr.toNat s he hb full o ho h0 hc hm).trans
      ((newSlotOp_atOnce s o hp hr hd hk).trans (by rw [hdata])))
  · intro s cmd addr full o k he hb ho h0 hc hm hp hr hd h6 hk
    exact finish_of_eq s ((hspiRead_new cmd.toNat addr.toNat s he hb full o ho h0 hc hm).trans
      (newSlotOp_destructive s o k hp hr hd h6 hk))
  · intro s cmd addr full o k he hb ho h0 hc hm hp hr hd hk
    exact finish_of_eq s ((hspiRead_new cmd.toNat addr.toNat s he hb full o ho h0 hc hm).trans
      (newSlotOp_remote s o k hp hr hd hk))
  · intro s cmd addr full o x he hb ho h0 hc hm
    exact finish_of_eq s (hspiRead_repeat cmd.toNat addr.toNat s he hb full o ho h0 hc x hm)
  · intro s cmd addr full he hb h
    exact finish_of_eq s (hspiRead_reserved cmd.toNat addr.toNat s he hb full h)
  · intro s cmd addr data o he hb ho h1 hc
    exact finish_of_eq s (hspiWrite_reserved cmd.toNat addr.toNat s he hb data o ho h1 hc)
  · intro s cmd addr data o x he hb ho h1 hc hl hm
    exact finish_of_eq s (hspiWrite_repeat cmd.toNat addr.toNat s he hb data o ho h1 hc hl x hm)
  · intro s cmd addr data o he hb ho h1 hc hl hm hw
    exact finish_of_eq s (hspiWrite_denied cmd.toNat addr.toNat s he hb data o ho h1 hc hl hm hw)
  · intro s cmd addr data o he hb ho h1 hc hl hm hw hn
    exact finish_of_eq s ((hspiWrite_admitted cmd.toNat addr.toNat s he hb data o ho h1 hc hl hm hw).trans (if_pos hn))
  · intro s cmd addr data o he hb ho h1 hc hl hm hw hn h16 hr
    exact finish_of_eq s ((hspiWrite_admitted cmd.toNat addr.toNat s he hb data o ho h1 hc hl hm hw).trans
      ((if_neg (Bool.eq_false_iff.mp hn)).trans (postWrite_accepted s o h16 hr)))
  · intro s o ho
    exact finish_of_eq s (postedWriteDone_oldest s o ho)
  · intro s k o ho hd hr ht
    exact finish_of_eq s (slotHoldExpiry_unclaimed k.val s o ho hd hr ht)
  · intro s t h ht
    exact finish_of_eq s (slotFlush_done s t h ht)

end Sys2Proof.Machine
end

section
/-! The USB port and the JTAG instructions (R377 to R380, R489). -/

namespace Sys2Proof.Machine

/-! ### The bus and its configuration (R377, R380) -/

/-- A bus reset is counted, and the speed of the bus from then on noted. CONFIGURED stays, which is the model's choice
(assumption 12). -/
def State.busReset (s : State) (hs : Bool) : State := (s.bump USB_CNT.BUS_RESETS).putB USB_STAT.HS hs

/-- A transfer in progress is aborted. -/
def State.abortXfer (v : State) : State := ((v.bump USB_CNT.ABORTED).raise USB_IRQ_STAT.ABORTED).usbEnd

theorem usbBusReset_on (inside hs : Bool) (s : State) (hu : s.usbOn = true) : usbBusReset inside hs s =
    if inside || s.usb.xfer.isSome then (s.busReset hs).abortXfer else s.busReset hs := if_neg (by simp [hu])

theorem usbSetConfiguration_changes (on : Bool) (s : State) (hu : s.usbOn = true) (hc : s.bit USB_STAT.CONFIGURED ≠ on) :
    usbSetConfiguration on s = (s.putB USB_STAT.CONFIGURED on).raise USB_IRQ_STAT.CONFIG_CHG :=
  if_neg (by simp [hu, hc])

/-! ### Control requests (R378, R379) -/

/-- The bytes of the word at an offset, as a register read shows it. -/
def State.infoWord (s : State) (a : Nat) : List Byte := leBytes 4 (s.view 2 a)

section
variable (s : State) (hf : s.usbFree = true)
include hf

/-- READ runs word by word where its length is one of whole words up to 512 bytes, and is stalled otherwise. -/
theorem usbRead_free (pos off len : Nat) : usbRead pos off len s =
    if !usbLenOk len then s.usbStall
    else State.usbRun 129 ⟨false, pos, off, len / 4, [], [], none, none⟩ s := if_neg (by simp [hf])

/-- The same for WRITE. -/
theorem usbWrite_free (pos off : Nat) (data : List Byte) : usbWrite pos off data s =
    if !usbLenOk data.length then s.usbStall
    else State.usbRun 129
      ⟨true, pos, off, 0, (List.range (data.length / 4)).map fun k => leAt data (4 * k) 4, [], none, none⟩ s :=
  if_neg (by simp [hf])

theorem getResult_free (len : Nat) : getResult len s =
    if len ≠ 8 then s.usbStall
    else s.usbOut (leBytes 1 s.usb.result.1 ++ [0] ++ leBytes 2 s.usb.result.2.1 ++ leBytes 4 s.usb.result.2.2) :=
  if_neg (by simp [hf])

theorem getInfo_free (len : Nat) : getInfo len s =
    if len ≠ 32 then s.usbStall
    else s.usbOut (s.infoWord SYS_ID_FAMILY.adr ++ s.infoWord SYS_ID_PART.adr ++ serialBytes ++ s.infoWord SYS_ID_SEG.adr ++
      s.infoWord PWR_STAT.adr ++ s.infoWord CFG_EPOCH.adr ++ s.infoWord NTU_STAT.adr) :=
  if_neg (by simp [hf])

end

/-! ### Bulk transfers (R377) -/

theorem usbBulkOut_on (k : PacketIn) (s : State) (hu : s.usbOn = true) : usbBulkOut k s = s.packetIn 17 k := if_pos hu

theorem usbBulkIn_scheduled (s v : State) (d : Desc) (hu : s.usbOn = true) (hd : s.schedule 17 = (some d, v)) :
    usbBulkIn s = (v.dropDesc d).usbOut (v.egress d) := by
  unfold usbBulkIn
  rw [if_neg (by simp [hu]), hd]

/-! ### JTAG (R489) -/

/-- EXTEST and debug access are served in BLANK, PROVISIONED and RETURN. -/
def State.jtagOpen (s : State) : Bool := ([0, 1, 4] : List Nat).contains s.key.lc

section
variable (op : Nat) (s : State) (hu : s.up .key = true)
include hu

/-- IDCODE: the bits beside PART_CODE are the model's choice (assumption 63). -/
theorem jtagInstruction_idcode (h1 : op = 1) : jtagInstruction op s =
    (s.emit .jtag ([0] ++ leBytes 4 (s.freeVal % 16 * 2 ^ 28 + s.fld SYS_ID_PART.PART_CODE * 2 ^ 12 +
      s.freeVal / 16 % 2 ^ 11 * 2 + 1))).useFree :=
  (if_neg (by simp [hu])).trans (if_pos h1)

theorem jtagInstruction_other (h1 : op ≠ 1) : jtagInstruction op s =
    if 2 ≤ op ∧ !s.jtagOpen then s.emit .jtag [1] else s.emit .jtag [0] :=
  (if_neg (by simp [hu])).trans (if_neg h1)

theorem jtagInstruction_refused (h2 : 2 ≤ op) (hc : s.jtagOpen = false) : jtagInstruction op s = s.emit .jtag [1] :=
  (jtagInstruction_other op s hu (by omega)).trans (if_pos ⟨h2, by simp [hc]⟩)

theorem jtagInstruction_served (h : op = 0 ∨ 2 ≤ op ∧ s.jtagOpen = true) : jtagInstruction op s = s.emit .jtag [0] := by
  refine (jtagInstruction_other op s hu (by omega)).trans (if_neg ?_)
  rcases h with h0 | ⟨-, ho⟩
  · exact fun hc => absurd hc.1 (by omega)
  · exact fun hc => by simp [ho] at hc

end

/-- Settles O35: each request by its length, a reset by whether a transfer is in progress, and each JTAG instruction by the
life-cycle state. The IDCODE word beside PART_CODE, and a reset that keeps CONFIGURED, are the model's choices (assumptions 63
and 12). -/
theorem usbComplete : Obligations.UsbComplete := by
  unfold Obligations.UsbComplete
  refine ⟨?_, ?_, ?_, ?_, ?_, ?_, ?_, ?_, ?_, ?_, ?_, ?_, ?_, ?_, ?_, ?_⟩
  · rintro s inside hs _ hu rfl hx
    exact finish_of_eq s ((usbBusReset_on inside hs s hu).trans (if_pos hx))
  · rintro s inside hs _ hu rfl hx
    exact finish_of_eq s ((usbBusReset_on inside hs s hu).trans (if_neg (Bool.eq_false_iff.mp hx)))
  · intro s pos off len hf hl
    exact finish_of_eq s ((usbRead_free s hf pos.toNat off.toNat len.toNat).trans (if_neg (by simp [hl])))
  · intro s pos off len hf hl
    exact finish_of_eq s ((usbRead_free s hf pos.toNat off.toNat len.toNat).trans (if_pos (by simp [hl])))
  · intro s pos off data hf hl
    exact finish_of_eq s ((usbWrite_free s hf pos.toNat off.toNat data).trans (if_neg (by simp [hl])))
  · intro s pos off data hf hl
    exact finish_of_eq s ((usbWrite_free s hf pos.toNat off.toNat data).trans (if_pos (by simp [hl])))
  · intro s len hf hl
    exact finish_of_eq s ((getResult_free s hf len.toNat).trans (if_neg (not_not_intro hl)))
  · intro s len hf hl
    exact finish_of_eq s ((getResult_free s hf len.toNat).trans (if_pos hl))
  · intro s len hf hl
    exact finish_of_eq s ((getInfo_free s hf len.toNat).trans (if_neg (not_not_intro hl)))
  · intro s len hf hl
    exact finish_of_eq s ((getInfo_free s hf len.toNat).trans (if_pos hl))
  · intro s k hu
    exact finish_of_eq s (usbBulkOut_on k s hu)
  · intro s d v hu hd hv
    exact finish_of_eq s (usbBulkIn_scheduled s v d hu (Prod.ext hd hv.symm))
  · intro s on hu hc
    exact finish_of_eq s (usbSetConfiguration_changes on s hu hc)
  · rintro s op _ hu h1 rfl
    exact finish_of_eq s (jtagInstruction_idcode op.val s hu h1)
  · intro s op hu h2 hc
    exact finish_of_eq s (jtagInstruction_refused op.val s hu h2 hc)
  · intro s op hu h
    exact finish_of_eq s (jtagInstruction_served op.val s hu h)

end Sys2Proof.Machine
end

section
/-! Backbone links, the ring and RAF requests (R370 to R373). -/

namespace Sys2Proof.Machine

/-! ### Links (R370) -/

theorem bbLinkChange_changes (p : Nat) (on gig : Bool) (s : State) (hu : s.bbOn = true)
    (hl : s.bit (BBN_PORT_STAT.LINK p) ≠ on) : bbLinkChange p on gig s = s.bbLink p on gig :=
  if_neg (by simp [hu, Ne.symm hl])

theorem bbSpeedAlternate_due (p : Nat) (s : State) (hu : s.bbOn = true) (hl : s.bit (BBN_PORT_STAT.LINK p) = false)
    (hs : s.fld (BBN_PORT_CFG.SPEED p) = 0 ∨ s.fld (BBN_PORT_CFG.SPEED p) = 3)
    (ht : s.bb.altAt.getD p 0 + 500 * msec ≤ s.clk) : bbSpeedAlternate p s =
      (s.putB (BBN_PORT_STAT.GIG p) (!s.bit (BBN_PORT_STAT.GIG p))).withBb fun b =>
        { b with altAt := updAt b.altAt p fun _ => s.clk } :=
  if_pos (by simpa [hu, hl] using And.intro hs ht)

/-! ### The ring (R371) -/

theorem ringCheck_due (s : State) (ho : s.ringOwner = true) (ht : s.bb.ringAt + 10 * msec ≤ s.clk) :
    ringCheck s = s.ringCheckNow :=
  if_neg (by simp [ho, Nat.not_lt.mpr ht])

/-- BB1 is blocked, which closes a ring that was open. -/
def State.closeRing (v : State) : State :=
  if v.bit (BBN_PORT_STAT.BLOCKED 1) then v else (v.put (BBN_PORT_STAT.BLOCKED 1) 1).raise BBN_IRQ_STAT.RING_CLOSED

/-- The owner's check has come back. -/
def State.checkBack (t : State) : State := t.withBb fun b => { b with back := true, missing := 0 }

section
variable (p seg seq : Nat) (s v : State) (hu : s.bbUp p = true) (hv : v = s.bump (BBN_PORT_RX.FRAMES p))
include hu hv

/-- The owner's own check on BB1 closes the ring. -/
theorem ringCheckRx_back (hp : p = 1) (ho : v.ringOwner = true) (hs : seg = v.seg) :
    ringCheckRx p seg seq s = v.closeRing.checkBack := by
  subst hv
  exact (if_neg (by simp [hu])).trans ((if_pos (by simp [ho, ← hs])).trans (if_pos hp))

/-- Any other check goes on by the other port. -/
theorem ringCheckRx_forwarded (ho : v.ringOwner = false ∨ seg ≠ v.seg) (hr : v.bit BBN_CTL.RING = true)
    (hother : v.bbUp (1 - p) = true) : ringCheckRx p seg seq s = v.bbPut (1 - p) (v.checkFrame seg seq) := by
  have hnotOwn : ¬ (v.ringOwner && seg == v.seg) = true := by
    rcases ho with h | h <;> simp [h]
  subst hv
  exact (if_neg (by simp [hu])).trans ((if_neg hnotOwn).trans (if_pos (by simp [hr, hother])))

end

/-! ### RAF requests (R372, R373) -/

/-- A request is counted, judged, and served as it was judged. -/
theorem rafReq_up (p ip port : Nat) (b : List Byte) (s : State) (r : Bool × State) (hu : s.bbUp p = true)
    (hr : r = (s.bump (BBN_PORT_RX.FRAMES p)).rafAccept b) : rafReq p ip port b s = r.2.rafServe r.1 p ip port b := by
  subst hr
  exact if_neg (by simp [hu])

/-- Settles O36: a port by its link, a check by whose it is, and a request as it is judged. -/
theorem backboneComplete : Obligations.BackboneComplete := by
  unfold Obligations.BackboneComplete
  refine ⟨?_, ?_, ?_, ?_, ?_, ?_, ?_⟩
  · intro s p on gig hu hl
    exact finish_of_eq s (bbLinkChange_changes p.val on gig s hu hl)
  · intro s p hu hl hs ht
    exact finish_of_eq s (bbSpeedAlternate_due p.val s hu hl hs ht)
  · intro s ho ht
    exact finish_of_eq s (ringCheck_due s ho ht)
  · intro s seg seq v hu hv ho hs
    exact finish_of_eq s (ringCheckRx_back 1 seg.toNat seq.toNat s v hu hv rfl ho hs)
  · intro s p seg seq v hu hv ho hr hother
    exact finish_of_eq s (ringCheckRx_forwarded p.val seg.toNat seq.toNat s v hu hv ho hr hother)
  · intro s p
    exact finish_of_eq s rfl
  · intro s p ip port b r hu hr
    exact finish_of_eq s (rafReq_up p.val ip.toNat port.toNat b s r hu hr)

end Sys2Proof.Machine
end

section
/-! Metering intervals, ranges, crossings and windows, and worn modulators (R383 to R390, R393, R466). -/

namespace Sys2Proof.Machine

/-! ### Intervals, ranges and compensation (R385 to R387, R393) -/

theorem accumulationInterval_over (sig : List (List Int)) (s : State) (ho : s.mtrOn = true)
    (ht : s.mtr.intAt + 10 * msec ≤ s.clk) : accumulationInterval sig s = s.endInterval sig :=
  if_neg (by simp [ho, Nat.not_lt.mpr ht])

theorem autoRangeSwitch_intact (i : Nat) (to16 : Bool) (s : State) (ho : s.mtrOn = true)
    (ha : s.bit (MTR_CH_CTL.AUTO (12 + i)) = true) (hf : s.mtrFailed (12 + i) = false)
    (hr : s.bit (MTR_CH_STAT.RANGE16 (12 + i)) = !to16) : autoRangeSwitch i to16 s =
      (s.putB (MTR_CH_STAT.RANGE16 (12 + i)) to16).bumpBy (MTR_CH_STAT.INTERP (12 + i)) 4 :=
  if_neg (by simp [ho, ha, hf, hr])

/-- The compensation of every channel at a temperature. -/
def State.compsAt (s : State) (t : Int) : List (Int × Int) :=
  (List.range 48).map fun ch => (s.compAt (MTR_COMP.GAIN_PPM ch) t, s.compAt (MTR_COMP.PHASE_NS ch) t)

theorem mtrTempUpdate_up (t : Int) (s : State) (hu : s.up .mtr = true) :
    mtrTempUpdate t s = (s.putI MTR_TEMP.T t).withMtr fun m => { m with comps := s.compsAt t } := if_neg (by simp [hu])

/-! ### Zero crossings and windows (R388, R389) -/

/-- A set's run with a window that begins now, at a crossing. -/
def SetRun.begun (x : SetRun) (now : Nat) : SetRun := { x with last := some now, first := some now, start := now, count := 0 }

section
variable (k : Nat) (s : State) (x : SetRun) (hs : s.setOn k = true) (hc : s.crossingOk k = true) (hx : x = s.setRun' k)
include hs hc hx

/-- A crossing that is accepted on an enabled set: by whether crossings were lost, and by the window that runs. -/
theorem zeroCrossing_accepted : zeroCrossing k s =
    if s.bit (MTR_SET_RES0.ZC_LOST k) then
      (s.put (MTR_SET_RES0.ZC_LOST k) 0).putSet k { x.begun s.clk with ended := some none }
    else x.first.elim (s.putSet k (x.begun s.clk)) fun t =>
      if x.count + 1 = s.periodsK then s.putSet k { x.begun s.clk with ended := some (some (s.clk - t)) }
      else s.putSet k { x with last := some s.clk, count := x.count + 1 } := by
  subst hx
  unfold zeroCrossing
  rw [if_neg (by simp [hs, hc])]
  dsimp only
  cases (s.setRun' k).first <;> rfl

theorem zeroCrossing_afterLoss (hl : s.bit (MTR_SET_RES0.ZC_LOST k) = true) : zeroCrossing k s =
    (s.put (MTR_SET_RES0.ZC_LOST k) 0).putSet k { x.begun s.clk with ended := some none } :=
  (zeroCrossing_accepted k s x hs hc hx).trans (if_pos hl)

section
variable (hl : s.bit (MTR_SET_RES0.ZC_LOST k) = false)
include hl

theorem zeroCrossing_first (hf : x.first = none) : zeroCrossing k s = s.putSet k (x.begun s.clk) := by
  rw [zeroCrossing_accepted k s x hs hc hx, if_neg (by simp [hl]), hf]
  rfl

/-- The crossing that completes a window's periods ends it, with its span. -/
theorem zeroCrossing_last (t : Nat) (hf : x.first = some t) (hn : x.count + 1 = s.periodsK) :
    zeroCrossing k s = s.putSet k { x.begun s.clk with ended := some (some (s.clk - t)) } := by
  rw [zeroCrossing_accepted k s x hs hc hx, if_neg (by simp [hl]), hf]
  exact if_pos hn

theorem zeroCrossing_counted (t : Nat) (hf : x.first = some t) (hn : x.count + 1 ≠ s.periodsK) :
    zeroCrossing k s = s.putSet k { x with last := some s.clk, count := x.count + 1 } := by
  rw [zeroCrossing_accepted k s x hs hc hx, if_neg (by simp [hl]), hf]
  exact if_neg hn

end
end

theorem zcLost_due (k : Nat) (s : State) (hs : s.setOn k = true) (hl : s.bit (MTR_SET_RES0.ZC_LOST k) = false)
    (ht : (s.setRun' k).last.getD (s.setRun' k).start +
      max 1 (s.cf (MTR_SET_ALARM.ZC_TO k)) * s.nomPeriod / 10 ≤ s.clk) : zcLost k s = s.loseZc k :=
  if_neg (by simp only [hs, hl, ht]; decide)

theorem windowEnd_over (k : Nat) (sig : List (List Int)) (s : State) (span : Option Nat) (hw : s.windowOver k = some span)
    (hs : s.setOn k = true) : windowEnd k sig s = s.closeWindow k sig span := by
  unfold windowEnd
  rw [hw]
  exact if_neg (by simp [hs])

/-! ### Modulators (R383, R384, R466) -/

theorem modulatorCheck_drifting (ch bad : Nat) (s : State) (ho : s.mtrOn = true) (hf : s.mtrFailed ch = false) :
    modulatorCheck ch true bad s = s.declareUnit 4 ch false bad := if_pos (by simp [ho, hf])

/-- The trim of a channel's spare is over. -/
def State.endTrim (s : State) (ch : Nat) : State := s.withMtr fun y => { y with trims := y.trims.filter fun x => x.1 != ch }

/-- A channel is switched to modulator `m`, a spare. -/
def State.switchModulator (v : State) (ch m : Nat) : State := (v.put (MTR_CH_STAT.SPARE ch) 1).put (MTR_CH_STAT.MOD ch) m

theorem modulatorSubstitution_trimmed (ch : Nat) (s : State) (m a : Nat) (hu : s.up .mtr = true)
    (hm : s.mtr.trims.find? (fun x => x.1 == ch) = some (ch, m, a)) (ht : a + secs ≤ s.clk) :
    modulatorSubstitution ch s = ((((s.endTrim ch).switchModulator ch m).spareIn 4 ch (m - 48)).serveUnits 4 0 49) := by
  unfold modulatorSubstitution
  rw [hm]
  exact if_neg (by simp [hu, Nat.not_lt.mpr ht])

/-- Settles O38: an interval and a window where they are over, a crossing by its set's run, and a modulator by its trim. -/
theorem meteringIntervalsComplete : Obligations.MeteringIntervalsComplete := by
  unfold Obligations.MeteringIntervalsComplete
  refine ⟨?_, ?_, ?_, ?_, ?_, ?_, ?_, ?_, ?_, ?_, ?_⟩
  · intro s sig ho ht
    exact finish_of_eq s (accumulationInterval_over sig s ho ht)
  · intro s n to16 ho ha hf hr
    exact finish_of_eq s (autoRangeSwitch_intact n.val to16 s ho ha hf hr)
  · intro s t hu
    exact finish_of_eq s (mtrTempUpdate_up t s hu)
  · intro s k x hs hc hx hl
    exact finish_of_eq s (zeroCrossing_afterLoss k.val s x hs hc hx hl)
  · intro s k x hs hc hx hl hf
    exact finish_of_eq s (zeroCrossing_first k.val s x hs hc hx hl hf)
  · intro s k x t hs hc hx hl hf hn
    exact finish_of_eq s (zeroCrossing_last k.val s x hs hc hx hl t hf hn)
  · intro s k x t hs hc hx hl hf hn
    exact finish_of_eq s (zeroCrossing_counted k.val s x hs hc hx hl t hf hn)
  · intro s k hs hl ht
    exact finish_of_eq s (zcLost_due k.val s hs hl ht)
  · intro s k sig span hw hs
    exact finish_of_eq s (windowEnd_over k.val sig s span hw hs)
  · intro s ch bad ho hf
    exact finish_of_eq s (congrArg State.pairFollow (modulatorCheck_drifting ch.val bad s ho hf))
  · rintro s ch m a _ hu hm ht rfl
    exact finish_of_eq s (modulatorSubstitution_trimmed ch.val s m a hu hm ht)

end Sys2Proof.Machine
end

section
/-! FREEZE_ALL, pulses and reconciliation windows (R395, R396, R399 to R402). -/

namespace Sys2Proof.Machine

/-! ### FREEZE_ALL (R395, R396) -/

/-- A freeze waits for the first sample at an instant of network time or later; 0 is the next sample. -/
def State.freezeFrom (t : State) (n : Nat) : State := t.withMtr fun m => { m with freezeAt := some n }

/-- The instant that MTR_FREEZE_T gives, in ns. -/
def State.freezeInstant (t : State) : Nat :=
  t.fld MTR_FREEZE_T_NS.NS + (t.fld MTR_FREEZE_T_SEC_LO.SEC_LO + 2 ^ 32 * t.fld MTR_FREEZE_T_SEC_HI.SEC_HI) * 1000000000

theorem freezeAll_nextSample (s t : State) (h : s.ready .mtr) (ht : t = s.taken .mtr 1) (ha : t.bit MTR_CMD_ARG.AT = false) :
    freezeAll s = (t.freezeFrom 0).ended .mtr 1 stPending := by
  subst ht
  exact runCmd_of_body .mtr 1 stPending _ s _ rfl h (if_pos (by simp [ha]))

theorem freezeAll_atInstant (s t : State) (h : s.ready .mtr) (ht : t = s.taken .mtr 1) (ha : t.bit MTR_CMD_ARG.AT = true)
    (hn : t.nt ≤ t.freezeInstant) (hr : t.inRange t.freezeInstant = true) :
    freezeAll s = (t.freezeFrom t.freezeInstant).ended .mtr 1 stPending := by
  have hok : ¬ (decide (t.freezeInstant < t.nt) || !t.inRange t.freezeInstant) = true := by simp [Nat.not_lt.mpr hn, hr]
  subst ht
  exact runCmd_of_body .mtr 1 stPending _ s _ rfl h ((if_neg (by simp [ha])).trans (if_neg hok))

theorem freezeSample_due (sig : List (List Int)) (s : State) (t : Nat) (ho : s.mtrOn = true) (hf : s.mtr.freezeAt = some t)
    (ht : t ≤ s.nt) : freezeSample sig s = s.freezeNow sig := by
  unfold freezeSample
  rw [hf]
  exact if_neg (by simp [ho, Nat.not_lt.mpr ht])

/-! ### Pulses (R399, R400) -/

/-- The residue of a generator now: what was left, and the part of the last interval's energy that is spread so far. -/
def PulseRun.residueAt (p : PulseRun) (now : Nat) : Int :=
  p.residue + (p.spread * min 160 ((now - p.start) / sampleCounts) / 160 : Nat)

theorem pulseDue_reached (k : Nat) (s : State) (ho : s.mtrOn = true) (he : s.cfB (MTR_PULSE_CFG.EN k) = true)
    (hr : s.pulseConst k ≤ (s.pulse k).residueAt s.clk) : pulseDue k s = s.pulseNow k (s.pulseConst k) := by
  have hacts : ¬ (!s.mtrOn || !s.cfB (MTR_PULSE_CFG.EN k) || decide ((s.pulse k).residueAt s.clk < s.pulseConst k)) = true := by
    simp [ho, he, hr]
  exact if_neg hacts

/-- PULSE_END of a pulse whose width has passed: the output goes low, and the next pulse follows where it may. -/
theorem pulseEnd_running (k : Nat) (s : State) (t : Nat) (hp : (s.pulse k).highUntil = some t) (ht : t ≤ s.clk) : pulseEnd k s =
    ((s.setPulse k { s.pulse k with highUntil := none }).pulsePin k false).pulseNext k := by
  have hlow : s.pulseLow k = (s.setPulse k { s.pulse k with highUntil := none }).pulsePin k false := by
    unfold State.pulseLow
    dsimp only
    rw [hp]
    exact if_pos ht
  exact congrArg (State.pulseNext · k) hlow

/-- PULSE_END of an output that has been low for its width: the first waiting pulse starts. -/
theorem pulseEnd_waiting (k : Nat) (s : State) (p : PulseRun) (w : Nat) (l : List Nat) (hp : p = s.pulse k)
    (hh : p.highUntil = none) (hl : p.lowUntil ≤ s.clk) (hw : p.waiting = w :: l) :
    pulseEnd k s = (s.setPulse k { p with waiting := l }).startPulse k w := by
  subst hp
  have hlow : s.pulseLow k = s := by
    unfold State.pulseLow
    dsimp only
    rw [hh]
  unfold pulseEnd State.pulseNext
  rw [hlow]
  dsimp only
  rw [hw]
  exact if_pos (by simp [hh, hl])

/-! ### Reconciliation windows (R401, R402) -/

theorem recWindowEnd_over (f : Nat) (s : State) (r : RecRun) (ho : s.mtrOn = true)
    (hr : s.mtr.recs.find? (fun r => r.feeder == f) = some r) (ht : r.start + r.len ≤ s.ntu.frc) :
    recWindowEnd f s = s.closeRec r := by
  unfold recWindowEnd
  rw [hr]
  exact if_neg (by simp [ho, Nat.not_lt.mpr ht])

/-- Settles O39: a freeze by its instant, a pulse by its generator's residue and output, and a window where it is over. -/
theorem freezesPulsesAndReconciliationComplete : Obligations.FreezesPulsesAndReconciliationComplete := by
  unfold Obligations.FreezesPulsesAndReconciliationComplete
  refine ⟨?_, ?_, ?_, ?_, ?_, ?_, ?_⟩
  · intro s t h ht ha
    exact finish_of_eq s (freezeAll_nextSample s t h ht ha)
  · rintro s t _ h ht ha rfl hn hr
    exact finish_of_eq s (freezeAll_atInstant s t h ht ha hn hr)
  · intro s sig t ho hf ht
    exact finish_of_eq s (freezeSample_due sig s t ho hf ht)
  · rintro s k _ ho he rfl hr
    exact finish_of_eq s (pulseDue_reached k.val s ho he hr)
  · intro s k t hp ht
    exact finish_of_eq s (pulseEnd_running k.val s t hp ht)
  · intro s k p w l hp hh hl hw
    exact finish_of_eq s (pulseEnd_waiting k.val s p w l hp hh hl hw)
  · intro s f r ho hr ht
    exact finish_of_eq s (recWindowEnd_over f.val s r ho hr ht)

end Sys2Proof.Machine
end

section
/-! The firing log: its commands, its writes to NVM, its rate windows and its reads (R470 to R475), and the critical health
condition (R465). -/

namespace Sys2Proof.Machine

/-! ### Commands and writes to NVM (R471, R473, R475) -/

/-- The records are erased, with the intent of the clear kept for its source. -/
def State.eraseLog (a : State) (src : Src) : State :=
  { a with log := { a.log with clearing := some (a.log.head, a.log.recs.length, src.code), recs := [] } }

theorem logClear_session (src : Src) (s a : State) (h : s.ready .log) (ha : (s.taken .log 1).authorise src = some a) :
    logClear src s = (a.eraseLog src).publishLog.ended .log 1 stPending :=
  runCmd_of_body .log 1 stPending _ s _ rfl h (privileged_some src _ _ a ha)

theorem logFlush_done (s t : State) (h : s.ready .log) (ht : t = s.taken .log 2) :
    logFlush s = t.flushLog.ended .log 2 stDone := by
  subst ht
  exact runCmd_of_body .log 2 stDone _ s _ rfl h rfl

theorem logNvmWrite_up (s : State) (hu : s.up .log = true) : logNvmWrite s = s.flushLog := if_pos hu

/-! ### Rate windows (R472) -/

/-- A window whose period is over ends, with a summary of what it kept back where there is any and the core is powered. -/
theorem rateWindowClose_over (c : Nat) (s v : State) (w : RateWin)
    (hw : s.log.wins.find? (fun w => w.cls == c && w.endAt ≤ s.clk) = some w)
    (hv : v = { s with log := { s.log with wins := s.log.wins.filter fun y => y.cls != c } }) :
    rateWindowClose c s = if w.count = 0 ∨ !v.coreOn then v else v.suppressed w := by
  subst hv
  unfold rateWindowClose
  rw [hw]

/-! ### Reads of a record (R474) -/

section
variable (seq : Nat) (s v : State) (hu : s.up .log = true) (hv : v = s.put LOG_RD_SEQ.SEQ seq)
include hu hv

/-- A record in NVM is copied, with its CRC judged. -/
theorem logRead_inNvm (q : Nat) (b : List Byte) (hr : v.log.recs.find? (fun r => r.1 == seq) = some (q, b)) :
    logRead seq s = (v.copyRec b).rdStat true (leAt b 28 4 != crc32 (b.take 28)) false false := by
  subst hv
  unfold logRead
  rw [if_neg (by simp [hu])]
  dsimp only
  rw [hr]

/-- A record that NVM does not hold: one before LOG_HEAD is gone, and one from there on is looked for in the staging buffer. -/
theorem logRead_notInNvm (hr : v.log.recs.find? (fun r => r.1 == seq) = none) : logRead seq s =
    if seq < v.log.head then v.rdStat false false true false
    else (v.log.staged[seq - v.log.head]?).elim (v.rdStat false false true false) fun r =>
      (v.copyRec r.bytes).rdStat true false false true := by
  subst hv
  unfold logRead
  rw [if_neg (by simp [hu])]
  dsimp only
  rw [hr]
  dsimp only
  cases (s.put LOG_RD_SEQ.SEQ seq).log.staged[seq - (s.put LOG_RD_SEQ.SEQ seq).log.head]? <;> rfl

theorem logRead_overwritten (hr : v.log.recs.find? (fun r => r.1 == seq) = none) (hh : seq < v.log.head) :
    logRead seq s = v.rdStat false false true false :=
  (logRead_notInNvm seq s v hu hv hr).trans (if_pos hh)

theorem logRead_staged (hr : v.log.recs.find? (fun r => r.1 == seq) = none) (hh : v.log.head ≤ seq) (r : LogRec)
    (hs : v.log.staged[seq - v.log.head]? = some r) : logRead seq s = (v.copyRec r.bytes).rdStat true false false true := by
  rw [logRead_notInNvm seq s v hu hv hr, if_neg (Nat.not_lt.mpr hh), hs]
  rfl

theorem logRead_notStaged (hr : v.log.recs.find? (fun r => r.1 == seq) = none) (hh : v.log.head ≤ seq)
    (hs : v.log.staged[seq - v.log.head]? = none) : logRead seq s = v.rdStat false false true false := by
  rw [logRead_notInNvm seq s v hu hv hr, if_neg (Nat.not_lt.mpr hh), hs]
  rfl

end

/-! ### Operating time (R470) -/

/-- One more second with the core powered. -/
def State.addOptime (s : State) : State := { s with log := { s.log with optime := s.log.optime + 1 } }

/-- A powered second counts, and is published where LOG is up. -/
theorem optimeSecond_powered (s : State) (hc : s.coreOn = true) :
    optimeSecond s = if s.up .log then s.addOptime.publishLog else s.addOptime := if_pos hc

/-- Settles O40: each command by its body, a window where it is over, and a read by where its record stands. The end of a clear,
with LOG_CLEARED as the first record, is in O37. -/
theorem logCommandsComplete : Obligations.LogCommandsComplete := by
  unfold Obligations.LogCommandsComplete
  refine ⟨?_, ?_, ?_, ?_, ?_, ?_, ?_, ?_, ?_, ?_, ?_⟩
  · intro s src a h ha
    exact finish_of_eq s (logClear_session src s a h ha)
  · intro s t h ht
    exact finish_of_eq s (logFlush_done s t h ht)
  · intro s hu
    exact finish_of_eq s (logNvmWrite_up s hu)
  · intro s c w v hw hv hn
    exact finish_of_eq s ((rateWindowClose_over c.val s v w hw hv).trans (if_pos (.inl hn)))
  · intro s c w v hw hv hn hc
    exact finish_of_eq s ((rateWindowClose_over c.val s v w hw hv).trans (if_neg (by simp [hn, hc])))
  · intro s seq v q b hu hv hr
    exact finish_of_eq s (logRead_inNvm seq.toNat s v hu hv q b hr)
  · intro s seq v hu hv hr hh
    exact finish_of_eq s (logRead_overwritten seq.toNat s v hu hv hr hh)
  · intro s seq v r hu hv hr hh hs
    exact finish_of_eq s (logRead_staged seq.toNat s v hu hv hr hh r hs)
  · intro s seq v hu hv hr hh hs
    exact finish_of_eq s (logRead_notStaged seq.toNat s v hu hv hr hh hs)
  · intro s hc hu
    exact finish_of_eq s ((optimeSecond_powered s hc).trans (if_pos hu))
  · intro s hc hu
    exact finish_of_eq s ((optimeSecond_powered s hc).trans (if_neg (by simp [hu])))

/-! ### The critical health condition (R465) -/

/-- Six flags as one number, flag `k` standing for 2 to the `k`. -/
theorem bitOf_sixFlags_last (b0 b1 b2 b3 b4 b5 : Bool) :
    bitOf ((if b0 then 2 ^ 0 else 0) + (if b1 then 2 ^ 1 else 0) + (if b2 then 2 ^ 2 else 0) + (if b3 then 2 ^ 3 else 0) +
      (if b4 then 2 ^ 4 else 0) + (if b5 then 2 ^ 5 else 0)) 5 = b5 := by
  revert b0 b1 b2 b3 b4 b5
  decide

/-- Settles O51: the condition is the last of the six that the number is made of. -/
theorem criticalHealthIsACondition : Obligations.CriticalHealthIsACondition := by
  unfold Obligations.CriticalHealthIsACondition
  intro s
  exact bitOf_sixFlags_last _ _ _ _ _ _

end Sys2Proof.Machine
end

section
/-! The key store's commands by their bodies, and its events (R405, R407, R409 to R411, R413, R416 to R419). -/

namespace Sys2Proof.Machine

/-! ### PROVISION, LOAD and DESTROY (R407, R408, R418) -/

section
variable (src : Src) (v a w : State) (b key : List Byte)

/-- A blob in rule whose wrapping key is at hand fills its slot, or reports the check that failed. -/
theorem unwrap_inRule (lo hi : Nat) (eph : Option (List Byte)) (n : Nat) (hok : blobOk b lo hi = true)
    (hw : v.wrapKey (leAt b 9 1) eph n = (w, .inl key)) : v.unwrap b lo hi eph n = w.fillSlot b key := by
  unfold State.unwrap
  rw [if_neg (by simp [hok]), hw]

/-- PROVISION in BLANK needs no session. -/
theorem provisionBody_blank (hl : v.key.lc = 0) (hb : b = wordBytes 40 (v.bank src.code).blob) (hok : blobOk b 4 63 = true)
    (hw : v.wrapKey (leAt b 9 1) (some (wordBytes 16 (v.bank src.code).eph)) src.code = (w, .inl key)) :
    provisionBody src v = w.fillSlot b key := by
  subst hb
  exact (if_pos hl).trans (unwrap_inRule v w _ key 4 63 _ _ hok hw)

theorem provisionBody_session (hl : v.key.lc ≠ 0) (ha : v.authorise src = some a)
    (hb : b = wordBytes 40 (a.bank src.code).blob) (hok : blobOk b 4 63 = true)
    (hw : a.wrapKey (leAt b 9 1) (some (wordBytes 16 (a.bank src.code).eph)) src.code = (w, .inl key)) :
    provisionBody src v = w.fillSlot b key := by
  subst hb
  exact (if_neg hl).trans ((privileged_some src _ v a ha).trans (unwrap_inRule a w _ key 4 63 _ _ hok hw))

theorem loadBody_session (ha : v.authorise src = some a) (hb : b = wordBytes 40 (a.bank src.code).blob)
    (hok : blobOk b 64 255 = true) (hw : a.wrapKey (leAt b 9 1) none src.code = (w, .inl key)) :
    loadBody src v = w.fillSlot b key := by
  subst hb
  exact (privileged_some src _ v a ha).trans (unwrap_inRule a w _ key 64 255 _ _ hok hw)

theorem destroyBody_free (n : Nat) (ha : v.authorise src = some a) (hn : n = (a.bank src.code).slot) (h4 : 4 ≤ n)
    (hf : a.slotNamed n = false) :
    destroyBody src v = (stDone, a.withSlots (a.key.slots.filter fun k => k.idx != n)) := by
  subst hn
  exact (privileged_some src _ v a ha).trans ((if_neg (Nat.not_lt.mpr h4)).trans (if_neg (Bool.eq_false_iff.mp hf)))

end

/-! ### Sessions and attestation (R416, R417, R419) -/

/-- OPEN_SESSION of a source that is not locked out, on a slot with AUTH usage, gives a nonce. -/
theorem openBody_unlocked (src : Src) (v : State) (b : KeyBank) (k : KeySlot) (hb : b = v.bank src.code)
    (hl : b.lockUntil = none ∨ ∃ t, b.lockUntil = some t ∧ t ≤ v.clk)
    (hk : v.slotFor b.slot useAuth (fun t => t == 3) = .inl k) :
    openBody src v = (stDone, (v.setBank { b with nonce := some (v.random 32, b.slot, v.clk) }).useFree) := by
  have hopen : openBody src v = openBody.openNonce src b v := by
    subst hb
    unfold openBody
    dsimp only
    rcases hl with h | ⟨t, h, ht⟩
    · rw [h]
    · rw [h]; exact if_neg (Nat.not_lt.mpr ht)
  rw [hopen]
  unfold openBody.openNonce
  rw [hk]

/-- PROVE within 10 s of its nonce uses the slot, and opens a session on the right proof. -/
theorem proveBody_inTime (src : Src) (v w u : State) (b : KeyBank) (nonce key : List Byte) (n t : Nat)
    (hb : b = v.bank src.code) (hn : b.nonce = some (nonce, n, t)) (hu : u = v.setBank { b with nonce := none })
    (ht : u.clk ≤ t + 10 * secs) (hs : u.useSlot n useAuth (fun t => t == 3) src.code = (w, .inl key)) :
    proveBody src v =
      (if wordBytes 8 b.proof = proofOf key nonce src.code then stDone else stCheckFailed,
        if wordBytes 8 b.proof = proofOf key nonce src.code then w.openSession src else w.authFail src.code n) := by
  subst hb hu
  unfold proveBody
  dsimp only
  rw [hn]
  dsimp only
  rw [if_neg (Nat.not_lt.mpr ht), hs]
  dsimp only
  by_cases hp : wordBytes 8 (v.bank src.code).proof = proofOf key nonce src.code
  · rw [if_pos hp, if_pos hp, if_pos (beq_iff_eq.mpr hp)]
  · rw [if_neg hp, if_neg hp, if_neg (mt beq_iff_eq.mp hp)]

/-- The sessions of a source are over. -/
def State.endSessionOf (v : State) (src : Src) : State :=
  { v with key := { v.key with sessions := v.key.sessions.filter fun x => !x.fits src } }

theorem closeBody_open (src : Src) (v : State) (h : v.key.sessions.any (fun x => x.fits src) = true) :
    closeBody src v = (stDone, (v.endSessionOf src).setBank { v.bank src.code with sessId := 0 }) := if_pos h

/-- ATTEST on a slot with ATTEST usage answers with a tag. -/
theorem attestBody_used (src : Src) (v w u : State) (key r : List Byte)
    (hs : v.useSlot (v.bank src.code).slot useAttest (fun t => t == 3) src.code = (w, .inl key))
    (hu : u = { w with key := { w.key with attCtr := w.key.attCtr + 1 } })
    (hr : r = u.attestBody (wordBytes 8 (v.bank src.code).attNonce)) :
    attestBody src v = (stDone, u.setBank { v.bank src.code with attResp := r ++ Config.hmac256 key r }) := by
  subst hr hu
  unfold attestBody
  dsimp only
  rw [hs]

/-! ### Life-cycle commands (R409, R410) -/

/-- A transition to a state begins for a source: its intent record. -/
def State.lcIntends (v : State) (src : Src) (new : Nat) : State :=
  { v with key := { v.key with intent := some { old := v.key.lc, new := new, src := src.code } } }

theorem lcAdvanceBody_blank (src : Src) (v : State) (hl : v.key.lc = 0) (ha : (v.bank src.code).arg = 1)
    (hauth : v.hasUsage useAuth = true) (hcfg : v.hasUsage useCfgVerify = true) :
    lcAdvanceBody src v = (stPending, (v.lcIntends src 1).freshLcNonce) := by
  unfold lcAdvanceBody
  dsimp only
  rw [hl, ha]
  rw [hauth, hcfg, if_pos (by decide)]
  rfl

/-- From PROVISIONED and from the state after it, the next state needs a session. -/
theorem lcAdvanceBody_session (src : Src) (v a : State) (n : Nat) (ha : v.authorise src = some a)
    (hl : v.key.lc = 1 ∨ v.key.lc = 2) (hn : n = v.key.lc + 1) (harg : (v.bank src.code).arg = n) :
    lcAdvanceBody src v = (stPending, (a.lcIntends src n).freshLcNonce) := by
  have hbegin : ∀ m, privileged src (lcBegin src m) v = (stPending, a.lcIntends src m) :=
    fun m => privileged_some src _ v a ha
  subst hn
  unfold lcAdvanceBody
  dsimp only
  rcases hl with h | h
  · rw [harg, h, hbegin 2]; rfl
  · rw [harg, h, hbegin 3]; rfl

/-- The authority's signature over a transition to `target` is good under a public key. -/
def State.lcSignedBy (w : State) (src : Src) (target : Nat) (pub : List Byte) : Bool :=
  Config.ecdsaP384 pub (Config.sha384 (w.lcMessage target)) ((wordBytes 24 (w.bank src.code).sig).take 48)
    ((wordBytes 24 (w.bank src.code).sig).drop 48)

/-- A transition under an authority signature begins where the signature is good; a fresh nonce follows either way. -/
theorem lcSigned_verified (src : Src) (target : Nat) (start : Nat → Bool) (v w : State) (pub : List Byte)
    (hl : start v.key.lc = true) (hs : v.useSlot 3 useReturn (fun t => t == 5) src.code = (w, .inl pub)) :
    lcSigned src target start v =
      (if w.lcSignedBy src target pub = true then stPending else stCheckFailed,
        State.freshLcNonce (if w.lcSignedBy src target pub = true then w.lcIntends src target else w)) := by
  unfold lcSigned
  dsimp only
  rw [if_neg (by simp [hl]), hs]
  dsimp only
  rw [← State.lcSignedBy]
  by_cases hsig : w.lcSignedBy src target pub = true
  · rw [if_pos hsig, if_pos hsig, if_pos hsig]; rfl
  · rw [if_neg hsig, if_neg hsig, if_neg hsig]

/-! ### Events (R411, R413, R416, R417) -/

/-- A transition's command is DONE for its source. -/
def State.lcReported (v : State) (i : LcIntent) : State :=
  (v.setBank { v.bank i.src with status := stDone }).raise KEY_IRQ_STAT.CMD_DONE

theorem lcTransitionDone_running (s : State) (i : LcIntent) (v w : State) (hi : s.key.intent = some i) (hu : s.up .key = true)
    (hv : v = ((lcComplete i s).raise KEY_IRQ_STAT.LC_CHANGE).logEv 6 2 (leBytes 1 i.old ++ leBytes 1 i.new))
    (hw : w = v.lcReported i) :
    lcTransitionDone s = keyDrain w.key.waiting { w with key := { w.key with waiting := [] } } := by
  subst hw hv
  unfold lcTransitionDone
  rw [hi]
  exact if_neg (by simp [hu])

theorem sessionLapse_unused (src : Nat) (s v : State)
    (h : s.key.sessions.any (fun x => x.src == src && x.last + s.sessTtl ≤ s.clk) = true)
    (hv : v = { s with key := { s.key with sessions := s.key.sessions.filter fun x => x.src != src } }) :
    sessionLapse src s = (v.setBank { v.bank src with sessId := 0 }).raise KEY_IRQ_STAT.SESS_LAPSED := by
  subst hv
  exact if_pos h

theorem authLockoutEnd_over (src : Nat) (s : State) (t : Nat) (hl : (s.bank src).lockUntil = some t) (ht : t ≤ s.clk) :
    authLockoutEnd src s = s.setBank { s.bank src with lockUntil := none } := by
  unfold authLockoutEnd
  dsimp only
  rw [hl]
  exact if_pos ht

/-- A root key with another KCV builds the link key table anew. That a first root leaves EPC_GTX_CTR as it was is the model's choice
(assumption 30), to which R413 makes no exception. -/
theorem rootSlotChange_other (s : State) (k : KeySlot) (hu : s.up .key = true) (hr : s.rootKey = some k)
    (hk : s.key.rootKcv ≠ some k.kcv) : rootSlotChange s =
      if s.key.rootKcv.isSome then (s.rebuildLinks.put EPC_GTX_CTR.CTR 0).put PAIR_STAT.STALE 0 else s.rebuildLinks := by
  unfold rootSlotChange
  rw [if_neg (by simp [hu]), hr]
  exact if_neg (by simpa using hk)

/-- Settles O43: each command by its body, and each event where it is due. That a first root key leaves EPC_GTX_CTR as it was is the
model's choice (assumption 30); R413 makes no such exception. -/
theorem keyCommandsComplete : Obligations.KeyCommandsComplete := by
  unfold Obligations.KeyCommandsComplete
  refine ⟨?_, ?_, ?_, ?_, ?_, ?_, ?_, ?_, ?_, ?_, ?_, ?_, ?_, ?_, ?_, ?_, ?_, ?_⟩
  · intro s src v w b key hu hp hi hv hl hb hok hw
    exact finish_of_eq s (keyWrite_runs src 1 s v _ hu hp hi hv (provisionBody_blank src v w b key hl hb hok hw))
  · intro s src v a w b key hu hp hi hv ha hb hok hw hl
    exact finish_of_eq s (keyWrite_runs src 1 s v _ hu hp hi hv (provisionBody_session src v a w b key hl ha hb hok hw))
  · intro s src v a w b key hu hp hi hv ha hb hok hw
    exact finish_of_eq s (keyWrite_runs src 2 s v _ hu hp hi hv (loadBody_session src v a w b key ha hb hok hw))
  · intro s src v a n hu hp hi hv ha hn h4 hf
    exact finish_of_eq s (keyWrite_runs src 3 s v _ hu hp hi hv (destroyBody_free src v a n ha hn h4 hf))
  · intro s src v b k hu hp hi hv hb hl hk
    exact finish_of_eq s (keyWrite_runs src 4 s v _ hu hp hi hv (openBody_unlocked src v b k hb (.inl hl) hk))
  · intro s src v b k t hu hp hi hv hb hl ht hk
    exact finish_of_eq s (keyWrite_runs src 4 s v _ hu hp hi hv (openBody_unlocked src v b k hb (.inr ⟨t, hl, ht⟩) hk))
  · intro s src v b w u nonce key n t hu hp hi hv hb hn hu' ht hs
    exact finish_of_eq s (keyWrite_runs src 5 s v _ hu hp hi hv (proveBody_inTime src v w u b nonce key n t hb hn hu' ht hs))
  · intro s src v hu hp hi hv h
    exact finish_of_eq s (keyWrite_runs src 6 s v _ hu hp hi hv (closeBody_open src v h))
  · intro s src v w u key r hu hp hi hv hs hu' hr
    exact finish_of_eq s (keyWrite_runs src 7 s v _ hu hp hi hv (attestBody_used src v w u key r hs hu' hr))
  · intro s src v hu hp hi hv hl ha hauth hcfg
    exact finish_of_eq s (keyWrite_runs src 8 s v _ hu hp hi hv (lcAdvanceBody_blank src v hl ha hauth hcfg))
  · intro s src v a n hu hp hi hv ha hl hn harg
    exact finish_of_eq s (keyWrite_runs src 8 s v _ hu hp hi hv (lcAdvanceBody_session src v a n ha hl hn harg))
  · intro s src v w pub hu hp hi hv hl hs
    exact finish_of_eq s (keyWrite_runs src 9 s v _ hu hp hi hv 
      (lcSigned_verified src 4 (fun l => l == 1 || l == 2 || l == 3) v w pub (by simpa [or_assoc] using hl) hs))
  · intro s src v w pub hu hp hi hv hl hs
    exact finish_of_eq s (keyWrite_runs src 10 s v _ hu hp hi hv 
      (lcSigned_verified src 0 (fun l => l == 4) v w pub (by simpa using hl) hs))
  · intro s i v w hi hu hv hw
    exact finish_of_eq s (lcTransitionDone_running s i v w hi hu hv hw)
  · intro s src v h hv
    exact finish_of_eq s (sessionLapse_unused src.val s v h hv)
  · intro s src t hl ht
    exact finish_of_eq s (authLockoutEnd_over src.val s t hl ht)
  · intro s k hu hr hk
    exact finish_of_eq s ((rootSlotChange_other s k hu hr (by simp [hk])).trans (if_neg (by simp [hk])))
  · intro s k hu hr hsome hk
    exact finish_of_eq s ((rootSlotChange_other s k hu hr hk).trans (if_pos hsome))

end Sys2Proof.Machine
end

section
/-! The firmware banks: half blocks, the commands by their bodies, and the two steps of an activation (R425, R427, R429, R430,
R432 to R434). -/

namespace Sys2Proof.Machine

/-! ### Half blocks (R425, R427) -/

/-- The half block that a packet carries. -/
def packetHalf (p : List Byte) : Half :=
  { target := leAt p 8 1, index := leAt p 9 1, block := leAt p 4 4, part := leAt p 10 1, data := p.drop 16 }

/-- A half is of the same block of the same image. -/
def Half.sameBlock (h x : Half) : Bool := x.target == h.target && x.block == h.block && (h.target == 0 || x.index == h.index)

/-- The other half of a block, where it waits. -/
def State.partner (s : State) (h : Half) : Option Half := s.upd.halves.find? fun x => h.sameBlock x && x.part != h.part

/-- No half of a block waits any longer. -/
def State.dropHalves (s : State) (h : Half) : State :=
  s.withUpd fun u => { u with halves := u.halves.filter fun x => !h.sameBlock x }

/-- The bytes of a block from its two halves. -/
def Half.joined (h o : Half) : List Byte := if h.part = 0 then h.data ++ o.data else o.data ++ h.data

section
variable (path : BlockPath) (p : List Byte) (fails : Nat) (s : State) (hu : s.up .upd = true) (hp : s.pathOk path = true)
include hu hp

theorem blockPacket_bad (hb : s.packetBad p = true) : blockPacket path p fails s = s.bump UPD_RX_CNT.DROPPED :=
  (if_neg (by simp [hu, hp])).trans (if_pos hb)

/-- A good packet by an open path: its half waits for its partner, or the block goes to the image it is for. -/
theorem blockPacket_good (hb : s.packetBad p = false) :
    blockPacket path p fails s =
      match s.partner (packetHalf p) with
      | none => s.withUpd fun u => { u with halves := packetHalf p :: u.halves.filter fun x => !(packetHalf p).sameBlock x }
      | some o =>
        if (packetHalf p).target = 0 then
          (s.dropHalves (packetHalf p)).storeBlock (s.dropHalves (packetHalf p)).inactive (packetHalf p).block fails
            ((packetHalf p).joined o)
        else (s.dropHalves (packetHalf p)).storeCampaign (packetHalf p).index (packetHalf p).block ((packetHalf p).joined o) :=
  (if_neg (by simp [hu, hp])).trans (if_neg (Bool.eq_false_iff.mp hb))

theorem blockPacket_waits (hb : s.packetBad p = false) (hn : s.partner (packetHalf p) = none) :
    blockPacket path p fails s =
      s.withUpd fun u => { u with halves := packetHalf p :: u.halves.filter fun x => !(packetHalf p).sameBlock x } := by
  rw [blockPacket_good path p fails s hu hp hb, hn]

theorem blockPacket_whole (hb : s.packetBad p = false) (o : Half) (ho : s.partner (packetHalf p) = some o) :
    blockPacket path p fails s =
      if (packetHalf p).target = 0 then
        (s.dropHalves (packetHalf p)).storeBlock (s.dropHalves (packetHalf p)).inactive (packetHalf p).block fails
          ((packetHalf p).joined o)
      else (s.dropHalves (packetHalf p)).storeCampaign (packetHalf p).index (packetHalf p).block ((packetHalf p).joined o) := by
  rw [blockPacket_good path p fails s hu hp hb, ho]

end

/-! ### BEGIN and VERIFY (R429, R430) -/

/-- Where nothing is in the way, BEGIN fixes the bank it acts on, and empties it to GREENWARE. -/
theorem updBegin_done (s t v : State) (h : s.ready .upd) (ht : t = s.taken .upd 1) (hg : t.upd.glaze = false)
    (ha : t.upd.armed = none) (hb : t.upd.banks.any (fun x => x.st == bankVerifying) = false) (hm : t.pwr.mode ≠ .kindling)
    (hv : v = t.withUpd fun u => { u with work := if t.fld UPD_CMD_ARG.INDEX = 0 then 0 else 1 }) :
    updBegin s = (v.updBank v.inactive fun x =>
      { x with st := bankGreen, fail := 0, factory := false, bitmap := [], blocks := [], total := 0, secVer := 0, version := 0,
               abi := 0, coldOnly := false, digest := [] }).ended .upd 1 stDone := by
  subst ht hv
  exact runCmd_of_body .upd 1 stDone _ s _ rfl h (if_neg (by rw [hg, ha, hb, beq_eq_false_iff_ne.mpr hm]; decide))

/-- A bank in GREENWARE, or BAD in a way that a second verification may mend. -/
def Bank.mayVerify (x : Bank) : Bool := x.st == bankGreen || (x.st == bankBad && (x.fail == failDigest || x.fail == failTrial))

theorem mayVerify_true (x : Bank) (h : x.st = bankGreen ∨ x.st = bankBad ∧ (x.fail = failDigest ∨ x.fail = failTrial)) :
    x.mayVerify = true := by
  simpa [Bank.mayVerify] using h

/-- VERIFY of a complete bank that may be verified starts its verification. -/
theorem updVerify_starts (s t : State) (x : Bank) (h : s.ready .upd) (ht : t = s.taken .upd 2) (hx : x = t.fwBank t.inactive)
    (hmay : x.mayVerify = true) (hn : x.total ≠ 0) (hall : (List.range x.total).all x.bitmap.contains = true) :
    updVerify s = (t.setFwBank t.inactive bankVerifying x.fail).ended .upd 2 stPending := by
  subst ht hx
  refine runCmd_of_body .upd 2 stPending _ s _ rfl h (if_pos ?_)
  rw [Bool.and_eq_true, Bool.and_eq_true]
  exact ⟨hmay, bne_iff_ne.mpr hn, hall⟩

/-- The verdict on a bank makes it BISQUE or BAD, and ends a VERIFY that waits for it. -/
theorem verifyVerdict_of (s v : State) (b : Nat) (r : Nat × State) (hu : s.up .upd = true)
    (hb : (List.range 2).find? (fun b => (s.fwBank b).st == bankVerifying) = some b) (hr : r = s.verifyBank b)
    (hv : v = (r.2.setFwBank b (if r.1 = 0 then bankBisque else bankBad) r.1).raise UPD_IRQ_STAT.VERDICT) :
    verifyVerdict s =
      if v.isPending .upd 2 then finishCmd .upd (if r.1 = 0 then stDone else stCheckFailed) v else v := by
  subst hr hv
  unfold verifyVerdict
  rw [if_neg (by simp [hu]), hb]

/-! ### ACTIVATE and CANCEL_ACT (R432, R434) -/

/-- An activation is armed for an instant. -/
def State.armAct (a : State) (t : Nat) (cold : Bool) : State :=
  a.withUpd fun u => { u with armed := some { at_ := t, cold := cold, deferrals := 0, begun := false } }

theorem updActivate_of_body (s a u : State) (src : Src) (h : s.ready .upd) (ha : (s.taken .upd 3).authorise src = some a)
    (hf : activateUpdBody a = (stDone, u)) : updActivate src s = u.ended .upd 3 stDone :=
  runCmd_of_body .upd 3 stDone _ s u rfl h ((privileged_some src _ _ a ha).trans hf)

section
variable (a : State) (hr : a.upd.running ≠ 2) (hc : a.canActivate = true) (hg : a.upd.glaze = false) (hn : a.upd.armed = none)
  (hi : a.abiOk = true)
include hr hc hg hn hi

/-- An allowed activation with AT 0 is armed for 1 s from now. -/
theorem activateUpdBody_now (hat : a.bit UPD_CMD_ARG.AT = false) (hp : a.partnerBlocks (a.nt + 1000000000) = false) :
    activateUpdBody a = (stDone, a.armAct (a.nt + 1000000000) (a.bit UPD_CMD_ARG.COLD)) := by
  unfold activateUpdBody
  rw [if_neg hr, hat]
  exact (if_neg (by simp [hc, hg, hn, hi, hp])).trans (if_neg (by simp))

/-- An allowed activation with AT 1 is armed for its instant, where that lies 2 s to 549 s ahead. -/
theorem activateUpdBody_at (hat : a.bit UPD_CMD_ARG.AT = true) (hp : a.partnerBlocks a.actInstant = false)
    (hlo : a.nt + 2000000000 ≤ a.actInstant) (hhi : a.actInstant ≤ a.nt + 549000000000) :
    activateUpdBody a = (stDone, a.armAct a.actInstant (a.bit UPD_CMD_ARG.COLD)) := by
  unfold activateUpdBody
  rw [if_neg hr, hat]
  exact (if_neg (by simp [hc, hg, hn, hi, hp])).trans (if_neg (by simp [hlo, hhi]))

end

/-- The recovery image arms a cold start in 1 s. -/
theorem activateUpdBody_recovery (a : State) (hr : a.upd.running = 2) (hc : a.canActivate = true) (hn : a.upd.armed = none)
    (hat : a.bit UPD_CMD_ARG.AT = false) : activateUpdBody a = (stDone, a.armAct (a.nt + 1000000000) true) :=
  (if_pos hr).trans (if_neg (by simp [hc, hn, hat]))

theorem cancelAct_disarms (s t : State) (a : Armed) (h : s.ready .upd) (ht : t = s.taken .upd 4) (ha : t.upd.armed = some a)
    (hb : a.begun = false) : cancelAct s = t.disarmAct.ended .upd 4 stDone := by
  subst ht
  refine runCmd_of_body .upd 4 stDone _ s _ rfl h ?_
  rw [ha]
  exact if_neg (Bool.eq_false_iff.mp hb)

/-! ### The check and the start (R433) -/

/-- A transition slot is in the way: the activation is put off by 1 s. -/
def State.deferAct (s : State) (a : Armed) : State :=
  (s.withUpd fun u => { u with armed := some { a with at_ := a.at_ + 1000000000, deferrals := a.deferrals + 1 } }).put
    UPD_STAT.DEFERRED 1

/-- Nothing is in the way: the selector names the new bank, and the activation has begun. -/
def State.beginAct (s : State) (a : Armed) : State :=
  ((s.writeSel fun x => { x with active := s.inactive, trial := 0, trialMax := s.fld UPD_CFG.TRIAL_MAX
                                 confirmS := clampN 60 65535 (s.fld UPD_CFG.CONFIRM_S) }).setFwBank s.inactive bankGlaze 0).withUpd
    fun u => { u with armed := some { a with begun := true } }

section
variable (s : State) (a : Armed) (hu : s.up .upd = true) (ha : s.upd.armed = some a) (hb : a.begun = false)
  (ht : a.at_ ≤ s.nt + 100000000)
include hu ha hb ht

/-- What the check does when it is due. -/
theorem activationCheck_due :
    activationCheck s =
      if s.slotInWay a.at_ then
        if a.deferrals < 60 then s.deferAct a else s.disarmAct.logEv 7 3 (leBytes 4 (a.at_ / 1000000000))
      else s.beginAct a := by
  unfold activationCheck
  rw [ha]
  exact if_neg (by simp [hu, hb, ht])

theorem activationCheck_clear (hs : s.slotInWay a.at_ = false) : activationCheck s = s.beginAct a :=
  (activationCheck_due s a hu ha hb ht).trans (if_neg (Bool.eq_false_iff.mp hs))

theorem activationCheck_inWay (hs : s.slotInWay a.at_ = true) :
    activationCheck s =
      if a.deferrals < 60 then s.deferAct a else s.disarmAct.logEv 7 3 (leBytes 4 (a.at_ / 1000000000)) :=
  (activationCheck_due s a hu ha hb ht).trans (if_pos hs)

end

/-- At the instant the module starts, as the activation asks. -/
theorem activation_due (s : State) (a : Armed) (h : s.actDue = some a) (hr : s.canRestart = true) :
    activation s =
      if a.cold then (s.put SYS_RST_CAUSE.COLD_CMD 1).newFlash.coldStart false
      else (s.put SYS_RST_CAUSE.WARM_UPDATE 1).newFlash.warmStart true := by
  unfold activation
  rw [h]
  exact if_neg (by simp [hr])

/-- Settles O44: half blocks by whether their partner waits, the commands by their bodies, and the check by what is in its way. -/
theorem firmwareCommandsComplete : Obligations.FirmwareCommandsComplete := by
  unfold Obligations.FirmwareCommandsComplete
  refine ⟨?_, ?_, ?_, ?_, ?_, ?_, ?_, ?_, ?_, ?_, ?_, ?_, ?_, ?_, ?_, ?_⟩
  · intro s path p fails hu hp hb
    exact finish_of_eq s (blockPacket_bad path p fails s hu hp hb)
  · rintro s path p fails h hu hp hb rfl ho
    exact finish_of_eq s (blockPacket_waits path p fails s hu hp hb ho)
  · rintro s path p fails h o v d hu hp hb rfl ho rfl rfl h0
    exact finish_of_eq s ((blockPacket_whole path p fails s hu hp hb o ho).trans (if_pos h0))
  · rintro s path p fails h o v d hu hp hb rfl ho rfl rfl h0
    exact finish_of_eq s ((blockPacket_whole path p fails s hu hp hb o ho).trans (if_neg h0))
  · intro s t v h ht hg ha hb hm hv
    exact finish_of_eq s (updBegin_done s t v h ht hg ha hb hm hv)
  · intro s t x h ht hx hmay hn hall
    exact finish_of_eq s (updVerify_starts s t x h ht hx (mayVerify_true x hmay) hn hall)
  · intro s b r v hu hb hr hv
    exact finish_of_eq s (verifyVerdict_of s v b r hu hb hr hv)
  · intro s src a h ha hr hc hg hn hi hat hp
    exact finish_of_eq s (updActivate_of_body s a _ src h ha (activateUpdBody_now a hr hc hg hn hi hat hp))
  · intro s src a h ha hr hc hg hn hi hat hp hlo hhi
    exact finish_of_eq s (updActivate_of_body s a _ src h ha (activateUpdBody_at a hr hc hg hn hi hat hp hlo hhi))
  · intro s src a h ha hr hc hn hat
    exact finish_of_eq s (updActivate_of_body s a _ src h ha (activateUpdBody_recovery a hr hc hn hat))
  · intro s t a h ht ha hb
    exact finish_of_eq s (cancelAct_disarms s t a h ht ha hb)
  · intro s a hu ha hb ht hs hd
    exact finish_of_eq s ((activationCheck_inWay s a hu ha hb ht hs).trans (if_pos hd))
  · intro s a hu ha hb ht hs hd
    exact finish_of_eq s ((activationCheck_inWay s a hu ha hb ht hs).trans (if_neg (Nat.not_lt.mpr hd)))
  · intro s a hu ha hb ht hs
    exact finish_of_eq s (activationCheck_clear s a hu ha hb ht hs)
  · intro s a h hr hc
    exact finish_of_eq s ((activation_due s a h hr).trans (if_pos hc))
  · intro s a h hr hc
    exact finish_of_eq s ((activation_due s a h hr).trans (if_neg (Bool.eq_false_iff.mp hc)))

end Sys2Proof.Machine
end

section
/-! Trials and campaigns: the commands by their bodies, and what an endpoint's answer does to its campaign (R436, R437, R439 to
R442). -/

namespace Sys2Proof.Machine

/-! ### Trials (R436, R437) -/

/-- CONFIRM on a glaze image fires the running bank at once, and waits for the other bank's verification. -/
theorem confirmBody_glaze (a v w : State) (hg : a.upd.glaze = true)
    (hv : v = (a.writeSel fun x => { x with fired := x.active, trial := 0 }).setFwBank a.upd.running bankFired 0)
    (hw : w = v.withUpd fun u => { u with glaze := false, confirmAt := none, confirmLeft := 0, confirming := true
                                          secMin := max u.secMin (v.fwBank a.upd.running).secVer }) :
    confirmBody a = (stPending, w.logEv 7 7 (leBytes 1 a.upd.running ++ leBytes 4 (w.fwBank a.upd.running).version)) := by
  subst hv hw
  exact if_neg (by simp [hg])

/-- REVERT under a session on a glaze image reports DONE, and the reversion's start follows. -/
theorem updRevert_starts (s a : State) (src : Src) (h : s.ready .upd) (ha : (s.taken .upd 6).authorise src = some a)
    (hs : (s.authorise src).isSome = true) (hg : s.upd.glaze = true) (hr : s.canRestart = true) :
    updRevert src s = (a.ended .upd 6 stDone).revertStart := by
  obtain ⟨hup, hst⟩ := h
  have hgo : (s.up .upd && s.cmdStatus .upd != stPending && s.upd.glaze && s.canRestart && (s.authorise src).isSome) = true := by
    rw [hup, hg, hr, hs, bne_iff_ne.mpr hst]
    rfl
  unfold updRevert
  rw [hgo]
  dsimp only
  rw [if_pos rfl]
  exact congrArg State.revertStart (runCmd_of_body .upd 6 stDone _ s a rfl ⟨hup, hst⟩ (privileged_some src _ _ a ha))

theorem confirmTimeout_due (s : State) (t : Nat) (ht : s.upd.confirmAt = some t) (hg : s.upd.glaze = true)
    (hr : s.running = true) (hd : t ≤ s.clk) : confirmTimeout s = s.revertStart := by
  unfold confirmTimeout
  rw [ht]
  exact if_pos (by simp [hg, hr, hd])

/-! ### Campaigns (R439, R441, R442) -/

/-- A campaign's targets at its start: none has answered yet. -/
def freshTargets (l : List Nat) : List FwTarget :=
  l.map fun e => { epa := e, first := 0, map := 0, complete := false, committed := false, silent := 0, result := none }

/-- EP_START of a loaded campaign that does not run, with a good key, addresses its targets. -/
theorem epStartBody_loaded (src n : Nat) (a v : State) (key : List Byte) (hn : n = a.fld UPD_CMD_ARG.INDEX) (h4 : n < 4)
    (hl : a.campLoaded n = true) (hr : (a.camp n).run = false)
    (hs : a.useSlot (a.fld (UPD_EP_CFG.KEY_SLOT n)) useEpFw (fun t => t == 1) src = (v, .inl key)) :
    epStartBody src a =
      (stDone, (v.updCamp n fun x =>
        { x with run := true, targets := freshTargets (v.campTargets n), rounds := 0, installed := 0 }).put (UPD_EP_CFG.RUN n) 1) := by
  subst hn
  unfold epStartBody
  dsimp only
  rw [if_neg (Nat.not_le.mpr h4), if_neg (by simp [hl, hr]), hs]
  rfl

theorem epStop_ends (s t : State) (n : Nat) (h : s.ready .upd) (ht : t = s.taken .upd 0x11) (hn : n = t.fld UPD_CMD_ARG.INDEX)
    (h4 : n < 4) (hr : (t.camp n).run = true) : epStop s = (t.campEnd n).ended .upd 0x11 stDone := by
  subst ht hn
  exact runCmd_of_body .upd 0x11 stDone _ s _ rfl h ((if_neg (Nat.not_le.mpr h4)).trans (if_neg (by rw [hr]; decide)))

theorem campaignRound_running (c : Nat) (s : State) (hu : s.up .upd = true) (hr : (s.camp c).run = true) :
    campaignRound c s =
      (((s.updCamp c fun x => { x with rounds := min 65535 (x.rounds + 1) }).campBlocks c).campAsk c).campOver c :=
  if_neg (by simp [hu, hr])

/-! ### What the endpoints answer (R440, R442) -/

/-- FW_COMMIT has gone to a target of a campaign. -/
def State.fwCommitted (v : State) (c epa : Nat) : Bool := (v.camp c).targets.any fun t => t.epa == epa && t.committed

/-- The map of a target is noted. -/
def State.noteMap (v : State) (c epa first map : Nat) (done : Bool) : State :=
  v.updTarget c epa fun t => { t with first := first, map := map, complete := done, silent := 0, committed := t.committed || done }

/-- FW_COMMIT goes to a target, for the instant COMMIT_S from now. -/
def State.sendCommit (t : State) (c epa id : Nat) : State :=
  let n := t.nt + clampN 2 540 (t.fld (UPD_EP_CTL.COMMIT_S c)) * 1000000000
  t.campUni c epa 0x24 (leBytes 2 id ++ [0, 0] ++ leBytes 6 (n / 1000000000) ++ leBytes 4 (n % 1000000000))

theorem mapHeard_none (v : State) (epa id first map : Nat) (h : v.campOf epa id = none) : v.mapHeard epa id first map = v := by
  unfold State.mapHeard
  rw [h]

/-- A target's map is noted, and the first complete one is answered with FW_COMMIT. -/
theorem mapHeard_target (v : State) (epa id first map c : Nat) (h : v.campOf epa id = some c) :
    v.mapHeard epa id first map =
      if first == 0xFFFF && !v.fwCommitted c epa then (v.noteMap c epa first map (first == 0xFFFF)).sendCommit c epa id
      else v.noteMap c epa first map (first == 0xFFFF) := by
  unfold State.mapHeard
  rw [h]
  rfl

theorem fwMap_live (epa id first map : Nat) (l : LinkInfo) (s v : State) (hu : s.up .upd = true) (hi : s.ingests epa = true)
    (hv : v = s.linkUpdate epa l) : fwMap epa id first map l s = v.mapHeard epa id first map := by
  subst hv
  exact if_neg (by simp [hu, hi])

/-- The result of a target is noted. -/
def State.noteResult (v : State) (c epa result : Nat) : State := v.updTarget c epa fun x => { x with result := some result }

theorem resultHeard_none (v : State) (epa id result fw : Nat) (h : v.campOf epa id = none) :
    v.resultHeard epa id result fw = v := by
  unfold State.resultHeard
  rw [h]

/-- A target's result is noted: the new firmware is installed, or a fault stands; and the campaign may be over. -/
theorem resultHeard_target (v t : State) (epa id result fw c : Nat) (h : v.campOf epa id = some c)
    (ht : t = v.noteResult c epa result) :
    v.resultHeard epa id result fw =
      State.campOver (if result = 0 then (t.put (EPC_INFO_FW.FW epa) fw).updCamp c fun x => { x with installed := x.installed + 1 }
        else t.raiseFault epa 0x0C result) c := by
  subst ht
  unfold State.resultHeard
  rw [h]
  rfl

theorem fwResult_live (epa id result fw : Nat) (l : LinkInfo) (s v : State) (hu : s.up .upd = true) (hi : s.ingests epa = true)
    (hv : v = s.linkUpdate epa l) : fwResult epa id result fw l s = v.resultHeard epa id result fw := by
  subst hv
  exact if_neg (by simp [hu, hi])

/-- Settles O45: the commands by their bodies, and each answer of an endpoint by the campaign that addresses it. -/
theorem firmwareTrialsComplete : Obligations.FirmwareTrialsComplete := by
  unfold Obligations.FirmwareTrialsComplete
  refine ⟨?_, ?_, ?_, ?_, ?_, ?_, ?_, ?_, ?_, ?_, ?_, ?_⟩
  · intro s src a v w h ha hg hv hw
    exact finish_of_eq s (runCmd_of_body .upd 5 stPending _ s _ rfl h
      ((privileged_some src _ _ a ha).trans (confirmBody_glaze a v w hg hv hw)))
  · intro s src a h ha hs hg hr
    exact finish_of_eq s (updRevert_starts s a src h ha hs hg hr)
  · intro s t ht hg hr hd
    exact finish_of_eq s (confirmTimeout_due s t ht hg hr hd)
  · intro s src a v n key h ha hn h4 hl hr hs
    exact finish_of_eq s (runCmd_of_body .upd 0x10 stDone _ s _ rfl h
      ((privileged_some src _ _ a ha).trans (epStartBody_loaded src.code n a v key hn h4 hl hr hs)))
  · intro s t n h ht hn h4 hr
    exact finish_of_eq s (epStop_ends s t n h ht hn h4 hr)
  · intro s c hu hr
    exact finish_of_eq s (campaignRound_running c.val s hu hr)
  · intro s epa id first map l v hu hi hv hc
    exact finish_of_eq s ((fwMap_live _ _ _ _ l s v hu hi hv).trans (mapHeard_none v _ _ _ _ hc))
  · rintro s epa id first map l v c d hu hi hv hc hd rfl
    have hno : ¬ (first.toNat == 0xFFFF && !v.fwCommitted c epa.val) = true := by
      refine Bool.eq_false_iff.mp (Bool.and_eq_false_iff.mpr (hd.imp (fun h => ?_) fun h => ?_))
      · exact beq_eq_false_iff_ne.mpr fun e => h (BitVec.eq_of_toNat_eq e)
      · rw [State.fwCommitted, h]
        rfl
    exact finish_of_eq s ((fwMap_live _ _ _ _ l s v hu hi hv).trans ((mapHeard_target v _ _ _ _ c hc).trans (if_neg hno)))
  · rintro s epa id first map l v c t n hu hi hv hc rfl hf rfl rfl
    have hyes : ((0xFFFF : BitVec 16).toNat == 0xFFFF && !v.fwCommitted c epa.val) = true := by
      rw [State.fwCommitted, hf]
      rfl
    exact finish_of_eq s ((fwMap_live _ _ _ _ l s v hu hi hv).trans ((mapHeard_target v _ _ _ _ c hc).trans (if_pos hyes)))
  · intro s epa id result fw l v hu hi hv hc
    exact finish_of_eq s ((fwResult_live _ _ _ _ l s v hu hi hv).trans (resultHeard_none v _ _ _ _ hc))
  · rintro s epa id result fw l v c t hu hi hv hc ht rfl
    exact finish_of_eq s ((fwResult_live _ _ _ _ l s v hu hi hv).trans (resultHeard_target v t _ _ 0 _ c hc ht))
  · intro s epa id result fw l v c t hu hi hv hc ht hr
    have hne : ¬ result.toNat = 0 := fun e => hr (BitVec.eq_of_toNat_eq e)
    refine finish_of_eq s ((fwResult_live _ _ _ _ l s v hu hi hv).trans ?_)
    rw [resultHeard_target v t _ _ _ _ c hc ht, if_neg hne]

end Sys2Proof.Machine
end

section
/-! The use of each lease frame by the module's role, and the mirror taken by a standby (R446, R447, R450, R455, R456, R458). -/

namespace Sys2Proof.Machine

/-! ### RENEW (R446, R458) -/

/-- A standby that is granted a RENEW: its deadline runs anew, and the GRANT goes out. -/
def State.grantRenew (y : State) (n : Nat) : State :=
  (y.withPair fun p => { p with seqIn := some n, deadline := y.clk + leaseL + leaseG }).sendLease 4 n

theorem joinPair_standby (y : State) (h : y.role = 3) : y.joinPair = y := if_neg (by rw [h]; decide)

theorem joinPair_electing (y : State) (h : y.role = 1) :
    y.joinPair = (if y.own then y.put PAIR_STAT.OWN 0 else y).becomeStandby := if_pos h

theorem takeRenew_fresh (y : State) (n : Nat) (h : y.role = 3) (hf : y.freshSeq n = true) : y.takeRenew n = y.grantRenew n :=
  if_pos (by rw [h, hf]; decide)

theorem takeRenew_old (y : State) (n : Nat) (hf : y.freshSeq n = false) : y.takeRenew n = y := if_neg (by simp [hf])

/-! ### GRANT (R446, R450, R456) -/

/-- GRANT of a RENEW outstanding extends the lease, and lets a HANDOVER that waited for it go ahead. -/
theorem takeGrant_outstanding (y : State) (x : MzRx) (r : Nat × Nat × Bool) (h : y.role = 2)
    (hr : y.pair.sentSeqs.find? (fun r => r.1 == leaseSeq x) = some r) :
    y.takeGrant x =
      if y.pair.handover = some (some (leAt x.payload 16 4)) then (y.granted r).abdicate 1 else y.granted r := by
  unfold State.takeGrant
  rw [if_neg (by rw [h]; decide), hr]
  rfl

/-! ### RELEASE and CLAIM (R447, R455, R458) -/

/-- What RELEASE means to the module. -/
def State.takeRelease (y : State) : State :=
  if y.role ≠ 3 then y
  else if y.freeToClaim && y.mayTake then y.startClaim
  else y.withPair fun p => { p with deadline := y.clk }

theorem releaseFrame_eq (l : Nat) (x : MzRx) (s : State) : releaseFrame l x s = leaseRecv l 5 x State.takeRelease s := rfl

theorem takeRelease_claims (y : State) (h : y.role = 3) (hf : y.freeToClaim = true) (hm : y.mayTake = true) :
    y.takeRelease = y.startClaim :=
  (if_neg (not_not_intro h)).trans (if_pos (by rw [hf, hm]; rfl))

/-- A standby that may not claim yet does so as soon as it may: its deadline is now. -/
theorem takeRelease_waits (y : State) (h : y.role = 3) (hn : y.freeToClaim = false ∨ y.mayTake = false) :
    y.takeRelease = y.withPair fun p => { p with deadline := y.clk } :=
  (if_neg (not_not_intro h)).trans (if_neg (Bool.eq_false_iff.mp (Bool.and_eq_false_iff.mpr hn)))

/-- CLAIM puts an election off. -/
def State.putOffElection (y : State) : State := y.withPair fun p => { p with electAt := y.clk }

/-- The module's own claim is given up. -/
def State.giveUpClaim (z : State) : State := (z.put PAIR_STAT.OWN 0).withPair fun p => { p with claimAt := none }

/-- What CLAIM means to the module: side B gives its own claim up. -/
def State.takeClaim (y : State) : State :=
  if y.putOffElection.pair.claimAt.isSome && y.putOffElection.bit PAIR_CFG.SIDE then y.putOffElection.giveUpClaim
  else y.putOffElection

theorem claimFrame_eq (l : Nat) (x : MzRx) (s : State) : claimFrame l x s = leaseRecv l 6 x State.takeClaim s := rfl

theorem takeClaim_sideB (y : State) (hc : y.putOffElection.pair.claimAt.isSome = true)
    (hs : y.putOffElection.bit PAIR_CFG.SIDE = true) : y.takeClaim = y.putOffElection.giveUpClaim :=
  if_pos (by rw [hc, hs]; rfl)

theorem takeClaim_else (y : State) (h : y.putOffElection.pair.claimAt = none ∨ y.putOffElection.bit PAIR_CFG.SIDE = false) :
    y.takeClaim = y.putOffElection :=
  if_neg (Bool.eq_false_iff.mp (Bool.and_eq_false_iff.mpr (h.imp_left fun hn => by rw [hn]; rfl)))

/-! ### The mirror (R450) -/

/-- A mirror frame on the pair link is taken by a standby whose configuration matches. -/
theorem mirrorFrame_taken (l : Nat) (x : MzRx) (s w : State) (h : s.MzForMe l x) (hw : w = s.mzHeard l mzData x)
    (he : w.pairEn = true) (hl : l = w.pairLink) (ha : x.adj = true) (hm : x.payload.take 4 = [0x54, 0x4C, 0x4D, 0x52])
    (hs : w.standby = true) (hc : w.bit PAIR_STAT.CFG_MISMATCH = false) : mirrorFrame l x s = w.takeMirror x.payload := by
  subst hw
  exact (mzRecv_forMe l mzData x _ s h).trans (if_pos (by rw [he, ha, hm, hs, hc, ← hl, beq_self_eq_true]; rfl))

/-- Settles O46: a lease frame in rule has its use, by the role of the module that hears it. -/
theorem leaseFramesComplete : Obligations.LeaseFramesComplete := by
  unfold Obligations.LeaseFramesComplete
  refine ⟨?_, ?_, ?_, ?_, ?_, ?_, ?_, ?_, ?_, ?_⟩
  · rintro s l x v w y h0 h1 h2 h3 h4 h5 h6 rfl hr hf
    refine finish_of_eq s (congrArg State.pairFollow ((leaseRecv_taken l.val 3 x _ s v w h0 h1 h2 h3 h4 h5 h6).trans ?_))
    rw [joinPair_standby _ hr, takeRenew_fresh _ _ hr hf]
    rfl
  · rintro s l x v w y h0 h1 h2 h3 h4 h5 h6 rfl hr hf
    refine finish_of_eq s (congrArg State.pairFollow ((leaseRecv_taken l.val 3 x _ s v w h0 h1 h2 h3 h4 h5 h6).trans ?_))
    rw [joinPair_standby _ hr, takeRenew_old _ _ hf]
  · rintro s l x v w y z h0 h1 h2 h3 h4 h5 h6 rfl hr rfl
    refine finish_of_eq s (congrArg State.pairFollow ((leaseRecv_taken l.val 3 x _ s v w h0 h1 h2 h3 h4 h5 h6).trans ?_))
    rw [joinPair_electing _ hr]
  · rintro s l x v w y r h0 h1 h2 h3 h4 h5 h6 rfl hr hq hh
    exact finish_of_eq s (congrArg State.pairFollow ((leaseRecv_taken l.val 4 x _ s v w h0 h1 h2 h3 h4 h5 h6).trans
      ((takeGrant_outstanding _ x r hr hq).trans (if_neg hh))))
  · rintro s l x v w y r h0 h1 h2 h3 h4 h5 h6 rfl hr hq hh
    exact finish_of_eq s (congrArg State.pairFollow ((leaseRecv_taken l.val 4 x _ s v w h0 h1 h2 h3 h4 h5 h6).trans
      ((takeGrant_outstanding _ x r hr hq).trans (if_pos hh))))
  · rintro s l x v w y h0 h1 h2 h3 h4 h5 h6 rfl hr hf hm
    exact finish_of_eq s (congrArg State.pairFollow ((releaseFrame_eq l.val x s).trans
      ((leaseRecv_taken l.val 5 x _ s v w h0 h1 h2 h3 h4 h5 h6).trans (takeRelease_claims _ hr hf hm))))
  · rintro s l x v w y h0 h1 h2 h3 h4 h5 h6 rfl hr hn
    exact finish_of_eq s (congrArg State.pairFollow ((releaseFrame_eq l.val x s).trans
      ((leaseRecv_taken l.val 5 x _ s v w h0 h1 h2 h3 h4 h5 h6).trans (takeRelease_waits _ hr hn))))
  · rintro s l x v w y z h0 h1 h2 h3 h4 h5 h6 rfl rfl hc hs
    exact finish_of_eq s ((claimFrame_eq l.val x s).trans
      ((leaseRecv_taken l.val 6 x _ s v w h0 h1 h2 h3 h4 h5 h6).trans (takeClaim_sideB _ hc hs)))
  · rintro s l x v w y z h0 h1 h2 h3 h4 h5 h6 rfl rfl hn
    exact finish_of_eq s ((claimFrame_eq l.val x s).trans
      ((leaseRecv_taken l.val 6 x _ s v w h0 h1 h2 h3 h4 h5 h6).trans (takeClaim_else _ hn)))
  · rintro s l x v w h0 h1 h2 rfl h4 hw he hl ha hm hs hc
    exact finish_of_eq s (mirrorFrame_taken l.val x s w ⟨h0, h1, h2, h4⟩ hw he hl ha hm hs hc)

end Sys2Proof.Machine
end

section
/-! The lease's timers, the partner's pad, and the pair's commands (R446, R447, R452, R455 to R458). -/

namespace Sys2Proof.Machine

/-! ### The lease (R446) -/

/-- The number of the next RENEW. -/
def State.nextRenew (s : State) : Nat := (s.pair.seqOut + 1) % 65536

/-- The next RENEW is noted as sent, and the one after it is due an interval later. -/
def State.noteRenew (s : State) : State :=
  s.withPair fun p => { p with seqOut := s.nextRenew, renewAt := s.clk + renewInterval
                               sentSeqs := p.sentSeqs ++ [(s.nextRenew, s.clk, false)] }

theorem leaseRenew_due (s : State) (he : s.pairEn = true) (hu : s.up .pair = true) (hr : s.role = 2)
    (ht : s.pair.renewAt ≤ s.clk) : leaseRenew s = s.noteRenew.sendLease 3 s.nextRenew :=
  if_pos (by rw [he, hu, hr, decide_eq_true ht]; rfl)

/-- PAIR_OWN of a module that only claims goes high, and its claim is over. -/
def State.stopClaim (s : State) : State := (s.put PAIR_STAT.OWN 0).withPair fun p => { p with expiry := none, claimAt := none }

/-- When the lease runs out on a module that owns, the active lets go, and a module that claims stops. -/
theorem leaseExpiry_due (s : State) (t : Nat) (hx : s.pair.expiry = some t) (he : s.pairEn = true) (hu : s.up .pair = true)
    (ho : s.own = true) (ht : t ≤ s.clk) : leaseExpiry s = if s.role = 2 then s.letGo stTimeout else s.stopClaim := by
  unfold leaseExpiry
  rw [hx]
  exact if_neg (by simp [he, hu, ho, ht])

/-! ### Claims (R447, R454, R455, R457, R458) -/

/-- A standby whose deadline has passed claims, where its conditions as now published let it. -/
theorem leaseDeadline_due (s v : State) (he : s.pairEn = true) (hr : s.role = 3) (hv : v = s.pubPair)
    (hf : v.freeToClaim = true) (hr' : v.role = 3) (ht : v.pair.deadline ≤ v.clk) (hb : v.bit PAIR_STAT.ELIGIBLE = true)
    (hm : v.mayTake = true) : leaseDeadline s = v.startClaim := by
  subst hv
  have hpub : (s.pairEn && s.role == 3) = true := by rw [he, hr]; rfl
  unfold leaseDeadline
  rw [if_pos hpub]
  exact if_pos (by rw [hf, hr', decide_eq_true ht, hb, hm]; rfl)

theorem claimConfirm_due (s : State) (t : Nat) (hc : s.pair.claimAt = some t) (he : s.pairEn = true) (ho : s.own = true)
    (hp : s.peerOwn = false) (ht : t + msec ≤ s.clk) : claimConfirm s = s.becomeActive := by
  unfold claimConfirm
  rw [hc]
  exact if_pos (by rw [he, ho, hp, decide_eq_true ht]; rfl)

theorem electionTimeout_due (s : State) (hf : s.freeToClaim = true) (hr : s.role = 1)
    (ht : s.pair.electAt + leaseL + leaseG ≤ s.clk) : electionTimeout s = s.startClaim :=
  if_pos (by rw [hf, hr, decide_eq_true ht]; rfl)

theorem releasedReclaim_due (s : State) (hf : s.freeToClaim = true) (hr : s.role = 4)
    (ht : s.pair.releasedAt + leaseL + leaseG ≤ s.clk) : releasedReclaim s = s.startClaim :=
  if_pos (by rw [hf, hr, decide_eq_true ht]; rfl)

/-! ### The partner's pad (R447, R452, R457, R458) -/

theorem peerOwnChange_unpaired (low : Bool) (s v : State) (hu : s.up .pair = true) (hv : v = s.putB PAIR_STAT.PEER_OWN low)
    (he : v.pairEn = false) : peerOwnChange low s = v := by
  subst hv
  exact (if_neg (by simp [hu])).trans (if_pos (by rw [he]; rfl))

/-- The partner owns: side B gives way, and a module that elects or has released becomes the standby. -/
theorem peerOwnChange_low (s v : State) (hu : s.up .pair = true) (hv : v = s.putB PAIR_STAT.PEER_OWN true)
    (he : v.pairEn = true) :
    peerOwnChange true s =
      if (v.peerDrives.role = 1 ∨ v.peerDrives.role = 4) ∧ v.peerDrives.pair.claimAt.isNone then
        (v.peerDrives.put PAIR_STAT.OWN 0).becomeStandby
      else v.peerDrives := by
  subst hv
  exact (if_neg (by simp [hu])).trans ((if_neg (by rw [he]; decide)).trans (if_pos rfl))

/-- The partner no longer owns: a claim that stands counts its 1 ms from now. -/
theorem peerOwnChange_high (s v : State) (hu : s.up .pair = true) (hv : v = s.putB PAIR_STAT.PEER_OWN false)
    (he : v.pairEn = true) :
    peerOwnChange false s =
      if v.pair.claimAt.isSome then v.withPair fun p => { p with claimAt := some v.clk } else v := by
  subst hv
  exact (if_neg (by simp [hu])).trans ((if_neg (by rw [he]; decide)).trans (if_neg Bool.false_ne_true))

/-! ### The pair's commands (R456) -/

theorem pairHandoverBody_active (a : State) (hr : a.role = 2) (hp : a.peerReady = true) :
    pairHandoverBody a = (stPending, a.withPair fun p => { p with handover := some none }) := if_pos ⟨hr, hp⟩

theorem pairAbdicate_active (src : Src) (s a : State) (h : s.ready .pair) (ha : (s.taken .pair 2).authorise src = some a)
    (hr : a.role = 2) : pairAbdicate src s = (a.abdicate 2).ended .pair 2 stDone :=
  runCmd_of_body .pair 2 stDone _ s _ rfl h ((privileged_some src _ _ a ha).trans (if_pos hr))

theorem pairResync_standby (s t : State) (h : s.ready .pair) (ht : t = s.taken .pair 3) (hr : t.role = 3) :
    pairResync s = (t.withPair fun p => { p with wantResync := true }).ended .pair 3 stDone := by
  subst ht
  exact runCmd_of_body .pair 3 stDone _ s _ rfl h (if_pos hr)

/-- Settles O47: each timer when it is due, the pad by its level and the module's role, and the commands by their bodies. -/
theorem leaseEventsComplete : Obligations.LeaseEventsComplete := by
  unfold Obligations.LeaseEventsComplete
  refine ⟨?_, ?_, ?_, ?_, ?_, ?_, ?_, ?_, ?_, ?_, ?_, ?_, ?_, ?_, ?_, ?_⟩
  · rintro s n v he hu hr ht rfl rfl
    exact finish_of_eq s (leaseRenew_due s he hu hr ht)
  · rintro s d rfl
    exact finish_of_eq s rfl
  · intro s t hx he hu ho ht hr
    exact finish_of_eq s ((leaseExpiry_due s t hx he hu ho ht).trans (if_pos hr))
  · intro s t hx he hu ho ht hr
    exact finish_of_eq s ((leaseExpiry_due s t hx he hu ho ht).trans (if_neg hr))
  · intro s v he hr hv hf hr' ht hb hm
    exact finish_of_eq s (leaseDeadline_due s v he hr hv hf hr' ht hb hm)
  · intro s t hc he ho hp ht
    exact finish_of_eq s (claimConfirm_due s t hc he ho hp ht)
  · intro s hf hr ht
    exact finish_of_eq s (electionTimeout_due s hf hr ht)
  · intro s hf hr ht
    exact finish_of_eq s (releasedReclaim_due s hf hr ht)
  · intro s low v hu hv he
    exact finish_of_eq s (peerOwnChange_unpaired low s v hu hv he)
  · rintro s v w hu hv he rfl hr hc
    exact finish_of_eq s ((peerOwnChange_low s v hu hv he).trans (if_pos ⟨hr, Option.isNone_iff_eq_none.mpr hc⟩))
  · rintro s v w hu hv he rfl hn
    refine finish_of_eq s ((peerOwnChange_low s v hu hv he).trans (if_neg fun h => ?_))
    obtain ⟨hr, hc⟩ := h
    rcases hn with ⟨h1, h4⟩ | hs
    · exact hr.elim h1 h4
    · exact absurd hc (by rw [Option.isNone_eq_false_iff.mpr hs]; decide)
  · intro s v hu hv he hc
    exact finish_of_eq s ((peerOwnChange_high s v hu hv he).trans (if_pos hc))
  · intro s v hu hv he hc
    exact finish_of_eq s ((peerOwnChange_high s v hu hv he).trans (if_neg (by rw [hc]; decide)))
  · intro s src a h ha hr hp
    exact finish_of_eq s (runCmd_of_body .pair 1 stPending _ s _ rfl h
      ((privileged_some src _ _ a ha).trans (pairHandoverBody_active a hr hp)))
  · intro s src a h ha hr
    exact finish_of_eq s (pairAbdicate_active src s a h ha hr)
  · intro s t h ht hr
    exact finish_of_eq s (pairResync_standby s t h ht hr)

end Sys2Proof.Machine
end
